-- ==== Sys2Proof/Word.lean ====
section
/-! DEFINITION. Sys2Proof/Word.lean: the word types of the register space and of memory (00_scope.md, Notation). -/

namespace Sys2Proof

/-- A register is 32 bits wide. -/
abbrev Word := BitVec 32

/-- A byte of a frame, of a payload or of memory. -/
abbrev Byte := BitVec 8

/-- Q0 top-left, Q1 top-right, Q2 bottom-left, Q3 bottom-right (R6). -/
abbrev Quad := Fin 4

/-- A link port. -/
abbrev Port := Fin 4

/-- A lane of a port. -/
abbrev Lane := Fin 4

/-- A colour: 0 red, 1 green, 2 blue. -/
abbrev Colour := Fin 3

end Sys2Proof
end

