-- ==== Sys2Proof/Syntax.lean ====
section
/-! DEFINITION. Sys2Proof/Syntax.lean: the commands of the block, one constructor for each of the 203 rows of
spec/opcode_table.json, with the row's inputs as operands (95_what_each_step_holds.md). The table gives no row any bits. -/

namespace Sys2Proof
/-- A read-back of a source output (R141): the raw code of an ADC's conversion at the end of phase A (0) or B (1). -/
structure SourceRead where
  phase : Fin 2
  adc : Fin 48
  raw : BitVec 12
  deriving DecidableEq, Repr, Inhabited

/-- A pad check (R142): the signal by its code of SCN_RB_STAT.SIGNAL, 0 to 7, whether the check stands at the middle of a pulse or
of a gap, the slot position of the blanking line in which it stands, if it stands in one, and the level found. -/
structure PadRead where
  signal : Fin 8
  pulse : Bool
  slot : Option (Fin 2)
  high : Bool
  deriving DecidableEq, Repr, Inhabited

/-- A measurement of RAMP_A (0) or RAMP_B (1) at step 0 or 512 of sweep `sweep`, in 0.1 mV (R142). -/
structure RampRead where
  half : Fin 2
  sweep : Nat
  late : Bool
  tenths : Nat
  deriving DecidableEq, Repr, Inhabited

/-- What a quadrant finds in the interval of a scan line: ladder reads with a single and with a double bit error (R121),
source outputs and ramps read back, pad checks (R141, R142), whether the cap returned at a latch has been lost
(R368), and, in the first blanking line, the raw code of each ADC's conversion of the reference tap T3 (R169); one that is not listed is
as expected.
`governor` tells whether the governor runs, to set a late ceiling at line 0 (R181, R182). -/
structure LineInput where
  corr : Nat := 0
  uncorr : Nat := 0
  sources : List SourceRead := []
  ramps : List RampRead := []
  signals : List PadRead := []
  capLost : Bool := false
  taps : List (Fin 48 × BitVec 12) := []
  governor : Bool := true
  deriving DecidableEq, Repr, Inhabited

/-- The level a supply has reached, in mV: line 0 VIN_AON, 1 VIN_CORE, 2 VIN_SER, 3 VIN_IO, 4 VIN_SRC, 5 VIN_SAFE (R439, R475). -/
structure SupplyLevel where
  line : Fin 6
  mV : Nat
  deriving DecidableEq, Repr, Inhabited

/-- What happens at the instant `t`. -/
structure At (α : Type) where
  t : Nat
  it : α
  deriving DecidableEq, Repr, Inhabited

/-- A cycle of the always-on clock at the instant `t` and the wake sources that fire in it, bit n for WAKE_n (R321). -/
structure AonCycle where
  t : Nat
  firing : Fin 8 := 0
  deriving DecidableEq, Repr, Inhabited

/-- What the mode register 4 of a rank answers (R199): the refresh rate called for, and whether the die asks for refresh management. -/
structure Mr4 where
  rate : Fin 32
  rfm : Bool := false
  deriving DecidableEq, Repr, Inhabited

/-- The symbols that arrive on lane `lane`. -/
structure LaneSymbols where
  lane : Lane
  symbols : List (BitVec 10)
  deriving DecidableEq, Repr, Inhabited

/-- A hard-limit comparator and the temperature its sensor has stayed at or above throughout its filter, in 0.1 °C (R345). -/
structure TripLevel where
  sensor : Fin 24
  tenths : Int
  deriving DecidableEq, Repr, Inhabited

/-- The samples of the pulsed channel's input, one every 50 µs: during a supply pulse and after it (R359). -/
structure PulseSamples where
  during : List Bool
  after : List Bool
  deriving DecidableEq, Repr, Inhabited

/-- The levels of a pulsed output in mV: the lowest in the pulse and that 100 µs after it (R361). -/
structure PulseLevels where
  low : Nat
  high : Nat
  deriving DecidableEq, Repr, Inhabited

/-- What the self-test of R404 finds: the scan engine right, and the write-fed channels in error. -/
structure SelfTest where
  scanOk : Bool
  channels : Fin 256
  deriving DecidableEq, Repr, Inhabited

/-- Whose register access got no answer (R287): a command's, or the service port's, whose address and value the request then holds as
ARG and payload. -/
inductive RegOp where
  | read | write | modify | overlay | svcRead | svcWrite | pattern | eye
  deriving DecidableEq, Repr, Inhabited


/-- A request packet of R276 with the frame fields R253 compares: the port it came in on, the COMMAND frame's TYPE and
ROUTE_ID, the header fields beside OPCODE, the payload bytes and the transmitted CRC. -/
structure Request where
  port : Port
  frameType : Byte
  routeId : BitVec 24
  flags : Byte
  dest : BitVec 24
  src : BitVec 24
  tag : BitVec 16
  len : BitVec 16
  arg : Word
  payload : List Byte
  crc : Word
  deriving DecidableEq, Repr, Inhabited

/-- Who asks for a DRAM access (R194, R206): the scan-out head for the frame and overlay words or for the compensation words
of line `line` of quadrant `quad` (`last`: the line's final burst), the frame writes and the fill, the stress updates, firmware
and cores, and the MAINT requesters: the scrub pass and the other maintenance traffic. -/
inductive DramPort where
  | scan (quad : Quad) (line : Nat) (last : Bool)
  | comp (quad : Quad) (line : Nat) (last : Bool)
  | capture
  | stress
  | core
  | scrub
  | maint
  deriving DecidableEq, Repr, Inhabited

/-- A request to the memory controller (R194): one 64-byte burst, read or written. -/
structure MemReq where
  port : DramPort
  addr : Nat
  write : Bool := false
  deriving DecidableEq, Repr, Inhabited

/-- How a read came back (R206). -/
inductive ReadResult where
  | good
  | corrected
  | failed
  deriving DecidableEq, Repr, Inhabited

/-- One symbol on each logical lane of a port, sent together (R238): K28.5 on every lane, or a data byte on each in ascending order. -/
inductive Column where
  | comma
  | data (b : List Byte)
  deriving DecidableEq, Repr, Inhabited

/-- The bursts of an access, counted from its first, whose reads did not come back good, in rising order; a failed one has failed in
its retry too. -/
abbrev BurstReads := List (Nat × ReadResult)

/-- A training or idle set of R220 without its comma and fill symbols; TYPE 0xB1 TS1, 0xB2 TS2, 0xB3 TS3, 0xB4 IDLE. -/
structure TSet where
  ty : Byte
  lane : Byte
  rate : Byte
  preset : Byte
  ready : Byte
  width : Byte
  txUsed : Byte
  devId : BitVec 24
  role : Byte
  version : Byte
  deriving DecidableEq, Repr, Inhabited

/-- A TIME frame of R245 as it arrives, with its received check value. -/
structure TimeFrame where
  flags : Byte
  streamId : BitVec 16
  seq : BitVec 16
  hops : BitVec 24
  freed : Byte
  rootTime : BitVec 64
  corr : BitVec 64
  tTx : BitVec 64
  echoTx : BitVec 64
  echoRx : BitVec 64
  senderId : BitVec 24
  crc : Word
  deriving DecidableEq, Repr, Inhabited

/-- How a restart edge comes (R364): the fall of SAFE_RST after it has been on for `held` ticks, or from the black channel. -/
inductive RestartEvent where
  | press (held : Nat)
  | channel
  deriving DecidableEq, Repr, Inhabited

/-- What a tuning run measures of one sense ADC: the sums of the 64 raw codes of taps T1, T3 and T5 (R410). -/
structure AdcMeasure where
  adc : Nat
  t1 : Nat
  t3 : Nat
  t5 : Nat
  deriving DecidableEq, Repr, Inhabited

/-- What a tuning run measures of one source output: the sums of the 16 raw codes its ADC reads at the codes 25,206 and 236,937
(R410). -/
structure OutMeasure where
  out : Nat
  low : Nat
  high : Nat
  deriving DecidableEq, Repr, Inhabited

/-- What a tuning run measures of one ramp output: the sums of the 32 ramp codes at which the ramp crossed, for the eight
levels in rising order (R410). -/
structure RampMeasure where
  ramp : Nat
  sums : List Nat
  deriving DecidableEq, Repr, Inhabited

/-- The measurements of a run: ADCs q × 48 + g, outputs q × 1,536 + o, ramps q × 2 + h, and for each source die, Q0 first, the readings of
T5 behind the matched 2:1 divider and of T4 (R406). A converter that is not listed was not measured, and keeps its correction. -/
structure Measured where
  adcs : List AdcMeasure
  outs : List OutMeasure
  ramps : List RampMeasure
  doublers : List (Nat × Nat)
  deriving DecidableEq, Repr, Inhabited
/-- How the work of a start turns out (R201, R205, R355, R404, R407, R415, R435, R447): the migration of a cold image in trial; DRAM
trained, and wiped, with whether the wipe ran twice and its duration in ms; every SRAM wiped; the scan engine's self-test, and the write-fed channels that fail theirs; the safety image
is loaded; a loss of power cuts the rotation of the boot record short (R424, R437), or has cut short the last writing of the life-cycle record (R452);
REF_IN in 0.1 mV, and whether the bandgaps agree with it; the measurements of the start tuning run; the four
panel records as read. -/
structure StartInput where
  migrated : Bool := true
  trained : Bool := true
  wiped : Bool := true
  wipeRetried : Bool := false
  wipeMs : Nat := 0
  sram : Bool := true
  scanEngine : Bool := true
  channels : Fin 256 := 0
  safetyImage : Bool := true
  bootCut : Bool := false
  lifeCut : Bool := false
  refTenths : Nat := 25000
  refAgree : Bool := true
  measured : Measured := ⟨[], [], [], List.replicate 4 (25000, 25000)⟩
  records : List (Option (List Byte)) := []
  deriving DecidableEq, Repr, Inhabited

/-- The registers of a write-fed channel that take data: a byte, a half-word or a word (R402). -/
inductive FeedSize where
  | byte | half | word
  deriving DecidableEq, Repr, Inhabited


/-- What a sensor's converter delivers: a temperature in 0.1 °C, or for a glass thermistor the pin voltage in µV (R335). -/
inductive Conversion where
  | tenths (v : Int)
  | volts (uV : Nat)
  deriving DecidableEq, Repr, Inhabited

/-- The commands. An operand `t` is the instant, in ticks of 1/256 ns since power-on, at which the event occurs. -/
inductive Instr where
  /-- BRIDGE_FLIT_RECEIVE (R17). The receiving end of a quadrant bridge takes a 128-bit flit and checks its code and sequence number. -/
  | bridgeFlitReceive (q : Quad) (toDie : Bool) (seq : Nat) (bits : BitVec 128) (code : BitVec 8)
  /-- SEGMENT_CAPTURE (R38). A SEGMENT on the capture stream is judged by the five tests and, if accepted, linearised, matrixed and written to the frame buffer with coverage bits. -/
  | segmentCapture (p : Port) (b : List Byte) (room : Nat)
  /-- FRAME_START_RECEIVE (R53). A FRAME_START on the capture stream is accepted into a FREE buffer that enters FILLING, or rejected, and capture-side commits apply. -/
  | frameStartReceive (t : Nat) (p : Port) (b : List Byte)
  /-- OUTSIDE_WRITES_DONE (R43). The writes of window pixels outside the canvas complete, letting a closing frame reach READY. -/
  | outsideWritesDone (k : Fin 4) (t : Nat)
  /-- FRAME_END_RECEIVE (R51). The frame-end marker of the filling frame moves its buffer from FILLING to CLOSING. -/
  | frameEndReceive (p : Port) (b : List Byte)
  /-- CLOSING_DEADLINE (R52). The closing deadline of a filling frame expires and its buffer enters CLOSING. -/
  | closingDeadline (t : Nat)
  /-- FRAME_FILL_DONE (R57). The fill of uncovered pixels completes and the closing frame becomes READY, lost or late. -/
  | frameFillDone (k : Fin 4) (t : Nat)
  /-- DECISION_INSTANT (R54). At the decision instant the device chooses the READY frame to show, holds the showing frame, or shows the fallback image. -/
  | decisionInstant (t : Nat)
  /-- SCAN_FRAME_START (R140). A scan-out frame starts at its scheduled time or a READY frame's PT, applying commits and per-frame updates. -/
  | scanFrameStart (t : Nat) (samples : List (List Nat)) (saturated : Fin 16)
  /-- LIN_BUILD (R45). PIX_LIN_CMD.BUILD fills the inactive linearisation bank with a built-in transfer function. -/
  | linBuild
  /-- LIN_LOAD (R46). PIX_LIN_CMD.LOAD copies a user table set from DRAM into the inactive bank after its check. -/
  | linLoad
  /-- LIN_OP_DONE (R47). A BUILD or LOAD completes, validating the bank and setting DONE or ERR. -/
  | linOpDone
  /-- OVERLAY_SAVE (R68). PIX_OVL_SAVE.SAVE queues a flash write of the DRAM overlay store. -/
  | overlaySave
  /-- OVERLAY_RESTORE (R68). PIX_OVL_SAVE.RESTORE queues a copy of the flash overlay store into DRAM. -/
  | overlayRestore
  /-- OVERLAY_SAVE_DONE (R68). The overlay store has been written to flash and BUSY clears. -/
  | overlaySaveDone
  /-- OVERLAY_RESTORE_DONE (R68). The overlay store has been copied into DRAM and BUSY clears. -/
  | overlayRestoreDone
  /-- TABLE_ACTIVATE (R79). TABLE_ACTIVATE starts the check of a table file in DRAM and is answered once the check completes. -/
  | tableActivate (r : Request)
  /-- CMP_TBL_ACTIVATE (R79). Writing CMP_TBL_CMD.ACTIVATE starts an activation of the file at CMP_TBL_SRC with no reply. -/
  | cmpTblActivate
  /-- TABLE_REVERT (R85). CMP_TBL_CMD.REVERT builds from the non-current flash copy and slides to it. -/
  | tableRevert
  /-- TABLE_CHECK_DONE (R80). The table file check completes and the engine goes to BUILD or back to IDLE. -/
  | tableCheckDone
  /-- TABLE_BUILD_DONE (R80). The inactive copy is written and the slide is scheduled for the applying frame. -/
  | tableBuildDone
  /-- TABLE_FLASH_SAVED (R83). The new base table is saved in the non-current flash copy, which becomes current, and SAVED is set. -/
  | tableFlashSaved
  /-- AGE_FACTOR_TICK (R90). Every 60 s of ACTIVE or DARK the firmware computes r_ref and new target ageing factors. -/
  | ageFactorTick (t : Nat)
  /-- STRESS_WRITEBACK_DUE (R93). After 4 h of unsaved time a stress write-back falls due as a FLASH job. -/
  | stressWritebackDue (t : Nat)
  /-- FORCE_SAVE (R93). Writing CMP_STRESS_STAT.FORCE_SAVE makes a stress write-back due at once. -/
  | forceSave
  /-- STRESS_WRITEBACK_DONE (R93). A stress write-back completes into the next stress region. -/
  | stressWritebackDone (ok : Bool)
  /-- DEFECT_EDIT (R98). DEFECT_EDIT applies a list of ADD, REMOVE and CLEAR_SRC operations to the defect table. -/
  | defectEdit (r : Request)
  /-- DEFECT_EDIT_COMPLETE (R99). An edit or automatic entry is complete in DRAM and source-die SRAM and takes effect at its applying frame. -/
  | defectEditComplete
  /-- LADDER_BUILD_DONE (R119). New ladders, knee-code tables and voltage maps are written into the inactive bank. -/
  | ladderBuildDone
  /-- LADDER_REWRITE_DONE (R121). The firmware has rewritten a ladder word or both banks after an ECC error. -/
  | ladderRewriteDone (q : Quad)
  /-- SCAN_LINE_START (R128). The interval of a scan line opens and the quadrant writes a row, or offers blanking slot positions. -/
  | scanLineStart (t : Nat) (q : Quad) (line : Fin 768) (inp : LineInput)
  /-- EE_READ (R494). Writing SCN_I2C.EE_READ reads all four panel EEPROM records again. -/
  | eeRead
  /-- EEPROM_READ_DONE (R494). An EEPROM read completes, setting each quadrant's validity and glass identity and switching LED rails. -/
  | eepromReadDone (recs : List (Option (List Byte)))
  /-- SENSE_SLOT (R146). In a slot position the quadrant measures one unit at the test current or zero current; the raw conversions of its ADCs. -/
  | senseSlot (t : Nat) (q : Quad) (raw1 : List (BitVec 12)) (raw2 : List (BitVec 12))
  /-- SENSE_RESULT (R157). A slot result reaches the result array and each reading is classified. -/
  | senseResult (t : Nat)
  /-- SWEEP_DEADLINE (R153). A regular sweep not complete within 60 s of running time raises fault 0x61. -/
  | sweepDeadline (q : Quad)
  /-- ISNS_COMPARE_DONE (R163). The supply-current comparison of a frame completes and may trigger with fault 0x62. -/
  | isnsCompareDone (q : Quad) (nV : Nat) (saturated : Bool)
  /-- SENSE_REQUEST (R167). SENSE_REQUEST queues a rectangle, quadrant or baseline measurement and returns its sequence number. -/
  | senseRequest (r : Request)
  /-- GOV_EVALUATION_DONE (R178). The governor writes each quadrant's ceiling and decides the jobs for the frame. -/
  | govEvaluationDone (t : Nat)
  /-- GOV_STALL (R182). No ceiling for four consecutive frames sets STALLED and raises fault 0x71. -/
  | govStall
  /-- JOB_FORCE_TIMEOUT (R183). A job's forcing time expires and it runs whatever its admission. -/
  | jobForceTimeout (t : Nat) (j : Fin 6)
  /-- JOB_PAUSE_POINT (R184). A paused job reaches its pause point and stops drawing its power. -/
  | jobPausePoint (j : Fin 6)
  /-- SCRUB_PASS_DONE (R183). A SCRUB read pass over the DRAM completes. -/
  | scrubPassDone (t : Nat)
  /-- DRAM_REFRESH_DUE (R199). A per-bank refresh falls due at the rate MR4 requires, taking precedence at its postponement limit. -/
  | dramRefreshDue (bank : Fin 32) (busy : Bool)
  /-- MR4_POLL (R199). Every 16 ms the controller reads MR4 of both ranks; `rfm` tells which ranks ask for refresh management. -/
  | mr4Poll (rank0 : Mr4) (rank1 : Mr4)
  /-- NEIGHBOUR_REFRESH_RUN (R200). A queued neighbour refresh runs when its bank is idle. -/
  | neighbourRefreshRun (bank : Fin 32)
  /-- RETRAIN_DUE (R202). A temperature change or interval makes DRAM retraining due and requests the RETRAIN job. -/
  | retrainDue (t : Nat)
  /-- FMC_TRAIN_REQ (R202). Writing FMC_TRAIN.REQ makes retraining due now. -/
  | fmcTrainReq
  /-- RETRAIN_STEP (R202). A retraining step is issued while no quadrant is urgent and buffers are above watermark. -/
  | retrainStep
  /-- RETRAIN_DONE (R203). A retraining completes and its values are kept or rejected with fault 0x7A. -/
  | retrainDone (t : Nat) (ok : Bool)
  /-- WCK_OSC_READ (R202). Every 100 ms the controller reads the WCK2DQ interval oscillators. -/
  | wckOscRead (osc0 : Fin 65536) (osc1 : Fin 65536)
  /-- DRAM_READ_RETURN (R206). A DRAM read returns and a corrected or uncorrectable error is handled by requester. `arrive` lists the requests that have reached the memory island since the last return, in their order; which read returns is the arbiter's choice (R196, R197). `first` is how it came back, and `again` how its retry did, if it failed. -/
  | dramReadReturn (t : Nat) (arrive : List MemReq) (first : ReadResult) (again : ReadResult)
  /-- CORR_RATE_CHECK (R206). Each second the corrected-read rate is compared with 16 and fault 0x78 raised above it. -/
  | corrRateCheck
  /-- FMC_ORDER_WRITE (R193). Writing FMC_ORDER.NEXT queues a FLASH job that stores the address order for the next start. -/
  | fmcOrderWrite (value : Word)
  /-- CONFIG_STORE_DONE (R193). A FLASH job storing values in the device configuration sector completes and sets STORED. -/
  | configStoreDone
  /-- DETECT_PULSE (R221). In DETECT a lane sends a detection pulse and the port enters TRAIN if the partner is found. -/
  | detectPulse (p : Port) (found : Fin 16)
  /-- TRAINING_SET_RECEIVE (R220). A TS1, TS2, TS3 or IDLE set received twice advances the port's bring-up state. `symbols` are the 16 symbols that arrive on lane k. -/
  | trainingSetReceive (t : Nat) (p : Port) (k : Lane) (symbols : List (BitVec 10)) (offset : Nat)
  /-- CTLE_STEP (R213). After 0.5 ms a receiver measures the eye at one peaking setting and moves to the next. -/
  | ctleStep (p : Port) (k : Lane) (height : Nat)
  /-- READY_STABLE (R221). The partner's READY stays unchanged for 0.5 ms and the port may enter LOCK. -/
  | readyStable (p : Port)
  /-- LANE_SYNC_TIMEOUT (R223). A receive lane not in sync 8 ms after the first lane is excluded. -/
  | laneSyncTimeout (p : Port) (k : Lane)
  /-- PORT_STAGE_TIMEOUT (R222). A TRAIN, LOCK or EXCHANGE timeout fails the attempt and returns the port to DETECT. -/
  | portStageTimeout (p : Port)
  /-- LANE_SYNC_LOST (R226). A receive lane in use loses sync and its ACTIVE port goes down. -/
  | laneSyncLost (p : Port) (heard : LaneSymbols)
  /-- LANE_IDLE_DETECT (R226). A receive lane in use falls to electrical idle without an IDLE set and the port goes down. -/
  | laneIdleDetect (p : Port) (k : Lane)
  /-- DESKEW_MISMATCH (R219). Comma positions disagreeing by more than one symbol in four cases take the port down with DESKEW. -/
  | deskewMismatch (p : Port)
  /-- LANE_ERROR_WINDOW (R226). At the end of each second a lane whose symbol errors exceed ERR_LIM raises fault 0x10 + 4n + k. -/
  | laneErrorWindow (t : Nat) (p : Port) (k : Lane) (symbols : List (BitVec 10))
  /-- PORT_RETRAIN (R221). Writing LNK_CFG.RETRAIN takes the port to DETECT without a fault. -/
  | portRetrain (p : Port)
  /-- TX_POWER_REQUEST (R229). Writing LNK_LP.TX_REQ_k requests a transmitter low-power state or is refused. -/
  | txPowerRequest (p : Port) (value : Word)
  /-- EYE_START (R230). Writing LNK_EYE_CFG_k.START queues an EYE job measurement for the lane. -/
  | eyeStart (p : Port) (k : Lane) (value : Word)
  /-- EYE_SCAN_DONE (R230). An eye measurement completes its bit count and BUSY clears. -/
  | eyeScanDone (p : Port) (k : Lane) (count : Nat)
  /-- PATTERN_MODE_WRITE (R231). Writing LNK_PAT_CFG.MODE starts or stops the pattern generator and checker or is refused. -/
  | patternModeWrite (p : Port) (value : Word)
  /-- INJECT_ONE (R232). Writing LNK_PAT_CFG.INJ_ONE inverts one bit on every generating lane. -/
  | injectOne (p : Port)
  /-- PATTERN_TEST (R292). PATTERN_TEST configures a pattern run on an OFF port for its duration. -/
  | patternTest (r : Request)
  /-- PATTERN_TEST_END (R292). The pattern test duration expires, MODE is written 0 and the error counts are returned. -/
  | patternTestEnd (port : At Port)
  /-- REFCLK_LOST (R216). REFCLK without edges or off frequency is declared lost and raises fault 0x2C. -/
  | refclkLost
  /-- REFCLK_RESTORED (R216). Training resumes 1 ms after REFCLK is good again. -/
  | refclkRestored
  /-- TXCLK_HOLDOVER_EXPIRY (R215). After 10 ms of holdover TXCLK starts moving toward the REFCLK frequency. -/
  | txclkHoldoverExpiry
  /-- TXCLK_LOCKED (R215). TXCLK completes its slew and locks to its new source. -/
  | txclkLocked (offset : Int)
  /-- FRAME_FORWARD (R249). A frame received on a port is passed column by column to the forwarding transmitters. `cols` are the columns received from its opening comma column on; they end where its source stops or idles. -/
  | frameForward (t : Nat) (p : Port) (cols : List Column)
  /-- CONVERTED_FRAME_SEND (R254). A frame stored for a converted-mode transmitter is sent once it is free. -/
  | convertedFrameSend (t : Nat) (p : Port)
  /-- UPSTREAM_FRAME_RECEIVE (R256). A REPLY or container inner frame enters the merge buffer of its port, or is dropped if full. -/
  | upstreamFrameReceive (p : Port) (b : List Byte)
  /-- MERGE_FRAME_SEND (R255). The up output starts an upstream frame by round robin when a credit is available. -/
  | mergeFrameSend
  /-- LOCAL_TIME_FRAME_SEND (R255). A merging transmitter sends a local TIME frame every 1.0 to 2.0 µs. -/
  | localTimeFrameSend (t : Nat) (p : Port)
  /-- TIME_FRAME_RECEIVE (R262). A TIME frame is rewritten for forwarding and its fields steer delay, credits and LT. -/
  | timeFrameReceive (t : Nat) (p : Port) (f : TimeFrame) (residence : Nat)
  /-- STREAM_LOSS_TIMEOUT (R266). No valid TIME frame for LOSS µs declares the stream lost. -/
  | streamLossTimeout (t : Nat) (p : Port)
  /-- RECENTRE (R251). A drifted forwarding buffer is re-centred by one comma column in the next idle run. -/
  | recentre (p : Port) (shorten : Bool) (run : Nat)
  /-- PORT_ROLE_WRITE (R237). A write that changes a port's role in ZLP_ROLE takes the port to DETECT. -/
  | portRoleWrite (value : Word)
  /-- ROLE_SAVE (R237). ZLP_ROLE.SAVE queues a FLASH job storing the four roles. -/
  | roleSave
  /-- PING (R285). PING returns its request payload. -/
  | ping (r : Request)
  /-- READ_REG (R285). READ_REG returns COUNT register values from ARG upward. -/
  | readReg (t : Nat) (r : Request)
  /-- WRITE_REG (R286). WRITE_REG writes consecutive registers from ARG. -/
  | writeReg (t : Nat) (r : Request)
  /-- MODIFY_REG (R285). MODIFY_REG writes one register under a mask and returns its old value. -/
  | modifyReg (t : Nat) (r : Request)
  /-- COMMIT (R137). COMMIT marks shadowed values to take effect at the applying frame. -/
  | commit (t : Nat) (r : Request)
  /-- MEM_WRITE (R190). MEM_WRITE writes bytes into DRAM at ARG under the access table. -/
  | memWrite (r : Request)
  /-- MEM_READ (R190). MEM_READ returns LENGTH bytes of DRAM from ARG. -/
  | memRead (r : Request) (res : BurstReads)
  /-- CHECK_REGION (R401). CHECK_REGION starts a CRC-32C scan of a DRAM range on the scan engine. -/
  | checkRegion (r : Request)
  /-- CHECK_REGION_DONE (R401). The CHECK_REGION scan completes and its CRC is returned. -/
  | checkRegionDone (res : BurstReads)
  /-- OVERLAY_SET (R289). OVERLAY_SET writes plane registers and palette entries and optionally commits. -/
  | overlaySet (t : Nat) (r : Request)
  /-- POWER_STATE (R319). POWER_STATE requests a power state and is answered after the consent decision. -/
  | powerState (c : AonCycle) (r : Request)
  /-- FAULT_READ (R392). FAULT_READ returns held log records from FIRST onward. -/
  | faultRead (r : Request)
  /-- FAULT_ACK (R384). FAULT_ACK moves a named source or all sources from RAISED to ACKED. -/
  | faultAck (r : Request)
  /-- FAULT_CLEAR (R388). FAULT_CLEAR clears sources whose cause has gone, as their class allows, releasing latches. -/
  | faultClear (r : Request)
  /-- FAULT_INJECT (R387). FAULT_INJECT raises a source as an injected fault with its full reaction. -/
  | faultInject (r : Request)
  /-- UPDATE_STAGE (R426). UPDATE_STAGE programs image bytes into STAGING at ARG. -/
  | updateStage (r : Request)
  /-- STAGE_WRITE_DONE (R426). A staging write completes its programming and read-back and is answered. -/
  | stageWriteDone (ok : Bool)
  /-- UPDATE_ACTIVATE (R428). UPDATE_ACTIVATE starts the check of the staged image. -/
  | updateActivate (r : Request)
  /-- UPDATE_CONFIRM (R432). UPDATE_CONFIRM confirms an image in trial once SELF_OK is set. -/
  | updateConfirm (r : Request)
  /-- UPDATE_REVERT (R434). UPDATE_REVERT starts a fallback from TRIAL or CONFIRMED or disarms an ARMED image. -/
  | updateRevert (r : Request)
  /-- TUNE_RUN (R417). TUNE_RUN makes a tuning run of the named parts due at once. -/
  | tuneRun (r : Request)
  /-- EYE_SCAN (R291). EYE_SCAN measures a grid of eye points and returns their counts. -/
  | eyeScan (r : Request)
  /-- LIFECYCLE (R455). LIFECYCLE checks an authorisation record and accepts or refuses a life-cycle transition. -/
  | lifecycle (r : Request)
  /-- IDENTIFY (R293). IDENTIFY returns part, ID, life-cycle state, serial, firmware version and glass identity. -/
  | identify (r : Request)
  /-- REG_ACCESS_TIMEOUT (R287). A register access unanswered within REG_TO ends its command with TIMEOUT and raises fault 0x3B. `began` is the instant of the access, `nth` its number within the command. -/
  | regAccessTimeout (t : Nat) (op : RegOp) (r : Request) (access : At Nat)
  /-- REGISTER_WRITE (R8). A write to a register with no behaviour of its own stores its fields by access type. -/
  | registerWrite (a : Word) (value : Word)
  /-- REGISTER_READ_CLEAR (R8). A read of a register with RC fields returns and clears them. -/
  | registerReadClear (a : Word)
  /-- TIME_LO_READ (R259). Reading ZLP_TIME_LO latches the LT value that ZLP_TIME_HI returns. -/
  | timeLoRead
  /-- REED_SYNC_RECEIVE (R307). A SYNC on RL_IN begins a Reed frame, or is dropped with fault 0xAA while a frame is still being sent. -/
  | reedSyncReceive (sending : Bool)
  /-- REED_NOP (R302). A positional NOP field is stripped with no action. -/
  | reedNop (data : BitVec 24) (aux : Byte) (crc : Byte)
  /-- REED_ASSIGN (R308). A positional ASSIGN field is stripped and the device takes its ID. -/
  | reedAssign (data : BitVec 24) (aux : Byte) (crc : Byte)
  /-- REED_ASSIGN_KEEP (R308). ASSIGN_KEEP assigns its ID only to a device whose ID is zero. -/
  | reedAssignKeep (data : BitVec 24) (aux : Byte) (crc : Byte)
  /-- REED_WAKE (R311). A WAKE field addressing a regenerating device gives RESULT DONE. -/
  | reedWake (data : BitVec 24) (aux : Byte) (crc : Byte)
  /-- REED_SLEEP (R312). A SLEEP field addressing the device requests SLEEP from the power-state controller. -/
  | reedSleep (c : AonCycle) (data : BitVec 24) (aux : Byte) (crc : Byte)
  /-- REED_IDENTIFY (R313). An IDENTIFY field starts, restarts or ends identification for AUX seconds. -/
  | reedIdentify (t : Nat) (data : BitVec 24) (aux : Byte) (crc : Byte)
  /-- REED_STATUS (R302). A STATUS field is passed on with no action so each device appends its status. -/
  | reedStatus (data : BitVec 24) (aux : Byte) (crc : Byte)
  /-- REED_FRAME_END (R305). When the input frame ends the device appends its status field. -/
  | reedFrameEnd (t : Nat) (rest : List (List Byte))
  /-- REED_LINE_BREAK (R314). RL_IN low over 100 µs sets BREAK, holds RL_OUT high and raises fault 0xA8. -/
  | reedLineBreak
  /-- REED_BREAK_CLEAR (R314). BREAK clears after RL_IN has been high for 20 µs. -/
  | reedBreakClear
  /-- REED_BYPASS_EXIT (R310). A device leaves bypass once RL_IN has been idle high for 20 µs. -/
  | reedBypassExit
  /-- REED_WAKE_DETECT (R311). In bypass the clockless receiver matches an addressed WAKE field and delivers a wake event. -/
  | reedWakeDetect (t : Nat) (data : BitVec 24) (aux : Byte) (crc : Byte)
  /-- IDENTIFY_TOGGLE (R313). Every 0.5 s identification alternates the video layer with full-tile 0x4_0000. -/
  | identifyToggle (t : Nat)
  /-- IDENTIFY_END (R313). The identification time runs out and the intended image returns. -/
  | identifyEnd (t : Nat)
  /-- VALVE_SETTLE_EXPIRY (R323). VALVE_SETTLE after the valves close, row writes resume at the next frame start. -/
  | valveSettleExpiry (t : Nat)
  /-- POWER_ENTRY_DONE (R324). A STANDBY or SLEEP entry completes and a held wake starts the exit. -/
  | powerEntryDone (t : Nat)
  /-- WAKE_TIMER (R328). PWR_TIMER.SECONDS elapses in STANDBY or SLEEP and delivers a TIMER wake. -/
  | wakeTimer (t : Nat)
  /-- SVC_WAKE (R328). SVC_CS_N held low for 10 µs delivers a service-port wake. -/
  | svcWake (t : Nat)
  /-- WAKE_RETRY (R330). After 5 ms a wake whose regulators or oscillators failed retries once. -/
  | wakeRetry (t : Nat)
  /-- PAD_RELEASE (R332). Writing PWR_PAD.RELEASE opens every pad latch. -/
  | padRelease
  /-- SENSOR_CONVERSION (R336). A temperature sensor delivers a conversion that is tested for range and cross-check. -/
  | sensorConversion (t : Nat) (n : Fin 24) (c : Conversion)
  /-- SENSOR_STALL (R336). No conversion within 10 periods fails the sensor. -/
  | sensorStall (n : At (Fin 24))
  /-- SUBSTITUTE_FLOOR_END (R338). 10 s after a failure the substitute no longer holds the last valid reading. -/
  | substituteFloorEnd (n : At (Fin 24))
  /-- SENSOR_RECOVERY (R339). A cleared sensor passing its tests for 10 s comes back into use. -/
  | sensorRecovery (t : Nat) (n : Fin 24)
  /-- THROTTLE_TICK (R341). Every 1 ms each quadrant's thermal ceiling is computed. -/
  | throttleTick
  /-- RATE_TICK (R344). Every 100 ms each sensor's rise over 1 s is tested and RATE_q set or cleared. -/
  | rateTick (t : Nat)
  /-- RATE_TEST_ENABLE (R344). 60 s after monitoring starts the rate-of-rise test begins. -/
  | rateTestEnable
  /-- THM_CFG_WRITE (R344). A write to THM_CFG that clears RATE_EN clears every RATE_q. -/
  | thmCfgWrite (value : Word)
  /-- HARD_LIMIT_TRIP (R345). A hard-limit comparator trips, darkens the device and sets the thermal latch with fault 0x84. `tenths` is the lowest temperature at the sensor in the 1 ms of its filter. -/
  | hardLimitTrip (level : TripLevel)
  /-- SAFE_INPUT_CHANGE (R358). A filtered change of SAFE_IN_A or SAFE_IN_B makes or releases a demand. -/
  | safeInputChange (ch : Fin 2) (on : Bool) (t : Nat)
  /-- DISCREPANCY_TIMEOUT (R360). Channels disagreeing longer than DISC_MS set DISC and the latch and raise fault 0x90. -/
  | discrepancyTimeout (t : Nat)
  /-- SUPPLY_TEST_PULSE (R359). A SAFE_SUP test pulse checks its input and two failures raise fault 0x91. The samples of the inputs, one every 50 µs. -/
  | supplyTestPulse (t : Nat) (ch : Fin 2) (own : PulseSamples) (other : List Bool)
  /-- OUTPUT_TEST_PULSE (R361). An energised SAFE_OUT is pulsed off and checked, raising fault 0x92 on failure. Levels in mV: the lowest in the pulse, 100 µs after it, outside pulses, and VIN_SAFE. -/
  | outputTestPulse (t : Nat) (ch : Fin 2) (pulse : PulseLevels) (outside : Nat) (vin : Nat)
  /-- FEEDBACK_INPUT_CHANGE (R363). A filtered change of SAFE_FB_A or SAFE_FB_B is judged against its output. -/
  | feedbackInputChange (ch : Fin 2) (on : Bool) (t : Nat)
  /-- FEEDBACK_TIMEOUT (R363). Feedback not matching its output within TIME_MS raises fault 0x93. -/
  | feedbackTimeout (t : Nat)
  /-- RESTART_EDGE (R365). A restart edge from SAFE_RST or the black channel clears the safety latch if all conditions hold. -/
  | restartEdge (ev : RestartEvent) (rawA : Bool) (rawB : Bool) (t : Nat)
  /-- BC_DEMAND_FRAME (R373). A WRITE_REG of SAF_BC_RX_0 to 3 delivers a black-channel demand frame that is tested and applied. -/
  | bcDemandFrame (w0 : Word) (w1 : Word) (w2 : Word) (w3 : Word) (t : Nat)
  /-- BC_LOSS_TIMEOUT (R374). No accepted demand frame for WD_MS is a loss that sets the latch and raises fault 0x94. -/
  | bcLossTimeout (t : Nat)
  /-- BC_STATUS_REFRESH (R373). At least every 10 ms the safety core makes a new status frame. -/
  | bcStatusRefresh (t : Nat)
  /-- HEARTBEAT_TIMEOUT (R354). 1.0 ms without a safety-core heartbeat asserts the device demand and raises fault 0x97. -/
  | heartbeatTimeout
  /-- LOCKSTEP_MISMATCH (R354). A lockstep mismatch asserts the device demand and raises fault 0x96. -/
  | lockstepMismatch
  /-- MUTE_PATH_CHECK (R354). Every 1 ms the safety core compares valve, emission and output levels with the demand. -/
  | mutePathCheck (valves : Fin 16) (emits : Fin 16) (path1 : Fin 16) (path2 : Fin 16) (outA : Bool) (filters : Bool)
  /-- CAP_WORD_SEND (R368). The safety core sends the cap in force to each tail at each change and every 1 ms. -/
  | capWordSend (valid : Fin 16) (t : Nat)
  /-- CAP_WORD_TIMEOUT (R368). A tail with no valid cap word for 3 ms applies c = 0. -/
  | capWordTimeout (q : Quad) (t : Nat)
  /-- SAFETY_START_TEST_DONE (R355). The safety core's start test completes and SAFE_CLK is set. -/
  | safetyStartTestDone (comparators : Bool) (lockstep : Bool) (paths : Bool) (supA : Bool) (supB : Bool) (t : Nat)
  /-- SAFETY_UNLOCK_KEY (R377). A write of SAF_UNLOCK.KEY advances or ends the safety unlock sequence. -/
  | safetyUnlockKey (src : Option (BitVec 24)) (key : Word) (t : Nat)
  /-- UNLOCK_TIMEOUT (R377). The unlock sequence ends when 10 ms pass. -/
  | unlockTimeout (t : Nat)
  /-- SAFETY_PARAM_WRITE (R376). A write of a safety parameter register after unlock changes it and queues its flash store. -/
  | safetyParamWrite (p : Fin 13) (value : Word) (src : Option (BitVec 24)) (t : Nat)
  /-- SAFE_OUT_OVERCURRENT (R490). A SAFE_OUT in current limit for 5 ms switches off and raises fault 0x92. -/
  | safeOutOvercurrent (ch : Fin 2)
  /-- FAULT_RECORD (R379). The collector takes a fault report, records it and applies its class reaction. -/
  | faultRecord
  /-- FAULT_LOG_COPY_DONE (R391). A fault record's flash copy completes, or fails twice with fault 0x0C. -/
  | faultLogCopyDone (ok : Bool)
  /-- FLT_CFG_WRITE (R389). A write of FLT_CFG queues a FLASH job storing C3_EXIT, PIN_CLASS and LOG_ALL. -/
  | fltCfgWrite (value : Word)
  /-- SAFETY_IMAGE_CHECK (R400). Every 60 s of core running time the scan engine rechecks the safety image. -/
  | safetyImageCheck (ok : Bool) (t : Nat)
  /-- ENGINE_SELF_TEST (R404). Every 60 s each check-value engine verifies every parameter set's check value. -/
  | engineSelfTest (t : Nat) (found : SelfTest)
  /-- CRC_CHANNEL_CONFIG (R402). Writing CHK_CH_CFG_c.PARAM selects a set and resets the running value to Init. -/
  | crcChannelConfig (c : Fin 8) (value : Word)
  /-- CRC_CHANNEL_FEED (R402). Writing a channel data register feeds bytes through its CRC. -/
  | crcChannelFeed (c : Fin 8) (size : FeedSize) (value : Word)
  /-- REF_MONITOR_TICK (R407). Every 1 ms REF_IN is compared with the bandgaps and its validity updated. -/
  | refMonitorTick (t : Nat) (tenths : Nat) (agree : Bool)
  /-- TUNE_RUN_DUE (R416). PERIOD or a junction change makes a tuning run due as the TUNE job. -/
  | tuneRunDue (t : Nat)
  /-- TUNE_RUN_DONE (R412). A run's measurements are judged, accepted results start their slide and rejections are counted. -/
  | tuneRunDone (t : Nat) (m : Measured)
  /-- TUNE_STALE_TIMEOUT (R418). 24 h without a successful run raises fault 0xBC. -/
  | tuneStaleTimeout (t : Nat)
  /-- UPDATE_CHECK_DONE (R428). The staged image check completes and the state goes to LOADING, ARMED or STAGING. -/
  | updateCheckDone (t : Nat)
  /-- STANDBY_CORE_READY (R429). The standby core finishes loading the new image and the handover waits for its point. -/
  | standbyCoreReady (t : Nat)
  /-- LOAD_TIMEOUT (R427). A load not ready within 3 s returns to STAGING with ERR 10. -/
  | loadTimeout (t : Nat)
  /-- HANDOVER_POINT (R429). After the governor writes its ceilings, state is handed to the new image and TRIAL begins. -/
  | handoverPoint (ok : Bool) (t : Nat)
  /-- SUPERVISOR_TRIP (R431). A missing heartbeat, stall or probe answer in TRIAL or CONFIRMED starts FALLBACK. -/
  | supervisorTrip (cause : Fin 3) (t : Nat)
  /-- CONFIRM_TIMEOUT (R431). An unconfirmed TRIAL reaching CONFIRM_S starts FALLBACK. -/
  | confirmTimeout (t : Nat)
  /-- TRIAL_TIME_ELAPSED (R432). After TRIAL_S without a trip SELF_OK is set and may confirm the image. -/
  | trialTimeElapsed (ok : Bool) (t : Nat)
  /-- FALLBACK_DONE (R433). The old image is active again and the state returns to STAGING with fault 0xB2. -/
  | fallbackDone (t : Nat)
  /-- SUPPLY_GOOD (R439). All monitored supplies become good and a power-on start begins. -/
  | supplyGood (level : SupplyLevel) (t : Nat)
  /-- SUPPLY_LOST (R442). A monitored supply falls below 88 % for 5 µs, causing a SUPPLY warm reset or power-on. -/
  | supplyLost (k : Fin 6) (t : Nat)
  /-- RESET_PIN (R444). RESET_N low for 10 µs holds the device in reset and its release starts a warm reset. -/
  | resetPin (low : Bool) (t : Nat)
  /-- RESET_REQUEST (R444). Writing the key to SYS_RESET_REQ makes a warm reset 1 to 2 ms later. -/
  | resetRequest (key : Word)
  /-- WATCHDOG_TIMEOUT (R442). Outside TRIAL and CONFIRMED, 100 ms without heartbeat makes a WATCHDOG warm reset. -/
  | watchdogTimeout (t : Nat)
  /-- START_SEQUENCE (R445). A start runs boot check, wipes, safety release, table build, rails and first light. -/
  | startSequence (t : Nat) (inp : StartInput)
  /-- LIFECYCLE_ERASE_DONE (R456). The transition's erasures complete, PENDING clears and the device restarts with cause LIFECYCLE. -/
  | lifecycleEraseDone (t : Nat)
  /-- PRAIL_PG_CHANGE (R450). A PRAIL_PG input changes, advancing the rail sequence or raising fault 0x02 when it falls. -/
  | prailPgChange (k : Fin 6) (high : Bool) (t : Nat)
  /-- PRAIL_PG_TIMEOUT (R450). A rail's PG not rising within PG_TO raises fault 0x02. -/
  | prailPgTimeout (k : Fin 6) (t : Nat)
  /-- PRAIL_DELAY_EXPIRY (R449). DELAY after a rail's PG, the next used rail is switched on. -/
  | prailDelayExpiry (t : Nat)
  /-- PRAIL_CFG_WRITE (R449). A write of SYS_PRAIL_CFG queues a FLASH job storing the rail settings. -/
  | prailCfgWrite (value : Word)
  /-- SVC_READ (R457). A service-port transaction with OP 0x03 reads one register. -/
  | svcRead (t : Nat) (a : Word)
  /-- SVC_WRITE (R457). A service-port transaction with OP 0x02 writes one register. -/
  | svcWrite (t : Nat) (a : Word) (value : Word)
  /-- BAD_OPCODE (R284). A command taken with an opcode not in R285 is answered BAD_OPCODE and counted in CMD_CNT_REF.BAD_OPCODE. -/
  | badOpcode (op : Byte) (r : Request)
  /-- STANDBY_EXIT_COMPLETE (R325). The exit from STANDBY completes when PWR_STATE.STATE reads the target, ending the pending wake and the exit's refusals. -/
  | standbyExitComplete (t : Nat)
  /-- RANK_POWER_DOWN (R204). A DRAM rank with no request for FMC_PD.TIMER memory clock cycles enters power-down and sets its FMC_PD.IN_PD bit. -/
  | rankPowerDown (rank : At (Fin 2))
  /-- PATTERN_CHECKER_SYNC (R231). A pattern checker gains sync after 64 error-free bits or loses it after more than 16 bit errors in 256, changing LNK_PAT_ERR_k.PSYNC. -/
  | patternCheckerSync (t : Nat) (p : Port) (k : Lane) (bits : List Bool)
  /-- REED_NO_FIELD (R302). A Reed frame whose first field has an unknown OP or is a status field gives RESULT NO_FIELD and is forwarded unchanged. -/
  | reedNoField (op : Byte) (data : BitVec 24) (aux : Byte) (crc : Byte)
  /-- REED_FRAME_DISCARD (R299). A Reed symbol with a low time of 12 to 100 µs discards the frame in progress and cuts it off at the output. -/
  | reedFrameDiscard
  deriving DecidableEq, Repr, Inhabited

end Sys2Proof
end

