-- ==== Sys2Proof/Decode.lean ====
section
/-! DEFINITION. Sys2Proof/Decode.lean: the command a word spells. spec/opcode_table.json gives none of its rows any bits (its rows are
register writes, packets, frames and events, each with inputs of its own), so no word spells a command. -/

namespace Sys2Proof

/-- The command that `nbits` bits with value `w` spell by the table's bits. -/
def decodeTableWord (_nbits _w : Nat) : Option Instr := none

end Sys2Proof
end

