-- ==== Sys2Proof/Machine/FixedMath.lean ====
section
/-! DEFINITION. Sys2Proof/Machine/FixedMath.lean: rounding and the power functions the spec's arithmetic asks for (R45, R88,
R108, R134), in exact integers where the result is an integer root and otherwise in fixed point with 96 fraction bits
(DEDUCED, notes/assumptions/6.md). -/

namespace Sys2Proof.Machine

/-- num / den rounded to the nearest integer, a tie upward. -/
def roundDiv (num den : Nat) : Nat := (2 * num + den) / (2 * den)

/-- Signed num / den rounded to the nearest integer, a tie away from zero. -/
def roundDivInt (num : Int) (den : Nat) : Int :=
  if num < 0 then -(roundDiv num.natAbs den : Int) else (roundDiv num.natAbs den : Int)

def clampNat (lo hi v : Nat) : Nat := max lo (min hi v)

def clampInt (lo hi v : Int) : Int := max lo (min hi v)

/-- Two's-complement reading of the low `n` bits. -/
def signed (n v : Nat) : Int :=
  let w := v % 2 ^ n
  if w < 2 ^ (n - 1) then (w : Int) else (w : Int) - 2 ^ n

/-- Two's-complement bits of an integer, `n` bits. -/
def unsigned (n : Nat) (v : Int) : Nat := (v % (2 ^ n : Int)).toNat

/-- Floor of an integer over a positive number (arithmetic shift). -/
def floorDiv (v : Int) (d : Nat) : Int := Int.fdiv v d

/-- Bisection for the largest r in [lo, hi) with r^k ≤ x. -/
def rootFrom (k x : Nat) : Nat → Nat → Nat → Nat
  | 0, lo, _ => lo
  | f + 1, lo, hi =>
    let mid := (lo + hi) / 2
    if mid ^ k ≤ x then rootFrom k x f mid hi else rootFrom k x f lo mid

/-- The floor of the k-th root of x, for roots below 2^bits. -/
def floorRoot (k bits x : Nat) : Nat := rootFrom k x bits 0 (2 ^ bits)

/-- scale × (a/b)^(p/q) rounded to the nearest integer: the largest v with ((2v − 1) / (2·scale))^q ≤ (a/b)^p. -/
def roundPow (scale a b p q : Nat) : Nat :=
  (floorRoot q 40 ((2 * scale) ^ q * a ^ p / b ^ p) + 1) / 2

/-- Fraction bits of the fixed-point functions. -/
def fixBits : Nat := 96

def fixOne : Nat := 2 ^ fixBits

/-- Fraction bits of log2 of a fixed-point m in [1, 2), most significant first, `n` of them. -/
def log2Frac : Nat → Nat → Nat → Nat
  | 0, _, acc => acc
  | n + 1, m, acc =>
    let m2 := m * m / fixOne
    if m2 ≥ 2 * fixOne then log2Frac n (m2 / 2) (2 * acc + 1) else log2Frac n m2 (2 * acc)

/-- log2 (num / den) in fixed point, for positive num and den. -/
def log2Fix (num den : Nat) : Int :=
  let e : Int := (Nat.log2 num : Int) - (Nat.log2 den : Int)
  -- m = num / den / 2^e, in (1/2, 2)
  let m0 := if e ≥ 0 then num * fixOne / (den * 2 ^ e.toNat) else num * 2 ^ (-e).toNat * fixOne / den
  let (e1, m) := if m0 < fixOne then (e - 1, 2 * m0) else (e, m0)
  e1 * (fixOne : Int) + (log2Frac fixBits m 0 : Int)

/-- 2^f for a fraction given by its bits, most significant first; `r` is the running root 2^(2^-i) and `acc` the product. -/
def exp2Bits : Nat → Nat → Nat → Nat → Nat
  | 0, _, _, acc => acc
  | n + 1, f, r, acc =>
    let r2 := Nat.sqrt (r * fixOne)
    let acc2 := if f / 2 ^ n % 2 = 1 then acc * r2 / fixOne else acc
    exp2Bits n f r2 acc2

/-- 2^x in fixed point for a fixed-point x. -/
def exp2Fix (x : Int) : Nat :=
  let e := Int.fdiv x fixOne
  let f := (x - e * (fixOne : Int)).toNat
  let m := exp2Bits fixBits f (2 * fixOne) fixOne
  if e ≥ 0 then m * 2 ^ e.toNat else m / 2 ^ (-e).toNat

/-- (num / den)^(p / q) in fixed point; zero for a zero base. -/
def powFix (num den : Nat) (p : Int) (q : Nat) : Nat :=
  if num = 0 then 0 else exp2Fix (Int.fdiv (log2Fix num den * p) q)

/-- log2 of e, in fixed point: 1 / ln 2 = 1.44269504088896340735992468100189… -/
def log2e : Int := 144269504088896340735992468100189 * (fixOne : Int) / 10 ^ 32

/-- e^(num / den) in fixed point. -/
def expFix (num : Int) (den : Nat) : Nat := exp2Fix (Int.fdiv (log2e * num) den)

/-- The natural logarithm of num / den in fixed point. -/
def lnFix (num den : Nat) : Int := Int.fdiv (log2Fix num den * (fixOne : Int)) log2e

/-- log10 of num / den in fixed point. -/
def log10Fix (num den : Nat) : Int := Int.fdiv (log2Fix num den * (fixOne : Int)) (log2Fix 10 1)

end Sys2Proof.Machine
end

