-- ==== Sys2Proof/Config.lean ====
section
/-! DEFINITION. Sys2Proof/Config.lean: what an implementation fixes and the spec leaves open. A free value is an opaque
constant without a body, applied to the number of the draw (State.freeNo) or to the values it depends on: nothing can be
proved of it, so a claim holds whatever it is (DESIGN CHOICE, notes/assumptions/2.md). -/

namespace Sys2Proof.Config

/-- The value of the n-th free draw (random frames and roundings of R87 and R88, neighbour choices of R200, the nonce of
R454, the choice R69 leaves, positions inside a running scan of R401): DESIGN CHOICE, notes/assumptions/2.md. -/
opaque freeNat : Nat → Nat

/-- The sequence number a bridge expects after `n`: R17 gives the flit's number no width. -/
opaque nextFlit : Nat → Nat

/-- The SHA-256 that was fused in the module's FACTORY for key slot k (R422; DESIGN CHOICE, notes/assumptions/3.md). -/
opaque fusedHash : Nat → List Byte

/-- The 8-bit error-detecting code of a flit over its sequence number and its other bits: R17 gives no polynomial. -/
opaque flitCode : Nat → Nat → BitVec 8

/-- The output, of its 32, that ADC g reads back in line 0 (R141): DESIGN CHOICE, notes/assumptions/90.md. -/
opaque readBackFirst : Nat → Nat

/-- Where in its sequence the generator of a pattern starts (R231): DESIGN CHOICE, notes/assumptions/97.md. -/
opaque patternPhase : Nat → Nat

/-- Where in its band of ±3 °C the hard-limit comparator of a sensor trips, in 0.1 °C (R346): DESIGN CHOICE,
notes/assumptions/106.md. -/
opaque tripOffset : Nat → Nat

end Sys2Proof.Config
end

