-- ==== Sys2Proof/Machine/Crc.lean ====
section
/-! DEFINITION. Sys2Proof/Machine/Crc.lean: the four parameter sets of R396 (17_check_values.md), bit by bit, and the byte
order of R241. A running value is the register before the final XOR, in reflected orientation for the reflected sets (R402). -/

namespace Sys2Proof.Machine

/-- A parameter set of R396: width, polynomial (reflected where the set is), Init, reflection, Xorout. -/
structure CrcSet where
  width : Nat
  poly : Nat
  init : Nat
  reflected : Bool
  xorout : Nat
  deriving DecidableEq, Repr

/-- CRC-8/0x2F, PARAM code 0: Reed line fields. -/
def crc8Set : CrcSet := ⟨8, 0x2F, 0xFF, false, 0xFF⟩
/-- CRC-16/0x1021, PARAM code 1: canvas segments. -/
def crc16Set : CrcSet := ⟨16, 0x1021, 0xFFFF, false, 0⟩
/-- CRC-32 (IEEE 802.3), PARAM code 2; 0xEDB8_8320 is 0x04C1_1DB7 reflected. -/
def crc32Set : CrcSet := ⟨32, 0xEDB88320, 0xFFFFFFFF, true, 0xFFFFFFFF⟩
/-- CRC-32C, PARAM code 3; 0x82F6_3B78 is 0x1EDC_6F41 reflected. -/
def crc32cSet : CrcSet := ⟨32, 0x82F63B78, 0xFFFFFFFF, true, 0xFFFFFFFF⟩

/-- The set of a PARAM code (R396). -/
def crcSetOf : Nat → CrcSet
  | 0 => crc8Set
  | 1 => crc16Set
  | 2 => crc32Set
  | _ => crc32cSet

/-- One bit of a reflected register: shift right, XOR the polynomial when a one leaves. -/
def crcBitRefl (poly v : Nat) : Nat := if v % 2 = 1 then Nat.xor (v / 2) poly else v / 2

/-- One bit of an unreflected register: shift left, XOR the polynomial when a one leaves. -/
def crcBitPlain (width poly v : Nat) : Nat :=
  if v / 2 ^ (width - 1) % 2 = 1 then Nat.xor (v * 2 % 2 ^ width) poly else v * 2 % 2 ^ width

def crcBits (c : CrcSet) : Nat → Nat → Nat
  | 0, v => v
  | n + 1, v => crcBits c n (if c.reflected then crcBitRefl c.poly v else crcBitPlain c.width c.poly v)

/-- Feed one byte to a running value. -/
def crcFeed (c : CrcSet) (v : Nat) (b : Byte) : Nat :=
  crcBits c 8 (if c.reflected then Nat.xor v b.toNat else Nat.xor v (b.toNat * 2 ^ (c.width - 8)))

/-- Feed bytes in order (R398: folded fields first, then the covered bytes, without reset between). -/
def crcRun (c : CrcSet) (v : Nat) (bs : List Byte) : Nat := bs.foldl (crcFeed c) v

/-- The CRC of a byte string. -/
def crcOf (c : CrcSet) (bs : List Byte) : Nat := Nat.xor (crcRun c c.init bs) c.xorout

/-- CRC-32C of a byte string. -/
def crc32c (bs : List Byte) : Nat := crcOf crc32cSet bs

/-- The low `n` bytes of a number, least significant first (R241, R397). -/
def leBytes : Nat → Nat → List Byte
  | 0, _ => []
  | n + 1, v => BitVec.ofNat 8 v :: leBytes n (v / 256)

/-- The number a byte string spells, least significant byte first. -/
def ofLE : List Byte → Nat
  | [] => 0
  | b :: bs => b.toNat + 256 * ofLE bs

/-- The number a byte string spells, most significant byte first. -/
def ofBE (bs : List Byte) : Nat := bs.foldl (fun a b => a * 256 + b.toNat) 0

/-- `n` bytes from offset `o`, as a little-endian number; bytes past the end read zero. -/
def fieldLE (bs : List Byte) (o n : Nat) : Nat := ofLE ((bs.drop o).take n)

/-- The byte at offset `o`; zero past the end. -/
def byteAt (bs : List Byte) (o : Nat) : Nat := fieldLE bs o 1

/-- Split a byte string into little-endian 32-bit words (a last partial word is dropped). -/
def wordsLE : List Byte → List Word
  | a :: b :: c :: d :: bs => BitVec.ofNat 32 (ofLE [a, b, c, d]) :: wordsLE bs
  | _ => []

end Sys2Proof.Machine
end

