-- ==== Sys2Proof/Machine/RegMap.lean ====
section
/-! DEFINITION. Sys2Proof/Machine/RegMap.lean: the register map of R33 and the register tables of every chapter of spec/:
address, bits, access type (R8) and reset value of each field, and which addresses a register occupies.
`A.<register>` is an address (indices: q quadrant, p port, k lane, n, c, e, … as the tables write them); `F.<register>.<field>`
is a field. A reset value the tables give as fused, stored or from a record stands here as the value of an empty record
(DESIGN CHOICE, notes/assumptions/3.md). -/

namespace Sys2Proof.Machine

/-- The access types of R8. -/
inductive Acc where
  | ro | rw | rws | rwi | w1c | rc | wo
  deriving DecidableEq, Repr, Inhabited

/-- One field of a register: address, low bit, width, access type, reset value. -/
structure Fld where
  addr : Nat
  lo : Nat
  len : Nat
  acc : Acc
  reset : Nat
  deriving DecidableEq, Repr, Inhabited

/-- One row of the register map: first address, the strides and counts of its indices (widest stride first), its fields. -/
structure RegDesc where
  base : Nat
  dims : List (Nat × Nat)
  flds : List Fld
  deriving DecidableEq, Repr, Inhabited

def A.SYS_PART : Nat := 0x000000
def A.SYS_ISLAND_STAT : Nat := 0x000010
def A.SYS_QBR_ERR : Nat := 0x000014
def A.PIX_CANVAS : Nat := 0x040000
def A.PIX_CANVAS_SIZE : Nat := 0x040004
def A.PIX_WIN : Nat := 0x040010
def A.PIX_WIN_ORG : Nat := 0x040014
def A.PIX_QWIN (n : Nat) : Nat := 0x040018 + 0x4 * n
def A.PIX_LIN_BUILD : Nat := 0x040040
def A.PIX_LIN_SRC : Nat := 0x040044
def A.PIX_LIN_CMD : Nat := 0x040048
def A.PIX_LIN_STAT : Nat := 0x04004C
def A.PIX_CMX (n k : Nat) : Nat := 0x040100 + 0x40 * n + 0x4 * k
def A.PIX_HOLD : Nat := 0x040060
def A.PIX_FALLBACK : Nat := 0x040064
def A.PIX_FALLBACK_COLOUR : Nat := 0x040068
def A.PIX_OVL_CTRL (n : Nat) : Nat := 0x040200 + 0x20 * n
def A.PIX_OVL_ADDR (n : Nat) : Nat := 0x040204 + 0x20 * n
def A.PIX_OVL_POS (n : Nat) : Nat := 0x040208 + 0x20 * n
def A.PIX_OVL_SIZE (n : Nat) : Nat := 0x04020C + 0x20 * n
def A.PIX_OVL_SAVE : Nat := 0x040300
def A.PIX_PAL_A (n e : Nat) : Nat := 0x041000 + 0x1000 * n + 0x10 * e
def A.PIX_PAL_G (n e : Nat) : Nat := 0x041004 + 0x1000 * n + 0x10 * e
def A.PIX_PAL_B (n e : Nat) : Nat := 0x041008 + 0x1000 * n + 0x10 * e
def A.PIX_FB_STAT : Nat := 0x040080
def A.PIX_FRAME_NO : Nat := 0x040084
def A.PIX_COMMIT_FRAME : Nat := 0x040088
def A.PIX_CNT_SEG : Nat := 0x040090
def A.PIX_CNT_FRAME : Nat := 0x040094
def A.PIX_HELD_PIXELS : Nat := 0x040098
def A.CMP_TBL_SRC : Nat := 0x050000
def A.CMP_TBL_CMD : Nat := 0x050004
def A.CMP_TBL_STAT : Nat := 0x050008
def A.CMP_TBL_ID : Nat := 0x05000C
def A.CMP_SLIDE : Nat := 0x050010
def A.CMP_AGE_CFG : Nat := 0x050020
def A.CMP_AGE_CHK : Nat := 0x050024
def A.CMP_STRESS_STAT : Nat := 0x050028
def A.CMP_AGE (n c : Nat) : Nat := 0x050040 + 0x10 * n + 0x4 * c
def A.CMP_DEF_CFG : Nat := 0x050090
def A.CMP_DEF_STAT : Nat := 0x050094
def A.CMP_CONCEAL : Nat := 0x050080
def A.CMP_CONCEAL_STAT : Nat := 0x050084
def A.HYB_KNEE (c : Nat) : Nat := 0x060000 + 0x4 * c
def A.HYB_SWEEP : Nat := 0x060010
def A.HYB_BLEND : Nat := 0x060014
def A.HYB_DITHER : Nat := 0x060018
def A.HYB_STAT : Nat := 0x060020
def A.HYB_ECC : Nat := 0x060024
def A.HYB_KNEE_CODE (c : Nat) : Nat := 0x060030 + 0x4 * c
def A.HYB_LAD (c a : Nat) : Nat := 0x061000 + 0x400 * c + 0x4 * a
def A.SCN_QCFG (q : Nat) : Nat := 0x070000 + 0x1000 * q
def A.SCN_AMP (q c : Nat) : Nat := 0x070010 + 0x1000 * q + 0x4 * c
def A.SCN_LBUF (q : Nat) : Nat := 0x070020 + 0x1000 * q
def A.SCN_UNDERRUN (q : Nat) : Nat := 0x070024 + 0x1000 * q
def A.SCN_RB_CFG (q : Nat) : Nat := 0x070040 + 0x1000 * q
def A.SCN_RB_STAT (q : Nat) : Nat := 0x070044 + 0x1000 * q
def A.SCN_EE_STAT (q : Nat) : Nat := 0x070050 + 0x1000 * q
def A.SCN_EE_SERIAL_LO (q : Nat) : Nat := 0x070058 + 0x1000 * q
def A.SCN_EE_SERIAL_HI (q : Nat) : Nat := 0x07005C + 0x1000 * q
def A.SCN_TIMING : Nat := 0x078000
def A.SCN_PERIOD : Nat := 0x078004
def A.SCN_PERIOD_NOW : Nat := 0x078008
def A.SCN_TSTAT : Nat := 0x07800C
def A.SCN_LINE_NOW : Nat := 0x078010
def A.SCN_STAT : Nat := 0x078020
def A.SCN_I2C : Nat := 0x078030
def A.SCN_GLASS_ID_LO : Nat := 0x078038
def A.SCN_GLASS_ID_HI : Nat := 0x07803C
def A.SNS_CFG : Nat := 0x080000
def A.SNS_THR_V : Nat := 0x080004
def A.SNS_THR_D : Nat := 0x080008
def A.SNS_THR_S : Nat := 0x08000C
def A.SNS_TC (c : Nat) : Nat := 0x080010 + 0x4 * c
def A.SNS_ISNS_CFG : Nat := 0x080020
def A.SNS_ISNS_SHUNT : Nat := 0x080024
def A.SNS_ISNS_Q (n : Nat) : Nat := 0x080030 + 0x4 * n
def A.SNS_QSTAT (n : Nat) : Nat := 0x080040 + 0x4 * n
def A.SNS_SWEEP : Nat := 0x080050
def A.SNS_CNT : Nat := 0x080054
def A.SNS_REQ : Nat := 0x080060
def A.SNS_RESULT_ADDR : Nat := 0x080070
def A.SNS_BASE_ADDR : Nat := 0x080074
def A.SNS_BASE_T (n : Nat) : Nat := 0x080080 + 0x4 * n
def A.SNS_ADC_FAIL_LO (n : Nat) : Nat := 0x080090 + 0x8 * n
def A.SNS_ADC_FAIL_HI (n : Nat) : Nat := 0x080094 + 0x8 * n
def A.GOV_CFG : Nat := 0x090000
def A.GOV_BUDGET : Nat := 0x090004
def A.GOV_WINDOW : Nat := 0x090008
def A.GOV_LIMIT : Nat := 0x09000C
def A.GOV_PDEV : Nat := 0x090010
def A.GOV_VLED (n : Nat) : Nat := 0x090020 + 0x4 * n
def A.GOV_CEIL (n : Nat) : Nat := 0x090040 + 0x4 * n
def A.GOV_IPRED (n : Nat) : Nat := 0x090050 + 0x4 * n
def A.GOV_STAT : Nat := 0x090060
def A.GOV_CNT : Nat := 0x090064
def A.GOV_FLAGS : Nat := 0x090068
def A.GOV_JOB_CFG (j : Nat) : Nat := 0x090080 + 0x8 * j
def A.GOV_JOB_STAT (j : Nat) : Nat := 0x090084 + 0x8 * j
def A.GOV_ICURVE (c k : Nat) : Nat := 0x090100 + 0x80 * c + 0x4 * k
def A.FMC_ORDER : Nat := 0x0A0000
def A.FMC_ARB : Nat := 0x0A0004
def A.FMC_PD : Nat := 0x0A0008
def A.FMC_PNR : Nat := 0x0A000C
def A.FMC_TRAIN : Nat := 0x0A0010
def A.FMC_TRAIN_STAT : Nat := 0x0A0014
def A.FMC_STAT : Nat := 0x0A0020
def A.FMC_CNT_ERR : Nat := 0x0A0024
def A.FMC_ERR_ADDR : Nat := 0x0A0028
def A.FMC_CNT_PNR : Nat := 0x0A002C
def A.FMC_CNT_CAP : Nat := 0x0A0030
def A.FMC_URG : Nat := 0x0A0034
def A.FMC_WIPE_STAT : Nat := 0x0A0040
def A.LNK_CFG (p : Nat) : Nat := 0x010000 + 0x1000 * p
def A.LNK_TX (p : Nat) : Nat := 0x010004 + 0x1000 * p
def A.LNK_RX (p : Nat) : Nat := 0x010008 + 0x1000 * p
def A.LNK_STAT (p : Nat) : Nat := 0x010010 + 0x1000 * p
def A.LNK_CNT (p : Nat) : Nat := 0x010014 + 0x1000 * p
def A.LNK_PARTNER (p : Nat) : Nat := 0x010018 + 0x1000 * p
def A.LNK_LP (p : Nat) : Nat := 0x010020 + 0x1000 * p
def A.LNK_PAT_CFG (p : Nat) : Nat := 0x010030 + 0x1000 * p
def A.LNK_LSTAT (p k : Nat) : Nat := 0x010100 + 0x1000 * p + 0x20 * k
def A.LNK_LERR (p k : Nat) : Nat := 0x010104 + 0x1000 * p + 0x20 * k
def A.LNK_EYE_CFG (p k : Nat) : Nat := 0x010108 + 0x1000 * p + 0x20 * k
def A.LNK_EYE_CNT (p k : Nat) : Nat := 0x01010C + 0x1000 * p + 0x20 * k
def A.LNK_PAT_ERR (p k : Nat) : Nat := 0x010110 + 0x1000 * p + 0x20 * k
def A.LNK_TXCLK : Nat := 0x018000
def A.ZLP_ROLE : Nat := 0x020000
def A.ZLP_SEL : Nat := 0x020004
def A.ZLP_SEL_STAT : Nat := 0x020008
def A.ZLP_TIME_STAT : Nat := 0x020010
def A.ZLP_TIME_ERR : Nat := 0x020014
def A.ZLP_TIME_LO : Nat := 0x020018
def A.ZLP_TIME_HI : Nat := 0x02001C
def A.ZLP_PATH : Nat := 0x020020
def A.ZLP_CNT : Nat := 0x020030
def A.ZLP_CNT_SEL : Nat := 0x020034
def A.ZLP_PORT_STAT (n : Nat) : Nat := 0x020100 + 0x20 * n
def A.ZLP_PORT_DELAY (n : Nat) : Nat := 0x020104 + 0x20 * n
def A.ZLP_PORT_ASYM (n : Nat) : Nat := 0x020108 + 0x20 * n
def A.ZLP_PORT_CNT (n : Nat) : Nat := 0x02010C + 0x20 * n
def A.CMD_CFG : Nat := 0x030000
def A.CMD_STAT : Nat := 0x030004
def A.CMD_CNT_RX : Nat := 0x030008
def A.CMD_CNT_REF : Nat := 0x03000C
def A.CMD_SRC (s : Nat) : Nat := 0x030020 + 0x4 * s
def A.CMD_GROUP (k : Nat) : Nat := 0x030040 + 0x4 * k
def A.RLN_ID : Nat := 0x0C0000
def A.RLN_CFG : Nat := 0x0C0004
def A.RLN_STAT : Nat := 0x0C0008
def A.RLN_POS : Nat := 0x0C000C
def A.RLN_CNT : Nat := 0x0C0010
def A.PWR_STATE : Nat := 0x0B0000
def A.PWR_CFG : Nat := 0x0B0004
def A.PWR_WAKE_EN : Nat := 0x0B0008
def A.PWR_TIMER : Nat := 0x0B000C
def A.PWR_WAKE_STAT : Nat := 0x0B0010
def A.PWR_PAD : Nat := 0x0B0014
def A.PWR_LAST_REFUSE : Nat := 0x0B0018
def A.PWR_REFUSE_CNT (r : Nat) : Nat := 0x0B0040 + 0x4 * r
def A.PWR_TIME (s : Nat) : Nat := 0x0B0080 + 0x4 * s
def A.THM_CFG : Nat := 0x0D0000
def A.THM_GLASS : Nat := 0x0D0004
def A.THM_NTC : Nat := 0x0D0008
def A.THM_XCHK : Nat := 0x0D000C
def A.THM_RATE : Nat := 0x0D0010
def A.THM_STAT : Nat := 0x0D0020
def A.THM_FAIL : Nat := 0x0D0024
def A.THM_CEIL (n : Nat) : Nat := 0x0D0040 + 0x4 * n
def A.THM_T (s : Nat) : Nat := 0x0D0100 + 0x4 * s
def A.SAF_UNLOCK : Nat := 0x0E0000
def A.SAF_STAT : Nat := 0x0E0004
def A.SAF_CFG : Nat := 0x0E0008
def A.SAF_TP : Nat := 0x0E000C
def A.SAF_FB : Nat := 0x0E0010
def A.SAF_CAP : Nat := 0x0E0014
def A.SAF_CAPI (n : Nat) : Nat := 0x0E0020 + 0x4 * n
def A.SAF_SHUNT : Nat := 0x0E003C
def A.SAF_BC_CFG : Nat := 0x0E0030
def A.SAF_BC_LOCAL : Nat := 0x0E0034
def A.SAF_BC_PEER : Nat := 0x0E0038
def A.SAF_BC_RX (w : Nat) : Nat := 0x0E0040 + 0x4 * w
def A.SAF_BC_TX (w : Nat) : Nat := 0x0E0050 + 0x4 * w
def A.SAF_BC_CNT : Nat := 0x0E0060
def A.SAF_CNT : Nat := 0x0E0064
def A.SAF_PARAM_CRC : Nat := 0x0E0068
def A.FLT_CFG : Nat := 0x0F0000
def A.FLT_STAT : Nat := 0x0F0004
def A.FLT_FIRST : Nat := 0x0F0008
def A.FLT_LATCH : Nat := 0x0F000C
def A.FLT_LATCH_SRC : Nat := 0x0F0010
def A.FLT_CNT_0 : Nat := 0x0F0014
def A.FLT_CNT_1 : Nat := 0x0F0018
def A.FLT_CNT_2 : Nat := 0x0F001C
def A.FLT_AVAIL_PRES : Nat := 0x0F0020
def A.FLT_AVAIL_LOST : Nat := 0x0F0024
def A.FLT_SRC (s : Nat) : Nat := 0x0F1000 + 0x4 * s
def A.CHK_SCAN_STAT : Nat := 0x100000
def A.CHK_SCAN_ADDR : Nat := 0x100004
def A.CHK_SCAN_VALUE : Nat := 0x100008
def A.CHK_SCAN_LAST : Nat := 0x10000C
def A.CHK_SELFTEST : Nat := 0x100010
def A.CHK_CH_CFG (c : Nat) : Nat := 0x100100 + 0x20 * c
def A.CHK_CH_VALUE (c : Nat) : Nat := 0x100104 + 0x20 * c
def A.CHK_CH_DATA_B (c : Nat) : Nat := 0x100108 + 0x20 * c
def A.CHK_CH_DATA_H (c : Nat) : Nat := 0x10010C + 0x20 * c
def A.CHK_CH_DATA_W (c : Nat) : Nat := 0x100110 + 0x20 * c
def A.CHK_CH_RESULT (c : Nat) : Nat := 0x100114 + 0x20 * c
def A.TUN_CFG : Nat := 0x110000
def A.TUN_STAT : Nat := 0x110004
def A.TUN_REF : Nat := 0x110008
def A.TUN_CNT : Nat := 0x11000C
def A.TUN_SRC_ADDR : Nat := 0x110010
def A.TUN_ADC (n g : Nat) : Nat := 0x110100 + 0x100 * n + 0x4 * g
def A.TUN_RAMP (n h : Nat) : Nat := 0x110500 + 0x10 * n + 0x4 * h
def A.UPD_STAT : Nat := 0x120000
def A.UPD_CFG : Nat := 0x120004
def A.UPD_RUN_VER : Nat := 0x120008
def A.UPD_STAGED_VER : Nat := 0x12000C
def A.UPD_BOOT : Nat := 0x120010
def A.UPD_DATA_FMT : Nat := 0x120014
def A.UPD_CNT : Nat := 0x120018
def A.SYS_LIFECYCLE : Nat := 0x000004
def A.SYS_RESET_CAUSE : Nat := 0x000008
def A.SYS_RESET_REQ : Nat := 0x00000C
def A.SYS_SERIAL_LO : Nat := 0x000018
def A.SYS_SERIAL_HI : Nat := 0x00001C
def A.SYS_LC_NONCE_LO : Nat := 0x000020
def A.SYS_LC_NONCE_HI : Nat := 0x000024
def A.SYS_PRAIL_CFG : Nat := 0x000030
def A.SYS_PRAIL_STAT : Nat := 0x000034
def A.SYS_START : Nat := 0x000038

/-! SYS_PART (01_architecture.md) -/
def F.SYS_PART.PART_CODE : Fld := ⟨A.SYS_PART, 16, 16, .ro, 0xA71E⟩
def F.SYS_PART.GRADE : Fld := ⟨A.SYS_PART, 12, 4, .ro, 0x0⟩
def F.SYS_PART.STEPPING : Fld := ⟨A.SYS_PART, 8, 4, .ro, 0x0⟩
def F.SYS_PART.SOURCE_DIES : Fld := ⟨A.SYS_PART, 4, 4, .ro, 0x4⟩
/-! SYS_ISLAND_STAT (01_architecture.md) -/
def F.SYS_ISLAND_STAT.QBR_UP : Fld := ⟨A.SYS_ISLAND_STAT, 12, 4, .ro, 0x0⟩
def F.SYS_ISLAND_STAT.QCLK : Fld := ⟨A.SYS_ISLAND_STAT, 8, 4, .ro, 0x0⟩
def F.SYS_ISLAND_STAT.AON_CLK : Fld := ⟨A.SYS_ISLAND_STAT, 5, 1, .ro, 0x1⟩
def F.SYS_ISLAND_STAT.SAFE_CLK : Fld := ⟨A.SYS_ISLAND_STAT, 4, 1, .ro, 0x0⟩
def F.SYS_ISLAND_STAT.CORE_CLK : Fld := ⟨A.SYS_ISLAND_STAT, 3, 1, .ro, 0x1⟩
def F.SYS_ISLAND_STAT.MEM_CLK : Fld := ⟨A.SYS_ISLAND_STAT, 2, 1, .ro, 0x0⟩
def F.SYS_ISLAND_STAT.PIX_CLK : Fld := ⟨A.SYS_ISLAND_STAT, 1, 1, .ro, 0x0⟩
def F.SYS_ISLAND_STAT.LNK_CLK : Fld := ⟨A.SYS_ISLAND_STAT, 0, 1, .ro, 0x0⟩
/-! SYS_QBR_ERR (01_architecture.md) -/
def F.SYS_QBR_ERR.RETRY_Q3 : Fld := ⟨A.SYS_QBR_ERR, 24, 8, .rc, 0x0⟩
def F.SYS_QBR_ERR.RETRY_Q2 : Fld := ⟨A.SYS_QBR_ERR, 16, 8, .rc, 0x0⟩
def F.SYS_QBR_ERR.RETRY_Q1 : Fld := ⟨A.SYS_QBR_ERR, 8, 8, .rc, 0x0⟩
def F.SYS_QBR_ERR.RETRY_Q0 : Fld := ⟨A.SYS_QBR_ERR, 0, 8, .rc, 0x0⟩
/-! PIX_CANVAS (02_canvas_and_presentation.md) -/
def F.PIX_CANVAS.CAPTURE_EN : Fld := ⟨A.PIX_CANVAS, 31, 1, .rws, 0x0⟩
def F.PIX_CANVAS.LIN_BANK : Fld := ⟨A.PIX_CANVAS, 4, 1, .rws, 0x0⟩
def F.PIX_CANVAS.FMT : Fld := ⟨A.PIX_CANVAS, 0, 4, .rws, 0x1⟩
/-! PIX_CANVAS_SIZE (02_canvas_and_presentation.md) -/
def F.PIX_CANVAS_SIZE.HEIGHT : Fld := ⟨A.PIX_CANVAS_SIZE, 16, 16, .rws, 0x400⟩
def F.PIX_CANVAS_SIZE.WIDTH : Fld := ⟨A.PIX_CANVAS_SIZE, 0, 16, .rws, 0x400⟩
/-! PIX_WIN (02_canvas_and_presentation.md) -/
def F.PIX_WIN.QSCALE : Fld := ⟨A.PIX_WIN, 8, 8, .rws, 0x0⟩
def F.PIX_WIN.QUAD_SEP : Fld := ⟨A.PIX_WIN, 2, 1, .rws, 0x0⟩
def F.PIX_WIN.SCALE : Fld := ⟨A.PIX_WIN, 0, 2, .rws, 0x0⟩
/-! PIX_WIN_ORG (02_canvas_and_presentation.md) -/
def F.PIX_WIN_ORG.Y0 : Fld := ⟨A.PIX_WIN_ORG, 16, 16, .rws, 0x0⟩
def F.PIX_WIN_ORG.X0 : Fld := ⟨A.PIX_WIN_ORG, 0, 16, .rws, 0x0⟩
/-! PIX_QWIN_n (02_canvas_and_presentation.md) -/
def F.PIX_QWIN.Y (n : Nat) : Fld := ⟨A.PIX_QWIN n, 16, 16, .rws, 0x0⟩
def F.PIX_QWIN.X (n : Nat) : Fld := ⟨A.PIX_QWIN n, 0, 16, .rws, 0x0⟩
/-! PIX_LIN_BUILD (02_canvas_and_presentation.md) -/
def F.PIX_LIN_BUILD.PEAK : Fld := ⟨A.PIX_LIN_BUILD, 16, 16, .rw, 0x3E8⟩
def F.PIX_LIN_BUILD.RANGE : Fld := ⟨A.PIX_LIN_BUILD, 3, 1, .rw, 0x0⟩
def F.PIX_LIN_BUILD.TF : Fld := ⟨A.PIX_LIN_BUILD, 0, 3, .rw, 0x0⟩
/-! PIX_LIN_SRC (02_canvas_and_presentation.md) -/
def F.PIX_LIN_SRC.ADDR : Fld := ⟨A.PIX_LIN_SRC, 0, 32, .rwi, 0x1C000000⟩
/-! PIX_LIN_CMD (02_canvas_and_presentation.md) -/
def F.PIX_LIN_CMD.LOAD : Fld := ⟨A.PIX_LIN_CMD, 1, 1, .wo, 0x0⟩
def F.PIX_LIN_CMD.BUILD : Fld := ⟨A.PIX_LIN_CMD, 0, 1, .wo, 0x0⟩
/-! PIX_LIN_STAT (02_canvas_and_presentation.md) -/
def F.PIX_LIN_STAT.INACTIVE_VALID : Fld := ⟨A.PIX_LIN_STAT, 9, 1, .ro, 0x0⟩
def F.PIX_LIN_STAT.ACTIVE_BANK : Fld := ⟨A.PIX_LIN_STAT, 8, 1, .ro, 0x0⟩
def F.PIX_LIN_STAT.ERR : Fld := ⟨A.PIX_LIN_STAT, 4, 4, .ro, 0x0⟩
def F.PIX_LIN_STAT.DONE : Fld := ⟨A.PIX_LIN_STAT, 1, 1, .w1c, 0x0⟩
def F.PIX_LIN_STAT.BUSY : Fld := ⟨A.PIX_LIN_STAT, 0, 1, .ro, 0x0⟩
/-! PIX_CMX_Qn_k (02_canvas_and_presentation.md) -/
def F.PIX_CMX.COEF (n k : Nat) : Fld := ⟨A.PIX_CMX n k, 0, 18, .rws, 0x0⟩
/-! PIX_HOLD (02_canvas_and_presentation.md) -/
def F.PIX_HOLD.MAX_FRAMES : Fld := ⟨A.PIX_HOLD, 8, 8, .rw, 0x18⟩
def F.PIX_HOLD.MAX_HELD : Fld := ⟨A.PIX_HOLD, 0, 7, .rw, 0x40⟩
/-! PIX_FALLBACK (02_canvas_and_presentation.md) -/
def F.PIX_FALLBACK.PLANES : Fld := ⟨A.PIX_FALLBACK, 8, 8, .rws, 0x0⟩
def F.PIX_FALLBACK.MODE : Fld := ⟨A.PIX_FALLBACK, 0, 1, .rws, 0x0⟩
/-! PIX_FALLBACK_COLOUR (02_canvas_and_presentation.md) -/
def F.PIX_FALLBACK_COLOUR.BLUE : Fld := ⟨A.PIX_FALLBACK_COLOUR, 20, 10, .rws, 0x0⟩
def F.PIX_FALLBACK_COLOUR.GREEN : Fld := ⟨A.PIX_FALLBACK_COLOUR, 10, 10, .rws, 0x0⟩
def F.PIX_FALLBACK_COLOUR.RED : Fld := ⟨A.PIX_FALLBACK_COLOUR, 0, 10, .rws, 0x0⟩
/-! PIX_OVL_CTRL_n (02_canvas_and_presentation.md) -/
def F.PIX_OVL_CTRL.EN (n : Nat) : Fld := ⟨A.PIX_OVL_CTRL n, 0, 1, .rws, 0x0⟩
/-! PIX_OVL_ADDR_n (02_canvas_and_presentation.md) -/
def F.PIX_OVL_ADDR.OFFSET (n : Nat) : Fld := ⟨A.PIX_OVL_ADDR n, 0, 26, .rws, 0x0⟩
/-! PIX_OVL_POS_n (02_canvas_and_presentation.md) -/
def F.PIX_OVL_POS.Y (n : Nat) : Fld := ⟨A.PIX_OVL_POS n, 16, 10, .rws, 0x0⟩
def F.PIX_OVL_POS.X (n : Nat) : Fld := ⟨A.PIX_OVL_POS n, 0, 10, .rws, 0x0⟩
/-! PIX_OVL_SIZE_n (02_canvas_and_presentation.md) -/
def F.PIX_OVL_SIZE.HEIGHT (n : Nat) : Fld := ⟨A.PIX_OVL_SIZE n, 16, 11, .rws, 0x0⟩
def F.PIX_OVL_SIZE.WIDTH (n : Nat) : Fld := ⟨A.PIX_OVL_SIZE n, 0, 11, .rws, 0x0⟩
/-! PIX_OVL_SAVE (02_canvas_and_presentation.md) -/
def F.PIX_OVL_SAVE.BUSY : Fld := ⟨A.PIX_OVL_SAVE, 8, 1, .ro, 0x0⟩
def F.PIX_OVL_SAVE.RESTORE : Fld := ⟨A.PIX_OVL_SAVE, 1, 1, .wo, 0x0⟩
def F.PIX_OVL_SAVE.SAVE : Fld := ⟨A.PIX_OVL_SAVE, 0, 1, .wo, 0x0⟩
/-! PIX_PAL_n_e_A (02_canvas_and_presentation.md) -/
def F.PIX_PAL_A.ALPHA (n e : Nat) : Fld := ⟨A.PIX_PAL_A n e, 24, 8, .rws, 0x0⟩
def F.PIX_PAL_A.RED (n e : Nat) : Fld := ⟨A.PIX_PAL_A n e, 0, 20, .rws, 0x0⟩
/-! PIX_PAL_n_e_G (02_canvas_and_presentation.md) -/
def F.PIX_PAL_G.GREEN (n e : Nat) : Fld := ⟨A.PIX_PAL_G n e, 0, 20, .rws, 0x0⟩
/-! PIX_PAL_n_e_B (02_canvas_and_presentation.md) -/
def F.PIX_PAL_B.BLUE (n e : Nat) : Fld := ⟨A.PIX_PAL_B n e, 0, 20, .rws, 0x0⟩
/-! PIX_FB_STAT (02_canvas_and_presentation.md) -/
def F.PIX_FB_STAT.CAPTURE_PORT : Fld := ⟨A.PIX_FB_STAT, 16, 4, .ro, 0xF⟩
def F.PIX_FB_STAT.HOLDING : Fld := ⟨A.PIX_FB_STAT, 13, 1, .ro, 0x0⟩
def F.PIX_FB_STAT.FALLBACK : Fld := ⟨A.PIX_FB_STAT, 12, 1, .ro, 0x1⟩
def F.PIX_FB_STAT.BUF : Fld := ⟨A.PIX_FB_STAT, 0, 12, .ro, 0x0⟩
/-! PIX_FRAME_NO (02_canvas_and_presentation.md) -/
def F.PIX_FRAME_NO.FILLING : Fld := ⟨A.PIX_FRAME_NO, 16, 16, .ro, 0x0⟩
def F.PIX_FRAME_NO.SHOWN : Fld := ⟨A.PIX_FRAME_NO, 0, 16, .ro, 0x0⟩
/-! PIX_COMMIT_FRAME (02_canvas_and_presentation.md) -/
def F.PIX_COMMIT_FRAME.FRAME_NO : Fld := ⟨A.PIX_COMMIT_FRAME, 0, 16, .ro, 0x0⟩
/-! PIX_CNT_SEG (02_canvas_and_presentation.md) -/
def F.PIX_CNT_SEG.FRAMES_FILLED : Fld := ⟨A.PIX_CNT_SEG, 16, 16, .rc, 0x0⟩
def F.PIX_CNT_SEG.SEG_BAD : Fld := ⟨A.PIX_CNT_SEG, 0, 16, .rc, 0x0⟩
/-! PIX_CNT_FRAME (02_canvas_and_presentation.md) -/
def F.PIX_CNT_FRAME.FALLBACK_ENTRIES : Fld := ⟨A.PIX_CNT_FRAME, 24, 8, .rc, 0x0⟩
def F.PIX_CNT_FRAME.REJECTED : Fld := ⟨A.PIX_CNT_FRAME, 16, 8, .rc, 0x0⟩
def F.PIX_CNT_FRAME.LATE : Fld := ⟨A.PIX_CNT_FRAME, 8, 8, .rc, 0x0⟩
def F.PIX_CNT_FRAME.HELD : Fld := ⟨A.PIX_CNT_FRAME, 0, 8, .rc, 0x0⟩
/-! PIX_HELD_PIXELS (02_canvas_and_presentation.md) -/
def F.PIX_HELD_PIXELS.LAST : Fld := ⟨A.PIX_HELD_PIXELS, 0, 20, .ro, 0x0⟩
/-! CMP_TBL_SRC (03_compensation_and_concealment.md) -/
def F.CMP_TBL_SRC.ADDR : Fld := ⟨A.CMP_TBL_SRC, 0, 32, .rwi, 0x20000000⟩
/-! CMP_TBL_CMD (03_compensation_and_concealment.md) -/
def F.CMP_TBL_CMD.REVERT : Fld := ⟨A.CMP_TBL_CMD, 1, 1, .wo, 0x0⟩
def F.CMP_TBL_CMD.ACTIVATE : Fld := ⟨A.CMP_TBL_CMD, 0, 1, .wo, 0x0⟩
/-! CMP_TBL_STAT (03_compensation_and_concealment.md) -/
def F.CMP_TBL_STAT.SLIDE_POS : Fld := ⟨A.CMP_TBL_STAT, 16, 16, .ro, 0x0⟩
def F.CMP_TBL_STAT.ERR : Fld := ⟨A.CMP_TBL_STAT, 12, 4, .ro, 0x0⟩
def F.CMP_TBL_STAT.FLASH_CUR : Fld := ⟨A.CMP_TBL_STAT, 9, 1, .ro, 0x0⟩
def F.CMP_TBL_STAT.SAVED : Fld := ⟨A.CMP_TBL_STAT, 8, 1, .ro, 0x1⟩
def F.CMP_TBL_STAT.ACTIVE_COPY : Fld := ⟨A.CMP_TBL_STAT, 4, 1, .ro, 0x0⟩
def F.CMP_TBL_STAT.STATE : Fld := ⟨A.CMP_TBL_STAT, 0, 3, .ro, 0x0⟩
/-! CMP_TBL_ID (03_compensation_and_concealment.md) -/
def F.CMP_TBL_ID.TABLE_ID : Fld := ⟨A.CMP_TBL_ID, 0, 32, .ro, 0x0⟩
/-! CMP_SLIDE (03_compensation_and_concealment.md) -/
def F.CMP_SLIDE.LOG2_FRAMES : Fld := ⟨A.CMP_SLIDE, 0, 4, .rw, 0x8⟩
/-! CMP_AGE_CFG (03_compensation_and_concealment.md) -/
def F.CMP_AGE_CFG.TRACK : Fld := ⟨A.CMP_AGE_CFG, 8, 1, .rw, 0x1⟩
def F.CMP_AGE_CFG.INTERVAL : Fld := ⟨A.CMP_AGE_CFG, 0, 8, .rw, 0x20⟩
/-! CMP_AGE_CHK (03_compensation_and_concealment.md) -/
def F.CMP_AGE_CHK.LIMIT : Fld := ⟨A.CMP_AGE_CHK, 16, 16, .rw, 0xC8⟩
def F.CMP_AGE_CHK.DEADBAND : Fld := ⟨A.CMP_AGE_CHK, 0, 16, .rw, 0x14⟩
/-! CMP_STRESS_STAT (03_compensation_and_concealment.md) -/
def F.CMP_STRESS_STAT.FORCE_SAVE : Fld := ⟨A.CMP_STRESS_STAT, 31, 1, .wo, 0x0⟩
def F.CMP_STRESS_STAT.SAVING : Fld := ⟨A.CMP_STRESS_STAT, 30, 1, .ro, 0x0⟩
def F.CMP_STRESS_STAT.REGION : Fld := ⟨A.CMP_STRESS_STAT, 28, 2, .ro, 0x0⟩
def F.CMP_STRESS_STAT.UNSAVED : Fld := ⟨A.CMP_STRESS_STAT, 0, 16, .ro, 0x0⟩
/-! CMP_AGE_Qn_c (03_compensation_and_concealment.md) -/
def F.CMP_AGE.KAPPA (n c : Nat) : Fld := ⟨A.CMP_AGE n c, 16, 13, .ro, 0x0⟩
def F.CMP_AGE.FACTOR (n c : Nat) : Fld := ⟨A.CMP_AGE n c, 0, 16, .ro, 0x8000⟩
/-! CMP_DEF_CFG (03_compensation_and_concealment.md) -/
def F.CMP_DEF_CFG.STUCK_LIMIT : Fld := ⟨A.CMP_DEF_CFG, 24, 8, .rw, 0x0⟩
def F.CMP_DEF_CFG.AUTO : Fld := ⟨A.CMP_DEF_CFG, 16, 1, .rw, 0x1⟩
def F.CMP_DEF_CFG.ACT_AGE : Fld := ⟨A.CMP_DEF_CFG, 10, 2, .rw, 0x0⟩
def F.CMP_DEF_CFG.ACT_WEAK : Fld := ⟨A.CMP_DEF_CFG, 8, 2, .rw, 0x0⟩
def F.CMP_DEF_CFG.ACT_DIM : Fld := ⟨A.CMP_DEF_CFG, 6, 2, .rw, 0x0⟩
def F.CMP_DEF_CFG.ACT_STUCK : Fld := ⟨A.CMP_DEF_CFG, 4, 2, .rw, 0x2⟩
def F.CMP_DEF_CFG.ACT_SHORT : Fld := ⟨A.CMP_DEF_CFG, 2, 2, .rw, 0x1⟩
def F.CMP_DEF_CFG.ACT_OPEN : Fld := ⟨A.CMP_DEF_CFG, 0, 2, .rw, 0x1⟩
/-! CMP_DEF_STAT (03_compensation_and_concealment.md) -/
def F.CMP_DEF_STAT.OVERFLOW : Fld := ⟨A.CMP_DEF_STAT, 16, 16, .rc, 0x0⟩
def F.CMP_DEF_STAT.COUNT : Fld := ⟨A.CMP_DEF_STAT, 0, 15, .ro, 0x0⟩
/-! CMP_CONCEAL (03_compensation_and_concealment.md) -/
def F.CMP_CONCEAL.EN : Fld := ⟨A.CMP_CONCEAL, 31, 1, .rws, 0x1⟩
def F.CMP_CONCEAL.LIMIT : Fld := ⟨A.CMP_CONCEAL, 0, 20, .rws, 0xFFFFF⟩
/-! CMP_CONCEAL_STAT (03_compensation_and_concealment.md) -/
def F.CMP_CONCEAL_STAT.LIMITED_LAST : Fld := ⟨A.CMP_CONCEAL_STAT, 16, 16, .ro, 0x0⟩
def F.CMP_CONCEAL_STAT.FRAMES_LIMITED : Fld := ⟨A.CMP_CONCEAL_STAT, 0, 16, .rc, 0x0⟩
/-! HYB_KNEE_c (04_hybrid_encoding.md) -/
def F.HYB_KNEE.KNEE (c : Nat) : Fld := ⟨A.HYB_KNEE c, 0, 20, .rws, 0x8000⟩
/-! HYB_SWEEP (04_hybrid_encoding.md) -/
def F.HYB_SWEEP.LOG2_S : Fld := ⟨A.HYB_SWEEP, 0, 3, .rws, 0x4⟩
/-! HYB_BLEND (04_hybrid_encoding.md) -/
def F.HYB_BLEND.WIDTH : Fld := ⟨A.HYB_BLEND, 0, 5, .rws, 0x8⟩
/-! HYB_DITHER (04_hybrid_encoding.md) -/
def F.HYB_DITHER.COLOUR_ROT : Fld := ⟨A.HYB_DITHER, 1, 1, .rws, 0x1⟩
def F.HYB_DITHER.EN : Fld := ⟨A.HYB_DITHER, 0, 1, .rws, 0x1⟩
/-! HYB_STAT (04_hybrid_encoding.md) -/
def F.HYB_STAT.KNEE_CLAMPED : Fld := ⟨A.HYB_STAT, 12, 3, .ro, 0x0⟩
def F.HYB_STAT.PHASE : Fld := ⟨A.HYB_STAT, 8, 2, .ro, 0x0⟩
def F.HYB_STAT.LADDER_BANK : Fld := ⟨A.HYB_STAT, 5, 1, .ro, 0x0⟩
def F.HYB_STAT.LADDER_BUSY : Fld := ⟨A.HYB_STAT, 4, 1, .ro, 0x0⟩
def F.HYB_STAT.S_LIMITED : Fld := ⟨A.HYB_STAT, 3, 1, .ro, 0x0⟩
def F.HYB_STAT.S_IN_USE : Fld := ⟨A.HYB_STAT, 0, 3, .ro, 0x4⟩
/-! HYB_ECC (04_hybrid_encoding.md) -/
def F.HYB_ECC.UNCORR : Fld := ⟨A.HYB_ECC, 16, 16, .rc, 0x0⟩
def F.HYB_ECC.CORR : Fld := ⟨A.HYB_ECC, 0, 16, .rc, 0x0⟩
/-! HYB_KNEE_CODE_c (04_hybrid_encoding.md) -/
def F.HYB_KNEE_CODE.NMAX (c : Nat) : Fld := ⟨A.HYB_KNEE_CODE c, 16, 8, .ro, 0x21⟩
def F.HYB_KNEE_CODE.N0 (c : Nat) : Fld := ⟨A.HYB_KNEE_CODE c, 8, 8, .ro, 0x14⟩
def F.HYB_KNEE_CODE.NMIN (c : Nat) : Fld := ⟨A.HYB_KNEE_CODE c, 0, 8, .ro, 0x0⟩
/-! HYB_LAD_c_a (04_hybrid_encoding.md) -/
def F.HYB_LAD.LIGHT (c a : Nat) : Fld := ⟨A.HYB_LAD c a, 0, 20, .ro, 0x0⟩
/-! SCN_QCFG (05_quadrant_scan.md) -/
def F.SCN_QCFG.SUBPX_ORDER (q : Nat) : Fld := ⟨A.SCN_QCFG q, 2, 1, .rwi, 0x0⟩
def F.SCN_QCFG.COL_MIRROR (q : Nat) : Fld := ⟨A.SCN_QCFG q, 1, 1, .rwi, 0x0⟩
def F.SCN_QCFG.SCAN_DIR (q : Nat) : Fld := ⟨A.SCN_QCFG q, 0, 1, .rwi, 0x0⟩
/-! SCN_AMP_c (05_quadrant_scan.md) -/
def F.SCN_AMP.FULL_SCALE (q c : Nat) : Fld := ⟨A.SCN_AMP q c, 0, 16, .rws, 0x8000⟩
/-! SCN_LBUF (05_quadrant_scan.md) -/
def F.SCN_LBUF.URGENT (q : Nat) : Fld := ⟨A.SCN_LBUF q, 16, 1, .ro, 0x0⟩
def F.SCN_LBUF.LEVEL (q : Nat) : Fld := ⟨A.SCN_LBUF q, 8, 4, .ro, 0x0⟩
def F.SCN_LBUF.WATERMARK (q : Nat) : Fld := ⟨A.SCN_LBUF q, 0, 3, .rw, 0x3⟩
/-! SCN_UNDERRUN (05_quadrant_scan.md) -/
def F.SCN_UNDERRUN.LAST_LINE (q : Nat) : Fld := ⟨A.SCN_UNDERRUN q, 16, 9, .ro, 0x0⟩
def F.SCN_UNDERRUN.COUNT (q : Nat) : Fld := ⟨A.SCN_UNDERRUN q, 0, 16, .rc, 0x0⟩
/-! SCN_RB_CFG (05_quadrant_scan.md) -/
def F.SCN_RB_CFG.RAMP_TOL (q : Nat) : Fld := ⟨A.SCN_RB_CFG q, 24, 8, .rw, 0x32⟩
def F.SCN_RB_CFG.TOL (q : Nat) : Fld := ⟨A.SCN_RB_CFG q, 8, 8, .rw, 0x19⟩
def F.SCN_RB_CFG.FAIL_N (q : Nat) : Fld := ⟨A.SCN_RB_CFG q, 4, 4, .rw, 0x3⟩
def F.SCN_RB_CFG.SRC_DARK (q : Nat) : Fld := ⟨A.SCN_RB_CFG q, 1, 1, .rw, 0x0⟩
def F.SCN_RB_CFG.EN (q : Nat) : Fld := ⟨A.SCN_RB_CFG q, 0, 1, .rw, 0x1⟩
/-! SCN_RB_STAT (05_quadrant_scan.md) -/
def F.SCN_RB_STAT.SRC_FAIL (q : Nat) : Fld := ⟨A.SCN_RB_STAT q, 31, 1, .ro, 0x0⟩
def F.SCN_RB_STAT.GATE_FAIL (q : Nat) : Fld := ⟨A.SCN_RB_STAT q, 30, 1, .ro, 0x0⟩
def F.SCN_RB_STAT.FAILED_OUT (q : Nat) : Fld := ⟨A.SCN_RB_STAT q, 16, 11, .ro, 0x0⟩
def F.SCN_RB_STAT.SIGNAL (q : Nat) : Fld := ⟨A.SCN_RB_STAT q, 8, 4, .ro, 0x0⟩
def F.SCN_RB_STAT.FAILED_COUNT (q : Nat) : Fld := ⟨A.SCN_RB_STAT q, 0, 8, .ro, 0x0⟩
/-! SCN_EE_STAT (05_quadrant_scan.md) -/
def F.SCN_EE_STAT.ERR (q : Nat) : Fld := ⟨A.SCN_EE_STAT q, 28, 4, .ro, 0x0⟩
def F.SCN_EE_STAT.VALID (q : Nat) : Fld := ⟨A.SCN_EE_STAT q, 8, 1, .ro, 0x0⟩
def F.SCN_EE_STAT.QUAD (q : Nat) : Fld := ⟨A.SCN_EE_STAT q, 0, 8, .ro, 0x0⟩
/-! SCN_EE_SERIAL_LO (05_quadrant_scan.md) -/
def F.SCN_EE_SERIAL_LO.SERIAL (q : Nat) : Fld := ⟨A.SCN_EE_SERIAL_LO q, 0, 32, .ro, 0x0⟩
/-! SCN_EE_SERIAL_HI (05_quadrant_scan.md) -/
def F.SCN_EE_SERIAL_HI.SERIAL (q : Nat) : Fld := ⟨A.SCN_EE_SERIAL_HI q, 0, 32, .ro, 0x0⟩
/-! SCN_TIMING (05_quadrant_scan.md) -/
def F.SCN_TIMING.SENSE_PAUSE : Fld := ⟨A.SCN_TIMING, 16, 1, .rws, 0x0⟩
def F.SCN_TIMING.BLANK : Fld := ⟨A.SCN_TIMING, 0, 9, .rws, 0x20⟩
/-! SCN_PERIOD (05_quadrant_scan.md) -/
def F.SCN_PERIOD.PERIOD_NS : Fld := ⟨A.SCN_PERIOD, 0, 32, .rws, 0x7F2815⟩
/-! SCN_PERIOD_NOW (05_quadrant_scan.md) -/
def F.SCN_PERIOD_NOW.PERIOD_NS : Fld := ⟨A.SCN_PERIOD_NOW, 0, 32, .ro, 0x7F2815⟩
/-! SCN_TSTAT (05_quadrant_scan.md) -/
def F.SCN_TSTAT.BLANK_LIMITED : Fld := ⟨A.SCN_TSTAT, 17, 1, .ro, 0x0⟩
def F.SCN_TSTAT.SLEWING : Fld := ⟨A.SCN_TSTAT, 16, 1, .ro, 0x0⟩
def F.SCN_TSTAT.SLOTS : Fld := ⟨A.SCN_TSTAT, 12, 2, .ro, 0x2⟩
def F.SCN_TSTAT.BLANK_IN_USE : Fld := ⟨A.SCN_TSTAT, 0, 9, .ro, 0x20⟩
/-! SCN_LINE_NOW (05_quadrant_scan.md) -/
def F.SCN_LINE_NOW.LINE_NS : Fld := ⟨A.SCN_LINE_NOW, 0, 17, .ro, 0x3BD6⟩
/-! SCN_STAT (05_quadrant_scan.md) -/
def F.SCN_STAT.LOCKED : Fld := ⟨A.SCN_STAT, 1, 1, .ro, 0x0⟩
def F.SCN_STAT.COMMIT_LATE : Fld := ⟨A.SCN_STAT, 0, 1, .w1c, 0x0⟩
/-! SCN_I2C (05_quadrant_scan.md) -/
def F.SCN_I2C.BUSY : Fld := ⟨A.SCN_I2C, 9, 1, .ro, 0x0⟩
def F.SCN_I2C.EE_READ : Fld := ⟨A.SCN_I2C, 8, 1, .wo, 0x0⟩
def F.SCN_I2C.FAST : Fld := ⟨A.SCN_I2C, 0, 1, .rw, 0x1⟩
/-! SCN_GLASS_ID_LO (05_quadrant_scan.md) -/
def F.SCN_GLASS_ID_LO.ID : Fld := ⟨A.SCN_GLASS_ID_LO, 0, 32, .ro, 0x0⟩
/-! SCN_GLASS_ID_HI (05_quadrant_scan.md) -/
def F.SCN_GLASS_ID_HI.ID : Fld := ⟨A.SCN_GLASS_ID_HI, 0, 32, .ro, 0x0⟩
/-! SNS_CFG (06_subpixel_sensing.md) -/
def F.SNS_CFG.ITEST : Fld := ⟨A.SNS_CFG, 16, 5, .rws, 0x4⟩
def F.SNS_CFG.OPEN_DV : Fld := ⟨A.SNS_CFG, 0, 8, .rw, 0x10⟩
/-! SNS_THR_V (06_subpixel_sensing.md) -/
def F.SNS_THR_V.OPEN_V : Fld := ⟨A.SNS_THR_V, 16, 16, .rw, 0x1450⟩
def F.SNS_THR_V.SHORT_V : Fld := ⟨A.SNS_THR_V, 0, 16, .rw, 0x3E8⟩
/-! SNS_THR_D (06_subpixel_sensing.md) -/
def F.SNS_THR_D.STUCK_DV : Fld := ⟨A.SNS_THR_D, 16, 16, .rw, 0xFA⟩
def F.SNS_THR_D.DIM_DV : Fld := ⟨A.SNS_THR_D, 0, 16, .rw, 0x96⟩
/-! SNS_THR_S (06_subpixel_sensing.md) -/
def F.SNS_THR_S.STUCK_V0 : Fld := ⟨A.SNS_THR_S, 16, 16, .rw, 0x708⟩
def F.SNS_THR_S.WEAK_DV : Fld := ⟨A.SNS_THR_S, 0, 16, .rw, 0x258⟩
/-! SNS_TC_c (06_subpixel_sensing.md) -/
def F.SNS_TC.TC (c : Nat) : Fld := ⟨A.SNS_TC c, 0, 16, .rw, 0x0⟩
/-! SNS_ISNS_CFG (06_subpixel_sensing.md) -/
def F.SNS_ISNS_CFG.EN : Fld := ⟨A.SNS_ISNS_CFG, 31, 1, .rw, 0x1⟩
def F.SNS_ISNS_CFG.PERSIST : Fld := ⟨A.SNS_ISNS_CFG, 24, 4, .rw, 0x4⟩
def F.SNS_ISNS_CFG.REL : Fld := ⟨A.SNS_ISNS_CFG, 16, 8, .rw, 0x5⟩
def F.SNS_ISNS_CFG.ABS : Fld := ⟨A.SNS_ISNS_CFG, 8, 8, .rw, 0xA⟩
/-! SNS_ISNS_SHUNT (06_subpixel_sensing.md) -/
def F.SNS_ISNS_SHUNT.SHUNT : Fld := ⟨A.SNS_ISNS_SHUNT, 0, 16, .rw, 0x1F4⟩
/-! SNS_ISNS_Qn (06_subpixel_sensing.md) -/
def F.SNS_ISNS_Q.RESID (n : Nat) : Fld := ⟨A.SNS_ISNS_Q n, 16, 16, .ro, 0x0⟩
def F.SNS_ISNS_Q.MEAS (n : Nat) : Fld := ⟨A.SNS_ISNS_Q n, 0, 16, .ro, 0x0⟩
/-! SNS_QSTAT_n (06_subpixel_sensing.md) -/
def F.SNS_QSTAT.OFF (n : Nat) : Fld := ⟨A.SNS_QSTAT n, 31, 1, .ro, 0x1⟩
def F.SNS_QSTAT.BURST (n : Nat) : Fld := ⟨A.SNS_QSTAT n, 30, 1, .ro, 0x0⟩
def F.SNS_QSTAT.MANDATORY (n : Nat) : Fld := ⟨A.SNS_QSTAT n, 29, 1, .ro, 0x0⟩
def F.SNS_QSTAT.ADC_FAILED (n : Nat) : Fld := ⟨A.SNS_QSTAT n, 16, 8, .ro, 0x0⟩
def F.SNS_QSTAT.SWEEP_POS (n : Nat) : Fld := ⟨A.SNS_QSTAT n, 0, 14, .ro, 0x0⟩
/-! SNS_SWEEP (06_subpixel_sensing.md) -/
def F.SNS_SWEEP.MAX : Fld := ⟨A.SNS_SWEEP, 16, 16, .rc, 0x0⟩
def F.SNS_SWEEP.LAST : Fld := ⟨A.SNS_SWEEP, 0, 16, .ro, 0x0⟩
/-! SNS_CNT (06_subpixel_sensing.md) -/
def F.SNS_CNT.CONFIRMED : Fld := ⟨A.SNS_CNT, 16, 16, .rc, 0x0⟩
def F.SNS_CNT.DROPPED : Fld := ⟨A.SNS_CNT, 0, 16, .rc, 0x0⟩
/-! SNS_REQ (06_subpixel_sensing.md) -/
def F.SNS_REQ.DONE_SEQ : Fld := ⟨A.SNS_REQ, 16, 16, .ro, 0x0⟩
def F.SNS_REQ.QUEUED : Fld := ⟨A.SNS_REQ, 0, 9, .ro, 0x0⟩
/-! SNS_RESULT_ADDR (06_subpixel_sensing.md) -/
def F.SNS_RESULT_ADDR.ADDR : Fld := ⟨A.SNS_RESULT_ADDR, 0, 32, .ro, 0xE000000⟩
/-! SNS_BASE_ADDR (06_subpixel_sensing.md) -/
def F.SNS_BASE_ADDR.ADDR : Fld := ⟨A.SNS_BASE_ADDR, 0, 32, .ro, 0xE800000⟩
/-! SNS_BASE_Tn (06_subpixel_sensing.md) -/
def F.SNS_BASE_T.VALID (n : Nat) : Fld := ⟨A.SNS_BASE_T n, 31, 1, .ro, 0x0⟩
def F.SNS_BASE_T.ITEST (n : Nat) : Fld := ⟨A.SNS_BASE_T n, 16, 5, .ro, 0x0⟩
def F.SNS_BASE_T.TREF (n : Nat) : Fld := ⟨A.SNS_BASE_T n, 0, 16, .ro, 0x0⟩
/-! SNS_ADC_FAIL_Qn_LO (06_subpixel_sensing.md) -/
def F.SNS_ADC_FAIL_LO.FAIL (n : Nat) : Fld := ⟨A.SNS_ADC_FAIL_LO n, 0, 32, .ro, 0x0⟩
/-! SNS_ADC_FAIL_Qn_HI (06_subpixel_sensing.md) -/
def F.SNS_ADC_FAIL_HI.FAIL (n : Nat) : Fld := ⟨A.SNS_ADC_FAIL_HI n, 0, 32, .ro, 0x0⟩
/-! GOV_CFG (07_budget_governor.md) -/
def F.GOV_CFG.RISE : Fld := ⟨A.GOV_CFG, 16, 16, .rw, 0x100⟩
def F.GOV_CFG.MARGIN : Fld := ⟨A.GOV_CFG, 8, 8, .rw, 0xA⟩
def F.GOV_CFG.EN : Fld := ⟨A.GOV_CFG, 0, 1, .rw, 0x1⟩
/-! GOV_BUDGET (07_budget_governor.md) -/
def F.GOV_BUDGET.PEAK : Fld := ⟨A.GOV_BUDGET, 16, 16, .rw, 0xFFFF⟩
def F.GOV_BUDGET.AVG : Fld := ⟨A.GOV_BUDGET, 0, 16, .rw, 0xFFFF⟩
/-! GOV_WINDOW (07_budget_governor.md) -/
def F.GOV_WINDOW.SECONDS : Fld := ⟨A.GOV_WINDOW, 0, 8, .rw, 0xA⟩
/-! GOV_LIMIT (07_budget_governor.md) -/
def F.GOV_LIMIT.USER : Fld := ⟨A.GOV_LIMIT, 16, 16, .rw, 0xFFFF⟩
def F.GOV_LIMIT.IMAX : Fld := ⟨A.GOV_LIMIT, 0, 16, .rw, 0xFFFF⟩
/-! GOV_PDEV (07_budget_governor.md) -/
def F.GOV_PDEV.BASE : Fld := ⟨A.GOV_PDEV, 0, 16, .rw, 0x251C⟩
/-! GOV_VLED_n (07_budget_governor.md) -/
def F.GOV_VLED.VLED (n : Nat) : Fld := ⟨A.GOV_VLED n, 0, 16, .rw, 0xFA0⟩
/-! GOV_CEIL_Qn (07_budget_governor.md) -/
def F.GOV_CEIL.CAUSE (n : Nat) : Fld := ⟨A.GOV_CEIL n, 28, 4, .ro, 0x0⟩
def F.GOV_CEIL.CEIL (n : Nat) : Fld := ⟨A.GOV_CEIL n, 0, 16, .ro, 0xFFFF⟩
/-! GOV_IPRED_Qn (07_budget_governor.md) -/
def F.GOV_IPRED.ICODE (n : Nat) : Fld := ⟨A.GOV_IPRED n, 16, 16, .ro, 0x0⟩
def F.GOV_IPRED.IPRED (n : Nat) : Fld := ⟨A.GOV_IPRED n, 0, 16, .ro, 0x0⟩
/-! GOV_STAT (07_budget_governor.md) -/
def F.GOV_STAT.CREDIT : Fld := ⟨A.GOV_STAT, 16, 16, .ro, 0x0⟩
def F.GOV_STAT.PFRAME : Fld := ⟨A.GOV_STAT, 0, 16, .ro, 0x0⟩
/-! GOV_CNT (07_budget_governor.md) -/
def F.GOV_CNT.LATE : Fld := ⟨A.GOV_CNT, 16, 16, .rc, 0x0⟩
def F.GOV_CNT.BOUND : Fld := ⟨A.GOV_CNT, 0, 16, .rc, 0x0⟩
/-! GOV_FLAGS (07_budget_governor.md) -/
def F.GOV_FLAGS.LATE_LAST : Fld := ⟨A.GOV_FLAGS, 2, 1, .ro, 0x0⟩
def F.GOV_FLAGS.STALLED : Fld := ⟨A.GOV_FLAGS, 1, 1, .ro, 0x0⟩
def F.GOV_FLAGS.NO_CURVE : Fld := ⟨A.GOV_FLAGS, 0, 1, .ro, 0x1⟩
/-! GOV_JOB_CFG_j (07_budget_governor.md) -/
def F.GOV_JOB_CFG.EN (j : Nat) : Fld := ⟨A.GOV_JOB_CFG j, 31, 1, .rw, 0x1⟩
def F.GOV_JOB_CFG.HEAT_MIN (j : Nat) : Fld := ⟨A.GOV_JOB_CFG j, 16, 8, .rw, 0x0⟩
def F.GOV_JOB_CFG.POWER (j : Nat) : Fld := ⟨A.GOV_JOB_CFG j, 0, 16, .rw, 0x0⟩
/-! GOV_JOB_STAT_j (07_budget_governor.md) -/
def F.GOV_JOB_STAT.RUNNING (j : Nat) : Fld := ⟨A.GOV_JOB_STAT j, 31, 1, .ro, 0x0⟩
def F.GOV_JOB_STAT.PENDING (j : Nat) : Fld := ⟨A.GOV_JOB_STAT j, 30, 1, .ro, 0x0⟩
def F.GOV_JOB_STAT.PAUSED (j : Nat) : Fld := ⟨A.GOV_JOB_STAT j, 29, 1, .ro, 0x0⟩
def F.GOV_JOB_STAT.FORCED (j : Nat) : Fld := ⟨A.GOV_JOB_STAT j, 0, 16, .rc, 0x0⟩
/-! GOV_ICURVE_c_k (07_budget_governor.md) -/
def F.GOV_ICURVE.CUR (c k : Nat) : Fld := ⟨A.GOV_ICURVE c k, 0, 16, .rws, 0x0⟩
/-! FMC_ORDER (08_frame_memory.md) -/
def F.FMC_ORDER.STORED : Fld := ⟨A.FMC_ORDER, 16, 1, .ro, 0x1⟩
def F.FMC_ORDER.NEXT : Fld := ⟨A.FMC_ORDER, 8, 2, .rw, 0x1⟩
def F.FMC_ORDER.ORDER : Fld := ⟨A.FMC_ORDER, 0, 2, .ro, 0x1⟩
/-! FMC_ARB (08_frame_memory.md) -/
def F.FMC_ARB.W_MAINT : Fld := ⟨A.FMC_ARB, 24, 4, .rw, 0x1⟩
def F.FMC_ARB.W_CORE : Fld := ⟨A.FMC_ARB, 16, 4, .rw, 0x4⟩
def F.FMC_ARB.W_STRESS : Fld := ⟨A.FMC_ARB, 8, 4, .rw, 0x2⟩
def F.FMC_ARB.W_CAPTURE : Fld := ⟨A.FMC_ARB, 0, 4, .rw, 0x8⟩
/-! FMC_PD (08_frame_memory.md) -/
def F.FMC_PD.PD_EN : Fld := ⟨A.FMC_PD, 31, 1, .rw, 0x1⟩
def F.FMC_PD.IN_PD : Fld := ⟨A.FMC_PD, 16, 2, .ro, 0x0⟩
def F.FMC_PD.TIMER : Fld := ⟨A.FMC_PD, 0, 16, .rw, 0x100⟩
/-! FMC_PNR (08_frame_memory.md) -/
def F.FMC_PNR.EN : Fld := ⟨A.FMC_PNR, 31, 1, .rw, 0x1⟩
def F.FMC_PNR.DIST2 : Fld := ⟨A.FMC_PNR, 8, 1, .rw, 0x0⟩
def F.FMC_PNR.LOG2_P : Fld := ⟨A.FMC_PNR, 0, 4, .rw, 0x9⟩
/-! FMC_TRAIN (08_frame_memory.md) -/
def F.FMC_TRAIN.REQ : Fld := ⟨A.FMC_TRAIN, 31, 1, .wo, 0x0⟩
def F.FMC_TRAIN.INTERVAL : Fld := ⟨A.FMC_TRAIN, 8, 8, .rw, 0x4⟩
def F.FMC_TRAIN.DELTA_T : Fld := ⟨A.FMC_TRAIN, 0, 8, .rw, 0xA⟩
/-! FMC_TRAIN_STAT (08_frame_memory.md) -/
def F.FMC_TRAIN_STAT.BUSY : Fld := ⟨A.FMC_TRAIN_STAT, 31, 1, .ro, 0x0⟩
def F.FMC_TRAIN_STAT.FAILED : Fld := ⟨A.FMC_TRAIN_STAT, 30, 1, .ro, 0x0⟩
def F.FMC_TRAIN_STAT.LAST_T : Fld := ⟨A.FMC_TRAIN_STAT, 0, 16, .ro, 0x0⟩
/-! FMC_STAT (08_frame_memory.md) -/
def F.FMC_STAT.URGENT : Fld := ⟨A.FMC_STAT, 8, 1, .ro, 0x0⟩
def F.FMC_STAT.OUTSTANDING : Fld := ⟨A.FMC_STAT, 0, 7, .ro, 0x0⟩
/-! FMC_CNT_ERR (08_frame_memory.md) -/
def F.FMC_CNT_ERR.UNCORR : Fld := ⟨A.FMC_CNT_ERR, 16, 16, .rc, 0x0⟩
def F.FMC_CNT_ERR.CORR : Fld := ⟨A.FMC_CNT_ERR, 0, 16, .rc, 0x0⟩
/-! FMC_ERR_ADDR (08_frame_memory.md) -/
def F.FMC_ERR_ADDR.ADDR : Fld := ⟨A.FMC_ERR_ADDR, 0, 32, .ro, 0x0⟩
/-! FMC_CNT_PNR (08_frame_memory.md) -/
def F.FMC_CNT_PNR.RUNS : Fld := ⟨A.FMC_CNT_PNR, 0, 32, .rc, 0x0⟩
/-! FMC_CNT_CAP (08_frame_memory.md) -/
def F.FMC_CNT_CAP.OVF : Fld := ⟨A.FMC_CNT_CAP, 0, 16, .rc, 0x0⟩
/-! FMC_URG (08_frame_memory.md) -/
def F.FMC_URG.MAX_NS : Fld := ⟨A.FMC_URG, 16, 16, .rc, 0x0⟩
def F.FMC_URG.EPISODES : Fld := ⟨A.FMC_URG, 0, 16, .rc, 0x0⟩
/-! FMC_WIPE_STAT (08_frame_memory.md) -/
def F.FMC_WIPE_STAT.RETRIED : Fld := ⟨A.FMC_WIPE_STAT, 31, 1, .ro, 0x0⟩
def F.FMC_WIPE_STAT.LAST_MS : Fld := ⟨A.FMC_WIPE_STAT, 0, 16, .ro, 0x0⟩
/-! LNK_CFG (09_serial_lanes.md) -/
def F.LNK_CFG.RETRAIN (p : Nat) : Fld := ⟨A.LNK_CFG p, 31, 1, .wo, 0x0⟩
def F.LNK_CFG.ERR_LIM (p : Nat) : Fld := ⟨A.LNK_CFG p, 16, 8, .rw, 0x10⟩
def F.LNK_CFG.LANE_EN (p : Nat) : Fld := ⟨A.LNK_CFG p, 8, 4, .rw, 0xF⟩
def F.LNK_CFG.MAX_RATE (p : Nat) : Fld := ⟨A.LNK_CFG p, 0, 1, .rw, 0x1⟩
/-! LNK_TX (09_serial_lanes.md) -/
def F.LNK_TX.FOLLOW (p : Nat) : Fld := ⟨A.LNK_TX p, 16, 1, .rw, 0x1⟩
def F.LNK_TX.REQ_PRESET (p : Nat) : Fld := ⟨A.LNK_TX p, 8, 3, .rw, 0x3⟩
def F.LNK_TX.PRESET (p : Nat) : Fld := ⟨A.LNK_TX p, 0, 3, .rw, 0x3⟩
/-! LNK_RX (09_serial_lanes.md) -/
def F.LNK_RX.CTLE_MODE (p : Nat) : Fld := ⟨A.LNK_RX p, 4, 1, .rw, 0x0⟩
def F.LNK_RX.CTLE_FIXED (p : Nat) : Fld := ⟨A.LNK_RX p, 0, 4, .rw, 0x8⟩
/-! LNK_STAT (09_serial_lanes.md) -/
def F.LNK_STAT.STATE (p : Nat) : Fld := ⟨A.LNK_STAT p, 28, 4, .ro, 0x0⟩
def F.LNK_STAT.RATE (p : Nat) : Fld := ⟨A.LNK_STAT p, 27, 1, .ro, 0x1⟩
def F.LNK_STAT.WIDTH (p : Nat) : Fld := ⟨A.LNK_STAT p, 24, 3, .ro, 0x0⟩
def F.LNK_STAT.TX_USED (p : Nat) : Fld := ⟨A.LNK_STAT p, 20, 4, .ro, 0x0⟩
def F.LNK_STAT.RX_USED (p : Nat) : Fld := ⟨A.LNK_STAT p, 16, 4, .ro, 0x0⟩
def F.LNK_STAT.ATTEMPTS (p : Nat) : Fld := ⟨A.LNK_STAT p, 12, 4, .ro, 0x0⟩
def F.LNK_STAT.LAST_FAIL (p : Nat) : Fld := ⟨A.LNK_STAT p, 8, 4, .ro, 0x0⟩
def F.LNK_STAT.DOWN_CAUSE (p : Nat) : Fld := ⟨A.LNK_STAT p, 4, 4, .ro, 0x0⟩
def F.LNK_STAT.SKEW (p : Nat) : Fld := ⟨A.LNK_STAT p, 0, 4, .ro, 0x0⟩
/-! LNK_CNT (09_serial_lanes.md) -/
def F.LNK_CNT.DOWNS (p : Nat) : Fld := ⟨A.LNK_CNT p, 16, 16, .rc, 0x0⟩
def F.LNK_CNT.FALLBACKS (p : Nat) : Fld := ⟨A.LNK_CNT p, 0, 16, .rc, 0x0⟩
/-! LNK_PARTNER (09_serial_lanes.md) -/
def F.LNK_PARTNER.ROLE (p : Nat) : Fld := ⟨A.LNK_PARTNER p, 24, 8, .ro, 0x0⟩
def F.LNK_PARTNER.DEV_ID (p : Nat) : Fld := ⟨A.LNK_PARTNER p, 0, 24, .ro, 0x0⟩
/-! LNK_LP (09_serial_lanes.md) -/
def F.LNK_LP.REFUSED (p : Nat) : Fld := ⟨A.LNK_LP p, 8, 4, .ro, 0x0⟩
def F.LNK_LP.TX_REQ (p : Nat) : Fld := ⟨A.LNK_LP p, 0, 8, .rw, 0x0⟩
/-! LNK_PAT_CFG (09_serial_lanes.md) -/
def F.LNK_PAT_CFG.INJ_ONE (p : Nat) : Fld := ⟨A.LNK_PAT_CFG p, 31, 1, .wo, 0x0⟩
def F.LNK_PAT_CFG.REFUSED (p : Nat) : Fld := ⟨A.LNK_PAT_CFG p, 30, 1, .ro, 0x0⟩
def F.LNK_PAT_CFG.INJ_RATE (p : Nat) : Fld := ⟨A.LNK_PAT_CFG p, 24, 4, .rw, 0x0⟩
def F.LNK_PAT_CFG.LANES (p : Nat) : Fld := ⟨A.LNK_PAT_CFG p, 16, 4, .rw, 0xF⟩
def F.LNK_PAT_CFG.RATE (p : Nat) : Fld := ⟨A.LNK_PAT_CFG p, 8, 1, .rw, 0x1⟩
def F.LNK_PAT_CFG.PATTERN (p : Nat) : Fld := ⟨A.LNK_PAT_CFG p, 4, 3, .rw, 0x0⟩
def F.LNK_PAT_CFG.MODE (p : Nat) : Fld := ⟨A.LNK_PAT_CFG p, 0, 3, .rw, 0x0⟩
/-! LNK_LSTAT_k (09_serial_lanes.md) -/
def F.LNK_LSTAT.DETECTED (p k : Nat) : Fld := ⟨A.LNK_LSTAT p k, 31, 1, .ro, 0x0⟩
def F.LNK_LSTAT.SYNC (p k : Nat) : Fld := ⟨A.LNK_LSTAT p k, 30, 1, .ro, 0x0⟩
def F.LNK_LSTAT.INVERTED (p k : Nat) : Fld := ⟨A.LNK_LSTAT p k, 29, 1, .ro, 0x0⟩
def F.LNK_LSTAT.EXCLUDED (p k : Nat) : Fld := ⟨A.LNK_LSTAT p k, 28, 1, .ro, 0x0⟩
def F.LNK_LSTAT.CTLE_IN_USE (p k : Nat) : Fld := ⟨A.LNK_LSTAT p k, 24, 4, .ro, 0x0⟩
def F.LNK_LSTAT.TX_STATE (p k : Nat) : Fld := ⟨A.LNK_LSTAT p k, 22, 2, .ro, 0x2⟩
def F.LNK_LSTAT.RX_STATE (p k : Nat) : Fld := ⟨A.LNK_LSTAT p k, 20, 2, .ro, 0x2⟩
def F.LNK_LSTAT.PRESET_USED (p k : Nat) : Fld := ⟨A.LNK_LSTAT p k, 16, 3, .ro, 0x3⟩
def F.LNK_LSTAT.PARTNER_LANE (p k : Nat) : Fld := ⟨A.LNK_LSTAT p k, 12, 2, .ro, 0x0⟩
/-! LNK_LERR_k (09_serial_lanes.md) -/
def F.LNK_LERR.DISP (p k : Nat) : Fld := ⟨A.LNK_LERR p k, 16, 16, .rc, 0x0⟩
def F.LNK_LERR.CODE (p k : Nat) : Fld := ⟨A.LNK_LERR p k, 0, 16, .rc, 0x0⟩
/-! LNK_EYE_CFG_k (09_serial_lanes.md) -/
def F.LNK_EYE_CFG.START (p k : Nat) : Fld := ⟨A.LNK_EYE_CFG p k, 31, 1, .wo, 0x0⟩
def F.LNK_EYE_CFG.BUSY (p k : Nat) : Fld := ⟨A.LNK_EYE_CFG p k, 30, 1, .ro, 0x0⟩
def F.LNK_EYE_CFG.ABORTED (p k : Nat) : Fld := ⟨A.LNK_EYE_CFG p k, 29, 1, .ro, 0x0⟩
def F.LNK_EYE_CFG.BITS (p k : Nat) : Fld := ⟨A.LNK_EYE_CFG p k, 24, 5, .rwi, 0xE⟩
def F.LNK_EYE_CFG.VOFF (p k : Nat) : Fld := ⟨A.LNK_EYE_CFG p k, 16, 8, .rwi, 0x0⟩
def F.LNK_EYE_CFG.PHASE (p k : Nat) : Fld := ⟨A.LNK_EYE_CFG p k, 0, 7, .rwi, 0x0⟩
/-! LNK_EYE_CNT_k (09_serial_lanes.md) -/
def F.LNK_EYE_CNT.ERRORS (p k : Nat) : Fld := ⟨A.LNK_EYE_CNT p k, 0, 32, .ro, 0x0⟩
/-! LNK_PAT_ERR_k (09_serial_lanes.md) -/
def F.LNK_PAT_ERR.PSYNC (p k : Nat) : Fld := ⟨A.LNK_PAT_ERR p k, 31, 1, .ro, 0x0⟩
def F.LNK_PAT_ERR.BITERR (p k : Nat) : Fld := ⟨A.LNK_PAT_ERR p k, 0, 31, .rc, 0x0⟩
/-! LNK_TXCLK (09_serial_lanes.md) -/
def F.LNK_TXCLK.LOCKED : Fld := ⟨A.LNK_TXCLK, 31, 1, .ro, 0x0⟩
def F.LNK_TXCLK.HOLDOVER : Fld := ⟨A.LNK_TXCLK, 30, 1, .ro, 0x0⟩
def F.LNK_TXCLK.REFCLK_OK : Fld := ⟨A.LNK_TXCLK, 29, 1, .ro, 0x0⟩
def F.LNK_TXCLK.SOURCE : Fld := ⟨A.LNK_TXCLK, 16, 4, .ro, 0xF⟩
def F.LNK_TXCLK.OFFSET : Fld := ⟨A.LNK_TXCLK, 0, 16, .ro, 0x0⟩
/-! ZLP_ROLE (10_zhelan_link.md) -/
def F.ZLP_ROLE.STORED : Fld := ⟨A.ZLP_ROLE, 9, 1, .ro, 0x1⟩
def F.ZLP_ROLE.SAVE : Fld := ⟨A.ZLP_ROLE, 8, 1, .wo, 0x0⟩
def F.ZLP_ROLE.ROLE_P3 : Fld := ⟨A.ZLP_ROLE, 6, 2, .rw, 0x2⟩
def F.ZLP_ROLE.ROLE_P2 : Fld := ⟨A.ZLP_ROLE, 4, 2, .rw, 0x3⟩
def F.ZLP_ROLE.ROLE_P1 : Fld := ⟨A.ZLP_ROLE, 2, 2, .rw, 0x3⟩
def F.ZLP_ROLE.ROLE_P0 : Fld := ⟨A.ZLP_ROLE, 0, 2, .rw, 0x1⟩
/-! ZLP_SEL (10_zhelan_link.md) -/
def F.ZLP_SEL.REVERT_S : Fld := ⟨A.ZLP_SEL, 24, 8, .rw, 0x3C⟩
def F.ZLP_SEL.LOSS : Fld := ⟨A.ZLP_SEL, 8, 5, .rw, 0x8⟩
/-! ZLP_SEL_STAT (10_zhelan_link.md) -/
def F.ZLP_SEL_STAT.STREAM_ID : Fld := ⟨A.ZLP_SEL_STAT, 16, 16, .ro, 0x0⟩
def F.ZLP_SEL_STAT.STATE : Fld := ⟨A.ZLP_SEL_STAT, 8, 2, .ro, 0x0⟩
def F.ZLP_SEL_STAT.ALT_VALID : Fld := ⟨A.ZLP_SEL_STAT, 5, 1, .ro, 0x0⟩
def F.ZLP_SEL_STAT.PRI_VALID : Fld := ⟨A.ZLP_SEL_STAT, 4, 1, .ro, 0x0⟩
def F.ZLP_SEL_STAT.PORT : Fld := ⟨A.ZLP_SEL_STAT, 0, 4, .ro, 0xF⟩
/-! ZLP_TIME_STAT (10_zhelan_link.md) -/
def F.ZLP_TIME_STAT.HOPS : Fld := ⟨A.ZLP_TIME_STAT, 8, 24, .ro, 0x0⟩
def F.ZLP_TIME_STAT.STATE : Fld := ⟨A.ZLP_TIME_STAT, 0, 2, .ro, 0x0⟩
/-! ZLP_TIME_ERR (10_zhelan_link.md) -/
def F.ZLP_TIME_ERR.ERR : Fld := ⟨A.ZLP_TIME_ERR, 0, 32, .ro, 0x0⟩
/-! ZLP_TIME_LO (10_zhelan_link.md) -/
def F.ZLP_TIME_LO.LT : Fld := ⟨A.ZLP_TIME_LO, 0, 32, .ro, 0x0⟩
/-! ZLP_TIME_HI (10_zhelan_link.md) -/
def F.ZLP_TIME_HI.LT : Fld := ⟨A.ZLP_TIME_HI, 0, 32, .ro, 0x0⟩
/-! ZLP_PATH (10_zhelan_link.md) -/
def F.ZLP_PATH.PATH : Fld := ⟨A.ZLP_PATH, 0, 32, .ro, 0x0⟩
/-! ZLP_CNT (10_zhelan_link.md) -/
def F.ZLP_CNT.STRIPPED : Fld := ⟨A.ZLP_CNT, 16, 16, .rc, 0x0⟩
def F.ZLP_CNT.INCONSISTENT : Fld := ⟨A.ZLP_CNT, 0, 16, .rc, 0x0⟩
/-! ZLP_CNT_SEL (10_zhelan_link.md) -/
def F.ZLP_CNT_SEL.SWITCHES : Fld := ⟨A.ZLP_CNT_SEL, 16, 16, .rc, 0x0⟩
def F.ZLP_CNT_SEL.REVERTS : Fld := ⟨A.ZLP_CNT_SEL, 0, 16, .rc, 0x0⟩
/-! ZLP_PORT_STAT_n (10_zhelan_link.md) -/
def F.ZLP_PORT_STAT.CREDIT (n : Nat) : Fld := ⟨A.ZLP_PORT_STAT n, 24, 5, .ro, 0x0⟩
def F.ZLP_PORT_STAT.TX_MODE (n : Nat) : Fld := ⟨A.ZLP_PORT_STAT n, 16, 2, .ro, 0x0⟩
def F.ZLP_PORT_STAT.SOURCE (n : Nat) : Fld := ⟨A.ZLP_PORT_STAT n, 12, 4, .ro, 0xF⟩
def F.ZLP_PORT_STAT.UP_OUT (n : Nat) : Fld := ⟨A.ZLP_PORT_STAT n, 8, 1, .ro, 0x0⟩
def F.ZLP_PORT_STAT.QUARANTINED (n : Nat) : Fld := ⟨A.ZLP_PORT_STAT n, 1, 1, .ro, 0x0⟩
def F.ZLP_PORT_STAT.VALID (n : Nat) : Fld := ⟨A.ZLP_PORT_STAT n, 0, 1, .ro, 0x0⟩
/-! ZLP_PORT_DELAY_n (10_zhelan_link.md) -/
def F.ZLP_PORT_DELAY.DELAY (n : Nat) : Fld := ⟨A.ZLP_PORT_DELAY n, 0, 32, .ro, 0x0⟩
/-! ZLP_PORT_ASYM_n (10_zhelan_link.md) -/
def F.ZLP_PORT_ASYM.ASYM (n : Nat) : Fld := ⟨A.ZLP_PORT_ASYM n, 0, 16, .rw, 0x0⟩
/-! ZLP_PORT_CNT_n (10_zhelan_link.md) -/
def F.ZLP_PORT_CNT.DROPS (n : Nat) : Fld := ⟨A.ZLP_PORT_CNT n, 16, 16, .rc, 0x0⟩
def F.ZLP_PORT_CNT.BAD (n : Nat) : Fld := ⟨A.ZLP_PORT_CNT n, 0, 16, .rc, 0x0⟩
/-! CMD_CFG (11_command_packets.md) -/
def F.CMD_CFG.REG_TO : Fld := ⟨A.CMD_CFG, 0, 16, .rw, 0x3E8⟩
/-! CMD_STAT (11_command_packets.md) -/
def F.CMD_STAT.SOURCES : Fld := ⟨A.CMD_STAT, 8, 4, .ro, 0x0⟩
def F.CMD_STAT.EXECUTING : Fld := ⟨A.CMD_STAT, 0, 6, .ro, 0x0⟩
/-! CMD_CNT_RX (11_command_packets.md) -/
def F.CMD_CNT_RX.TAKEN : Fld := ⟨A.CMD_CNT_RX, 16, 16, .rc, 0x0⟩
def F.CMD_CNT_RX.CHECK_FAIL : Fld := ⟨A.CMD_CNT_RX, 0, 16, .rc, 0x0⟩
/-! CMD_CNT_REF (11_command_packets.md) -/
def F.CMD_CNT_REF.BUSY : Fld := ⟨A.CMD_CNT_REF, 24, 8, .rc, 0x0⟩
def F.CMD_CNT_REF.DUP : Fld := ⟨A.CMD_CNT_REF, 16, 8, .rc, 0x0⟩
def F.CMD_CNT_REF.BAD_OPCODE : Fld := ⟨A.CMD_CNT_REF, 8, 8, .rc, 0x0⟩
def F.CMD_CNT_REF.EVICT : Fld := ⟨A.CMD_CNT_REF, 0, 8, .rc, 0x0⟩
/-! CMD_SRC_s (11_command_packets.md) -/
def F.CMD_SRC.USED (s : Nat) : Fld := ⟨A.CMD_SRC s, 31, 1, .ro, 0x0⟩
def F.CMD_SRC.SRC_ID (s : Nat) : Fld := ⟨A.CMD_SRC s, 0, 24, .ro, 0x0⟩
/-! CMD_GROUP_k (11_command_packets.md) -/
def F.CMD_GROUP.MEMBER (k : Nat) : Fld := ⟨A.CMD_GROUP k, 0, 32, .rw, 0x0⟩
/-! RLN_ID (12_reed_line.md) -/
def F.RLN_ID.ID : Fld := ⟨A.RLN_ID, 0, 24, .ro, 0x0⟩
/-! RLN_CFG (12_reed_line.md) -/
def F.RLN_CFG.SLEEP_EN : Fld := ⟨A.RLN_CFG, 1, 1, .rw, 0x1⟩
def F.RLN_CFG.WAKE_EN : Fld := ⟨A.RLN_CFG, 0, 1, .rw, 0x1⟩
/-! RLN_STAT (12_reed_line.md) -/
def F.RLN_STAT.IDENT : Fld := ⟨A.RLN_STAT, 24, 8, .ro, 0x0⟩
def F.RLN_STAT.LAST_RESULT : Fld := ⟨A.RLN_STAT, 16, 4, .ro, 0x0⟩
def F.RLN_STAT.LAST_OP : Fld := ⟨A.RLN_STAT, 8, 8, .ro, 0x0⟩
def F.RLN_STAT.BREAK : Fld := ⟨A.RLN_STAT, 1, 1, .ro, 0x0⟩
def F.RLN_STAT.REGEN : Fld := ⟨A.RLN_STAT, 0, 1, .ro, 0x0⟩
/-! RLN_POS (12_reed_line.md) -/
def F.RLN_POS.UPSTREAM : Fld := ⟨A.RLN_POS, 0, 16, .ro, 0x0⟩
/-! RLN_CNT (12_reed_line.md) -/
def F.RLN_CNT.BREAKS : Fld := ⟨A.RLN_CNT, 24, 8, .rc, 0x0⟩
def F.RLN_CNT.OVERRUN : Fld := ⟨A.RLN_CNT, 16, 8, .rc, 0x0⟩
def F.RLN_CNT.BAD_FIELD : Fld := ⟨A.RLN_CNT, 0, 16, .rc, 0x0⟩
/-! PWR_STATE (13_power_states.md) -/
def F.PWR_STATE.BUSY : Fld := ⟨A.PWR_STATE, 8, 1, .ro, 0x0⟩
def F.PWR_STATE.TARGET : Fld := ⟨A.PWR_STATE, 4, 2, .ro, 0x0⟩
def F.PWR_STATE.STATE : Fld := ⟨A.PWR_STATE, 0, 2, .ro, 0x1⟩
/-! PWR_CFG (13_power_states.md) -/
def F.PWR_CFG.VALVE_SETTLE : Fld := ⟨A.PWR_CFG, 8, 8, .rw, 0x5⟩
def F.PWR_CFG.START_DARK : Fld := ⟨A.PWR_CFG, 4, 1, .rw, 0x0⟩
def F.PWR_CFG.LINK_GUARD : Fld := ⟨A.PWR_CFG, 3, 1, .rw, 0x1⟩
def F.PWR_CFG.WAKE_TARGET : Fld := ⟨A.PWR_CFG, 0, 2, .rw, 0x0⟩
/-! PWR_WAKE_EN (13_power_states.md) -/
def F.PWR_WAKE_EN.SVC : Fld := ⟨A.PWR_WAKE_EN, 2, 1, .rw, 0x0⟩
def F.PWR_WAKE_EN.TIMER : Fld := ⟨A.PWR_WAKE_EN, 1, 1, .rw, 0x0⟩
def F.PWR_WAKE_EN.REED : Fld := ⟨A.PWR_WAKE_EN, 0, 1, .rw, 0x1⟩
/-! PWR_TIMER (13_power_states.md) -/
def F.PWR_TIMER.SECONDS : Fld := ⟨A.PWR_TIMER, 0, 24, .rw, 0x0⟩
/-! PWR_WAKE_STAT (13_power_states.md) -/
def F.PWR_WAKE_STAT.RETRIES : Fld := ⟨A.PWR_WAKE_STAT, 16, 16, .rc, 0x0⟩
def F.PWR_WAKE_STAT.PENDING : Fld := ⟨A.PWR_WAKE_STAT, 4, 3, .ro, 0x0⟩
def F.PWR_WAKE_STAT.CAUSE : Fld := ⟨A.PWR_WAKE_STAT, 0, 4, .ro, 0x0⟩
/-! PWR_PAD (13_power_states.md) -/
def F.PWR_PAD.RELEASE : Fld := ⟨A.PWR_PAD, 31, 1, .wo, 0x0⟩
def F.PWR_PAD.MISC : Fld := ⟨A.PWR_PAD, 3, 1, .ro, 0x0⟩
def F.PWR_PAD.SAFETY : Fld := ⟨A.PWR_PAD, 2, 1, .ro, 0x0⟩
def F.PWR_PAD.PANEL : Fld := ⟨A.PWR_PAD, 1, 1, .ro, 0x0⟩
def F.PWR_PAD.VALVE : Fld := ⟨A.PWR_PAD, 0, 1, .ro, 0x0⟩
/-! PWR_LAST_REFUSE (13_power_states.md) -/
def F.PWR_LAST_REFUSE.REQUESTER : Fld := ⟨A.PWR_LAST_REFUSE, 8, 2, .ro, 0x0⟩
def F.PWR_LAST_REFUSE.TARGET : Fld := ⟨A.PWR_LAST_REFUSE, 6, 2, .ro, 0x0⟩
def F.PWR_LAST_REFUSE.REFUSER : Fld := ⟨A.PWR_LAST_REFUSE, 0, 4, .ro, 0x0⟩
/-! PWR_REFUSE_CNT_r (13_power_states.md) -/
def F.PWR_REFUSE_CNT.COUNT (r : Nat) : Fld := ⟨A.PWR_REFUSE_CNT r, 0, 16, .rc, 0x0⟩
/-! PWR_TIME_s (13_power_states.md) -/
def F.PWR_TIME.SECONDS (s : Nat) : Fld := ⟨A.PWR_TIME s, 0, 32, .ro, 0x0⟩
/-! THM_CFG (14_thermal.md) -/
def F.THM_CFG.FLOOR : Fld := ⟨A.THM_CFG, 16, 16, .rw, 0x2000⟩
def F.THM_CFG.HYST : Fld := ⟨A.THM_CFG, 8, 4, .rw, 0x2⟩
def F.THM_CFG.RATE_EN : Fld := ⟨A.THM_CFG, 0, 1, .rw, 0x1⟩
/-! THM_GLASS (14_thermal.md) -/
def F.THM_GLASS.HARD : Fld := ⟨A.THM_GLASS, 16, 8, .rw, 0x55⟩
def F.THM_GLASS.END : Fld := ⟨A.THM_GLASS, 8, 8, .rw, 0x4B⟩
def F.THM_GLASS.START : Fld := ⟨A.THM_GLASS, 0, 8, .rw, 0x41⟩
/-! THM_NTC (14_thermal.md) -/
def F.THM_NTC.B : Fld := ⟨A.THM_NTC, 16, 16, .rw, 0xD6B⟩
def F.THM_NTC.R25 : Fld := ⟨A.THM_NTC, 0, 16, .rw, 0x3E8⟩
/-! THM_XCHK (14_thermal.md) -/
def F.THM_XCHK.TIME : Fld := ⟨A.THM_XCHK, 24, 8, .rw, 0xA⟩
def F.THM_XCHK.GLASS_LIM : Fld := ⟨A.THM_XCHK, 8, 8, .rw, 0x14⟩
def F.THM_XCHK.DIE_LIM : Fld := ⟨A.THM_XCHK, 0, 8, .rw, 0xF⟩
/-! THM_RATE (14_thermal.md) -/
def F.THM_RATE.GLASS : Fld := ⟨A.THM_RATE, 8, 8, .rw, 0x5⟩
def F.THM_RATE.DIE : Fld := ⟨A.THM_RATE, 0, 8, .rw, 0x14⟩
/-! THM_STAT (14_thermal.md) -/
def F.THM_STAT.SHUT : Fld := ⟨A.THM_STAT, 31, 1, .ro, 0x0⟩
def F.THM_STAT.SHUT_SENSOR : Fld := ⟨A.THM_STAT, 24, 5, .ro, 0x0⟩
def F.THM_STAT.THROTTLE : Fld := ⟨A.THM_STAT, 20, 4, .ro, 0x0⟩
def F.THM_STAT.RATE : Fld := ⟨A.THM_STAT, 16, 4, .ro, 0x0⟩
def F.THM_STAT.HOLD : Fld := ⟨A.THM_STAT, 12, 4, .ro, 0x0⟩
def F.THM_STAT.MARGIN : Fld := ⟨A.THM_STAT, 0, 8, .ro, 0x0⟩
/-! THM_FAIL (14_thermal.md) -/
def F.THM_FAIL.FAILED : Fld := ⟨A.THM_FAIL, 0, 24, .ro, 0x0⟩
/-! THM_CEIL_Qn (14_thermal.md) -/
def F.THM_CEIL.SENSOR (n : Nat) : Fld := ⟨A.THM_CEIL n, 16, 5, .ro, 0x0⟩
def F.THM_CEIL.CEIL (n : Nat) : Fld := ⟨A.THM_CEIL n, 0, 16, .ro, 0xFFFF⟩
/-! THM_T_s (14_thermal.md) -/
def F.THM_T.TEFF (s : Nat) : Fld := ⟨A.THM_T s, 16, 16, .ro, 0x0⟩
def F.THM_T.READ (s : Nat) : Fld := ⟨A.THM_T s, 0, 16, .ro, 0x0⟩
/-! SAF_UNLOCK (15_safety_functions.md) -/
def F.SAF_UNLOCK.KEY : Fld := ⟨A.SAF_UNLOCK, 0, 32, .wo, 0x0⟩
/-! SAF_STAT (15_safety_functions.md) -/
def F.SAF_STAT.LATCH : Fld := ⟨A.SAF_STAT, 31, 1, .ro, 0x1⟩
def F.SAF_STAT.DISC : Fld := ⟨A.SAF_STAT, 30, 1, .ro, 0x0⟩
def F.SAF_STAT.IN_TEST_FAIL : Fld := ⟨A.SAF_STAT, 29, 1, .ro, 0x0⟩
def F.SAF_STAT.BC_DEMAND : Fld := ⟨A.SAF_STAT, 28, 1, .ro, 0x1⟩
def F.SAF_STAT.OUT_ON : Fld := ⟨A.SAF_STAT, 27, 1, .ro, 0x0⟩
def F.SAF_STAT.FB_B : Fld := ⟨A.SAF_STAT, 26, 1, .ro, 0x0⟩
def F.SAF_STAT.FB_A : Fld := ⟨A.SAF_STAT, 25, 1, .ro, 0x0⟩
def F.SAF_STAT.UNLOCKED : Fld := ⟨A.SAF_STAT, 24, 1, .ro, 0x0⟩
def F.SAF_STAT.MUTE_Q : Fld := ⟨A.SAF_STAT, 20, 4, .ro, 0xF⟩
def F.SAF_STAT.IN_B : Fld := ⟨A.SAF_STAT, 17, 1, .ro, 0x0⟩
def F.SAF_STAT.IN_A : Fld := ⟨A.SAF_STAT, 16, 1, .ro, 0x0⟩
def F.SAF_STAT.CAP : Fld := ⟨A.SAF_STAT, 0, 16, .ro, 0xFFFF⟩
/-! SAF_CFG (15_safety_functions.md) -/
def F.SAF_CFG.DISC_MS : Fld := ⟨A.SAF_CFG, 16, 9, .rw, 0x32⟩
def F.SAF_CFG.RST_SRC : Fld := ⟨A.SAF_CFG, 14, 2, .rw, 0x0⟩
def F.SAF_CFG.START_LATCH : Fld := ⟨A.SAF_CFG, 3, 1, .rw, 0x1⟩
def F.SAF_CFG.FB_EN : Fld := ⟨A.SAF_CFG, 2, 1, .rw, 0x1⟩
def F.SAF_CFG.BC_EN : Fld := ⟨A.SAF_CFG, 1, 1, .rw, 0x0⟩
def F.SAF_CFG.IN_EN : Fld := ⟨A.SAF_CFG, 0, 1, .rw, 0x1⟩
/-! SAF_TP (15_safety_functions.md) -/
def F.SAF_TP.PERIOD_S : Fld := ⟨A.SAF_TP, 24, 8, .rw, 0xA⟩
def F.SAF_TP.OUT_US : Fld := ⟨A.SAF_TP, 16, 8, .rw, 0x28⟩
def F.SAF_TP.SUP_US : Fld := ⟨A.SAF_TP, 8, 8, .rw, 0x1E⟩
def F.SAF_TP.SUP_PERIOD : Fld := ⟨A.SAF_TP, 0, 8, .rw, 0xA⟩
/-! SAF_FB (15_safety_functions.md) -/
def F.SAF_FB.TIME_MS : Fld := ⟨A.SAF_FB, 0, 10, .rw, 0x64⟩
/-! SAF_CAP (15_safety_functions.md) -/
def F.SAF_CAP.STATIC : Fld := ⟨A.SAF_CAP, 0, 16, .rw, 0xFFFF⟩
/-! SAF_CAPI_Qn (15_safety_functions.md) -/
def F.SAF_CAPI.EN (n : Nat) : Fld := ⟨A.SAF_CAPI n, 31, 1, .rw, 0x0⟩
def F.SAF_CAPI.OFS (n : Nat) : Fld := ⟨A.SAF_CAPI n, 16, 8, .rw, 0xA⟩
def F.SAF_CAPI.LIMIT (n : Nat) : Fld := ⟨A.SAF_CAPI n, 0, 16, .rw, 0xFFFF⟩
/-! SAF_SHUNT (15_safety_functions.md) -/
def F.SAF_SHUNT.SHUNT : Fld := ⟨A.SAF_SHUNT, 0, 16, .rw, 0x1F4⟩
/-! SAF_BC_CFG (15_safety_functions.md) -/
def F.SAF_BC_CFG.WD_MS : Fld := ⟨A.SAF_BC_CFG, 16, 11, .rw, 0x64⟩
def F.SAF_BC_CFG.SEQ_WIN : Fld := ⟨A.SAF_BC_CFG, 0, 8, .rw, 0x10⟩
/-! SAF_BC_LOCAL (15_safety_functions.md) -/
def F.SAF_BC_LOCAL.ID : Fld := ⟨A.SAF_BC_LOCAL, 0, 32, .rw, 0x0⟩
/-! SAF_BC_PEER (15_safety_functions.md) -/
def F.SAF_BC_PEER.ID : Fld := ⟨A.SAF_BC_PEER, 0, 32, .rw, 0x0⟩
/-! SAF_BC_RX_w (15_safety_functions.md) -/
def F.SAF_BC_RX.FRAME (w : Nat) : Fld := ⟨A.SAF_BC_RX w, 0, 32, .wo, 0x0⟩
/-! SAF_BC_TX_w (15_safety_functions.md) -/
def F.SAF_BC_TX.FRAME (w : Nat) : Fld := ⟨A.SAF_BC_TX w, 0, 32, .ro, 0x0⟩
/-! SAF_BC_CNT (15_safety_functions.md) -/
def F.SAF_BC_CNT.CHECK_FAIL : Fld := ⟨A.SAF_BC_CNT, 16, 16, .rc, 0x0⟩
def F.SAF_BC_CNT.SEQ_BAD : Fld := ⟨A.SAF_BC_CNT, 8, 8, .rc, 0x0⟩
def F.SAF_BC_CNT.LOSSES : Fld := ⟨A.SAF_BC_CNT, 0, 8, .rc, 0x0⟩
/-! SAF_CNT (15_safety_functions.md) -/
def F.SAF_CNT.DEMANDS : Fld := ⟨A.SAF_CNT, 16, 16, .rc, 0x0⟩
def F.SAF_CNT.RST_REFUSED : Fld := ⟨A.SAF_CNT, 8, 8, .rc, 0x0⟩
def F.SAF_CNT.TESTS_REPEATED : Fld := ⟨A.SAF_CNT, 0, 8, .rc, 0x0⟩
/-! SAF_PARAM_CRC (15_safety_functions.md) -/
def F.SAF_PARAM_CRC.CRC : Fld := ⟨A.SAF_PARAM_CRC, 0, 32, .ro, 0x0⟩
/-! FLT_CFG (16_fault_handling.md) -/
def F.FLT_CFG.STORED : Fld := ⟨A.FLT_CFG, 31, 1, .ro, 0x1⟩
def F.FLT_CFG.LOG_ALL : Fld := ⟨A.FLT_CFG, 8, 1, .rw, 0x0⟩
def F.FLT_CFG.C3_EXIT : Fld := ⟨A.FLT_CFG, 4, 1, .rw, 0x0⟩
def F.FLT_CFG.PIN_CLASS : Fld := ⟨A.FLT_CFG, 0, 3, .rw, 0x2⟩
/-! FLT_STAT (16_fault_handling.md) -/
def F.FLT_STAT.FAULT_N_LOW : Fld := ⟨A.FLT_STAT, 31, 1, .ro, 0x1⟩
def F.FLT_STAT.FLASH_PENDING : Fld := ⟨A.FLT_STAT, 30, 1, .ro, 0x0⟩
def F.FLT_STAT.HIGHEST : Fld := ⟨A.FLT_STAT, 24, 3, .ro, 0x7⟩
def F.FLT_STAT.UNACKED : Fld := ⟨A.FLT_STAT, 16, 8, .ro, 0x0⟩
def F.FLT_STAT.LAST_SEQ : Fld := ⟨A.FLT_STAT, 0, 16, .ro, 0x0⟩
/-! FLT_FIRST (16_fault_handling.md) -/
def F.FLT_FIRST.VALID : Fld := ⟨A.FLT_FIRST, 31, 1, .ro, 0x0⟩
def F.FLT_FIRST.ESC : Fld := ⟨A.FLT_FIRST, 30, 1, .ro, 0x0⟩
def F.FLT_FIRST.CLASS : Fld := ⟨A.FLT_FIRST, 24, 3, .ro, 0x0⟩
def F.FLT_FIRST.SOURCE : Fld := ⟨A.FLT_FIRST, 16, 8, .ro, 0x0⟩
def F.FLT_FIRST.SEQ : Fld := ⟨A.FLT_FIRST, 0, 16, .ro, 0x0⟩
/-! FLT_LATCH (16_fault_handling.md) -/
def F.FLT_LATCH.DARK_LATCH : Fld := ⟨A.FLT_LATCH, 31, 1, .ro, 0x0⟩
def F.FLT_LATCH.LATCH_SRC : Fld := ⟨A.FLT_LATCH, 16, 8, .ro, 0x0⟩
def F.FLT_LATCH.QUAD : Fld := ⟨A.FLT_LATCH, 0, 4, .ro, 0x0⟩
/-! FLT_LATCH_SRC (16_fault_handling.md) -/
def F.FLT_LATCH_SRC.SRC : Fld := ⟨A.FLT_LATCH_SRC, 0, 32, .ro, 0x0⟩
/-! FLT_CNT_0 (16_fault_handling.md) -/
def F.FLT_CNT_0.CORRECTED : Fld := ⟨A.FLT_CNT_0, 16, 16, .rc, 0x0⟩
def F.FLT_CNT_0.NOTE : Fld := ⟨A.FLT_CNT_0, 0, 16, .rc, 0x0⟩
/-! FLT_CNT_1 (16_fault_handling.md) -/
def F.FLT_CNT_1.DARK_LATCH : Fld := ⟨A.FLT_CNT_1, 24, 8, .rc, 0x0⟩
def F.FLT_CNT_1.DARK_QUAD : Fld := ⟨A.FLT_CNT_1, 16, 8, .rc, 0x0⟩
def F.FLT_CNT_1.DEGRADED : Fld := ⟨A.FLT_CNT_1, 0, 16, .rc, 0x0⟩
/-! FLT_CNT_2 (16_fault_handling.md) -/
def F.FLT_CNT_2.ESCALATED : Fld := ⟨A.FLT_CNT_2, 16, 16, .rc, 0x0⟩
def F.FLT_CNT_2.INJECTED : Fld := ⟨A.FLT_CNT_2, 0, 16, .rc, 0x0⟩
/-! FLT_AVAIL_PRES (16_fault_handling.md) -/
def F.FLT_AVAIL_PRES.TIME : Fld := ⟨A.FLT_AVAIL_PRES, 0, 32, .ro, 0x0⟩
/-! FLT_AVAIL_LOST (16_fault_handling.md) -/
def F.FLT_AVAIL_LOST.TIME : Fld := ⟨A.FLT_AVAIL_LOST, 0, 32, .ro, 0x0⟩
/-! FLT_SRC_s (16_fault_handling.md) -/
def F.FLT_SRC.STATE (s : Nat) : Fld := ⟨A.FLT_SRC s, 30, 2, .ro, 0x0⟩
def F.FLT_SRC.REAL (s : Nat) : Fld := ⟨A.FLT_SRC s, 29, 1, .ro, 0x0⟩
def F.FLT_SRC.CLASS (s : Nat) : Fld := ⟨A.FLT_SRC s, 24, 3, .ro, 0x0⟩
def F.FLT_SRC.INJ_CNT (s : Nat) : Fld := ⟨A.FLT_SRC s, 16, 8, .rc, 0x0⟩
def F.FLT_SRC.COUNT (s : Nat) : Fld := ⟨A.FLT_SRC s, 0, 16, .rc, 0x0⟩
/-! CHK_SCAN_STAT (17_check_values.md) -/
def F.CHK_SCAN_STAT.BUSY : Fld := ⟨A.CHK_SCAN_STAT, 31, 1, .ro, 0x0⟩
def F.CHK_SCAN_STAT.OWNER : Fld := ⟨A.CHK_SCAN_STAT, 26, 2, .ro, 0x0⟩
def F.CHK_SCAN_STAT.PARAM : Fld := ⟨A.CHK_SCAN_STAT, 24, 2, .ro, 0x3⟩
def F.CHK_SCAN_STAT.PREEMPTS : Fld := ⟨A.CHK_SCAN_STAT, 0, 16, .rc, 0x0⟩
/-! CHK_SCAN_ADDR (17_check_values.md) -/
def F.CHK_SCAN_ADDR.ADDR : Fld := ⟨A.CHK_SCAN_ADDR, 0, 32, .ro, 0x0⟩
/-! CHK_SCAN_VALUE (17_check_values.md) -/
def F.CHK_SCAN_VALUE.VALUE : Fld := ⟨A.CHK_SCAN_VALUE, 0, 32, .ro, 0xFFFFFFFF⟩
/-! CHK_SCAN_LAST (17_check_values.md) -/
def F.CHK_SCAN_LAST.CRC : Fld := ⟨A.CHK_SCAN_LAST, 0, 32, .ro, 0x0⟩
/-! CHK_SELFTEST (17_check_values.md) -/
def F.CHK_SELFTEST.SCAN_FAIL : Fld := ⟨A.CHK_SELFTEST, 8, 1, .ro, 0x0⟩
def F.CHK_SELFTEST.CH_FAIL : Fld := ⟨A.CHK_SELFTEST, 0, 8, .ro, 0x0⟩
/-! CHK_CH_CFG_c (17_check_values.md) -/
def F.CHK_CH_CFG.PARAM (c : Nat) : Fld := ⟨A.CHK_CH_CFG c, 0, 2, .rw, 0x3⟩
/-! CHK_CH_VALUE_c (17_check_values.md) -/
def F.CHK_CH_VALUE.VALUE (c : Nat) : Fld := ⟨A.CHK_CH_VALUE c, 0, 32, .rw, 0xFFFFFFFF⟩
/-! CHK_CH_DATA_B_c (17_check_values.md) -/
def F.CHK_CH_DATA_B.DATA (c : Nat) : Fld := ⟨A.CHK_CH_DATA_B c, 0, 8, .wo, 0x0⟩
/-! CHK_CH_DATA_H_c (17_check_values.md) -/
def F.CHK_CH_DATA_H.DATA (c : Nat) : Fld := ⟨A.CHK_CH_DATA_H c, 0, 16, .wo, 0x0⟩
/-! CHK_CH_DATA_W_c (17_check_values.md) -/
def F.CHK_CH_DATA_W.DATA (c : Nat) : Fld := ⟨A.CHK_CH_DATA_W c, 0, 32, .wo, 0x0⟩
/-! CHK_CH_RESULT_c (17_check_values.md) -/
def F.CHK_CH_RESULT.RESULT (c : Nat) : Fld := ⟨A.CHK_CH_RESULT c, 0, 32, .ro, 0x0⟩
/-! TUN_CFG (18_tuning.md) -/
def F.TUN_CFG.PERIOD : Fld := ⟨A.TUN_CFG, 24, 8, .rw, 0x3C⟩
def F.TUN_CFG.DELTA_T : Fld := ⟨A.TUN_CFG, 16, 8, .rw, 0x8⟩
def F.TUN_CFG.LOG2_SLIDE : Fld := ⟨A.TUN_CFG, 12, 4, .rw, 0x6⟩
def F.TUN_CFG.PARTS : Fld := ⟨A.TUN_CFG, 0, 3, .rw, 0x7⟩
/-! TUN_STAT (18_tuning.md) -/
def F.TUN_STAT.BUSY : Fld := ⟨A.TUN_STAT, 31, 1, .ro, 0x0⟩
def F.TUN_STAT.PHASE : Fld := ⟨A.TUN_STAT, 28, 3, .ro, 0x0⟩
def F.TUN_STAT.LAST_RESULT : Fld := ⟨A.TUN_STAT, 24, 4, .ro, 0x0⟩
def F.TUN_STAT.PENDING : Fld := ⟨A.TUN_STAT, 16, 3, .ro, 0x0⟩
def F.TUN_STAT.AGE : Fld := ⟨A.TUN_STAT, 0, 16, .ro, 0x0⟩
/-! TUN_REF (18_tuning.md) -/
def F.TUN_REF.VALID : Fld := ⟨A.TUN_REF, 31, 1, .ro, 0x0⟩
def F.TUN_REF.REF : Fld := ⟨A.TUN_REF, 0, 16, .ro, 0x0⟩
/-! TUN_CNT (18_tuning.md) -/
def F.TUN_CNT.RUNS : Fld := ⟨A.TUN_CNT, 24, 8, .rc, 0x0⟩
def F.TUN_CNT.FAILED : Fld := ⟨A.TUN_CNT, 16, 8, .rc, 0x0⟩
def F.TUN_CNT.REJECTED : Fld := ⟨A.TUN_CNT, 0, 16, .rc, 0x0⟩
/-! TUN_SRC_ADDR (18_tuning.md) -/
def F.TUN_SRC_ADDR.ADDR : Fld := ⟨A.TUN_SRC_ADDR, 0, 32, .ro, 0xF000000⟩
/-! TUN_ADC_Qn_g (18_tuning.md) -/
def F.TUN_ADC.GAIN (n g : Nat) : Fld := ⟨A.TUN_ADC n g, 16, 16, .ro, 0x0⟩
def F.TUN_ADC.OFFSET (n g : Nat) : Fld := ⟨A.TUN_ADC n g, 0, 16, .ro, 0x0⟩
/-! TUN_RAMP_Qn_h (18_tuning.md) -/
def F.TUN_RAMP.GAIN (n h : Nat) : Fld := ⟨A.TUN_RAMP n h, 16, 16, .ro, 0x0⟩
def F.TUN_RAMP.OFFSET (n h : Nat) : Fld := ⟨A.TUN_RAMP n h, 0, 16, .ro, 0x0⟩
/-! UPD_STAT (19_firmware_update.md) -/
def F.UPD_STAT.STATE : Fld := ⟨A.UPD_STAT, 28, 4, .ro, 0x0⟩
def F.UPD_STAT.SELF_OK : Fld := ⟨A.UPD_STAT, 27, 1, .ro, 0x0⟩
def F.UPD_STAT.ACTIVE_CORE : Fld := ⟨A.UPD_STAT, 26, 1, .ro, 0x0⟩
def F.UPD_STAT.ERR : Fld := ⟨A.UPD_STAT, 20, 4, .ro, 0x0⟩
def F.UPD_STAT.CAUSE : Fld := ⟨A.UPD_STAT, 16, 4, .ro, 0x0⟩
def F.UPD_STAT.TRIAL_S_LEFT : Fld := ⟨A.UPD_STAT, 0, 16, .ro, 0x0⟩
/-! UPD_CFG (19_firmware_update.md) -/
def F.UPD_CFG.AUTO_CONFIRM : Fld := ⟨A.UPD_CFG, 16, 1, .rw, 0x0⟩
def F.UPD_CFG.TRIAL_S : Fld := ⟨A.UPD_CFG, 8, 8, .rw, 0xA⟩
def F.UPD_CFG.CONFIRM_S : Fld := ⟨A.UPD_CFG, 0, 8, .rw, 0xFF⟩
/-! UPD_RUN_VER (19_firmware_update.md) -/
def F.UPD_RUN_VER.VERSION : Fld := ⟨A.UPD_RUN_VER, 0, 32, .ro, 0x0⟩
/-! UPD_STAGED_VER (19_firmware_update.md) -/
def F.UPD_STAGED_VER.VERSION : Fld := ⟨A.UPD_STAGED_VER, 0, 32, .ro, 0x0⟩
/-! UPD_BOOT (19_firmware_update.md) -/
def F.UPD_BOOT.FLOOR : Fld := ⟨A.UPD_BOOT, 24, 6, .ro, 0x0⟩
def F.UPD_BOOT.REVOKED : Fld := ⟨A.UPD_BOOT, 8, 4, .ro, 0x0⟩
def F.UPD_BOOT.PREV_OK : Fld := ⟨A.UPD_BOOT, 7, 1, .ro, 0x0⟩
def F.UPD_BOOT.BOOTED_PREV : Fld := ⟨A.UPD_BOOT, 6, 1, .ro, 0x0⟩
def F.UPD_BOOT.STAGING : Fld := ⟨A.UPD_BOOT, 4, 2, .ro, 0x0⟩
def F.UPD_BOOT.PREVIOUS : Fld := ⟨A.UPD_BOOT, 2, 2, .ro, 0x0⟩
def F.UPD_BOOT.CURRENT : Fld := ⟨A.UPD_BOOT, 0, 2, .ro, 0x0⟩
/-! UPD_DATA_FMT (19_firmware_update.md) -/
def F.UPD_DATA_FMT.STORED : Fld := ⟨A.UPD_DATA_FMT, 16, 16, .ro, 0x0⟩
def F.UPD_DATA_FMT.RUNNING : Fld := ⟨A.UPD_DATA_FMT, 0, 16, .ro, 0x0⟩
/-! UPD_CNT (19_firmware_update.md) -/
def F.UPD_CNT.ACTIVATIONS : Fld := ⟨A.UPD_CNT, 16, 16, .rc, 0x0⟩
def F.UPD_CNT.FALLBACKS : Fld := ⟨A.UPD_CNT, 0, 16, .rc, 0x0⟩
/-! SYS_LIFECYCLE (20_start_up.md) -/
def F.SYS_LIFECYCLE.RETIRED_FUSE : Fld := ⟨A.SYS_LIFECYCLE, 31, 1, .ro, 0x0⟩
def F.SYS_LIFECYCLE.FACTORY_DONE : Fld := ⟨A.SYS_LIFECYCLE, 30, 1, .ro, 0x0⟩
def F.SYS_LIFECYCLE.PENDING : Fld := ⟨A.SYS_LIFECYCLE, 8, 1, .ro, 0x0⟩
def F.SYS_LIFECYCLE.STATE : Fld := ⟨A.SYS_LIFECYCLE, 0, 3, .ro, 0x0⟩
/-! SYS_RESET_CAUSE (20_start_up.md) -/
def F.SYS_RESET_CAUSE.WARM_COUNT : Fld := ⟨A.SYS_RESET_CAUSE, 16, 16, .ro, 0x0⟩
def F.SYS_RESET_CAUSE.DETAIL : Fld := ⟨A.SYS_RESET_CAUSE, 8, 8, .ro, 0x0⟩
def F.SYS_RESET_CAUSE.CAUSE : Fld := ⟨A.SYS_RESET_CAUSE, 0, 8, .ro, 0x0⟩
/-! SYS_RESET_REQ (20_start_up.md) -/
def F.SYS_RESET_REQ.KEY : Fld := ⟨A.SYS_RESET_REQ, 0, 32, .wo, 0x0⟩
/-! SYS_SERIAL_LO (20_start_up.md) -/
def F.SYS_SERIAL_LO.SERIAL : Fld := ⟨A.SYS_SERIAL_LO, 0, 32, .ro, 0x0⟩
/-! SYS_SERIAL_HI (20_start_up.md) -/
def F.SYS_SERIAL_HI.SERIAL : Fld := ⟨A.SYS_SERIAL_HI, 0, 32, .ro, 0x0⟩
/-! SYS_LC_NONCE_LO (20_start_up.md) -/
def F.SYS_LC_NONCE_LO.NONCE : Fld := ⟨A.SYS_LC_NONCE_LO, 0, 32, .ro, 0x0⟩
/-! SYS_LC_NONCE_HI (20_start_up.md) -/
def F.SYS_LC_NONCE_HI.NONCE : Fld := ⟨A.SYS_LC_NONCE_HI, 0, 32, .ro, 0x0⟩
/-! SYS_PRAIL_CFG (20_start_up.md) -/
def F.SYS_PRAIL_CFG.STORED : Fld := ⟨A.SYS_PRAIL_CFG, 31, 1, .ro, 0x1⟩
def F.SYS_PRAIL_CFG.PG_TO : Fld := ⟨A.SYS_PRAIL_CFG, 24, 7, .rw, 0xA⟩
def F.SYS_PRAIL_CFG.DELAY : Fld := ⟨A.SYS_PRAIL_CFG, 16, 8, .rw, 0x0⟩
def F.SYS_PRAIL_CFG.USED : Fld := ⟨A.SYS_PRAIL_CFG, 0, 6, .rw, 0x3F⟩
/-! SYS_PRAIL_STAT (20_start_up.md) -/
def F.SYS_PRAIL_STAT.FAILED : Fld := ⟨A.SYS_PRAIL_STAT, 16, 6, .ro, 0x0⟩
def F.SYS_PRAIL_STAT.PG : Fld := ⟨A.SYS_PRAIL_STAT, 8, 6, .ro, 0x0⟩
def F.SYS_PRAIL_STAT.EN : Fld := ⟨A.SYS_PRAIL_STAT, 0, 6, .ro, 0x0⟩
/-! SYS_START (20_start_up.md) -/
def F.SYS_START.STEP : Fld := ⟨A.SYS_START, 28, 4, .ro, 0x0⟩
def F.SYS_START.FIRST_LIGHT_MS : Fld := ⟨A.SYS_START, 0, 16, .ro, 0xFFFF⟩

def sysRegs : List RegDesc := [
  ⟨0x000000, [], [F.SYS_PART.PART_CODE, F.SYS_PART.GRADE, F.SYS_PART.STEPPING, F.SYS_PART.SOURCE_DIES]⟩,
  ⟨0x000010, [], [F.SYS_ISLAND_STAT.QBR_UP, F.SYS_ISLAND_STAT.QCLK, F.SYS_ISLAND_STAT.AON_CLK, F.SYS_ISLAND_STAT.SAFE_CLK, F.SYS_ISLAND_STAT.CORE_CLK, F.SYS_ISLAND_STAT.MEM_CLK, F.SYS_ISLAND_STAT.PIX_CLK, F.SYS_ISLAND_STAT.LNK_CLK]⟩,
  ⟨0x000014, [], [F.SYS_QBR_ERR.RETRY_Q3, F.SYS_QBR_ERR.RETRY_Q2, F.SYS_QBR_ERR.RETRY_Q1, F.SYS_QBR_ERR.RETRY_Q0]⟩,
  ⟨0x000004, [], [F.SYS_LIFECYCLE.RETIRED_FUSE, F.SYS_LIFECYCLE.FACTORY_DONE, F.SYS_LIFECYCLE.PENDING, F.SYS_LIFECYCLE.STATE]⟩,
  ⟨0x000008, [], [F.SYS_RESET_CAUSE.WARM_COUNT, F.SYS_RESET_CAUSE.DETAIL, F.SYS_RESET_CAUSE.CAUSE]⟩,
  ⟨0x00000C, [], [F.SYS_RESET_REQ.KEY]⟩,
  ⟨0x000018, [], [F.SYS_SERIAL_LO.SERIAL]⟩,
  ⟨0x00001C, [], [F.SYS_SERIAL_HI.SERIAL]⟩,
  ⟨0x000020, [], [F.SYS_LC_NONCE_LO.NONCE]⟩,
  ⟨0x000024, [], [F.SYS_LC_NONCE_HI.NONCE]⟩,
  ⟨0x000030, [], [F.SYS_PRAIL_CFG.STORED, F.SYS_PRAIL_CFG.PG_TO, F.SYS_PRAIL_CFG.DELAY, F.SYS_PRAIL_CFG.USED]⟩,
  ⟨0x000034, [], [F.SYS_PRAIL_STAT.FAILED, F.SYS_PRAIL_STAT.PG, F.SYS_PRAIL_STAT.EN]⟩,
  ⟨0x000038, [], [F.SYS_START.STEP, F.SYS_START.FIRST_LIGHT_MS]⟩]
def lnkRegs : List RegDesc := [
  ⟨0x010000, [(0x1000, 4)], [F.LNK_CFG.RETRAIN 0, F.LNK_CFG.ERR_LIM 0, F.LNK_CFG.LANE_EN 0, F.LNK_CFG.MAX_RATE 0]⟩,
  ⟨0x010004, [(0x1000, 4)], [F.LNK_TX.FOLLOW 0, F.LNK_TX.REQ_PRESET 0, F.LNK_TX.PRESET 0]⟩,
  ⟨0x010008, [(0x1000, 4)], [F.LNK_RX.CTLE_MODE 0, F.LNK_RX.CTLE_FIXED 0]⟩,
  ⟨0x010010, [(0x1000, 4)], [F.LNK_STAT.STATE 0, F.LNK_STAT.RATE 0, F.LNK_STAT.WIDTH 0, F.LNK_STAT.TX_USED 0, F.LNK_STAT.RX_USED 0, F.LNK_STAT.ATTEMPTS 0, F.LNK_STAT.LAST_FAIL 0, F.LNK_STAT.DOWN_CAUSE 0, F.LNK_STAT.SKEW 0]⟩,
  ⟨0x010014, [(0x1000, 4)], [F.LNK_CNT.DOWNS 0, F.LNK_CNT.FALLBACKS 0]⟩,
  ⟨0x010018, [(0x1000, 4)], [F.LNK_PARTNER.ROLE 0, F.LNK_PARTNER.DEV_ID 0]⟩,
  ⟨0x010020, [(0x1000, 4)], [F.LNK_LP.REFUSED 0, F.LNK_LP.TX_REQ 0]⟩,
  ⟨0x010030, [(0x1000, 4)], [F.LNK_PAT_CFG.INJ_ONE 0, F.LNK_PAT_CFG.REFUSED 0, F.LNK_PAT_CFG.INJ_RATE 0, F.LNK_PAT_CFG.LANES 0, F.LNK_PAT_CFG.RATE 0, F.LNK_PAT_CFG.PATTERN 0, F.LNK_PAT_CFG.MODE 0]⟩,
  ⟨0x010100, [(0x1000, 4), (0x20, 4)], [F.LNK_LSTAT.DETECTED 0 0, F.LNK_LSTAT.SYNC 0 0, F.LNK_LSTAT.INVERTED 0 0, F.LNK_LSTAT.EXCLUDED 0 0, F.LNK_LSTAT.CTLE_IN_USE 0 0, F.LNK_LSTAT.TX_STATE 0 0, F.LNK_LSTAT.RX_STATE 0 0, F.LNK_LSTAT.PRESET_USED 0 0, F.LNK_LSTAT.PARTNER_LANE 0 0]⟩,
  ⟨0x010104, [(0x1000, 4), (0x20, 4)], [F.LNK_LERR.DISP 0 0, F.LNK_LERR.CODE 0 0]⟩,
  ⟨0x010108, [(0x1000, 4), (0x20, 4)], [F.LNK_EYE_CFG.START 0 0, F.LNK_EYE_CFG.BUSY 0 0, F.LNK_EYE_CFG.ABORTED 0 0, F.LNK_EYE_CFG.BITS 0 0, F.LNK_EYE_CFG.VOFF 0 0, F.LNK_EYE_CFG.PHASE 0 0]⟩,
  ⟨0x01010C, [(0x1000, 4), (0x20, 4)], [F.LNK_EYE_CNT.ERRORS 0 0]⟩,
  ⟨0x010110, [(0x1000, 4), (0x20, 4)], [F.LNK_PAT_ERR.PSYNC 0 0, F.LNK_PAT_ERR.BITERR 0 0]⟩,
  ⟨0x018000, [], [F.LNK_TXCLK.LOCKED, F.LNK_TXCLK.HOLDOVER, F.LNK_TXCLK.REFCLK_OK, F.LNK_TXCLK.SOURCE, F.LNK_TXCLK.OFFSET]⟩]
def zlpRegs : List RegDesc := [
  ⟨0x020000, [], [F.ZLP_ROLE.STORED, F.ZLP_ROLE.SAVE, F.ZLP_ROLE.ROLE_P3, F.ZLP_ROLE.ROLE_P2, F.ZLP_ROLE.ROLE_P1, F.ZLP_ROLE.ROLE_P0]⟩,
  ⟨0x020004, [], [F.ZLP_SEL.REVERT_S, F.ZLP_SEL.LOSS]⟩,
  ⟨0x020008, [], [F.ZLP_SEL_STAT.STREAM_ID, F.ZLP_SEL_STAT.STATE, F.ZLP_SEL_STAT.ALT_VALID, F.ZLP_SEL_STAT.PRI_VALID, F.ZLP_SEL_STAT.PORT]⟩,
  ⟨0x020010, [], [F.ZLP_TIME_STAT.HOPS, F.ZLP_TIME_STAT.STATE]⟩,
  ⟨0x020014, [], [F.ZLP_TIME_ERR.ERR]⟩,
  ⟨0x020018, [], [F.ZLP_TIME_LO.LT]⟩,
  ⟨0x02001C, [], [F.ZLP_TIME_HI.LT]⟩,
  ⟨0x020020, [], [F.ZLP_PATH.PATH]⟩,
  ⟨0x020030, [], [F.ZLP_CNT.STRIPPED, F.ZLP_CNT.INCONSISTENT]⟩,
  ⟨0x020034, [], [F.ZLP_CNT_SEL.SWITCHES, F.ZLP_CNT_SEL.REVERTS]⟩,
  ⟨0x020100, [(0x20, 4)], [F.ZLP_PORT_STAT.CREDIT 0, F.ZLP_PORT_STAT.TX_MODE 0, F.ZLP_PORT_STAT.SOURCE 0, F.ZLP_PORT_STAT.UP_OUT 0, F.ZLP_PORT_STAT.QUARANTINED 0, F.ZLP_PORT_STAT.VALID 0]⟩,
  ⟨0x020104, [(0x20, 4)], [F.ZLP_PORT_DELAY.DELAY 0]⟩,
  ⟨0x020108, [(0x20, 4)], [F.ZLP_PORT_ASYM.ASYM 0]⟩,
  ⟨0x02010C, [(0x20, 4)], [F.ZLP_PORT_CNT.DROPS 0, F.ZLP_PORT_CNT.BAD 0]⟩]
def cmdRegs : List RegDesc := [
  ⟨0x030000, [], [F.CMD_CFG.REG_TO]⟩,
  ⟨0x030004, [], [F.CMD_STAT.SOURCES, F.CMD_STAT.EXECUTING]⟩,
  ⟨0x030008, [], [F.CMD_CNT_RX.TAKEN, F.CMD_CNT_RX.CHECK_FAIL]⟩,
  ⟨0x03000C, [], [F.CMD_CNT_REF.BUSY, F.CMD_CNT_REF.DUP, F.CMD_CNT_REF.BAD_OPCODE, F.CMD_CNT_REF.EVICT]⟩,
  ⟨0x030020, [(0x4, 8)], [F.CMD_SRC.USED 0, F.CMD_SRC.SRC_ID 0]⟩,
  ⟨0x030040, [(0x4, 8)], [F.CMD_GROUP.MEMBER 0]⟩]
def pixRegs : List RegDesc := [
  ⟨0x040000, [], [F.PIX_CANVAS.CAPTURE_EN, F.PIX_CANVAS.LIN_BANK, F.PIX_CANVAS.FMT]⟩,
  ⟨0x040004, [], [F.PIX_CANVAS_SIZE.HEIGHT, F.PIX_CANVAS_SIZE.WIDTH]⟩,
  ⟨0x040010, [], [F.PIX_WIN.QSCALE, F.PIX_WIN.QUAD_SEP, F.PIX_WIN.SCALE]⟩,
  ⟨0x040014, [], [F.PIX_WIN_ORG.Y0, F.PIX_WIN_ORG.X0]⟩,
  ⟨0x040018, [(0x4, 4)], [F.PIX_QWIN.Y 0, F.PIX_QWIN.X 0]⟩,
  ⟨0x040040, [], [F.PIX_LIN_BUILD.PEAK, F.PIX_LIN_BUILD.RANGE, F.PIX_LIN_BUILD.TF]⟩,
  ⟨0x040044, [], [F.PIX_LIN_SRC.ADDR]⟩,
  ⟨0x040048, [], [F.PIX_LIN_CMD.LOAD, F.PIX_LIN_CMD.BUILD]⟩,
  ⟨0x04004C, [], [F.PIX_LIN_STAT.INACTIVE_VALID, F.PIX_LIN_STAT.ACTIVE_BANK, F.PIX_LIN_STAT.ERR, F.PIX_LIN_STAT.DONE, F.PIX_LIN_STAT.BUSY]⟩,
  ⟨0x040100, [(0x40, 4), (0x4, 9)], [F.PIX_CMX.COEF 0 0]⟩,
  ⟨0x040060, [], [F.PIX_HOLD.MAX_FRAMES, F.PIX_HOLD.MAX_HELD]⟩,
  ⟨0x040064, [], [F.PIX_FALLBACK.PLANES, F.PIX_FALLBACK.MODE]⟩,
  ⟨0x040068, [], [F.PIX_FALLBACK_COLOUR.BLUE, F.PIX_FALLBACK_COLOUR.GREEN, F.PIX_FALLBACK_COLOUR.RED]⟩,
  ⟨0x040200, [(0x20, 8)], [F.PIX_OVL_CTRL.EN 0]⟩,
  ⟨0x040204, [(0x20, 8)], [F.PIX_OVL_ADDR.OFFSET 0]⟩,
  ⟨0x040208, [(0x20, 8)], [F.PIX_OVL_POS.Y 0, F.PIX_OVL_POS.X 0]⟩,
  ⟨0x04020C, [(0x20, 8)], [F.PIX_OVL_SIZE.HEIGHT 0, F.PIX_OVL_SIZE.WIDTH 0]⟩,
  ⟨0x040300, [], [F.PIX_OVL_SAVE.BUSY, F.PIX_OVL_SAVE.RESTORE, F.PIX_OVL_SAVE.SAVE]⟩,
  ⟨0x041000, [(0x1000, 8), (0x10, 256)], [F.PIX_PAL_A.ALPHA 0 0, F.PIX_PAL_A.RED 0 0]⟩,
  ⟨0x041004, [(0x1000, 8), (0x10, 256)], [F.PIX_PAL_G.GREEN 0 0]⟩,
  ⟨0x041008, [(0x1000, 8), (0x10, 256)], [F.PIX_PAL_B.BLUE 0 0]⟩,
  ⟨0x040080, [], [F.PIX_FB_STAT.CAPTURE_PORT, F.PIX_FB_STAT.HOLDING, F.PIX_FB_STAT.FALLBACK, F.PIX_FB_STAT.BUF]⟩,
  ⟨0x040084, [], [F.PIX_FRAME_NO.FILLING, F.PIX_FRAME_NO.SHOWN]⟩,
  ⟨0x040088, [], [F.PIX_COMMIT_FRAME.FRAME_NO]⟩,
  ⟨0x040090, [], [F.PIX_CNT_SEG.FRAMES_FILLED, F.PIX_CNT_SEG.SEG_BAD]⟩,
  ⟨0x040094, [], [F.PIX_CNT_FRAME.FALLBACK_ENTRIES, F.PIX_CNT_FRAME.REJECTED, F.PIX_CNT_FRAME.LATE, F.PIX_CNT_FRAME.HELD]⟩,
  ⟨0x040098, [], [F.PIX_HELD_PIXELS.LAST]⟩]
def cmpRegs : List RegDesc := [
  ⟨0x050000, [], [F.CMP_TBL_SRC.ADDR]⟩,
  ⟨0x050004, [], [F.CMP_TBL_CMD.REVERT, F.CMP_TBL_CMD.ACTIVATE]⟩,
  ⟨0x050008, [], [F.CMP_TBL_STAT.SLIDE_POS, F.CMP_TBL_STAT.ERR, F.CMP_TBL_STAT.FLASH_CUR, F.CMP_TBL_STAT.SAVED, F.CMP_TBL_STAT.ACTIVE_COPY, F.CMP_TBL_STAT.STATE]⟩,
  ⟨0x05000C, [], [F.CMP_TBL_ID.TABLE_ID]⟩,
  ⟨0x050010, [], [F.CMP_SLIDE.LOG2_FRAMES]⟩,
  ⟨0x050020, [], [F.CMP_AGE_CFG.TRACK, F.CMP_AGE_CFG.INTERVAL]⟩,
  ⟨0x050024, [], [F.CMP_AGE_CHK.LIMIT, F.CMP_AGE_CHK.DEADBAND]⟩,
  ⟨0x050028, [], [F.CMP_STRESS_STAT.FORCE_SAVE, F.CMP_STRESS_STAT.SAVING, F.CMP_STRESS_STAT.REGION, F.CMP_STRESS_STAT.UNSAVED]⟩,
  ⟨0x050040, [(0x10, 4), (0x4, 3)], [F.CMP_AGE.KAPPA 0 0, F.CMP_AGE.FACTOR 0 0]⟩,
  ⟨0x050090, [], [F.CMP_DEF_CFG.STUCK_LIMIT, F.CMP_DEF_CFG.AUTO, F.CMP_DEF_CFG.ACT_AGE, F.CMP_DEF_CFG.ACT_WEAK, F.CMP_DEF_CFG.ACT_DIM, F.CMP_DEF_CFG.ACT_STUCK, F.CMP_DEF_CFG.ACT_SHORT, F.CMP_DEF_CFG.ACT_OPEN]⟩,
  ⟨0x050094, [], [F.CMP_DEF_STAT.OVERFLOW, F.CMP_DEF_STAT.COUNT]⟩,
  ⟨0x050080, [], [F.CMP_CONCEAL.EN, F.CMP_CONCEAL.LIMIT]⟩,
  ⟨0x050084, [], [F.CMP_CONCEAL_STAT.LIMITED_LAST, F.CMP_CONCEAL_STAT.FRAMES_LIMITED]⟩]
def hybRegs : List RegDesc := [
  ⟨0x060000, [(0x4, 3)], [F.HYB_KNEE.KNEE 0]⟩,
  ⟨0x060010, [], [F.HYB_SWEEP.LOG2_S]⟩,
  ⟨0x060014, [], [F.HYB_BLEND.WIDTH]⟩,
  ⟨0x060018, [], [F.HYB_DITHER.COLOUR_ROT, F.HYB_DITHER.EN]⟩,
  ⟨0x060020, [], [F.HYB_STAT.KNEE_CLAMPED, F.HYB_STAT.PHASE, F.HYB_STAT.LADDER_BANK, F.HYB_STAT.LADDER_BUSY, F.HYB_STAT.S_LIMITED, F.HYB_STAT.S_IN_USE]⟩,
  ⟨0x060024, [], [F.HYB_ECC.UNCORR, F.HYB_ECC.CORR]⟩,
  ⟨0x060030, [(0x4, 3)], [F.HYB_KNEE_CODE.NMAX 0, F.HYB_KNEE_CODE.N0 0, F.HYB_KNEE_CODE.NMIN 0]⟩,
  ⟨0x061000, [(0x400, 3), (0x4, 256)], [F.HYB_LAD.LIGHT 0 0]⟩]
def scnRegs : List RegDesc := [
  ⟨0x070000, [(0x1000, 4)], [F.SCN_QCFG.SUBPX_ORDER 0, F.SCN_QCFG.COL_MIRROR 0, F.SCN_QCFG.SCAN_DIR 0]⟩,
  ⟨0x070010, [(0x1000, 4), (0x4, 3)], [F.SCN_AMP.FULL_SCALE 0 0]⟩,
  ⟨0x070020, [(0x1000, 4)], [F.SCN_LBUF.URGENT 0, F.SCN_LBUF.LEVEL 0, F.SCN_LBUF.WATERMARK 0]⟩,
  ⟨0x070024, [(0x1000, 4)], [F.SCN_UNDERRUN.LAST_LINE 0, F.SCN_UNDERRUN.COUNT 0]⟩,
  ⟨0x070040, [(0x1000, 4)], [F.SCN_RB_CFG.RAMP_TOL 0, F.SCN_RB_CFG.TOL 0, F.SCN_RB_CFG.FAIL_N 0, F.SCN_RB_CFG.SRC_DARK 0, F.SCN_RB_CFG.EN 0]⟩,
  ⟨0x070044, [(0x1000, 4)], [F.SCN_RB_STAT.SRC_FAIL 0, F.SCN_RB_STAT.GATE_FAIL 0, F.SCN_RB_STAT.FAILED_OUT 0, F.SCN_RB_STAT.SIGNAL 0, F.SCN_RB_STAT.FAILED_COUNT 0]⟩,
  ⟨0x070050, [(0x1000, 4)], [F.SCN_EE_STAT.ERR 0, F.SCN_EE_STAT.VALID 0, F.SCN_EE_STAT.QUAD 0]⟩,
  ⟨0x070058, [(0x1000, 4)], [F.SCN_EE_SERIAL_LO.SERIAL 0]⟩,
  ⟨0x07005C, [(0x1000, 4)], [F.SCN_EE_SERIAL_HI.SERIAL 0]⟩,
  ⟨0x078000, [], [F.SCN_TIMING.SENSE_PAUSE, F.SCN_TIMING.BLANK]⟩,
  ⟨0x078004, [], [F.SCN_PERIOD.PERIOD_NS]⟩,
  ⟨0x078008, [], [F.SCN_PERIOD_NOW.PERIOD_NS]⟩,
  ⟨0x07800C, [], [F.SCN_TSTAT.BLANK_LIMITED, F.SCN_TSTAT.SLEWING, F.SCN_TSTAT.SLOTS, F.SCN_TSTAT.BLANK_IN_USE]⟩,
  ⟨0x078010, [], [F.SCN_LINE_NOW.LINE_NS]⟩,
  ⟨0x078020, [], [F.SCN_STAT.LOCKED, F.SCN_STAT.COMMIT_LATE]⟩,
  ⟨0x078030, [], [F.SCN_I2C.BUSY, F.SCN_I2C.EE_READ, F.SCN_I2C.FAST]⟩,
  ⟨0x078038, [], [F.SCN_GLASS_ID_LO.ID]⟩,
  ⟨0x07803C, [], [F.SCN_GLASS_ID_HI.ID]⟩]
def snsRegs : List RegDesc := [
  ⟨0x080000, [], [F.SNS_CFG.ITEST, F.SNS_CFG.OPEN_DV]⟩,
  ⟨0x080004, [], [F.SNS_THR_V.OPEN_V, F.SNS_THR_V.SHORT_V]⟩,
  ⟨0x080008, [], [F.SNS_THR_D.STUCK_DV, F.SNS_THR_D.DIM_DV]⟩,
  ⟨0x08000C, [], [F.SNS_THR_S.STUCK_V0, F.SNS_THR_S.WEAK_DV]⟩,
  ⟨0x080010, [(0x4, 3)], [F.SNS_TC.TC 0]⟩,
  ⟨0x080020, [], [F.SNS_ISNS_CFG.EN, F.SNS_ISNS_CFG.PERSIST, F.SNS_ISNS_CFG.REL, F.SNS_ISNS_CFG.ABS]⟩,
  ⟨0x080024, [], [F.SNS_ISNS_SHUNT.SHUNT]⟩,
  ⟨0x080030, [(0x4, 4)], [F.SNS_ISNS_Q.RESID 0, F.SNS_ISNS_Q.MEAS 0]⟩,
  ⟨0x080040, [(0x4, 4)], [F.SNS_QSTAT.OFF 0, F.SNS_QSTAT.BURST 0, F.SNS_QSTAT.MANDATORY 0, F.SNS_QSTAT.ADC_FAILED 0, F.SNS_QSTAT.SWEEP_POS 0]⟩,
  ⟨0x080050, [], [F.SNS_SWEEP.MAX, F.SNS_SWEEP.LAST]⟩,
  ⟨0x080054, [], [F.SNS_CNT.CONFIRMED, F.SNS_CNT.DROPPED]⟩,
  ⟨0x080060, [], [F.SNS_REQ.DONE_SEQ, F.SNS_REQ.QUEUED]⟩,
  ⟨0x080070, [], [F.SNS_RESULT_ADDR.ADDR]⟩,
  ⟨0x080074, [], [F.SNS_BASE_ADDR.ADDR]⟩,
  ⟨0x080080, [(0x4, 4)], [F.SNS_BASE_T.VALID 0, F.SNS_BASE_T.ITEST 0, F.SNS_BASE_T.TREF 0]⟩,
  ⟨0x080090, [(0x8, 4)], [F.SNS_ADC_FAIL_LO.FAIL 0]⟩,
  ⟨0x080094, [(0x8, 4)], [F.SNS_ADC_FAIL_HI.FAIL 0]⟩]
def govRegs : List RegDesc := [
  ⟨0x090000, [], [F.GOV_CFG.RISE, F.GOV_CFG.MARGIN, F.GOV_CFG.EN]⟩,
  ⟨0x090004, [], [F.GOV_BUDGET.PEAK, F.GOV_BUDGET.AVG]⟩,
  ⟨0x090008, [], [F.GOV_WINDOW.SECONDS]⟩,
  ⟨0x09000C, [], [F.GOV_LIMIT.USER, F.GOV_LIMIT.IMAX]⟩,
  ⟨0x090010, [], [F.GOV_PDEV.BASE]⟩,
  ⟨0x090020, [(0x4, 4)], [F.GOV_VLED.VLED 0]⟩,
  ⟨0x090040, [(0x4, 4)], [F.GOV_CEIL.CAUSE 0, F.GOV_CEIL.CEIL 0]⟩,
  ⟨0x090050, [(0x4, 4)], [F.GOV_IPRED.ICODE 0, F.GOV_IPRED.IPRED 0]⟩,
  ⟨0x090060, [], [F.GOV_STAT.CREDIT, F.GOV_STAT.PFRAME]⟩,
  ⟨0x090064, [], [F.GOV_CNT.LATE, F.GOV_CNT.BOUND]⟩,
  ⟨0x090068, [], [F.GOV_FLAGS.LATE_LAST, F.GOV_FLAGS.STALLED, F.GOV_FLAGS.NO_CURVE]⟩,
  ⟨0x090080, [(0x8, 6)], [F.GOV_JOB_CFG.EN 0, F.GOV_JOB_CFG.HEAT_MIN 0, F.GOV_JOB_CFG.POWER 0]⟩,
  ⟨0x090084, [(0x8, 6)], [F.GOV_JOB_STAT.RUNNING 0, F.GOV_JOB_STAT.PENDING 0, F.GOV_JOB_STAT.PAUSED 0, F.GOV_JOB_STAT.FORCED 0]⟩,
  ⟨0x090100, [(0x80, 3), (0x4, 17)], [F.GOV_ICURVE.CUR 0 0]⟩]
def fmcRegs : List RegDesc := [
  ⟨0x0A0000, [], [F.FMC_ORDER.STORED, F.FMC_ORDER.NEXT, F.FMC_ORDER.ORDER]⟩,
  ⟨0x0A0004, [], [F.FMC_ARB.W_MAINT, F.FMC_ARB.W_CORE, F.FMC_ARB.W_STRESS, F.FMC_ARB.W_CAPTURE]⟩,
  ⟨0x0A0008, [], [F.FMC_PD.PD_EN, F.FMC_PD.IN_PD, F.FMC_PD.TIMER]⟩,
  ⟨0x0A000C, [], [F.FMC_PNR.EN, F.FMC_PNR.DIST2, F.FMC_PNR.LOG2_P]⟩,
  ⟨0x0A0010, [], [F.FMC_TRAIN.REQ, F.FMC_TRAIN.INTERVAL, F.FMC_TRAIN.DELTA_T]⟩,
  ⟨0x0A0014, [], [F.FMC_TRAIN_STAT.BUSY, F.FMC_TRAIN_STAT.FAILED, F.FMC_TRAIN_STAT.LAST_T]⟩,
  ⟨0x0A0020, [], [F.FMC_STAT.URGENT, F.FMC_STAT.OUTSTANDING]⟩,
  ⟨0x0A0024, [], [F.FMC_CNT_ERR.UNCORR, F.FMC_CNT_ERR.CORR]⟩,
  ⟨0x0A0028, [], [F.FMC_ERR_ADDR.ADDR]⟩,
  ⟨0x0A002C, [], [F.FMC_CNT_PNR.RUNS]⟩,
  ⟨0x0A0030, [], [F.FMC_CNT_CAP.OVF]⟩,
  ⟨0x0A0034, [], [F.FMC_URG.MAX_NS, F.FMC_URG.EPISODES]⟩,
  ⟨0x0A0040, [], [F.FMC_WIPE_STAT.RETRIED, F.FMC_WIPE_STAT.LAST_MS]⟩]
def pwrRegs : List RegDesc := [
  ⟨0x0B0000, [], [F.PWR_STATE.BUSY, F.PWR_STATE.TARGET, F.PWR_STATE.STATE]⟩,
  ⟨0x0B0004, [], [F.PWR_CFG.VALVE_SETTLE, F.PWR_CFG.START_DARK, F.PWR_CFG.LINK_GUARD, F.PWR_CFG.WAKE_TARGET]⟩,
  ⟨0x0B0008, [], [F.PWR_WAKE_EN.SVC, F.PWR_WAKE_EN.TIMER, F.PWR_WAKE_EN.REED]⟩,
  ⟨0x0B000C, [], [F.PWR_TIMER.SECONDS]⟩,
  ⟨0x0B0010, [], [F.PWR_WAKE_STAT.RETRIES, F.PWR_WAKE_STAT.PENDING, F.PWR_WAKE_STAT.CAUSE]⟩,
  ⟨0x0B0014, [], [F.PWR_PAD.RELEASE, F.PWR_PAD.MISC, F.PWR_PAD.SAFETY, F.PWR_PAD.PANEL, F.PWR_PAD.VALVE]⟩,
  ⟨0x0B0018, [], [F.PWR_LAST_REFUSE.REQUESTER, F.PWR_LAST_REFUSE.TARGET, F.PWR_LAST_REFUSE.REFUSER]⟩,
  ⟨0x0B0044, [(0x4, 10)], [F.PWR_REFUSE_CNT.COUNT 1]⟩,
  ⟨0x0B0080, [(0x4, 4)], [F.PWR_TIME.SECONDS 0]⟩]
def rlnRegs : List RegDesc := [
  ⟨0x0C0000, [], [F.RLN_ID.ID]⟩,
  ⟨0x0C0004, [], [F.RLN_CFG.SLEEP_EN, F.RLN_CFG.WAKE_EN]⟩,
  ⟨0x0C0008, [], [F.RLN_STAT.IDENT, F.RLN_STAT.LAST_RESULT, F.RLN_STAT.LAST_OP, F.RLN_STAT.BREAK, F.RLN_STAT.REGEN]⟩,
  ⟨0x0C000C, [], [F.RLN_POS.UPSTREAM]⟩,
  ⟨0x0C0010, [], [F.RLN_CNT.BREAKS, F.RLN_CNT.OVERRUN, F.RLN_CNT.BAD_FIELD]⟩]
def thmRegs : List RegDesc := [
  ⟨0x0D0000, [], [F.THM_CFG.FLOOR, F.THM_CFG.HYST, F.THM_CFG.RATE_EN]⟩,
  ⟨0x0D0004, [], [F.THM_GLASS.HARD, F.THM_GLASS.END, F.THM_GLASS.START]⟩,
  ⟨0x0D0008, [], [F.THM_NTC.B, F.THM_NTC.R25]⟩,
  ⟨0x0D000C, [], [F.THM_XCHK.TIME, F.THM_XCHK.GLASS_LIM, F.THM_XCHK.DIE_LIM]⟩,
  ⟨0x0D0010, [], [F.THM_RATE.GLASS, F.THM_RATE.DIE]⟩,
  ⟨0x0D0020, [], [F.THM_STAT.SHUT, F.THM_STAT.SHUT_SENSOR, F.THM_STAT.THROTTLE, F.THM_STAT.RATE, F.THM_STAT.HOLD, F.THM_STAT.MARGIN]⟩,
  ⟨0x0D0024, [], [F.THM_FAIL.FAILED]⟩,
  ⟨0x0D0040, [(0x4, 4)], [F.THM_CEIL.SENSOR 0, F.THM_CEIL.CEIL 0]⟩,
  ⟨0x0D0100, [(0x4, 24)], [F.THM_T.TEFF 0, F.THM_T.READ 0]⟩]
def safRegs : List RegDesc := [
  ⟨0x0E0000, [], [F.SAF_UNLOCK.KEY]⟩,
  ⟨0x0E0004, [], [F.SAF_STAT.LATCH, F.SAF_STAT.DISC, F.SAF_STAT.IN_TEST_FAIL, F.SAF_STAT.BC_DEMAND, F.SAF_STAT.OUT_ON, F.SAF_STAT.FB_B, F.SAF_STAT.FB_A, F.SAF_STAT.UNLOCKED, F.SAF_STAT.MUTE_Q, F.SAF_STAT.IN_B, F.SAF_STAT.IN_A, F.SAF_STAT.CAP]⟩,
  ⟨0x0E0008, [], [F.SAF_CFG.DISC_MS, F.SAF_CFG.RST_SRC, F.SAF_CFG.START_LATCH, F.SAF_CFG.FB_EN, F.SAF_CFG.BC_EN, F.SAF_CFG.IN_EN]⟩,
  ⟨0x0E000C, [], [F.SAF_TP.PERIOD_S, F.SAF_TP.OUT_US, F.SAF_TP.SUP_US, F.SAF_TP.SUP_PERIOD]⟩,
  ⟨0x0E0010, [], [F.SAF_FB.TIME_MS]⟩,
  ⟨0x0E0014, [], [F.SAF_CAP.STATIC]⟩,
  ⟨0x0E0020, [(0x4, 4)], [F.SAF_CAPI.EN 0, F.SAF_CAPI.OFS 0, F.SAF_CAPI.LIMIT 0]⟩,
  ⟨0x0E003C, [], [F.SAF_SHUNT.SHUNT]⟩,
  ⟨0x0E0030, [], [F.SAF_BC_CFG.WD_MS, F.SAF_BC_CFG.SEQ_WIN]⟩,
  ⟨0x0E0034, [], [F.SAF_BC_LOCAL.ID]⟩,
  ⟨0x0E0038, [], [F.SAF_BC_PEER.ID]⟩,
  ⟨0x0E0040, [(0x4, 4)], [F.SAF_BC_RX.FRAME 0]⟩,
  ⟨0x0E0050, [(0x4, 4)], [F.SAF_BC_TX.FRAME 0]⟩,
  ⟨0x0E0060, [], [F.SAF_BC_CNT.CHECK_FAIL, F.SAF_BC_CNT.SEQ_BAD, F.SAF_BC_CNT.LOSSES]⟩,
  ⟨0x0E0064, [], [F.SAF_CNT.DEMANDS, F.SAF_CNT.RST_REFUSED, F.SAF_CNT.TESTS_REPEATED]⟩,
  ⟨0x0E0068, [], [F.SAF_PARAM_CRC.CRC]⟩]
def fltRegs : List RegDesc := [
  ⟨0x0F0000, [], [F.FLT_CFG.STORED, F.FLT_CFG.LOG_ALL, F.FLT_CFG.C3_EXIT, F.FLT_CFG.PIN_CLASS]⟩,
  ⟨0x0F0004, [], [F.FLT_STAT.FAULT_N_LOW, F.FLT_STAT.FLASH_PENDING, F.FLT_STAT.HIGHEST, F.FLT_STAT.UNACKED, F.FLT_STAT.LAST_SEQ]⟩,
  ⟨0x0F0008, [], [F.FLT_FIRST.VALID, F.FLT_FIRST.ESC, F.FLT_FIRST.CLASS, F.FLT_FIRST.SOURCE, F.FLT_FIRST.SEQ]⟩,
  ⟨0x0F000C, [], [F.FLT_LATCH.DARK_LATCH, F.FLT_LATCH.LATCH_SRC, F.FLT_LATCH.QUAD]⟩,
  ⟨0x0F0010, [], [F.FLT_LATCH_SRC.SRC]⟩,
  ⟨0x0F0014, [], [F.FLT_CNT_0.CORRECTED, F.FLT_CNT_0.NOTE]⟩,
  ⟨0x0F0018, [], [F.FLT_CNT_1.DARK_LATCH, F.FLT_CNT_1.DARK_QUAD, F.FLT_CNT_1.DEGRADED]⟩,
  ⟨0x0F001C, [], [F.FLT_CNT_2.ESCALATED, F.FLT_CNT_2.INJECTED]⟩,
  ⟨0x0F0020, [], [F.FLT_AVAIL_PRES.TIME]⟩,
  ⟨0x0F0024, [], [F.FLT_AVAIL_LOST.TIME]⟩,
  ⟨0x0F1000, [(0x4, 256)], [F.FLT_SRC.STATE 0, F.FLT_SRC.REAL 0, F.FLT_SRC.CLASS 0, F.FLT_SRC.INJ_CNT 0, F.FLT_SRC.COUNT 0]⟩]
def chkRegs : List RegDesc := [
  ⟨0x100000, [], [F.CHK_SCAN_STAT.BUSY, F.CHK_SCAN_STAT.OWNER, F.CHK_SCAN_STAT.PARAM, F.CHK_SCAN_STAT.PREEMPTS]⟩,
  ⟨0x100004, [], [F.CHK_SCAN_ADDR.ADDR]⟩,
  ⟨0x100008, [], [F.CHK_SCAN_VALUE.VALUE]⟩,
  ⟨0x10000C, [], [F.CHK_SCAN_LAST.CRC]⟩,
  ⟨0x100010, [], [F.CHK_SELFTEST.SCAN_FAIL, F.CHK_SELFTEST.CH_FAIL]⟩,
  ⟨0x100100, [(0x20, 8)], [F.CHK_CH_CFG.PARAM 0]⟩,
  ⟨0x100104, [(0x20, 8)], [F.CHK_CH_VALUE.VALUE 0]⟩,
  ⟨0x100108, [(0x20, 8)], [F.CHK_CH_DATA_B.DATA 0]⟩,
  ⟨0x10010C, [(0x20, 8)], [F.CHK_CH_DATA_H.DATA 0]⟩,
  ⟨0x100110, [(0x20, 8)], [F.CHK_CH_DATA_W.DATA 0]⟩,
  ⟨0x100114, [(0x20, 8)], [F.CHK_CH_RESULT.RESULT 0]⟩]
def tunRegs : List RegDesc := [
  ⟨0x110000, [], [F.TUN_CFG.PERIOD, F.TUN_CFG.DELTA_T, F.TUN_CFG.LOG2_SLIDE, F.TUN_CFG.PARTS]⟩,
  ⟨0x110004, [], [F.TUN_STAT.BUSY, F.TUN_STAT.PHASE, F.TUN_STAT.LAST_RESULT, F.TUN_STAT.PENDING, F.TUN_STAT.AGE]⟩,
  ⟨0x110008, [], [F.TUN_REF.VALID, F.TUN_REF.REF]⟩,
  ⟨0x11000C, [], [F.TUN_CNT.RUNS, F.TUN_CNT.FAILED, F.TUN_CNT.REJECTED]⟩,
  ⟨0x110010, [], [F.TUN_SRC_ADDR.ADDR]⟩,
  ⟨0x110100, [(0x100, 4), (0x4, 48)], [F.TUN_ADC.GAIN 0 0, F.TUN_ADC.OFFSET 0 0]⟩,
  ⟨0x110500, [(0x10, 4), (0x4, 2)], [F.TUN_RAMP.GAIN 0 0, F.TUN_RAMP.OFFSET 0 0]⟩]
def updRegs : List RegDesc := [
  ⟨0x120000, [], [F.UPD_STAT.STATE, F.UPD_STAT.SELF_OK, F.UPD_STAT.ACTIVE_CORE, F.UPD_STAT.ERR, F.UPD_STAT.CAUSE, F.UPD_STAT.TRIAL_S_LEFT]⟩,
  ⟨0x120004, [], [F.UPD_CFG.AUTO_CONFIRM, F.UPD_CFG.TRIAL_S, F.UPD_CFG.CONFIRM_S]⟩,
  ⟨0x120008, [], [F.UPD_RUN_VER.VERSION]⟩,
  ⟨0x12000C, [], [F.UPD_STAGED_VER.VERSION]⟩,
  ⟨0x120010, [], [F.UPD_BOOT.FLOOR, F.UPD_BOOT.REVOKED, F.UPD_BOOT.PREV_OK, F.UPD_BOOT.BOOTED_PREV, F.UPD_BOOT.STAGING, F.UPD_BOOT.PREVIOUS, F.UPD_BOOT.CURRENT]⟩,
  ⟨0x120014, [], [F.UPD_DATA_FMT.STORED, F.UPD_DATA_FMT.RUNNING]⟩,
  ⟨0x120018, [], [F.UPD_CNT.ACTIVATIONS, F.UPD_CNT.FALLBACKS]⟩]

/-- R33: the descriptors of block `b` (address bits 31:16). -/
def blockRegs : Nat → List RegDesc
  | 0 => sysRegs
  | 1 => lnkRegs
  | 2 => zlpRegs
  | 3 => cmdRegs
  | 4 => pixRegs
  | 5 => cmpRegs
  | 6 => hybRegs
  | 7 => scnRegs
  | 8 => snsRegs
  | 9 => govRegs
  | 10 => fmcRegs
  | 11 => pwrRegs
  | 12 => rlnRegs
  | 13 => thmRegs
  | 14 => safRegs
  | 15 => fltRegs
  | 16 => chkRegs
  | 17 => tunRegs
  | 18 => updRegs
  | _ => []

/-- Whether an offset is one of the places the strides and counts give. -/
def onGrid : List (Nat × Nat) → Nat → Bool
  | [], off => off == 0
  | (st, n) :: ds, off => Nat.blt (off / st) n && onGrid ds (off % st)

/-- Whether register `d` occupies address `a` (one of its copies). -/
def RegDesc.holds (d : RegDesc) (a : Nat) : Bool := Nat.ble d.base a && onGrid d.dims (a - d.base)

/-- The register that occupies address `a`, if one does (R33). -/
def descAt (a : Nat) : Option RegDesc := (blockRegs (a / 0x10000)).find? (·.holds a)

/-- The word a list of fields holds after reset. -/
def resetOf : List Fld → Nat
  | [] => 0
  | f :: fs => f.reset * 2 ^ f.lo + resetOf fs

/-- R442: a power-on reset records cause 0x01. R49, R183 and the tables of SCN_QCFG and SNS_TC: reset words that differ between the
copies of one register. -/
def resetExcept : Nat → Option Nat
  | 0x000008 => some 0x1
  | 0x040100 => some 0x8000
  | 0x040110 => some 0x8000
  | 0x040120 => some 0x8000
  | 0x040140 => some 0x8000
  | 0x040150 => some 0x8000
  | 0x040160 => some 0x8000
  | 0x040180 => some 0x8000
  | 0x040190 => some 0x8000
  | 0x0401A0 => some 0x8000
  | 0x0401C0 => some 0x8000
  | 0x0401D0 => some 0x8000
  | 0x0401E0 => some 0x8000
  | 0x072000 => some 0x1
  | 0x073000 => some 0x1
  | 0x080010 => some 0xFF4C
  | 0x080014 => some 0xFF24
  | 0x080018 => some 0xFF10
  | 0x090080 => some 0x800000FA
  | 0x090088 => some 0x800000C8
  | 0x090090 => some 0x80020096
  | 0x090098 => some 0x80000032
  | 0x0900A0 => some 0x80050064
  | 0x0900A8 => some 0x8005012C
  | _ => none

/-- The word register address `a` holds after a power-on reset (the tables' Reset column, R11); an unoccupied address reads zero (R33). -/
def resetWord (a : Nat) : Word :=
  match resetExcept a with
  | some v => BitVec.ofNat 32 v
  | none =>
    match descAt a with
    | some d => BitVec.ofNat 32 (resetOf d.flds)
    | none => 0#32

end Sys2Proof.Machine
end

