-- ==== Sys2Proof/Machine/Sparse.lean ====
section
/-! DEFINITION. Sys2Proof/Machine/Sparse.lean: the one canonical form of everything kept by address: a list of
(key, value) pairs with keys strictly rising and no entry equal to what an unlisted key reads as. Registers, DRAM,
coverage maps and table banks are all held so (DESIGN CHOICE, notes/assumptions/4.md). -/

namespace Sys2Proof.Machine

/-- The value at key `k`; an unlisted key reads `d k`. -/
def Sparse.get {α : Type} (d : Nat → α) : List (Nat × α) → Nat → α
  | [], k => d k
  | (j, v) :: m, k => if k = j then v else Sparse.get d m k

/-- Take key `k` out of the list, wherever it stands. -/
def Sparse.drop {α : Type} : List (Nat × α) → Nat → List (Nat × α)
  | [], _ => []
  | (j, v) :: m, k => if k = j then Sparse.drop m k else (j, v) :: Sparse.drop m k

/-- Put an entry at its place among rising keys. -/
def Sparse.ins {α : Type} : List (Nat × α) → Nat → α → List (Nat × α)
  | [], k, x => [(k, x)]
  | (j, v) :: m, k, x =>
    if k < j then (k, x) :: (j, v) :: m
    else if k = j then (k, x) :: m
    else (j, v) :: Sparse.ins m k x

/-- Write `x` at key `k`: the entry goes if `x` is what the key reads as unlisted. -/
def Sparse.put {α : Type} [DecidableEq α] (d : Nat → α) (m : List (Nat × α)) (k : Nat) (x : α) : List (Nat × α) :=
  if x = d k then Sparse.drop m k else Sparse.ins m k x

/-- The canonical form, keys not below `lo`. -/
def Sparse.wfFrom {α : Type} [DecidableEq α] (d : Nat → α) : Nat → List (Nat × α) → Bool
  | _, [] => true
  | lo, (j, v) :: m => Nat.ble lo j && !decide (v = d j) && Sparse.wfFrom d (j + 1) m

/-- The canonical form: keys strictly rising, no entry equal to the unlisted value. -/
def Sparse.wf {α : Type} [DecidableEq α] (d : Nat → α) (m : List (Nat × α)) : Bool := Sparse.wfFrom d 0 m

/-- The canonical form of any list: later entries for a key win. -/
def Sparse.norm {α : Type} [DecidableEq α] (d : Nat → α) (m : List (Nat × α)) : List (Nat × α) :=
  m.foldl (fun acc e => Sparse.put d acc e.1 e.2) []

end Sys2Proof.Machine
end

