-- ==== Sys2Proof/Machine/State.lean ====
section
/-! DEFINITION. Sys2Proof/Machine/State.lean: the state of the device as plain data, chapter by chapter, the reasons a
command can stop, and the state after reset. Docstrings name the rule of spec/ that gives each piece. -/

namespace Sys2Proof.Machine

/-! ## Quadrant bridges (01_architecture.md) -/

/-- One receiving end of a bridge: the sequence number it expects and how often the present flit has failed in a row (R17). -/
structure BridgeEnd where
  expected : Nat := 0
  fails : Nat := 0
  deriving DecidableEq, Repr, Inhabited

structure BrState where
  /-- the source-die ends of Q0 to Q3 -/
  toDie : List BridgeEnd := [{}, {}, {}, {}]
  /-- the controller-die end, receiving from Q0 to Q3 -/
  toCtrl : List BridgeEnd := [{}, {}, {}, {}]
  deriving DecidableEq, Repr, Inhabited

/-! ## Capture and presentation (02_canvas_and_presentation.md) -/

/-- State of a frame buffer (R51), in the encoding of PIX_FB_STAT.BUF. -/
inductive BufState where
  | free | filling | closing | ready | showing
  deriving DecidableEq, Repr, Inhabited

/-- A frame buffer (R50, R51): its frame, the capture-side values in use for it (R38, R42), the canvas pixels covered
(key q × 2^18 + dy × 512 + dx, R39; pixels outside the canvas count as covered, R43), outside writes still running (R43), and
whether the fill of R56 is complete. -/
structure FrameBuf where
  st : BufState := .free
  no : Nat := 0
  pt : Nat := 0
  geom : List (Nat × Word) := []
  covered : List (Nat × Bool) := []
  outside : Bool := false
  filled : Bool := false
  /-- statistics: count and sum of D_ub by (q × 3 + c) × 256 + bin (R174) -/
  bins : List (Nat × (Nat × Nat)) := []
  deriving DecidableEq, Repr, Inhabited

/-- Contents of a linearisation bank: a built-in function of R45 with its parameters, or a loaded set of 12,288 entries (R46). -/
inductive LinTable where
  | builtin (tf range peak depth : Nat)
  | user (entries : List Nat)
  deriving DecidableEq, Repr, Inhabited

structure LinBank where
  valid : Bool := false
  table : LinTable := .builtin 0 0 1000 10
  deriving DecidableEq, Repr, Inhabited

/-- A BUILD or LOAD in progress, with what it took when it started (R45, R46). -/
inductive LinOp where
  | build (tf range peak depth : Nat)
  | load (src : Nat)
  deriving DecidableEq, Repr, Inhabited

/-- What the decision instant chose for the coming frame start (R54, R62, R63). -/
inductive Decision where
  | none
  | show (buf : Nat)
  | hold
  | fallback
  deriving DecidableEq, Repr, Inhabited

structure PixState where
  /-- the four frame buffers (R50) -/
  bufs : List FrameBuf := [{}, {}, {}, {}]
  /-- the fill source of R492 -/
  fillSrc : Option Nat := none
  /-- capture-side commits not yet taken by a frame-start: instant and values, oldest first (R69) -/
  capDue : List (Nat × List (Nat × Word)) := []
  /-- linearisation banks 0 and 1 (R48) -/
  banks : List LinBank := [{ valid := true }, {}]
  /-- the BUILD or LOAD in progress (R45, R46) -/
  linOp : Option LinOp := none
  /-- consecutive held frames (R62) -/
  holds : Nat := 0
  /-- decision for the coming frame start (R54) -/
  decision : Decision := .none
  /-- the fallback image was entered under R62, the cause of fault 0x42 -/
  feedLost : Bool := false
  /-- the fallback image is shown, outside and inside R62 (PIX_FB_STAT.FALLBACK) -/
  fallback : Bool := true
  /-- the last scan-out frame was a hold -/
  holding : Bool := false
  /-- scan-out frames for which the frame shown has already been shown (R114) -/
  shownFor : Nat := 0
  /-- a frame has been presented since the start or the exit from STANDBY (R63, R114) -/
  presented : Bool := false
  /-- the overlay planes shown in the present frame (R67) -/
  planes : List Nat := []
  deriving DecidableEq, Repr, Inhabited

/-! ## Compensation, ageing and defects (03_compensation_and_concealment.md) -/

/-- A base table with its header (R78); words not listed are GAIN 0x800 and zero fields, the unity word of R84. -/
structure Table where
  id : Nat := 0
  glass : Nat := 0
  beta : List Nat := [0x0180, 0x01A0, 0x01C0]
  tref : Nat := 45
  td : Nat := 12
  loss : List (List Nat) := [[], [], []]
  drift : List (List Int) := [[], [], []]
  words : List (Nat × Word) := []
  deriving DecidableEq, Repr, Inhabited

/-- Sensing baselines as a calibration copy keeps them: per quadrant VALID, ITEST and TREF (R161), and the values. -/
structure Baselines where
  meta_ : List (Bool × Nat × Nat) := [(false, 0, 0), (false, 0, 0), (false, 0, 0), (false, 0, 0)]
  values : List (Nat × Nat) := []
  deriving DecidableEq, Repr, Inhabited

/-- A flash calibration copy (R83), with its DATA_FMT (R435). -/
structure CalCopy where
  seq : Nat
  fmt : Nat
  table : Table
  base : Baselines
  deriving DecidableEq, Repr, Inhabited

/-- A flash stress region's record (R93), with its DATA_FMT (R435). -/
structure StressRec where
  seq : Nat
  fmt : Nat
  codes : List (Nat × Nat)
  defects : List Nat
  kappa : List Int
  deriving DecidableEq, Repr, Inhabited

/-- Why a build runs (R80). -/
inductive BuildKind where
  | activation | revert | ageing
  deriving DecidableEq, Repr, Inhabited

structure CmpState where
  /-- copies A and B of the applied table (R77), which are DRAM from 0x1400_0000 on: words other than the unity word of R84;
  until a start has built copy A the region reads as the wipe has left it -/
  applied : List (List (Nat × Word)) := [[], []]
  /-- a start has built copy A (R84) -/
  built : Bool := false
  /-- the base table in use, and the one a running build or slide brings in -/
  base : Table := {}
  next : Table := {}
  /-- why the running build or slide was begun (R80) -/
  kind : BuildKind := .ageing
  /-- the activation being checked: its file address and the place of its command, if it has one (R79) -/
  checking : Option (Nat × Option (Nat × Nat)) := none
  /-- log2 of K of the running slide (R81) -/
  slideLog2 : Nat := 8
  /-- an ageing rebuild waits for IDLE (R85) -/
  rebuildDue : Bool := false
  /-- target ageing factors and r_ref by q × 3 + c (R90) -/
  targets : List Nat := List.replicate 12 0x8000
  rref : List Nat := List.replicate 12 0x8000
  /-- frames of the stress group that have begun, 0 before the first group, and which of its frames, from 0, is drawn (R87) -/
  groupPos : Nat := 0
  groupPick : Nat := 0
  /-- consecutive sweeps with |m| above LIMIT, by q × 3 + c (R92) -/
  chkFails : List Nat := List.replicate 12 0
  /-- ticks in ACTIVE or DARK since the last write-back (R93, CMP_STRESS_STAT.UNSAVED) -/
  unsaved : Nat := 0
  /-- ticks in ACTIVE or DARK since r_ref was last computed (R90) -/
  ageTicks : Nat := 0
  /-- entry words of the defect table, valid entries in rising order of key (R96) -/
  defects : List Nat := []
  /-- the tables the four tails hold and drive by (R96, R99) -/
  tailDefects : List Nat := []
  /-- DEFECT_EDITs accepted and not yet complete, oldest first (R98, R99) -/
  edits : List Request := []
  /-- why a flash write of R83 that makes the new table's copy current is queued or running, if one is -/
  saveDue : Option BuildKind := none
  /-- donors limited in the present frame (R102) -/
  limited : Nat := 0
  deriving DecidableEq, Repr, Inhabited

/-! ## Hybrid encoder (04_hybrid_encoding.md) -/

/-- What a ladder bank and its voltage maps are built from: the knee of each colour, FULL_SCALE by q × 3 + c, and the amplitude
curves of the quadrants' records as they stood when the maps were written (R108, R119, R134). -/
structure LadderSet where
  knees : List Nat := [0x8000, 0x8000, 0x8000]
  scales : List Nat := List.replicate 12 0x8000
  curves : List (List (List Nat)) := List.replicate 4 [[], [], []]
  deriving DecidableEq, Repr, Inhabited

structure HybState where
  /-- ladders and voltage maps in use (R119) -/
  bank : LadderSet := {}
  /-- the set being built or waiting for its applying frame -/
  building : Option LadderSet := none
  /-- double-bit error not yet rewritten in the tail of Q0 to Q3 (R121) -/
  eccBad : List Bool := [false, false, false, false]
  /-- single-bit error not yet rewritten -/
  eccWarn : List Bool := [false, false, false, false]
  deriving DecidableEq, Repr, Inhabited

/-! ## Scan-out and glass (05_quadrant_scan.md) -/

/-- What waits for its applying frame (R137): a commit's values, a table slide, a ladder exchange, the defect table. -/
inductive DueEvent where
  | commit (values : List (Nat × Word))
  | slide
  | ladder
  | defects (table : List Nat)
  deriving DecidableEq, Repr, Inhabited

/-- An event with its applying frame: `late` for one frame more than the coming one (R137). -/
structure Due where
  late : Bool
  ev : DueEvent
  deriving DecidableEq, Repr, Inhabited

/-- A panel parameter record as read from a quadrant's EEPROM (R126): its bytes, or none when it did not acknowledge. -/
structure GlassRec where
  valid : Bool := false
  tileId : Nat := 0
  serial : Nat := 0
  vthLo : Nat := 0
  vthHi : Nat := 0
  eamp : List (List Nat) := [[], [], []]
  deriving DecidableEq, Repr, Inhabited

/-- The codes a row shows: amplitude code and pulse-width code of output o = 0 to 1,535 (R106, R123). -/
abbrev RowCodes := List (Nat × Nat)

structure ScnState where
  /-- the scan-out timing generator runs -/
  running : Bool := false
  /-- a scan-out frame has started since the start or the exit from STANDBY (R493) -/
  anyFrame : Bool := false
  /-- start of the present frame, as a time value of LT (R140) -/
  start : Nat := 0
  /-- period, blanking lines and log2 of the sweep count of the present frame -/
  period : Nat := 8333333
  blank : Nat := 32
  log2S : Nat := 4
  /-- emission time of the present frame, ns (R133) -/
  emission : Nat := 8333333
  /-- blanking lines of the frame before (R163) -/
  prevBlank : Nat := 32
  /-- scan line whose interval each quadrant has opened last; 1,023 before line 0 -/
  line : List Nat := [1023, 1023, 1023, 1023]
  /-- events waiting for a vertical blank, in order (R137, R493) -/
  due : List Due := []
  /-- the rows as they show on the glass, key q × 512 + row (R124); unwritten rows show zero codes -/
  glass : List (Nat × RowCodes) := []
  /-- the present line is withheld after an underrun: GEN_Qn stays low and the codes last driven stand, per quadrant (R128, R136) -/
  withheld : List Bool := [false, false, false, false]
  /-- scan lines complete in each line buffer, counted from line 0 of the frame (R135, R136) -/
  fetched : List Nat := [0, 0, 0, 0]
  /-- lines of the present frame that a failed read left incomplete, key q × 512 + line (R136, R206) -/
  lineBad : List Nat := []
  /-- the same two of the coming frame, which is fetched from 3 line periods ahead of its start (R26) -/
  ahead : List Nat := [0, 0, 0, 0]
  aheadBad : List Nat := []
  /-- codes sent to the source-output converters for the row each quadrant wrote last, phase A and B of each output, and to the ramp
  converters (q × 2 + h) for the lowest and the highest step of the frame's staircase (R134, R408) -/
  sent : List (List (Int × Int)) := [[], [], [], []]
  rampSent : List (Int × Int) := []
  /-- consecutive failed read-backs, and failed outputs, by output (key q × 1,536 + o) -/
  srcFails : List (Nat × Nat) := []
  srcFailed : List Nat := []
  /-- consecutive failed pad checks, key q × 16 + signal (R142) -/
  sigFails : List (Nat × Nat) := []
  /-- fault 0x5D raised for the quadrant (R151) -/
  sigFailed : List Bool := [false, false, false, false]
  /-- the panel records (R126) -/
  records : List GlassRec := [{}, {}, {}, {}]
  /-- the glass of each quadrant: it meets R124, and the shift direction of its registers as SCAN_DIR gives it (R130, R144) -/
  fits : List (Bool × Nat) := [(true, 0), (true, 0), (true, 1), (true, 1)]
  /-- ceilings and caps the tails latched at line 0 (R73) -/
  latched : List Nat := [0xFFFF, 0xFFFF, 0xFFFF, 0xFFFF]
  latchedCap : List Nat := [0xFFFF, 0xFFFF, 0xFFFF, 0xFFFF]
  deriving DecidableEq, Repr, Inhabited

/-! ## Sensing (06_subpixel_sensing.md) -/

/-- Why a slot is measured (R149): regular sweep (quota or further units), confirmation, burst, tuning, request. -/
inductive SlotUse where
  | sweep
  | confirm (k kind : Nat)
  | burst
  | tuning
  | request (seq : Nat)
  deriving DecidableEq, Repr, Inhabited

/-- A slot of a frame's plan (R150): its slot position in the frame's blanking, scan line, mux position, use, and whether the
measured outputs carry no current. -/
structure Slot where
  pos : Nat
  line : Nat
  mux : Nat
  use : SlotUse
  zero : Bool
  deriving DecidableEq, Repr, Inhabited

/-- A measured unit on its way to the result array: the precharge levels and samples V1 and V2 of ADC g = 0 to 47, in 0.1 mV (R147),
and the plans fixed since it was measured (R158). -/
structure SlotResult where
  quad : Nat
  slot : Slot
  age : Nat
  pre : List Nat
  v1 : List Nat
  v2 : List Nat
  deriving DecidableEq, Repr, Inhabited

/-- A candidate (R158): subpixel k, kind code of R96, and plans still to pass before its confirmation may run. -/
structure Candidate where
  k : Nat
  kind : Nat
  wait : Nat
  deriving DecidableEq, Repr, Inhabited

/-- A queued SENSE_REQUEST (R166) with the units measured so far and its pass (R161). -/
structure SenseReq where
  seq : Nat
  quad : Nat
  mode : Nat
  x0 : Nat
  y0 : Nat
  x1 : Nat
  y1 : Nat
  hold : Bool
  todo : List Nat
  pass : Nat
  /-- sensing has stopped in its quadrant: it completes without further measurement (R167) -/
  dropped : Bool := false
  deriving DecidableEq, Repr, Inhabited

/-- A burst (R164): bands in the order they run, units planned, and whether it has confirmed a kind. -/
structure Burst where
  bands : List Nat
  done : Nat
  confirmed : Bool
  deriving DecidableEq, Repr, Inhabited

/-- A reading that waits for a reference (R156): subpixel, V1, V2 and Tq, in 0.1 mV and 0.1 °C, and the plans fixed since it was
measured (R158). -/
structure Unjudged where
  k : Nat
  v1 : Nat
  v2 : Nat
  tq : Int
  age : Nat
  deriving DecidableEq, Repr, Inhabited

structure SnsQuad where
  /-- running time since the regular sweep started, in ticks (R152) -/
  sweepRun : Nat := 0
  /-- results still to come of the sweep last completed (R148) -/
  sweepTail : Nat := 0
  /-- the plan of the present frame, still to be measured, in slot order (R150) -/
  plan : List Slot := []
  /-- units of earlier plans that were not reached (R150), and the next unit of the regular sweep to be planned (R148) -/
  left : List Slot := []
  sweepNext : Nat := 0
  /-- the candidates, oldest first (R158) -/
  cands : List Candidate := []
  /-- the burst that runs (R164) -/
  burst : Option Burst := none
  /-- the last burst ended without confirming a kind (R165) -/
  unproductive : Bool := false
  /-- frames in a row with, and without, the trigger condition (R165) -/
  trigRun : Nat := 0
  clearRun : Nat := 0
  /-- no further burst starts (R165) -/
  blocked : Bool := false
  /-- fault 0x61 has been raised for the running sweep (R153) -/
  overdue : Bool := false
  /-- ADCs with a miss in the last frame (R169) -/
  adcMiss : List Nat := []
  /-- medians of V2t of the last complete sweep, per colour (R156) -/
  median : List (Option Int) := [none, none, none]
  /-- readings of the running sweep: subpixel, V2, Tq (R156) -/
  sweepV : List (Nat × Nat × Int) := []
  /-- readings waiting for a reference (R156) -/
  unjudged : List Unjudged := []
  deriving DecidableEq, Repr, Inhabited

structure SnsState where
  /-- the sensing engines of Q0 to Q3 -/
  quads : List SnsQuad := [{}, {}, {}, {}]
  /-- measured units not yet in the result array, oldest first (R147) -/
  inflight : List SlotResult := []
  /-- the requests accepted and not yet complete, oldest first (R166, R167) -/
  requests : List SenseReq := []
  /-- sequence number of the next accepted request (R167); the first is 1 (DESIGN CHOICE, notes/assumptions/93.md) -/
  nextSeq : Nat := 1
  /-- kind of the latest reading by subpixel; 6 is NORMAL and the unlisted value (R162) -/
  kinds : List (Nat × Nat) := []
  /-- sums of Tq over the second pass of a BASELINE, with its count (R161) -/
  tqSum : Int := 0
  tqCount : Nat := 0
  /-- readings of the second pass of a BASELINE, by subpixel (R161) -/
  baseNew : List (Nat × Nat) := []
  /-- the firmware has filled the result and baseline arrays in DRAM, so that their unlisted bytes read 0xFF (R160) -/
  filled : Bool := false
  deriving DecidableEq, Repr, Inhabited

/-! ## Governor and background jobs (07_budget_governor.md) -/

/-- A flash write-back, in the order it fell due (R183, R184). -/
inductive FlashJob where
  | overlaySave | overlayRestore
  | calibration
  | stress
  | fmcOrder | zlpRole | fltCfg | safParams | prailCfg | tuning
  | staging
  | logCopy
  deriving DecidableEq, Repr, Inhabited

/-- A background job (R183): due or running, paused, forced, told to pause and not yet at its pause point, and since when it
is due. -/
structure Job where
  pending : Bool := false
  running : Bool := false
  paused : Bool := false
  forced : Bool := false
  pausing : Bool := false
  dueAt : Nat := 0
  deriving DecidableEq, Repr, Inhabited

structure GovState where
  /-- energy credit E, in units of 10^-14 W / 65,536 × 1 ns (R173) -/
  credit : Nat := 0
  /-- the governor's registers as the last evaluation took them at its start, and the caps of Q0 to Q3 then in force (R187) -/
  inUse : List (Nat × Word) := []
  caps : List Nat := [0xFFFF, 0xFFFF, 0xFFFF, 0xFFFF]
  /-- current curves in use by colour, 17 points each; all zero before a valid curve (R175) -/
  curves : List (List Nat) := [[], [], []]
  /-- the curves last committed valid, and the points of the last commit, valid or not (R175, R187) -/
  curvesNext : List (List Nat) := [[], [], []]
  curvesRaw : List (List Nat) := [[], [], []]
  /-- gb and ob of the blocks, by (q × 3 + c) × 256 + block, as they were last built (R174) -/
  bounds : List (Nat × Nat) := []
  /-- ceiling of the previous frame per quadrant (R178) -/
  prev : List Nat := [0xFFFF, 0xFFFF, 0xFFFF, 0xFFFF]
  /-- the buffer whose evaluation is in progress, and the one for which the ceilings in the tails stand (R180, R181) -/
  eval : Option Nat := none
  written : Option Nat := none
  /-- consecutive frames without a ceiling written (R182) -/
  missed : Nat := 0
  /-- power of the last evaluated frame, and its prediction of LED power, in 10^-14 W / 65,536 (R177, R186) -/
  pframe : Nat := 0
  pled : Nat := 0
  /-- the same of the frame whose rows are being written, for R173 and R186 -/
  shownPower : Nat := 0
  shownLed : Nat := 0
  /-- the supply voltages and curves of the last evaluation, and those with which the frame whose rows are being written has been
  predicted (R186, R187) -/
  predVled : List Nat := [4000, 4000, 4000, 4000]
  predCurves : List (List Nat) := [[], [], []]
  shownVled : List Nat := [4000, 4000, 4000, 4000]
  shownCurves : List (List Nat) := [[], [], []]
  /-- the background jobs by their number in R183 -/
  jobs : List Job := [{}, {}, {}, {}, {}, {}]
  /-- flash write-backs pending, in the order they fell due; the head is in flight while the FLASH job runs -/
  flash : List FlashJob := []
  /-- the instants at which they fell due (R183) -/
  flashDue : List Nat := []
  /-- instant at which the last SCRUB pass completed (R183) -/
  scrubAt : Nat := 0
  /-- the frame that ended last drew more than its prediction by more than MARGIN: the cause of fault 0x74 (R186) -/
  overDrawn : Bool := false
  /-- Irow of the present and the two previous frames, by q × 512 + s, in 10^-8 A / 65,536 / 65,536 (R163, R186) -/
  irow : List (Nat × Nat) := []
  irowPrev : List (Nat × Nat) := []
  irowOld : List (Nat × Nat) := []
  deriving DecidableEq, Repr, Inhabited

/-! ## Frame memory controller (08_frame_memory.md) -/

structure FmcState where
  /-- refresh intervals postponed, by rank × 16 + bank (R199) -/
  postponed : List Nat := List.replicate 32 0
  /-- the refresh rates MR4 of ranks 0 and 1 last called for (R199) -/
  mr4 : List Nat := [0, 0]
  /-- banks to which an RFMpb is owed, by rank × 16 + bank (R189, R200) -/
  rfm : List Bool := List.replicate 32 false
  /-- both ranks are in self-refresh (R204) -/
  selfRefresh : Bool := false
  /-- requests outstanding, in the order in which they reached the memory island, and those back-pressured at their ports, in
  order (R195) -/
  queue : List MemReq := []
  held : List MemReq := []
  /-- weighted round robin: the port served last, by its place in R194's table, and how often it may still be served in its
  turn; whether COMP was the real-time port served last under urgency (R196, R197) -/
  turn : Nat := 0
  left : Nat := 0
  compLast : Bool := false
  /-- instant of the last request to ranks 0 and 1 (R204) -/
  lastReq : List Nat := [0, 0]
  /-- the row open in each bank, by rank × 16 + bank (R200) -/
  openRow : List (Option Nat) := List.replicate 32 none
  /-- neighbour refreshes waiting, oldest first: bank (rank × 16 + bank) and activated row (R200) -/
  pnr : List (Nat × Nat) := []
  /-- the rows the last neighbour refresh opened and closed -/
  pnrRows : List Nat := []
  /-- instant of the last training; instant at which a failed one falls due again (R202, R203) -/
  trainAt : Nat := 0
  retryAt : Option Nat := none
  /-- FMC_TRAIN.REQ has been written while a retraining runs (R202) -/
  reqHeld : Bool := false
  /-- steps of the running retraining issued so far (R202) -/
  steps : Nat := 0
  /-- the WCK2DQ interval oscillators as last read (R202) -/
  osc : List Nat := [0, 0]
  /-- corrected reads in the running second; the last second had more than 16, the cause of fault 0x78 (R206) -/
  corrNow : Nat := 0
  corrOver : Bool := false
  /-- since when urgency lasts (R197) -/
  urgentSince : Option Nat := none
  deriving DecidableEq, Repr, Inhabited

/-! ## Serial lanes (09_serial_lanes.md) -/

/-- What a lane keeps beside LNK_LSTAT_k, LNK_LERR_k, LNK_EYE_… and LNK_PAT_ERR_k. -/
structure LaneState where
  /-- the set that arrived last, how often it has arrived identically in a row, and how many sets of its type have been received in
  a row (R220, R221) -/
  last : Option TSet := none
  same : Nat := 0
  run : Nat := 0
  /-- commas in a row at the same position, without error between them (R217) -/
  commas : Nat := 0
  /-- running disparity of the receiver: positive (R210) -/
  rd : Bool := false
  /-- which of the last 15 symbols heard in sync were in error, the latest last (R217) -/
  recent : List Bool := []
  /-- sets the transmitter has sent at its last change between ON and IDLE: their TYPE and how many (R228, R229) -/
  burst : Option (Byte × Nat) := none
  /-- arrival of its comma behind the earliest lane's, in symbols (R219) -/
  offset : Nat := 0
  /-- the receiver has adapted; equaliser settings measured, the best height and its setting (R213) -/
  adapted : Bool := false
  ctleNext : Nat := 0
  ctleBest : Nat := 0
  ctlePeak : Nat := 0
  /-- pattern generator: its last bits, newest first, bits sent, and single errors still to be sent (R231, R232) -/
  gen : List Bool := []
  genCount : Nat := 0
  inject : Nat := 0
  /-- pattern checker: reference or received bits, newest first, error-free bits in a row, and which of the last 256 bits in sync
  were in error (R231) -/
  chk : List Bool := []
  good : Nat := 0
  misses : List Bool := []
  deriving DecidableEq, Repr, Inhabited

structure LinkPort where
  /-- lanes 0 to 3 of the port -/
  lanes : List LaneState := [{}, {}, {}, {}]
  /-- LANE_EN and MAX_RATE as taken at the last entry into DETECT (R221) -/
  laneEn : Nat := 15
  maxRate : Nat := 1
  /-- READY[3:0] of the partner, and whether it has been unchanged for 0.5 ms (R221) -/
  ready : Nat := 0
  stable : Bool := false
  /-- W as fixed when TRAIN was left (R223) -/
  width : Nat := 0
  /-- TX_USED of the partner's TS2 and TS3 -/
  partnerTx : Nat := 0
  /-- when the pattern test of PATTERN_TEST began (R292) -/
  patAt : Nat := 0
  deriving DecidableEq, Repr, Inhabited

/-- An EYE_SCAN command at work (R291): the lane, points still to measure as PHASE and VOFF register fields, counts so far,
and whether its present point has been started. -/
structure EyeCmd where
  src : Nat
  tag : Nat
  port : Nat
  lane : Nat
  bits : Nat
  points : List (Nat × Nat)
  counts : List Nat
  started : Bool
  deriving DecidableEq, Repr, Inhabited

structure LnkState where
  /-- ports P0 to P3 -/
  ports : List LinkPort := [{}, {}, {}, {}]
  /-- EYE_SCAN commands executing, oldest first -/
  eyes : List EyeCmd := []
  /-- measurements queued or running, oldest first: lane port × 4 + k, and the instant of its request (R230) -/
  eyeDue : List (Nat × Nat) := []
  /-- the port TXCLK is to lock to; none for REFCLK (R214) -/
  txTarget : Option Nat := none
  /-- the present holdover has lasted 10 ms; since when TXCLK moves toward the REFCLK frequency from LNK_TXCLK.OFFSET (R215, R216) -/
  holdExpired : Bool := false
  driftAt : Option Nat := none
  deriving DecidableEq, Repr, Inhabited

/-! ## Link protocol (10_zhelan_link.md) -/

/-- A frame stored for a converted-mode transmitter: its bytes, and for a TIME frame the port and instant of its arrival. -/
structure Stored where
  bytes : List Byte
  source : Nat
  at_ : Nat
  deriving DecidableEq, Repr, Inhabited

structure ZlpPort where
  /-- valid TIME frames without LOCAL in a row, and the instant of the last (R266) -/
  run : Nat := 0
  lastAt : Nat := 0
  /-- since when the stream has been valid (R269) -/
  validAt : Nat := 0
  /-- STREAM_ID and HOPS of the last TIME frame, and its CORR (R262) -/
  streamId : Nat := 0
  hops : Nat := 0
  corr : Int := 0
  /-- errors e of the last 16 TIME frames, newest first, in 1/256 ns (R262, R263) -/
  errs : List Int := []
  /-- delay samples in use, newest first, and samples set aside in a row, in 1/12,800 ns (R261) -/
  delays : List Int := []
  aside : List Int := []
  /-- T_TX values sent on this port, with their instants, newest first (R261) -/
  sentT : List (Nat × Nat) := []
  /-- T_TX and arrival of the last valid TIME frame received (R245) -/
  echo : Option (Nat × Nat) := none
  /-- SENT and the FREED last received; frames freed from this link's merge buffer (R256) -/
  sent : Nat := 0
  freedIn : Nat := 0
  freedOut : Nat := 0
  /-- the merge buffer: upstream frames, oldest first, at most 16 (R255) -/
  merge : List (List Byte) := []
  /-- the buffer of a converted-mode transmitter (R254) -/
  conv : List Stored := []
  /-- the transmitter waits, merging, for a frame start on its source before it forwards (R247) -/
  wait : Bool := true
  /-- the transmitter sends idle from a switch until the new stream's next frame start (R267) -/
  splice : Bool := false
  /-- the columns of the last frame the transmitter sent, and how many local TIME frames it has sent, modulo 2^16 (R238, R245) -/
  tx : List Column := []
  seq : Nat := 0
  /-- length of the idle run last sent between frames, in columns (R251) -/
  idleRun : Nat := 0
  deriving DecidableEq, Repr, Inhabited

structure ZlpState where
  /-- LT minus the clock, modulo 2^64 (R259) -/
  ltOffset : Nat := 0
  /-- what ZLP_TIME_HI returns (R259) -/
  hiLatch : Nat := 0
  /-- ports P0 to P3 -/
  ports : List ZlpPort := [{}, {}, {}, {}]
  /-- frames in a row with |e| ≤ 20 ns, and with |e| > 5 µs (R263) -/
  okRun : Nat := 0
  badRun : Nat := 0
  /-- a stream has been selected anew since HOLDOVER was entered (R263) -/
  fresh : Bool := false
  /-- instant up to which LT has been steered (R264) -/
  steerAt : Nat := 0
  /-- a FRAME_END has arrived on the ALT_UP stream since its last FRAME_START (R269) -/
  altEnded : Bool := false
  /-- the next turn of the upstream round robin: 0 the device's own queue, n + 1 port n (R255) -/
  turn : Nat := 0
  deriving DecidableEq, Repr, Inhabited

/-! ## Command packets (11_command_packets.md) -/

/-- A reply packet of R280. -/
structure Reply where
  opcode : Nat
  dup : Bool
  dest : Nat
  src : Nat
  tag : Nat
  status : Nat
  detail : Nat
  payload : List Byte
  deriving DecidableEq, Repr, Inhabited

/-- The replay cache's entries for one source ID: tags with their replies, newest first, at most 64 (R282). -/
structure CacheSrc where
  src : Nat
  tags : List (Nat × Reply)
  deriving DecidableEq, Repr, Inhabited

/-- A command of kind L that holds one of the 32 places (R286): its opcode, its request, the device ID it was taken under (R308), and
whether it has been answered and keeps the place until the reply has been sent, or its work is done. -/
structure Place where
  op : Nat
  req : Request
  id : Nat
  answered : Bool := false
  deriving DecidableEq, Repr, Inhabited

structure CmdState where
  /-- the replay cache by place s, with the source whose last command is oldest first (R282, R283, CMD_SRC_s) -/
  cache : List CacheSrc := []
  /-- source IDs by cache place s, as CMD_SRC_s shows them -/
  slots : List Nat := []
  /-- the commands executing (R286) -/
  places : List Place := []
  /-- replies made and not yet sent upstream, oldest first (R280) -/
  replies : List Reply := []
  deriving DecidableEq, Repr, Inhabited

/-! ## Reed line (12_reed_line.md) -/

/-- Where the regenerating receiver stands in a frame (R305): between frames; after SYNC, its first field to come; after the
first field, with its RESULT. -/
inductive ReedPhase where
  | idle
  | synced
  | acted (op result : Nat)
  deriving DecidableEq, Repr, Inhabited

structure RlnState where
  /-- where the regenerating receiver stands (R305) -/
  phase : ReedPhase := .idle
  /-- fields sent on RL_OUT behind the SYNC of the present or last frame (R305) -/
  out : List (List Byte) := []
  /-- a SYNC has been sent at the output for the present frame -/
  outSync : Bool := false
  /-- the Reed oscillator is ready (R310) -/
  oscReady : Bool := false
  /-- instant at which identification ends, if it runs, and whether the full-tile value is shown at the moment (R313) -/
  identTo : Option Nat := none
  identFlat : Bool := false
  /-- instant of the next change between the two images -/
  identNext : Nat := 0
  /-- a SLEEP request accepted in the present frame starts its entry after the appended status field (R312, R326) -/
  sleepHeld : Bool := false
  deriving DecidableEq, Repr, Inhabited

/-! ## Power states, light and pads (13_power_states.md) -/

/-- Where a quadrant stands on its way to light (R323): valve open; valve closed and settling; settled, rows resume at the
next frame start; current rows being written; EMIT_Qn high. -/
inductive Light where
  | dark | settling | settled | rows | lit
  deriving DecidableEq, Repr, Inhabited

/-- Levels at the output pads that the latches hold (R331, R466). -/
structure PadLevels where
  /-- VALVE_Qn driven, EMIT_Qn high, PRAIL_EN bits -/
  valve : List Bool := [false, false, false, false]
  emit : List Bool := [false, false, false, false]
  prailEn : Nat := 0
  /-- SRC and I²C pads high impedance, ramps at 0 V, GCK, GST, GEN and SENSE low -/
  glassAtRest : Bool := true
  /-- SAFE_OUT_A and _B energised; SAFE_SUP_A and _B driven; FAULT_N low -/
  safeOut : List Bool := [false, false]
  safeSup : Bool := false
  faultLow : Bool := true
  /-- SVC_SDO high impedance -/
  sdoReleased : Bool := true
  deriving DecidableEq, Repr, Inhabited

/-- What runs in the power-state controller: nothing, an entry, an exit, or a start that counts as an exit (R320). -/
inductive Transition where
  | none | entry | exit | start
  deriving DecidableEq, Repr, Inhabited

structure PwrState where
  /-- light of Q0 to Q3 (R323); VALVE_Qn is on unless dark, EMIT_Qn is high when lit -/
  light : List Light := [.dark, .dark, .dark, .dark]
  /-- instant at which each valve closed (R323 step 5) -/
  closedAt : List Nat := [0, 0, 0, 0]
  /-- the transition in progress (R320) -/
  trans : Transition := .start
  /-- state in which the start ends (R318, R330): 0 ACTIVE to 3 SLEEP -/
  startTarget : Nat := 0
  /-- wake events held during an entry, in order: their source codes, 1 REED, 2 TIMER, 3 SVC (R329) -/
  heldWake : List Nat := []
  /-- sources pending, in the bit order of PWR_WAKE_EN (R328) -/
  pendingWake : Nat := 0
  /-- the frame boundary of R324 has been reached in this entry: scan-out stopped, buffers FREE -/
  stopped : Bool := false
  /-- a retry of steps 2 and 3 has been made in this wake, and the instant from which it runs (R330) -/
  retried : Bool := false
  retryAt : Nat := 0
  /-- the start in progress follows a WAKE_FAIL reset and completes this failed transition (R330) -/
  failedTarget : Option Nat := none
  /-- ticks spent in each state since power-on (R317, PWR_TIME_s) -/
  timeIn : List Nat := [0, 0, 0, 0]
  /-- instant of entry into STANDBY or SLEEP, and whether TIMER has fired since (R328) -/
  enteredAt : Nat := 0
  timerDone : Bool := false
  /-- the quadrants whose rows the present frame writes, and whether it began in ACTIVE (R316, R323) -/
  rows : List Bool := [false, false, false, false]
  activeFrame : Bool := false
  /-- levels captured by the pad latches while closed (R331) -/
  pads : PadLevels := {}
  deriving DecidableEq, Repr, Inhabited

/-! ## Temperatures (14_thermal.md) -/

/-- What the device keeps of one sensor beside THM_T_s and THM_FAIL (R336 to R344); temperatures in 0.1 °C. -/
structure Sensor where
  /-- a conversion has been made since monitoring started -/
  has : Bool := false
  /-- the last reading before the first sample of the failing test (R338) -/
  lastValid : Option Int := none
  /-- the instant of the last conversion (R336) -/
  lastAt : Nat := 0
  /-- the last valid reading still holds the substitute up, and the instant of the failure (R338) -/
  floor : Bool := false
  failedAt : Nat := 0
  /-- no conversion for ten periods (R336) -/
  stalled : Bool := false
  /-- failed with no valid neighbour (R338) -/
  blind : Bool := false
  /-- fault 0x81 has been cleared since it failed, and since when its readings pass (R339) -/
  cleared : Bool := false
  passFrom : Option Nat := none
  /-- since when it differs from every valid neighbour, and its reading before that (R336, R338) -/
  apartFrom : Option Nat := none
  apartLast : Int := 0
  /-- the lowest effective temperature since the last rise test, and those between the tests of the last second (R344) -/
  low : Int := 0
  history : List (Nat × Int) := []
  /-- instant of the last window in which it rose by half its limit or more (R344) -/
  restless : Nat := 0
  deriving DecidableEq, Repr, Inhabited

structure ThmState where
  /-- the 24 sensors by their number in R334 -/
  sensors : List Sensor := List.replicate 24 {}
  /-- since when thermal monitoring runs: step 9 of the start (R344) -/
  monitorFrom : Option Nat := none
  /-- the 60 s before the rise test have passed (R344) -/
  rateOn : Bool := false
  /-- the last rise test found a limit exceeded: the cause of fault 0x83 -/
  rateOver : Bool := false
  /-- the latches on the source dies that hold EMIT_Qn and GEN_Qn low (R345) -/
  dieTrip : List Bool := [false, false, false, false]
  deriving DecidableEq, Repr, Inhabited

/-! ## Safety (15_safety_functions.md) -/

/-- The unlock sequence of R377: not begun; the first key written; open for the next write. The source is a SRC_ID, or none
for the service port; the instant is that of the last key. -/
inductive Unlock where
  | closed
  | first (src : Option Nat) (at_ : Nat)
  | opened (src : Option Nat) (at_ : Nat)
  deriving DecidableEq, Repr, Inhabited

structure SafState where
  /-- the levels of SAFE_IN_A and SAFE_IN_B as the island last saw them at the pins (R365) -/
  raw : List Bool := [false, false]
  /-- since when the filtered inputs disagree (R360) -/
  disagreeAt : Option Nat := none
  /-- both channels have been in demand together since DISC was set (R360) -/
  bothOff : Bool := false
  /-- consecutive failed and passed supply test pulses of channels A and B (R359) -/
  supFails : List Nat := [0, 0]
  supPasses : List Nat := [0, 0]
  /-- instants of the last test pulse of SAFE_SUP_A and _B, and of SAFE_OUT_A and _B (R359, R361) -/
  supAt : List Nat := [0, 0]
  outAt : List Nat := [0, 0]
  /-- the outputs are energised, and since when they are as they are (R353, R363) -/
  outOn : Bool := false
  outSince : Nat := 0
  /-- a feedback window of SAF_FB.TIME_MS is open (R363) -/
  fbWindow : Bool := false
  /-- an output has switched itself off in current limit (R490) -/
  outTripped : List Bool := [false, false]
  /-- the result of a test pulse of A or B was discarded and the test is to be repeated (R362) -/
  repeatTest : List Bool := [false, false]
  /-- the first clear of the latch since the start has not happened (R356) -/
  firstClear : Bool := true
  /-- the feedback wait of R366 runs -/
  fbWait : Bool := false
  /-- the pin SAFE_RST is not accepted before this instant (R364) -/
  rstFrom : Nat := 0
  /-- a demand of R354 or R400 stands: heartbeat, lockstep, safety image -/
  coreFail : Bool := false
  /-- consecutive read-backs that disagreed (R354) -/
  pathFails : Nat := 0
  /-- Mute demand of SF-CAP for Q0 to Q3 (R368, R369) -/
  capDemand : List Bool := [false, false, false, false]
  /-- cap word held by each tail, whether it is valid, its 4-bit counter, and when it came (R368) -/
  tailCap : List Nat := [0, 0, 0, 0]
  tailValid : List Bool := [false, false, false, false]
  tailAt : List Nat := [0, 0, 0, 0]
  capCounter : Nat := 0
  /-- consecutive frames whose returned cap was missing or different, per quadrant (R368) -/
  capBad : List Nat := [0, 0, 0, 0]
  /-- consecutive frames above the limit of the cap monitor, per quadrant (R369) -/
  capOver : List Nat := [0, 0, 0, 0]
  /-- black channel: SEQ of the last accepted demand frame, if any since start or loss (R373) -/
  bcLast : Option Nat := none
  /-- RUN and RESTART of the last accepted frame (R364, R365) -/
  bcRun : Bool := false
  bcRestart : Bool := false
  /-- the instant of a restart edge of the black channel that has not been judged (R364) -/
  bcEdge : Option Nat := none
  /-- a demand frame has been accepted since the reset (R364) -/
  bcAny : Bool := false
  /-- the channel is lost, or no frame has been accepted since the release (R374) -/
  bcLost : Bool := true
  /-- CAP of the last accepted frame with CAP_VALID (R367) -/
  bcCap : Nat := 0
  /-- instant of the last accepted frame (R374) -/
  bcAt : Nat := 0
  /-- SEQ of the newest status frame and of the last accepted demand frame, for ECHO_SEQ (R372) -/
  bcTxSeq : Nat := 0
  bcEcho : Nat := 0
  /-- the unlock sequence (R377) -/
  unlock : Unlock := .closed
  /-- the safety core is released from reset (R355) -/
  released : Bool := false
  /-- instant from which the 60 s of R400 run: the release of the core, then its last periodic check -/
  imageFrom : Nat := 0
  deriving DecidableEq, Repr, Inhabited

/-! ## Faults (16_fault_handling.md) -/

/-- A report on its way to the collector: source ID, class raised, quadrant bits (0: whole device), source-specific data,
whether FAULT_INJECT made it, and its instant (R379, R380, R387, R391). -/
structure Report where
  src : Nat
  cls : Nat
  quad : Nat
  data : Nat
  inj : Bool
  at_ : Nat
  deriving DecidableEq, Repr, Inhabited

/-- A log record, with the fields of R391's table. -/
structure LogRec where
  seq : Nat
  src : Nat
  cls : Nat
  raised : Nat
  inj : Bool
  esc : Bool
  first : Bool
  ltValid : Bool
  quad : Nat
  data : Nat
  time : Nat
  deriving DecidableEq, Repr, Inhabited

/-- An entry of the flash log: a record and its CRC-32C as programmed (R391). -/
structure LogEntry where
  entry : LogRec
  crc : Nat
  deriving DecidableEq, Repr, Inhabited

/-- What the collector keeps of an uncleared source beside FLT_SRC_s: the class it was raised in, the quadrants it holds,
and the collector cycle of its real raise (R385, R386, R388). -/
structure Live where
  src : Nat
  raised : Nat
  quad : Nat
  cycle : Nat
  deriving DecidableEq, Repr, Inhabited

structure FltState where
  /-- reports not yet taken by the collector, oldest first (R385) -/
  inbox : List Report := []
  /-- the SRAM log, oldest first, at most 1,024 records (R391) -/
  log : List LogRec := []
  /-- SEQ of the next record (R391) -/
  nextSeq : Nat := 0
  /-- the uncleared sources (R382) -/
  live : List Live := []
  /-- records awaiting their flash copy, next first: forced copies ahead of the others (R391) -/
  copies : List LogRec := []
  /-- SEQ of the records whose copy has failed its read-back once (R391) -/
  copyFailed : List Nat := []
  /-- the FLASH job in flight has been told to pause for a forced copy, or stands paused for it (R391) -/
  flashHeld : Bool := false
  /-- quadrants whose class 3 latch has cleared and whose EMIT_Qn has not been high since (R393) -/
  resuming : List Bool := [false, false, false, false]
  /-- FLT_LATCH has not yet been restored since reset, so FAULT_N is low (R383, R390) -/
  restoring : Bool := true
  /-- collector cycles that have taken reports (R385, R386) -/
  cycle : Nat := 0
  /-- presentation time, and quarter-quadrant unavailable time, in ticks since power-on (R393) -/
  presTicks : Nat := 0
  lostQuarterTicks : Nat := 0
  deriving DecidableEq, Repr, Inhabited

/-! ## Check values (17_check_values.md) -/

/-- A CHECK_REGION scan in progress: the place it holds, the end of its range, the next address and the running value (R400, R401). -/
structure Scan where
  src : Nat
  tag : Nat
  stop : Nat
  next : Nat
  value : Nat
  deriving DecidableEq, Repr, Inhabited

/-- Firmware work that holds a check channel from its begin to its end (R403): the check of a table file, a linearisation LOAD, a reading
of the panel records. -/
inductive ChanUser where
  | table | linear | eeprom
  deriving DecidableEq, Repr, Inhabited

structure ChkState where
  /-- the scan in progress (R400) -/
  scan : Option Scan := none
  /-- what holds channels 0 to 5 of the write-fed engine, and the work that waits for one, in order (R32, R403) -/
  chans : List (Option ChanUser) := List.replicate 6 none
  waits : List ChanUser := []
  /-- the instant of the engines' last self-test (R404) -/
  testAt : Nat := 0
  deriving DecidableEq, Repr, Inhabited

/-! ## Tuning (18_tuning.md) -/

/-- A correction (R408): GAIN or gs, and OFFSET or os. -/
structure Correction where
  gain : Int := 0
  offset : Int := 0
  deriving DecidableEq, Repr, Inhabited

/-- Corrections by converter: ADC q × 48 + g at 0 to 191, output q × 1,536 + o from 192, ramp q × 2 + h from 6,336; an
unlisted converter has zero. -/
abbrev Corrections := List (Nat × Correction)

/-- A run that is due or in progress: its parts in the bits of TUN_CFG.PARTS, the command that asked for it, slot positions
measured by Q0 to Q3 (R410). -/
structure TuneRun where
  parts : Nat
  place : Option (Nat × Nat) := none
  slots : List Nat := [0, 0, 0, 0]
  deriving DecidableEq, Repr, Inhabited

/-- A slide (R414): old and new values of the converters that take new ones, the frame j reached and log2 of K. -/
structure TuneSlide where
  old : Corrections
  new : Corrections
  j : Nat
  log2K : Nat
  deriving DecidableEq, Repr, Inhabited

structure TunState where
  /-- the run that is due or in progress (R410) -/
  run : Option TuneRun := none
  /-- parts of the run that waits (R416) -/
  waiting : Option Nat := none
  /-- the slide that runs (R414) -/
  slide : Option TuneSlide := none
  /-- ADC corrections of the present slide frame, which take effect at its first blanking line (R414) -/
  adcNext : Corrections := []
  /-- accepted results of the runs that completed while a slide runs, in their order (R414) -/
  nextSlides : List Corrections := []
  /-- consecutive rejections by converter (R412) -/
  rejects : List (Nat × Nat) := []
  /-- instant of the last successful run, and the ticks in ACTIVE or DARK at it (R416, R418) -/
  okAt : Nat := 0
  okAwake : Nat := 0
  /-- JqA and JqB of Q0 to Q3 at that run, in 0.1 °C (R416) -/
  junctions : List Int := []
  /-- instant at which a record was last stored (R418) -/
  storedAt : Option Nat := none
  /-- since when REF_IN is outside, and inside, its window (R407) -/
  outsideFrom : Option Nat := none
  insideFrom : Option Nat := none
  deriving DecidableEq, Repr, Inhabited

/-! ## Firmware update (19_firmware_update.md) -/

/-- The fields of an image header (R421) that the device works with. -/
structure ImageHeader where
  cold : Bool := false
  version : Nat := 0
  length : Nat := 4096
  rollback : Nat := 0
  keySlot : Nat := 1
  stateFmt : Nat := 0
  stateFrom : Nat := 0
  dataFmt : Nat := 0
  migFrom : Nat := 0
  safeIf : Nat := 0
  safeIfMin : Nat := 0
  safeOff : Nat := 512
  safeLen : Nat := 0
  safeCrc : Nat := 0
  deriving DecidableEq, Repr, Inhabited

/-- An 8 MiB image area (R424): the bytes programmed since delivery, and the authentic image it was delivered with, of which
only the header is known, as long as no sector of the area has been erased (DESIGN CHOICE, notes/assumptions/3.md). -/
structure ImageArea where
  bytes : List (Nat × Byte) := []
  delivered : Option ImageHeader := none
  deriving DecidableEq, Repr, Inhabited

/-- The staging record (R424): SHA-256 of the staged image, ARMED and CONFIRMED. -/
structure StagingRec where
  hash : List Byte
  armed : Bool
  confirmed : Bool
  deriving DecidableEq, Repr, Inhabited

/-- What a checkpoint keeps (R430, R433): the replay cache with the executing commands; jobs, budget and curves; the tuning; what the
firmware does for the fault collector, which is its flash copies; and the registers that firmware holds, with the groups among them. -/
structure Checkpoint where
  cmd : CmdState
  gov : GovState
  tun : TunState
  copies : List LogRec
  copyFailed : List Nat
  regs : List (Nat × Word)
  deriving DecidableEq, Repr, Inhabited

structure UpdState where
  /-- header of the active image, and of the one the standby core holds (R429, R433) -/
  running : ImageHeader := {}
  standby : ImageHeader := {}
  /-- SAFE_IF of the running safety part (R436) -/
  safeIf : Nat := 0
  /-- 64 KiB sectors of STAGING that are stale (R426) -/
  stale : List Nat := []
  /-- byte ranges (start, end) programmed in the session, and ranges whose programming failed (R426) -/
  written : List (Nat × Nat) := []
  broken : List (Nat × Nat) := []
  /-- the instant at which the governor last wrote ceilings: a handover point follows it (R429) -/
  point : Option Nat := none
  /-- instant at which LOADING was entered (R427), and of the handover or trial start (R431) -/
  loadAt : Nat := 0
  trialAt : Nat := 0
  /-- the trial is one of a cold image (R435) -/
  cold : Bool := false
  /-- a fallback runs after a trip, so the old image resumes from the checkpoint (R433, R437) -/
  tripped : Bool := false
  /-- cause of the fallback that runs, in the code of UPD_STAT.CAUSE -/
  cause : Nat := 0
  /-- the checkpoint last taken (R430) -/
  checkpoint : Option Checkpoint := none
  deriving DecidableEq, Repr, Inhabited

/-! ## Start, supplies, rails and life cycle (20_start_up.md) -/

/-- The one-time fuses and fused constants of R1, R422, R452, R453: never wiped. -/
structure Fuses where
  grade : Nat := 1
  stepping : Nat := 1
  serial : Nat := 0
  keyHashes : List (List Byte) := (List.range 4).map Config.fusedHash
  revoked : Nat := 0
  floor : Nat := 0
  factoryDone : Bool := true
  retired : Bool := false
  deriving DecidableEq, Repr, Inhabited

/-- A copy of the life-cycle record of R452 and R456: state 0 FACTORY to 4 RETIRED; a transition being carried out, from which state
and with which revoke fuses to blow; and the sequence number of the copy. -/
structure LifeRec where
  state : Nat := 2
  pending : Bool := false
  source : Nat := 2
  revoke : Nat := 0
  seq : Nat := 0
  deriving DecidableEq, Repr, Inhabited

/-- What the panel-rail sequencer does (R449): nothing, switching on (waiting for a rail's PG, or for DELAY after it), or
switching off (waiting for a rail's PG to fall). -/
inductive RailSeq where
  | idle
  | waitPg (rail : Nat)
  | waitDelay (rail : Nat)
  | fall (rail : Nat)
  deriving DecidableEq, Repr, Inhabited

structure SysState where
  /-- the fuses -/
  fuses : Fuses := {}
  /-- monitored supplies good: VIN_AON, VIN_CORE, VIN_SER, VIN_IO, VIN_SRC (R439) -/
  supplies : List Bool := [true, true, true, true, true]
  /-- VIN_SAFE present (R439) -/
  vinSafe : Bool := true
  /-- RESET_N is held low (R444) -/
  resetPin : Bool := false
  /-- a warm reset asked for and not yet taken: its cause and detail (R442, R444) -/
  dueReset : Option (Nat × Nat) := none
  /-- the instant it was asked for, and the instant of the last reset (R442, R444) -/
  dueAt : Nat := 0
  resetAt : Option Nat := none
  /-- step 1 of R445 for this start, or step 1 of R327 after a wake (SYS_START.FIRST_LIGHT_MS) -/
  startAt : Nat := 0
  /-- a start runs: from the reset until its last step (R445) -/
  starting : Bool := true
  /-- the start began as a wake from SLEEP (R327) -/
  waking : Bool := false
  /-- the recovery monitor runs (R448) -/
  monitor : Bool := false
  /-- the panel-rail sequencer (R449) -/
  rails : RailSeq := .idle
  /-- rails in use by the present rail sequence (SYS_PRAIL_CFG.USED as taken at its begin), and whether it has run (R449, R494) -/
  used : Nat := 0
  railsUp : Bool := false
  /-- instant from which the sequencer waits for DELAY or for a falling PG -/
  railAt : Nat := 0
  /-- rails switched on whose PG has not yet risen, with the instant of their enable (R450) -/
  pgWait : List (Nat × Nat) := []
  /-- a life-cycle transition that was answered OK waits for the flash write in flight to end: its target and revoke bits (R456) -/
  lifeDue : Option (Nat × Nat) := none
  /-- supplies above their operating range, by line as in SUPPLY_GOOD (R475) -/
  aboveMax : List Bool := List.replicate 6 false
  /-- a listed undefined case, not a supply alone, has begun the freedom of `undef` (R12, R475) -/
  byCase : Bool := false
  /-- the case is a lasting condition that no reset has ended yet (R12) -/
  lasting : Bool := false
  /-- what the last service-port transaction returned on SVC_SDO: its status and, for a read, the value (R457) -/
  svcOut : Option (Nat × Word) := none
  deriving DecidableEq, Repr, Inhabited

/-! ## Flash (01 R14, 03 R83 R93, 16 R391, 19 R421 R425, 20 R452) -/

/-- The records of the device configuration sector with their DATA_FMT (R435): the values last stored of FMC_ORDER, ZLP_ROLE,
FLT_CFG, the safety parameters, SYS_PRAIL_CFG and the tuning corrections (R193, R237, R376, R389, R418, R449). A record that fails
its check is `some none`. -/
structure ConfRec where
  fmt : Nat := 0
  fmcOrder : Option (Option Nat) := none
  zlpRole : Option (Option Nat) := none
  fltCfg : Option (Option Nat) := none
  safParams : Option (Option (List Nat)) := none
  prailCfg : Option (Option Nat) := none
  tuning : Option Corrections := none
  deriving DecidableEq, Repr, Inhabited

/-- A copy of the boot record (R424): area index of CURRENT, PREVIOUS and STAGING, its sequence number, and its DATA_FMT (R435). -/
structure BootRec where
  current : Nat := 0
  previous : Nat := 1
  staging : Nat := 2
  seq : Nat := 0
  fmt : Nat := 0
  deriving DecidableEq, Repr, Inhabited

structure FlashState where
  /-- calibration copies A and B (R83) -/
  calA : Option CalCopy := none
  calB : Option CalCopy := none
  /-- stress regions S0 to S2 (R93) -/
  stress : List (Option StressRec) := [none, none, none]
  /-- the flash overlay store, 64 MiB (R68) -/
  overlay : List (Nat × Byte) := []
  /-- the fault-log region: entries in the order they were programmed (R391) -/
  log : List LogEntry := []
  /-- the configuration records in force, and those of an older DATA_FMT kept until the trial of a cold image ends (R435) -/
  conf : ConfRec := {}
  confOld : Option ConfRec := none
  /-- the three image areas, and the two copies of the boot record, of which one whose CRC-32C fails is none (R424) -/
  areas : List ImageArea := [{ delivered := some {} }, {}, {}]
  boot : List (Option BootRec) := [some {}, none]
  /-- the staging record, if one is written (R424) -/
  record : Option StagingRec := none
  /-- the two copies of the life-cycle record, of which one whose CRC-32C fails is none (R424, R452) -/
  lifeCopies : List (Option LifeRec) := [some {}, none]
  deriving DecidableEq, Repr, Inhabited

/-! ## The whole machine -/

/-- Everything the spec gives the machine. Registers have one home, `regs`; what the spec gives beside them stands in the
groups, one per chapter. -/
structure State where
  /-- clock: ticks of 1/256 ns since power-on -/
  now : Nat := 0
  /-- the freedom of R12 is in force: a listed undefined case has begun and no power-on or warm reset has followed its end, or a supply
  lies above its operating range (R475) -/
  undef : Bool := false
  /-- number of the next free value; the model's own (DESIGN CHOICE, notes/assumptions/2.md) -/
  freeNo : Nat := 0
  /-- the commands waiting, first in first out; the model's own -/
  pending : List Instr := []
  /-- the register file (R33): words by address, canonical over the reset words -/
  regs : List (Nat × Word) := []
  /-- RWS values in force on the frame side (R137) and on the capture side (R69) -/
  frameRegs : List (Nat × Word) := []
  capRegs : List (Nat × Word) := []
  /-- DRAM bytes, canonical over what an unlisted byte reads as (R160, R190, R205) -/
  mem : List Host.Cell := []
  /-- the records and areas of the flash device (R14) -/
  flash : FlashState := {}
  /-- the groups, one per chapter -/
  br : BrState := {}
  pix : PixState := {}
  cmp : CmpState := {}
  hyb : HybState := {}
  scn : ScnState := {}
  sns : SnsState := {}
  gov : GovState := {}
  fmc : FmcState := {}
  lnk : LnkState := {}
  zlp : ZlpState := {}
  cmd : CmdState := {}
  rln : RlnState := {}
  pwr : PwrState := {}
  thm : ThmState := {}
  saf : SafState := {}
  flt : FltState := {}
  chk : ChkState := {}
  tun : TunState := {}
  upd : UpdState := {}
  sys : SysState := {}
  deriving DecidableEq, Repr, Inhabited

/-- Why a command stops: nothing the spec describes does, so no fault has a constructor (NOTES.md, Stops). -/
inductive Fault where
  deriving DecidableEq, Repr

/-- Why a command has no meaning. -/
inductive Refusal where
  /-- raised by exec's arm for a row that has no meaning yet; safe: nothing is claimed of such a command -/
  | notModelled (mnemonic : String)
  deriving DecidableEq, Repr

/-- The device right after a power-on reset, at step 1 of R445: every register at its reset value (R11), DRAM, SRAM and the
queue empty, the start about to begin. Flash and fuses are those of a module as DESIGN CHOICE, notes/assumptions/3.md describes it. -/
def State.reset : State := {}

end Sys2Proof.Machine
end

