-- ==== Sys2Proof/Machine/Ops.lean ====
section
/-! DEFINITION. Sys2Proof/Machine/Ops.lean: the named operations over the register file, DRAM, lists by index, the clock and
the fault inbox that every meaning is written with. -/

namespace Sys2Proof.Machine

/-! ### Bits and lists -/

/-- Write `v` into `len` bits from bit `lo` of `w`. -/
def insertBits (w lo len v : Nat) : Nat := Nat.xor w ((Nat.xor (w >>> lo) v % 2 ^ len) <<< lo)

/-- `len` bits from bit `lo`. -/
def bitsAt (w lo len : Nat) : Nat := (w >>> lo) % 2 ^ len

def boolNat (b : Bool) : Nat := if b then 1 else 0

/-- The bits of four flags, index 0 in bit 0. -/
def bitsOf (bs : List Bool) : Nat := bs.foldr (fun b n => boolNat b + 2 * n) 0

/-- Element `i` of a list that holds one entry per quadrant, port or colour; the default past its end. -/
def nth {α : Type} [Inhabited α] (l : List α) (i : Nat) : α := l.getD i default

/-- The quadrants, in rising order. -/
def quads : List Quad := [0, 1, 2, 3]

/-! ### Registers (R8, R10, R33) -/

/-- The word at register address `a`. -/
def State.reg (s : State) (a : Nat) : Word := Sparse.get resetWord s.regs a

def State.setReg (s : State) (a : Nat) (w : Word) : State := { s with regs := Sparse.put resetWord s.regs a w }

/-- The value of a field. -/
def State.rd (s : State) (f : Fld) : Nat := bitsAt (s.reg f.addr).toNat f.lo f.len

/-- Set a field; bits beyond its width are dropped. -/
def State.wr (s : State) (f : Fld) (v : Nat) : State :=
  s.setReg f.addr (BitVec.ofNat 32 (insertBits (s.reg f.addr).toNat f.lo f.len v))

def State.on (s : State) (f : Fld) : Bool := decide (s.rd f = 1)

def State.wrB (s : State) (f : Fld) (b : Bool) : State := s.wr f (boolNat b)

/-- Count `n` events in a counter field, which saturates at its width. -/
def State.bumpBy (s : State) (f : Fld) (n : Nat) : State := s.wr f (min (2 ^ f.len - 1) (s.rd f + n))

def State.bump (s : State) (f : Fld) : State := s.bumpBy f 1

/-- Read a field in a list of words. -/
def inWords (m : List (Nat × Word)) (f : Fld) : Nat := bitsAt (Sparse.get resetWord m f.addr).toNat f.lo f.len

/-- A field of the RWS registers as the frame side has it in force (R137). -/
def State.frame (s : State) (f : Fld) : Nat := bitsAt (Sparse.get resetWord s.frameRegs f.addr).toNat f.lo f.len

/-- A field of the RWS registers as the capture side has it in force (R69). -/
def State.cap (s : State) (f : Fld) : Nat := bitsAt (Sparse.get resetWord s.capRegs f.addr).toNat f.lo f.len

/-! ### The boot record (R424) -/

/-- The copy in force: the valid one with the higher sequence number. -/
def FlashState.bootCopy (f : FlashState) : Nat :=
  match nth f.boot 0, nth f.boot 1 with
  | some a, some b => if b.seq ≤ a.seq then 0 else 1
  | none, some _ => 1
  | _, none => 0

def FlashState.bootRec (f : FlashState) : BootRec := (nth f.boot f.bootCopy).getD {}

/-- The area that carries each name. -/
def FlashState.current (f : FlashState) : Nat := f.bootRec.current
def FlashState.previous (f : FlashState) : Nat := f.bootRec.previous
def FlashState.staging (f : FlashState) : Nat := f.bootRec.staging

/-- A new boot record, written in format `fmt`, goes into the copy that is not in force. -/
def FlashState.setBoot (f : FlashState) (current previous staging fmt : Nat) : FlashState :=
  { f with boot := f.boot.set (1 - f.bootCopy) (some ⟨current, previous, staging, f.bootRec.seq + 1, fmt⟩) }

/-- The writing of a boot record is cut short: its copy fails its CRC-32C. -/
def FlashState.cutBoot (f : FlashState) : FlashState := { f with boot := f.boot.set (1 - f.bootCopy) none }

/-! ### The life-cycle record (R452) -/

/-- The copy in force: the valid one with the higher sequence number. -/
def FlashState.lifeCopy (f : FlashState) : Nat :=
  match nth f.lifeCopies 0, nth f.lifeCopies 1 with
  | some a, some b => if b.seq ≤ a.seq then 0 else 1
  | none, some _ => 1
  | _, none => 0

/-- The record in force. -/
def FlashState.life (f : FlashState) : LifeRec := (nth f.lifeCopies f.lifeCopy).getD {}

/-- A new record goes into the copy that is not in force. -/
def FlashState.setLife (f : FlashState) (l : LifeRec) : FlashState :=
  { f with lifeCopies := f.lifeCopies.set (1 - f.lifeCopy) (some { l with seq := f.life.seq + 1 }) }

/-- The last writing of the record has been cut short: its copy fails its CRC-32C. -/
def FlashState.cutLife (f : FlashState) : FlashState := { f with lifeCopies := f.lifeCopies.set f.lifeCopy none }

/-! ### DRAM (R190, R241) -/

/-- The result and baseline arrays (R160). -/
def inArrays (a : Nat) : Bool :=
  (Nat.ble 0x0E000000 a && Nat.blt a 0x0E600000) || (Nat.ble 0x0E800000 a && Nat.blt a 0x0EE00000)

/-- What a byte that nothing has written reads as: zero, which the wipe of R205 leaves (DESIGN CHOICE before it,
DESIGN CHOICE, notes/assumptions/4.md), and 0xFF in the result and baseline arrays once the firmware has filled them with 0xFFFF for none. -/
def memUnlisted (filled : Bool) (a : Nat) : Byte := if filled && inArrays a then 255#8 else 0#8

/-- What an unlisted byte reads as now. -/
def State.unlisted (s : State) : Nat → Byte := memUnlisted s.sns.filled

/-- The canonical form of memory holds. -/
def Memory.wf (filled : Bool) (m : List Host.Cell) : Bool := Sparse.wf (memUnlisted filled) m

def State.memWf (s : State) : Bool := Memory.wf s.sns.filled s.mem

/-- The firmware fills the result and baseline arrays with 0xFFFF, none (R160). -/
def State.fillArrays (s : State) : State := { s with sns.filled := true, mem := s.mem.filter (fun c => !inArrays c.1) }

/-- The unity word of R84: GAIN 0x800, every other field zero. -/
def unityWord : Nat → Word := fun _ => 0x80000000#32

/-- Addresses of the applied tables (R77, R190). -/
def inTables (a : Nat) : Bool := decide (0x14000000 ≤ a) && decide (a < 0x15800000)

/-- Word k of copy `n` of the applied table (R77). -/
def State.appliedWord (s : State) (n k : Nat) : Word := Sparse.get unityWord (s.cmp.applied.getD n []) k

def State.readByte (s : State) (a : Nat) : Byte :=
  if inTables a && s.cmp.built then
    let o := a - 0x14000000
    BitVec.ofNat 8 (bitsAt (s.appliedWord (o / 0xC00000) (o % 0xC00000 / 4)).toNat (8 * (o % 4)) 8)
  else Sparse.get s.unlisted s.mem a

def State.writeByte (s : State) (a : Nat) (b : Byte) : State :=
  if inTables a && s.cmp.built then
    let n := (a - 0x14000000) / 0xC00000
    let k := (a - 0x14000000) % 0xC00000 / 4
    let w := insertBits (s.appliedWord n k).toNat (8 * ((a - 0x14000000) % 4)) 8 b.toNat
    { s with cmp.applied := s.cmp.applied.set n (Sparse.put unityWord (s.cmp.applied.getD n []) k (BitVec.ofNat 32 w)) }
  else { s with mem := Sparse.put s.unlisted s.mem a b }

/-- `n` bytes from address `a` upward. -/
def State.readBytes (s : State) (a : Nat) : Nat → List Byte
  | 0 => []
  | n + 1 => s.readByte a :: s.readBytes (a + 1) n

def State.writeBytes (s : State) (a : Nat) : List Byte → State
  | [] => s
  | b :: bs => (s.writeByte a b).writeBytes (a + 1) bs

/-- An `n`-byte little-endian number. -/
def State.readLE (s : State) (a n : Nat) : Nat := ofLE (s.readBytes a n)

def State.writeLE (s : State) (a n v : Nat) : State := s.writeBytes a (leBytes n v)

/-! ### Free values (DESIGN CHOICE, notes/assumptions/2.md) -/

/-- The next free value, and the state after the draw. -/
def State.draw (s : State) : Nat × State := (Config.freeNat s.freeNo, { s with freeNo := s.freeNo + 1 })

/-! ### Faults (R379, R380) -/

/-- Report a fault to the collector. -/
def State.report (s : State) (src cls : Nat) (quad data : Nat) : State :=
  { s with flt.inbox := s.flt.inbox ++ [⟨src, cls, quad, data, false, s.now⟩] }

/-- Report a fault of the whole device, with no data. -/
def State.fault (s : State) (src cls : Nat) : State := s.report src cls 0 0

/-- Report a fault of quadrant `q`. -/
def State.faultQ (s : State) (src cls : Nat) (q : Quad) : State := s.report src cls (2 ^ q.val) 0

/-- A listed undefined case of R296 occurs, an act that ends with itself (R12). -/
def State.undefCase (s : State) : State := { s with undef := true, sys.byCase := true }

/-- A listed undefined case that is a lasting condition of a channel or of the glass begins (R12). The model has it stop when a reset
takes the ports down and darkens the glass, so that the reset after that one ends the freedom (DEDUCED, notes/assumptions/8.md). -/
def State.lastingCase (s : State) : State := { s with undef := true, sys.byCase := true, sys.lasting := true }

/-- What a reset leaves of the freedom of R12: that of a case whose condition it ends, and that of a supply out of range. -/
def State.afterReset (x s : State) : State :=
  { x with undef := s.undef && (s.sys.lasting || s.sys.aboveMax.any id), sys.byCase := s.sys.lasting, sys.aboveMax := s.sys.aboveMax }

/-! ### Time

The clock `now` counts ticks of 1/256 ns since power-on, the unit of LT (R259). -/

def ns (n : Nat) : Nat := 256 * n
def us (n : Nat) : Nat := ns (1000 * n)
def ms (n : Nat) : Nat := us (1000 * n)
def sec (n : Nat) : Nat := ms (1000 * n)

/-- Local time (R259). -/
def State.lt (s : State) : Nat := (s.now + s.zlp.ltOffset) % 2 ^ 64

/-- The device is in SLEEP, and no wake has begun (R316, R327). While the freedom of R12 lasts a register that reads so switches nothing
off. -/
def State.asleep (s : State) : Bool := decide (s.rd F.PWR_STATE.STATE = 3) && decide (s.pwr.trans = .none) && !s.undef

/-! ### Loops over quadrants -/

/-- Do something for Q0 to Q3 in turn. -/
def forQ (f : Quad → State → State) (s : State) : State := f 3 (f 2 (f 1 (f 0 s)))

end Sys2Proof.Machine
end

