-- ==== Sys2Proof/Machine/Mute.lean ====
section
/-! DEFINITION. Sys2Proof/Machine/Mute.lean: the Mute logic, the restart conditions and the safety outputs as the wires they
are (15_safety_functions.md R353, R356, R365, R366; 13_power_states.md R323), and `done`, through which every meaning ends:
the Mute logic acts on whatever state a command leaves (R30, R295). -/

namespace Sys2Proof

/-- What the device may hold once a listed undefined case has begun (R12): free. -/
opaque Config.anyState : Nat → Machine.State

namespace Machine

/-! ### Demands (R353) -/

def State.inEn (s : State) : Bool := s.on F.SAF_CFG.IN_EN
def State.bcEn (s : State) : Bool := s.on F.SAF_CFG.BC_EN
def State.fbEn (s : State) : Bool := s.on F.SAF_CFG.FB_EN
def State.latched (s : State) : Bool := s.on F.SAF_STAT.LATCH
/-- A class 4 fault of the safety island, which acts through the Mute logic before the collector has taken it (R30, R357). -/
def Report.islandFour (r : Report) : Bool := !r.inj && r.cls == 4 && r.src / 16 == 9

/-- A fault of class 4 exists (R353). -/
def State.classFour (s : State) : Bool := s.on F.FLT_LATCH.DARK_LATCH || s.flt.inbox.any Report.islandFour

def State.thermalLatch (s : State) : Bool := s.on F.THM_STAT.SHUT
def State.safeClk (s : State) : Bool := s.on F.SYS_ISLAND_STAT.SAFE_CLK

/-- The items of R353's device demand other than the feedback wait. Without VIN_SAFE both inputs are in demand, whether or not they
are in use (R439, R467). -/
def State.demandBesideWait (s : State) : Bool :=
  s.latched || s.thermalLatch || s.classFour || s.saf.coreFail || !s.safeClk || !s.sys.vinSafe

/-- The device demand of R353. -/
def State.deviceDemand (s : State) : Bool := s.demandBesideWait || s.saf.fbWait

/-- The fault handling holds quadrant q dark (R379, FLT_LATCH). -/
def State.faultDark (s : State) (q : Quad) : Bool := bitsAt (s.rd F.FLT_LATCH.QUAD) q.val 1 == 1

/-- The Mute demand for quadrant q, which the device demand, SF-CAP and a class 3 fault make (R353, R368, R379; SAF_STAT.MUTE_Q). -/
def State.muteQ (s : State) (q : Quad) : Bool := s.deviceDemand || nth s.saf.capDemand q.val || s.faultDark q

/-- Quadrant q's valve is off and its EMIT_Qn is low (R353). -/
def State.dark (s : State) (q : Quad) : Bool := s.muteQ q

def State.lightOf (s : State) (q : Quad) : Light := s.pwr.light.getD q.val .dark

/-- VALVE_Qn is at its on level. -/
def State.valveOn (s : State) (q : Quad) : Bool := decide (s.lightOf q ≠ .dark)

/-- EMIT_Qn is high. -/
def State.emitHigh (s : State) (q : Quad) : Bool := decide (s.lightOf q = .lit)

/-! ### Restart (R356, R365, R366) -/

/-- The conditions of R365, with the raw levels of the inputs at that instant. -/
def State.restartOk (s : State) (rawA rawB : Bool) : Bool :=
  (!s.inEn || (s.on F.SAF_STAT.IN_A && s.on F.SAF_STAT.IN_B && rawA && rawB
    && !s.on F.SAF_STAT.DISC && !s.on F.SAF_STAT.IN_TEST_FAIL))
  && (!s.bcEn || (s.saf.bcRun && !s.saf.bcLost))
  && (!s.fbEn || (s.on F.SAF_STAT.FB_A && s.on F.SAF_STAT.FB_B))
  && !s.classFour && !s.thermalLatch && (s.inEn || s.bcEn)

/-- The latch clears and the feedback wait begins (R366); with FB_EN = 0 there is no wait. -/
def State.clearLatch (s : State) : State :=
  let s := s.wr F.SAF_STAT.LATCH 0
  { s with saf.firstClear := false, saf.fbWait := s.fbEn }

/-- A demand of SF-DARK stands: an input off with IN_EN = 1, as both are without VIN_SAFE, or with BC_EN = 1 a frame with RUN = 0 or the
channel lost (R349, R358, R374, R439). -/
def State.sfDark (s : State) : Bool :=
  (s.inEn && !(s.on F.SAF_STAT.IN_A && s.on F.SAF_STAT.IN_B)) || (s.bcEn && (!s.saf.bcRun || s.saf.bcLost))

/-- The safety latch is set; a feedback wait that runs is over (R357, R366). -/
def State.setLatch (s : State) : State := { s.wr F.SAF_STAT.LATCH 1 with saf.fbWait := false }

/-- A demand of SF-DARK sets the safety latch at once (R357, R366). -/
def State.latchDemand (s : State) : State := if s.sfDark then s.setLatch else s

/-- The first clear after a start needs no edge unless START_LATCH is 1 (R356). The raw levels are those the island has seen last
(DESIGN CHOICE, notes/assumptions/118.md). -/
def State.autoClear (s : State) : State :=
  if s.saf.firstClear && s.latched && s.safeClk && !s.on F.SAF_CFG.START_LATCH && s.restartOk (nth s.saf.raw 0) (nth s.saf.raw 1)
  then s.clearLatch else s

/-- SAFE_OUT_A and SAFE_OUT_B follow the demand; a change opens the feedback window (R353, R363). -/
def State.driveOutputs (s : State) : State :=
  let want := !s.demandBesideWait && s.sys.vinSafe && !s.on F.PWR_PAD.SAFETY
  if want = s.saf.outOn then s
  else { s with saf.outOn := want, saf.outSince := s.now, saf.fbWindow := s.fbEn }

/-! ### Light (R323) -/

/-- The power state asks for light: ACTIVE, no transition in progress, or step 5 of an exit to ACTIVE; valve pads not latched (R316,
R323, R325, R331). -/
def State.lightWanted (s : State) : Bool :=
  ((decide (s.rd F.PWR_STATE.STATE = 0) && decide (s.pwr.trans = .none))
    || (decide (s.pwr.trans = .exit) && decide (s.rd F.PWR_STATE.TARGET = 0) && s.scn.running)) && !s.on F.PWR_PAD.VALVE

/-- Quadrant q comes to a new place on its way to light. -/
def State.setLight (s : State) (q : Quad) (l : Light) : State := { s with pwr.light := s.pwr.light.set q.val l }

/-- Step 10 of R445: valves close in a start into ACTIVE. -/
def State.stepTen (s : State) : State :=
  if s.sys.starting && decide (s.rd F.SYS_START.STEP = 9) then s.wr F.SYS_START.STEP 10 else s

/-- A demand or a fault darkens the quadrant at once; with neither, a wanted valve closes and settles (R323 step 5). -/
def State.driveLight (q : Quad) (s : State) : State :=
  if s.dark q then s.setLight q .dark
  else if s.lightWanted && decide (s.lightOf q = .dark) then
    { (s.setLight q .settling).stepTen with pwr.closedAt := s.pwr.closedAt.set q.val s.now }
  else s

/-! ### Undefined cases (R12) -/

/-- Register addresses whose content R12 leaves in force: the SAF_ and THM_ blocks, the fault latches and the island status that the
Mute logic reads. -/
def keptInUndef (a : Nat) : Bool :=
  decide (a / 0x10000 = 0x0E) || decide (a / 0x10000 = 0x0D) || decide (a = A.FLT_LATCH) || decide (a = A.FLT_LATCH_SRC)
  || decide (a = A.SYS_ISLAND_STAT)

/-- A report of the safety functions or the thermal limits, which the collector acts on in every case. -/
def Report.safety (r : Report) : Bool := r.cls == 4 || r.src / 16 == 8 || r.src / 16 == 9

/-- A list with one entry for each of `n` things. -/
def fitTo {α : Type} [Inhabited α] (n : Nat) (l : List α) : List α := (l ++ List.replicate n default).take n

/-- A state whatever it holds has its fixed number of jobs, banks, table copies, buffers, channels, ports and quadrants. -/
def State.fitted (x : State) : State :=
  { x with
    gov.jobs := fitTo 6 x.gov.jobs, fmc.openRow := fitTo 32 x.fmc.openRow, fmc.lastReq := fitTo 2 x.fmc.lastReq
    cmp.applied := fitTo 2 x.cmp.applied, pix.bufs := fitTo 4 x.pix.bufs, chk.chans := fitTo 6 x.chk.chans
    zlp.ports := fitTo 4 x.zlp.ports, pwr.light := fitTo 4 x.pwr.light
    upd.checkpoint := x.upd.checkpoint.map (fun (c : Checkpoint) => { c with gov.jobs := fitTo 6 c.gov.jobs }) }

/-- While a listed undefined case lasts, everything but the safety functions, the Mute logic and the thermal hard limits, with the caps
and the reports they act by, the flash, the fuses, the glass itself, the clock and the queue is free (R12). -/
def State.havoc (s : State) : State :=
  let x := (Config.anyState s.freeNo).fitted
  { x with
    now := s.now, undef := true, freeNo := s.freeNo + 1, pending := s.pending
    regs := Sparse.norm resetWord (x.regs.filter (fun e => !keptInUndef e.1) ++ s.regs.filter (fun e => keptInUndef e.1))
    mem := Sparse.norm (memUnlisted x.sns.filled) x.mem
    flash := s.flash, saf := s.saf, thm := s.thm, sys := { s.sys with svcOut := x.sys.svcOut }
    scn.latchedCap := s.scn.latchedCap, scn.fits := s.scn.fits, flt.inbox := s.flt.inbox.filter Report.safety ++ x.flt.inbox }

/-- What the wires of the device do to the state a command leaves. -/
def State.settle (s : State) : State :=
  forQ State.driveLight (State.driveOutputs (State.autoClear (State.latchDemand (if s.undef then s.havoc else s))))

/-- Every meaning ends here: the next state, with the Mute logic in force. -/
def done (s : State) : Host.Outcome State Fault Refusal := .next s.settle

end Machine
end Sys2Proof
end

