-- ==== Sys2Proof/Machine/Operands.lean ====
section
/-! DEFINITION. Sys2Proof/Machine/Operands.lean: the request and reply packets, addressing, the acceptance order of R284, the
replay cache and the 32 places (11_command_packets.md). `command` runs one opcode's body after the common tests. -/

namespace Sys2Proof

def Request.replyReq (r : Request) : Bool := r.flags.getLsbD 0
def Request.broadcast (r : Request) : Bool := r.flags.getLsbD 1
def Request.group (r : Request) : Bool := r.flags.getLsbD 2
def Request.noStrip (r : Request) : Bool := r.flags.getLsbD 3

/-- The frame's TYPE and ROUTE_ID agree with the packet header (R253). -/
def Request.consistent (r : Request) : Bool :=
  decide (r.frameType = if r.broadcast || r.group || r.noStrip then 0x21#8 else 0x20#8) && decide (r.routeId = r.dest)

namespace Machine

/-! ### Packet bytes (R276, R277, R280) -/

/-- Bytes 0 to 15 + LEN of a request. -/
def requestBytes (op : Nat) (r : Request) : List Byte :=
  [BitVec.ofNat 8 op, r.flags] ++ leBytes 3 r.dest.toNat ++ leBytes 3 r.src.toNat ++ leBytes 2 r.tag.toNat
    ++ leBytes 2 r.len.toNat ++ leBytes 4 r.arg.toNat ++ r.payload


/-- The device ID; 0x00_0000 while none is assigned (R308). -/
def State.deviceId (s : State) : Nat := s.rd F.RLN_ID.ID

/-- The bytes folded into a request's CRC ahead of the packet (R277, R398). -/
def foldedBytes (op : Nat) (r : Request) (s : State) : List Byte :=
  leBytes 3 (if r.broadcast || r.group then r.dest.toNat else s.deviceId)
    ++ (if op = 0x10 ∨ op = 0x60 then leBytes 4 r.arg.toNat else [])

def crcGood (op : Nat) (r : Request) (s : State) : Bool :=
  decide (crc32c (foldedBytes op r s ++ requestBytes op r) = r.crc.toNat)

/-- A reply packet as sent (R280), its CRC-32C over the replying device's ID and the reply. -/
def replyBytes (p : Reply) : List Byte :=
  let b := [BitVec.ofNat 8 p.opcode, BitVec.ofNat 8 (if p.dup then 0x10 else 0)] ++ leBytes 3 p.dest ++ leBytes 3 p.src
    ++ leBytes 2 p.tag ++ leBytes 2 p.payload.length ++ [BitVec.ofNat 8 p.status] ++ leBytes 3 p.detail ++ p.payload
  b ++ leBytes 4 (crc32c (leBytes 3 p.src ++ b))

/-! ### Addressing (R248, R278) -/

/-- The device is a member of group g (R279). -/
def State.member (s : State) (g : Nat) : Bool :=
  decide (g < 255) && decide (bitsAt (s.reg (A.CMD_GROUP (g / 32))).toNat (g % 32) 1 = 1)

/-- R278: the device takes a command with these flags and this destination. -/
def State.addressed (s : State) (r : Request) : Bool :=
  let d := r.dest.toNat
  if r.broadcast then !r.group && decide (d = 0xFFFFFF)
  else if r.group then decide (0xFFFF00 ≤ d) && decide (d ≤ 0xFFFFFE) && s.member (d - 0xFFFF00)
  else decide (d ≠ 0) && decide (d = s.deviceId)

/-- The role of port p in use (R235): 0 OFF, 1 PRIMARY_UP, 2 ALT_UP, 3 DOWN. -/
def State.role (s : State) (p : Port) : Nat := bitsAt (s.reg A.ZLP_ROLE).toNat (2 * p.val) 2

/-- Port p is ACTIVE, in a link island that is clocked (R221, R316). -/
def State.portActive (s : State) (p : Port) : Bool := s.on F.SYS_ISLAND_STAT.LNK_CLK && decide (s.rd (F.LNK_STAT.STATE p.val) = 5)

/-- R248: the receiver of port p carries canvas, commands and TIME frames of the device's streams. -/
def State.receives (s : State) (p : Port) : Bool :=
  (decide (s.role p = 1) || decide (s.role p = 2)) &&
  (s.on (F.ZLP_PORT_STAT.VALID p.val) ||
    (decide (s.rd F.ZLP_SEL_STAT.STATE = 3) && decide (s.rd F.ZLP_SEL_STAT.PORT = p.val) && s.portActive p
      && !s.on (F.ZLP_PORT_STAT.QUARANTINED p.val)))

/-- The command interpreter runs: from step 4 of R445 on, outside SLEEP (R316, R445). -/
def State.interpreter (s : State) : Bool :=
  decide (4 ≤ s.rd F.SYS_START.STEP) && !s.asleep

/-! ### Replies and the replay cache (R280 to R283) -/

/-- What a command is answered: STATUS, DETAIL and payload (R281). -/
structure Answer where
  status : Nat
  detail : Nat
  payload : List Byte
  deriving DecidableEq, Repr, Inhabited

def Answer.ok (p : List Byte) : Answer := ⟨0, 0, p⟩
def Answer.busy (d : Nat) : Answer := ⟨1, d, []⟩
def Answer.checkFail (d : Nat) : Answer := ⟨2, d, []⟩
def Answer.badOpcode : Answer := ⟨3, 0, []⟩
def Answer.denied (d : Nat) : Answer := ⟨4, d, []⟩
def Answer.range (d : Nat) : Answer := ⟨5, d, []⟩
def Answer.timeout (a : Nat) : Answer := ⟨6, a % 2 ^ 24, []⟩
def Answer.notReady (d : Nat) : Answer := ⟨7, d, []⟩

/-- What a command's body gives: its answer; that the command keeps its place and is answered later; or its answer now, with its place
kept until the reply is sent or, without a reply, until its work, if it is `working`, is done (R286). -/
inductive Verdict where
  | answer (a : Answer)
  | hold
  | keep (working : Bool) (a : Answer)
  deriving DecidableEq, Repr, Inhabited

def replyUnder (id op : Nat) (r : Request) (a : Answer) : Reply :=
  ⟨op, false, r.src.toNat, id, r.tag.toNat, a.status, a.detail, if a.status = 0 then a.payload else []⟩

def State.replyOf (s : State) (op : Nat) (r : Request) (a : Answer) : Reply := replyUnder s.deviceId op r a

/-- Put a reply in the queue, if the request asks for one (R280). -/
def State.send (s : State) (r : Request) (p : Reply) : State :=
  if r.replyReq then { s with cmd.replies := s.cmd.replies ++ [p] } else s

/-- BUSY, CHECK_FAIL and NOT_READY are not cached (R283). -/
def cacheable (a : Answer) : Bool := !(a.status == 1 || a.status == 2 || a.status == 7)

def State.cached (s : State) (r : Request) : Option Reply :=
  (s.cmd.cache.find? (fun c => c.src == r.src.toNat)).bind (fun c => (c.tags.find? (fun t => t.1 == r.tag.toNat)).map (·.2))

def State.executing (s : State) (r : Request) : Bool :=
  s.cmd.places.any (fun p => p.req.src == r.src && p.req.tag == r.tag)

/-- A command that passed tests 1 to 4 of R284 takes a cache place for its source; a ninth source evicts the one whose last
command is oldest (R283). The cache list is kept oldest source first; `slots` keeps each source's place s. -/
def State.touchSource (s : State) (src : Nat) : State :=
  match s.cmd.cache.find? (fun c => c.src == src) with
  | some c => { s with cmd.cache := s.cmd.cache.filter (fun d => d.src != src) ++ [c] }
  | none =>
    match s.cmd.cache, decide (s.cmd.cache.length < 8) with
    | old :: rest, false =>
      let s := { s with cmd.cache := rest ++ [CacheSrc.mk src []]
                        cmd.slots := s.cmd.slots.map (fun x => if x = old.src then src else x) }
      (s.bump F.CMD_CNT_REF.EVICT).fault 0x3A 0
    | _, _ => { s with cmd.cache := s.cmd.cache ++ [CacheSrc.mk src []], cmd.slots := s.cmd.slots ++ [src] }

/-- Keep a reply under its tag, newest first, at most 64 for a source (R282). -/
def State.remember (s : State) (src tag : Nat) (p : Reply) : State :=
  { s with cmd.cache := s.cmd.cache.map (fun c => if c.src = src then { c with tags := ((tag, p) :: c.tags).take 64 } else c) }

/-- A command taken under device ID `id` ends with its answer: the reply is sent and, unless its status forbids it, cached. -/
def State.finishUnder (s : State) (id op : Nat) (r : Request) (a : Answer) : State :=
  let p := replyUnder id op r a
  let s := s.send r p
  if cacheable a then s.remember r.src.toNat r.tag.toNat p else s

def State.finish (s : State) (op : Nat) (r : Request) (a : Answer) : State := s.finishUnder s.deviceId op r a

/-- The command of source `src` and tag `tag` holds place p and is not answered yet. -/
def Place.waits (src tag : Nat) (p : Place) : Bool := !p.answered && p.req.src.toNat == src && p.req.tag.toNat == tag

/-- The places once the command of `src` and `tag` is answered: it keeps its place while a reply waits to be sent (R286). -/
def answered (src tag : Nat) (l : List Place) : List Place :=
  l.filterMap (fun p => if p.waits src tag then (if p.req.replyReq then some { p with answered := true } else none) else some p)

/-- A command of kind L is complete and answered (R286). -/
def State.complete (s : State) (src tag : Nat) (a : Answer) : State :=
  match s.cmd.places.find? (Place.waits src tag) with
  | none => s
  | some p => { s with cmd.places := answered src tag s.cmd.places }.finishUnder p.id p.op p.req a

/-- The work of the answered commands of opcode `op` is done: those without a reply leave their places (R286). -/
def State.workDone (op : Nat) (s : State) : State :=
  { s with cmd.places := s.cmd.places.filter (fun p => !(p.op == op && p.answered && !p.req.replyReq)) }

/-- The reply at the head of the queue has been sent: the command it answers leaves its place (R286). -/
def State.replySent (s : State) : State :=
  match s.cmd.replies with
  | [] => s
  | r :: rest =>
    let mine (p : Place) : Bool := p.answered && p.op == r.opcode && p.req.src.toNat == r.dest && p.req.tag.toNat == r.tag
    { s with cmd.replies := rest, cmd.places := if r.dup then s.cmd.places else s.cmd.places.filter (fun p => !mine p) }

/-- The place of the first command with opcode `op` that is not answered yet, as (SRC_ID, TAG). -/
def State.placeOf (s : State) (op : Nat) : Option (Nat × Nat) :=
  (s.cmd.places.find? (fun p => p.op == op && !p.answered)).map (fun p => (p.req.src.toNat, p.req.tag.toNat))

/-! ### Acceptance (R284) -/

/-- The opcodes of R285. -/
def opcodes : List Nat :=
  [0x01, 0x02, 0x03, 0x04, 0x05, 0x10, 0x11, 0x12, 0x20, 0x21, 0x30, 0x40, 0x48, 0x50, 0x51, 0x52, 0x53, 0x60, 0x61, 0x62,
   0x63, 0x70, 0x78, 0x79, 0x7A, 0x7F]

/-- The opcodes RETIRED leaves (R284). -/
def retiredOpcodes : List Nat := [0x01, 0x02, 0x11, 0x12, 0x50, 0x7F, 0x7A]

/-- The opcodes the recovery monitor answers outside RETIRED (R448). -/
def monitorOpcodes : List Nat := [0x01, 0x02, 0x11, 0x12, 0x50, 0x7F, 0x60, 0x61]

/-- Life-cycle state: 0 FACTORY to 4 RETIRED; the fuses decide over the record (R452). A record of FACTORY behind FACTORY_DONE reads as
COMMISSION (DESIGN CHOICE, notes/assumptions/113.md). -/
def State.lifecycle (s : State) : Nat :=
  if s.sys.fuses.retired then 4 else if s.sys.fuses.factoryDone && s.flash.life.state == 0 then 1 else s.flash.life.state

/-- Where tests 1 to 6 of R284, as far as they hold for every opcode, send a command. -/
inductive Gate where
  | notTaken | tooLong | badCrc | inconsistent | duplicate (p : Reply) | inProgress | full | badOpcode | denied | run
  deriving DecidableEq, Repr

/-- The acceptance order of R284 up to the tests an opcode states for itself. -/
def State.gate (s : State) (op : Nat) (r : Request) : Gate :=
  if !(s.interpreter && s.receives r.port && s.addressed r) then .notTaken
  else if r.len.toNat > 4096 then .tooLong
  else if !crcGood op r s then .badCrc
  else if !r.consistent then .inconsistent
  else match s.cached r with
    | some p => .duplicate p
    | none =>
      if s.executing r then .inProgress
      else if s.cmd.places.length ≥ 32 then .full
      else if !opcodes.contains op then .badOpcode
      else if s.lifecycle = 4 && !retiredOpcodes.contains op then .denied
      else if s.sys.monitor && s.lifecycle ≠ 4 && !monitorOpcodes.contains op then .badOpcode
      else .run

/-- A command that passed every common test is counted and takes its source's cache place. -/
def State.taken (s : State) (r : Request) : State := (s.bump F.CMD_CNT_RX.TAKEN).touchSource r.src.toNat

/-- Take a command of opcode `op`: the common tests, then the body of its opcode. Its reply names the device ID it was taken under,
also where the command restarts the device. -/
def command (op : Nat) (r : Request) (body : State → State × Verdict) (s : State) : State :=
  match s.gate op r with
  | .notTaken => s
  | .tooLong =>
    let s := s.bump F.CMD_CNT_RX.TAKEN
    s.send r (s.replyOf op r (.range 10))
  | .badCrc =>
    let s := ((s.bump F.CMD_CNT_RX.TAKEN).bump F.CMD_CNT_RX.CHECK_FAIL).fault 0x38 0
    s.send r (s.replyOf op r (.checkFail 1))
  | .inconsistent => ((s.bump F.CMD_CNT_RX.TAKEN).bump F.ZLP_CNT.INCONSISTENT).fault 0x36 0
  | .duplicate p => ((s.bump F.CMD_CNT_RX.TAKEN).bump F.CMD_CNT_REF.DUP).send r { p with dup := true }
  | .inProgress => (s.bump F.CMD_CNT_RX.TAKEN).bump F.CMD_CNT_REF.DUP
  | .full =>
    let s := ((s.bump F.CMD_CNT_RX.TAKEN).bump F.CMD_CNT_REF.BUSY).fault 0x39 0
    s.send r (s.replyOf op r (.busy 0))
  | .badOpcode =>
    ((s.taken r).bump F.CMD_CNT_REF.BAD_OPCODE).finish op r .badOpcode
  | .denied => (s.taken r).finish op r (.denied 1)
  | .run =>
    match body (s.taken r) with
    | (x, .answer a) => x.finishUnder s.deviceId op r a
    | (x, .hold) => { x with cmd.places := x.cmd.places ++ [⟨op, r, s.deviceId, false⟩] }
    | (x, .keep working a) =>
      let x := x.finishUnder s.deviceId op r a
      if working || r.replyReq then { x with cmd.places := x.cmd.places ++ [⟨op, r, s.deviceId, true⟩] } else x

/-! ### Payload fields -/

def pByte (r : Request) (i : Nat) : Nat := (r.payload.getD i 0).toNat
def pHalf (r : Request) (i : Nat) : Nat := ofLE ((r.payload.drop i).take 2)
def pWord (r : Request) (i : Nat) : Nat := ofLE ((r.payload.drop i).take 4)

/-- The offset in the packet of the first non-zero byte among payload bytes `lo` to `lo + n - 1`, which the opcode's layout
makes zero (DEDUCED, notes/assumptions/10.md). -/
def nonZeroAt (r : Request) (lo : Nat) : Nat → Option Nat
  | 0 => none
  | n + 1 => if pByte r lo = 0 then nonZeroAt r (lo + 1) n else some (16 + lo)

/-- A body that answers. -/
def answer (a : Answer) (s : State) : State × Verdict := (s, .answer a)

/-- The length test of R285, then the zero bytes of the layout, then the rest. -/
def withLen (n : Nat) (r : Request) (k : State → State × Verdict) (s : State) : State × Verdict :=
  if r.payload.length ≠ n then answer (.range 10) s else k s

def withZeros (r : Request) (lo n : Nat) (k : State → State × Verdict) (s : State) : State × Verdict :=
  match nonZeroAt r lo n with
  | some d => answer (.range d) s
  | none => k s

end Machine
end Sys2Proof
end

