-- ==== Sys2Proof/Machine/Shared.lean ====
section
/-! DEFINITION. Sys2Proof/Machine/Shared.lean: what several chapters use: writing a word by access type (R8), the clocked islands
(R21, R316), the passing of time (R317, R393), background jobs (R183) and urgency (R135, R197). -/

namespace Sys2Proof.Machine

/-! ### A register word written by access type (R8, R10) -/

def storeField (v : Nat) (w : Nat) (f : Fld) : Nat :=
  match f.acc with
  | .rw | .rws | .rwi => insertBits w f.lo f.len (bitsAt v f.lo f.len)
  | .w1c => insertBits w f.lo f.len (bitsAt w f.lo f.len - Nat.land (bitsAt w f.lo f.len) (bitsAt v f.lo f.len))
  | .ro | .rc | .wo => w

/-- The word a register of these fields holds after `v` is written over `old`. -/
def storeFields (old v : Nat) (fs : List Fld) : Nat := fs.foldl (storeField v) old

def fieldsAt (a : Nat) : List Fld :=
  match descAt a with
  | some d => d.flds
  | none => []

/-- Write a word to an address: each field by its type, reserved bits and unoccupied addresses ignored. -/
def State.store (s : State) (a v : Nat) : State :=
  s.setReg a (BitVec.ofNat 32 (storeFields (s.reg a).toNat v (fieldsAt a)))

/-! ### Power state and islands (R316) -/

def State.power (s : State) : Nat := s.rd F.PWR_STATE.STATE

def State.lnkClk (s : State) : Bool := s.on F.SYS_ISLAND_STAT.LNK_CLK
def State.pixClk (s : State) : Bool := s.on F.SYS_ISLAND_STAT.PIX_CLK
def State.memClk (s : State) : Bool := s.on F.SYS_ISLAND_STAT.MEM_CLK
def State.qClk (s : State) (q : Quad) : Bool := bitsAt (s.rd F.SYS_ISLAND_STAT.QCLK) q.val 1 == 1
def State.allQClk (s : State) : Bool := s.rd F.SYS_ISLAND_STAT.QCLK == 15

/-- ACTIVE or DARK: capture, scan-out, sensing and governor run (R316). -/
def State.awake (s : State) : Bool := decide (s.power ≤ 1)

/-- The governor firmware runs (R316). In FALLBACK the last ceilings stand until the old image resumes (R433). -/
def State.governing (s : State) : Bool := s.awake && s.pixClk && decide (s.rd F.UPD_STAT.STATE ≠ 7)

/-! ### Lists by index -/

def setAt {α : Type} (l : List α) (i : Nat) (x : α) : List α := l.set i x

def modAt {α : Type} [Inhabited α] (l : List α) (i : Nat) (f : α → α) : List α := l.set i (f (nth l i))

/-- An index of a list of four. -/
def quadOf (i : Nat) : Quad := ⟨i % 4, Nat.mod_lt _ (by decide)⟩

/-! ### Check channels (R32, R403, R404) -/

/-- Channel c has not failed its self-test. -/
def State.channelGood (s : State) (c : Nat) : Bool := bitsAt (s.rd F.CHK_SELFTEST.CH_FAIL) c 1 == 0

/-- The firmware's first channel, of 0 to 5, that is good and that no work holds. -/
def State.freeChannel (s : State) : Option Nat := (List.range 6).find? (fun c => s.channelGood c && (nth s.chk.chans c).isNone)

/-- All channels of the firmware are in use or out of use, so that a request for one waits. -/
def State.noChannel (s : State) : Bool := s.freeChannel.isNone

/-- Work of the firmware on channel c, by the set of its checks; what it leaves in the channel is open (R402; DESIGN CHOICE,
notes/assumptions/110.md). -/
def State.channelWork (s : State) (c : Nat) : State :=
  let (v, s) := s.draw
  (s.wr (F.CHK_CH_CFG.PARAM c) 3).wr (F.CHK_CH_VALUE.VALUE c) v

/-- The check of one record, on a channel that is free. -/
def State.checkRecord (s : State) : State :=
  match s.freeChannel with
  | some c => s.channelWork c
  | none => s

/-- The work that has waited longest takes a channel that is free. -/
def State.serveWaits (s : State) : State :=
  match s.chk.waits, s.freeChannel with
  | u :: rest, some c => { s with chk.waits := rest, chk.chans := s.chk.chans.set c (some u) }
  | _, _ => s

/-- Work `u` begins: it takes a channel, or waits for one behind the work that waits already. -/
def State.takeChannel (s : State) (u : ChanUser) : State :=
  ({ s with chk.waits := s.chk.waits ++ [u] } : State).serveWaits

/-- Work `u` has a channel. -/
def State.hasChannel (s : State) (u : ChanUser) : Bool := s.chk.chans.contains (some u)

/-- Work `u` is over: its channel is free for work that waits. -/
def State.leaveChannel (s : State) (u : ChanUser) : State :=
  let s := match s.chk.chans.findIdx? (· == some u) with
    | some c => { s.channelWork c with chk.chans := s.chk.chans.set c none }
    | none => { s with chk.waits := s.chk.waits.filter (· != u) }
  s.serveWaits

/-- Work on channels that have failed moves to other channels, ahead of the work that waits (R404). -/
def State.moveChannels (s : State) : State :=
  let lost := (List.range 6).filterMap (fun c => if s.channelGood c then none else nth s.chk.chans c)
  let s : State := { s with
    chk.chans := (List.range 6).map (fun c => if s.channelGood c then nth s.chk.chans c else none), chk.waits := lost ++ s.chk.waits }
  lost.foldl (fun s _ => s.serveWaits) s

/-- Consecutive failing checks of the output with this key by which it has failed: SCN_RB_CFG.FAIL_N (R141). -/
def State.failLimit (s : State) (key : Nat) : Nat := max 1 (s.rd (F.SCN_RB_CFG.FAIL_N (key / 1536)))

/-! ### Time -/

/-- Identification runs (R313, RLN_STAT.IDENT). -/
def State.identifying (s : State) : Bool := s.rln.identTo.isSome

/-- Quadrant q is dark under class 3: latched, or on its way back to light (R388, R393). -/
def State.darkByFault (s : State) (q : Quad) : Bool := s.faultDark q || nth s.flt.resuming q.val

/-- Quadrants whose time counts as lost under R393. -/
def State.lostQuads (s : State) : Nat :=
  if s.pix.fallback || s.identifying || s.classFour || s.thermalLatch then 4
  else (quads.filter s.darkByFault).length

/-- Time in which the device is to present (R393). -/
def State.presenting (s : State) : Bool := decide (s.power = 0) && !s.latched

/-- Let the clock reach instant `t`: the accounting of R90, R93, R152, R317 and R393 grows by the time passed in the state the
device has been in. An instant already passed leaves everything as it is. -/
def State.advance (s : State) (t : Nat) : State :=
  let dt := t - s.now
  { s with
    now := s.now + dt
    pwr.timeIn := modAt s.pwr.timeIn s.power (· + dt)
    flt.presTicks := s.flt.presTicks + (if s.presenting then dt else 0)
    flt.lostQuarterTicks := s.flt.lostQuarterTicks + (if s.presenting then dt * s.lostQuads else 0)
    cmp.unsaved := s.cmp.unsaved + (if s.awake then dt else 0)
    cmp.ageTicks := s.cmp.ageTicks + (if s.awake then dt else 0)
    sns.quads := if s.scn.running then s.sns.quads.map (fun (x : SnsQuad) => { x with sweepRun := x.sweepRun + dt }) else s.sns.quads }

/-! ### Background jobs (R183, R184) -/

def jobRetrain : Nat := 0
def jobFlash : Nat := 1
def jobTune : Nat := 2
def jobSense : Nat := 3
def jobScrub : Nat := 4
def jobEye : Nat := 5

def State.job (s : State) (j : Nat) : Job := nth s.gov.jobs j

def State.setJob (s : State) (j : Nat) (x : Job) : State := { s with gov.jobs := s.gov.jobs.set j x }

/-- A job falls due. -/
def State.jobDue (s : State) (j : Nat) : State :=
  let x := s.job j
  if x.pending || x.running || x.pausing || x.paused then s else s.setJob j { x with pending := true, dueAt := s.now }

/-- A job is forced: it counts and raises fault 0x73 (R184). -/
def State.forceJob (s : State) (j : Nat) : State :=
  let x := s.job j
  if x.forced then s
  else ((s.setJob j { x with forced := true }).bump (F.GOV_JOB_STAT.FORCED j)).fault 0x73 0

/-- A job is over. -/
def State.jobEnd (s : State) (j : Nat) : State := s.setJob j {}

/-- A flash write-back falls due as a FLASH job, behind those already due (R183, R184). -/
def State.addFlash (s : State) (w : FlashJob) : State :=
  ({ s with gov.flash := s.gov.flash ++ [w], gov.flashDue := s.gov.flashDue ++ [s.now] } : State).jobDue jobFlash

/-- The same, unless one of its kind is due already. -/
def State.queueFlash (s : State) (w : FlashJob) : State := if s.gov.flash.contains w then s else s.addFlash w

/-- The write-back `w` is in flight: it is the first of those due, and the FLASH job has been admitted and not yet paused. The recovery
monitor, which no governor admits, runs the first at once (R32, R184, R448). -/
def State.inFlight (s : State) (w : FlashJob) : Bool :=
  decide (s.gov.flash.head? = some w) && ((s.job jobFlash).running || (s.job jobFlash).pausing || s.sys.monitor)

/-- No flash write is in flight any more: a life-cycle transition that waited for its end writes the record, with PENDING (R456). -/
def State.flashIdle (s : State) : State :=
  match s.sys.lifeDue with
  | some (target, revoke) =>
    { s with flash := s.flash.setLife { state := target, pending := true, source := s.lifecycle, revoke := revoke }, sys.lifeDue := none }
  | none => s

/-- The write-back in flight is over: the FLASH job goes on with the next, which is judged by its own due time, or ends. A forced copy
that waits for it, or a life-cycle transition, goes ahead of the next (R391, R456). -/
def State.flashDone (s : State) : State :=
  let s := { s with gov.flash := s.gov.flash.drop 1, gov.flashDue := s.gov.flashDue.drop 1 }
  match s.gov.flashDue with
  | [] => (s.jobEnd jobFlash).flashIdle
  | d :: _ =>
    let x := s.job jobFlash
    let halt := x.forced || s.sys.lifeDue.isSome
    let held := x.pausing && s.flt.flashHeld
    (s.setJob jobFlash { x with
      dueAt := d, forced := false, running := x.running && !halt, pending := x.pending || halt || held
      pausing := x.pausing && !held, paused := x.paused || held }).flashIdle

/-- A record of class 3 or 4 awaits its flash copy, which is forced (R391). -/
def State.forcedCopy (s : State) : Bool := s.flt.copies.any (fun r => Nat.ble 3 r.cls)

/-! ### Records of another DATA_FMT (R435) -/

/-- The running image reads records of format `f`. -/
def State.readsFmt (s : State) (f : Nat) : Bool := Nat.ble s.upd.running.migFrom f && Nat.ble f s.upd.running.dataFmt

/-- The configuration records as a start finds them: firmware reads only the formats its image knows (R435), the monitor reads any
(DESIGN CHOICE, notes/assumptions/141.md). -/
def State.storedConf (s : State) : ConfRec := if s.sys.monitor || s.readsFmt s.flash.conf.fmt then s.flash.conf else {}

/-! ### Line buffers and urgency (R135, R197) -/

def State.lineOf (s : State) (q : Quad) : Nat := s.scn.line.getD q.val 1023

/-- No quadrant has opened line 0 of the present frame. -/
def State.firstLine (s : State) : Bool := s.scn.line.all (· == 1023)

/-- Line `n` of the present frame is complete in quadrant q's buffer: all its reads have returned and none has failed. -/
def State.lineComplete (s : State) (q : Quad) (n : Nat) : Bool :=
  decide (n < s.scn.fetched.getD q.val 0) && !s.scn.lineBad.contains (q.val * 512 + n)

/-- Line `n` of the coming frame is complete in quadrant q's buffer (R26). -/
def State.aheadComplete (s : State) (q : Quad) (n : Nat) : Bool :=
  decide (n < s.scn.ahead.getD q.val 0) && !s.scn.aheadBad.contains (q.val * 512 + n)

/-- Complete lines beyond the one being written, 0 to 5 (SCN_LBUF.LEVEL): of the present frame while its active lines are
written, of the coming one in the blanking. -/
def State.bufLevel (s : State) (q : Quad) : Nat :=
  let next := (s.lineOf q + 1) % 1024
  ((List.range 5).filter (fun i =>
    if next ≤ 512 then decide (next + i < 512) && s.lineComplete q (next + i) else s.aheadComplete q i)).length

def State.urgent (s : State) (q : Quad) : Bool := s.on (F.SCN_LBUF.URGENT q.val)

def State.anyUrgent (s : State) : Bool := s.urgent 0 || s.urgent 1 || s.urgent 2 || s.urgent 3

/-- The active lines of the present frame of quadrant q are not over: they end where the interval of line 512 opens. In the blanking, the
lead of line 0 included, no urgency is raised (R135; DESIGN CHOICE, notes/assumptions/124.md). -/
def State.inActive (s : State) (q : Quad) : Bool := decide ((s.lineOf q + 1) % 1024 ≤ 512)

/-- SCN_LBUF.WATERMARK in force: 0 acts as 1, 6 and 7 as 5. -/
def State.watermark (s : State) (q : Quad) : Nat := clampNat 1 5 (s.rd (F.SCN_LBUF.WATERMARK q.val))

/-- Quadrant q raises, keeps or releases urgency by its level (R135). -/
def State.judgeUrgency (q : Quad) (s : State) : State :=
  let level := s.bufLevel q
  let mark := s.watermark q
  let urgent := s.inActive q && s.scn.running && (decide (level < mark) || (s.urgent q && decide (level ≤ mark)))
  (s.wr (F.SCN_LBUF.LEVEL q.val) level).wrB (F.SCN_LBUF.URGENT q.val) urgent

/-- Episodes of urgency as the memory controller counts them (R197). -/
def State.countUrgency (s : State) : State :=
  match s.fmc.urgentSince, s.anyUrgent with
  | none, true => { s.bump F.FMC_URG.EPISODES with fmc.urgentSince := some s.now }
  | some t, false =>
    let long := max (s.rd F.FMC_URG.MAX_NS) (min 0xFFFF ((s.now - t) / ns 10))
    { s.wr F.FMC_URG.MAX_NS long with fmc.urgentSince := none }
  | _, _ => s

end Sys2Proof.Machine
end

