-- ==== Sys2Proof/Machine/Thermal.lean ====
section
/-! DEFINITION. Sys2Proof/Machine/Thermal.lean: sensors, substitution, throttle, rate of rise and the hard limits
(14_thermal.md). Temperatures are in 0.1 °C. -/

namespace Sys2Proof.Machine

/-! ### Where the sensors sit (R334, R337) -/

/-- Quadrants sensor `i` governs, bit q for Qq. -/
def governs (i : Nat) : Nat :=
  if 8 ≤ i ∧ i < 16 then 2 ^ ((i - 8) / 2) else if 20 ≤ i then 2 ^ (i - 20) else 15

/-- The two quadrants that share an edge with q. -/
def edges (q : Nat) : List Nat := if q = 0 ∨ q = 3 then [1, 2] else [0, 3]

/-- The neighbours of sensor `i`. -/
def neighbours (i : Nat) : List Nat :=
  match i with
  | 0 => [1, 2, 7]
  | 1 => [0, 3, 7]
  | 2 => [0, 4, 7]
  | 3 => [1, 5, 7]
  | 4 => [2, 5, 6]
  | 5 => [3, 4, 6]
  | 6 => [4, 5, 7]
  | 7 => [0, 1, 6]
  | _ =>
    if i < 16 then (if i % 2 = 0 then i + 1 else i - 1) :: (edges ((i - 8) / 2)).map (fun q => 8 + 2 * q + i % 2)
    else if i < 20 then [16, 17, 18, 19].filter (· ≠ i)
    else (edges (i - 20)).map (20 + ·)

/-- QUAD of a fault of sensor `i`: the quadrant of a glass or source-die sensor (R380). -/
def sensorQuad (i : Nat) : Nat := if governs i = 15 then 0 else governs i

/-! ### Limits (R340, THM_GLASS, THM_CFG) -/

def State.glassHard (s : State) : Nat := clampNat 60 110 (s.rd F.THM_GLASS.HARD)
def State.glassEnd (s : State) : Nat := min (s.rd F.THM_GLASS.END) (s.glassHard - 1)
def State.glassStart (s : State) : Int := min (s.rd F.THM_GLASS.START : Int) ((s.glassEnd : Int) - 1)

/-- START, END and HARD of sensor `i`, in °C. -/
def State.startOf (s : State) (i : Nat) : Int := if 20 ≤ i then s.glassStart else 110
def State.endOf (s : State) (i : Nat) : Int := if 20 ≤ i then s.glassEnd else if 16 ≤ i then 115 else 120
def State.hardOf (s : State) (i : Nat) : Int := if 20 ≤ i then s.glassHard else if 16 ≤ i then 120 else 125

/-- The conversion period of sensor `i` (R334). -/
def conversionPeriod (i : Nat) : Nat := if 20 ≤ i then ms 4 else ms 1

def State.thmFloor (s : State) : Nat := max 0x0800 (s.rd F.THM_CFG.FLOOR)
def State.thmHyst (s : State) : Nat := max 1 (s.rd F.THM_CFG.HYST)

/-! ### Readings -/

def State.sensor (s : State) (i : Nat) : Sensor := nth s.thm.sensors i
def State.setSensor (s : State) (i : Nat) (x : Sensor) : State := { s with thm.sensors := s.thm.sensors.set i x }
def State.reading (s : State) (i : Nat) : Int := signed 16 (s.rd (F.THM_T.READ i))
def State.teff (s : State) (i : Nat) : Int := signed 16 (s.rd (F.THM_T.TEFF i))
def State.sensorFailed (s : State) (i : Nat) : Bool := bitsAt (s.rd F.THM_FAIL.FAILED) i 1 == 1

def State.validNeighbours (s : State) (i : Nat) : List Nat :=
  (neighbours i).filter (fun j => !s.sensorFailed j && (s.sensor j).has)

/-- A thermistor's temperature by the B-parameter model (R335): V in µV of 1,250,000; an open one reads cold, a shorted one
hot, at the ends of the register. Rounded to 0.1 °C (DESIGN CHOICE, notes/assumptions/12.md). -/
def State.ntcTenths (s : State) (uV : Nat) : Int :=
  let r25 := max 1 (s.rd F.THM_NTC.R25)
  let b := max 1 (s.rd F.THM_NTC.B)
  if uV ≥ 1250000 then -32768
  else if uV = 0 then 32767
  else
    -- R / R25, with R = 10 kΩ · V / (1.25 V − V) and R25 in 10 Ω
    let lnr := lnFix (1000 * uV) ((1250000 - uV) * r25)
    let inv := (fixOne * 100 / 29815 : Nat) + Int.fdiv lnr b
    if inv ≤ 0 then 32767
    else clampInt (-32768) 32767 (roundDivInt ((10 * (fixOne : Int) * 100 - 27315 * 10 * inv)) (100 * inv.toNat))

/-! ### Effective temperatures (R338) -/

/-- The highest effective temperature of any valid sensor. -/
def State.hottestValid (s : State) : Option Int :=
  (List.range 24).foldl (fun m i =>
    if s.sensorFailed i || !(s.sensor i).has then m
    else some (match m with
      | none => s.reading i
      | some x => max x (s.reading i))) none

def maxOpt (a : Option Int) (b : Int) : Int :=
  match a with
  | none => b
  | some x => max x b

/-- The substitute of a failed sensor. -/
def State.substitute (s : State) (i : Nat) : Int :=
  let x := s.sensor i
  let last := if x.floor then x.lastValid else none
  match s.validNeighbours i with
  | [] =>
    let top := 10 * s.endOf i
    maxOpt last (maxOpt (s.hottestValid.map (· + 50)) top)
  | j :: js => maxOpt last (js.foldl (fun m k => max m (s.reading k)) (s.reading j) + 50)

def State.refreshOne (s : State) (i : Nat) : State :=
  let v := if s.sensorFailed i then s.substitute i else s.reading i
  let s := s.wr (F.THM_T.TEFF i) (unsigned 16 v)
  s.setSensor i { s.sensor i with low := min (s.sensor i).low (s.teff i) }

/-- Effective temperatures of all sensors. -/
def State.refreshTeff (s : State) : State := (List.range 24).foldl State.refreshOne s

/-! ### Failure (R336, R338, R342) -/

def State.failedGoverning (s : State) (q : Quad) : Bool :=
  (List.range 24).any (fun i => s.sensorFailed i && bitsAt (governs i) q.val 1 == 1)

/-- HOLD_q for each quadrant (R342). -/
def State.refreshHold (s : State) : State :=
  s.wr F.THM_STAT.HOLD (bitsOf [s.failedGoverning 0, s.failedGoverning 1, s.failedGoverning 2, s.failedGoverning 3])

/-- A failed sensor that has lost its last valid neighbour raises fault 0x82. -/
def State.judgeBlind (s : State) (i : Nat) : State :=
  let x := s.sensor i
  let blind := s.sensorFailed i && (s.validNeighbours i).isEmpty
  let s := s.setSensor i { x with blind := blind }
  if blind && !x.blind then s.report 0x82 (if governs i = 15 then 4 else 3) (sensorQuad i) i else s

def State.refreshAll (s : State) : State :=
  ((List.range 24).foldl State.judgeBlind s).refreshTeff.refreshHold

/-- Sensor `i` fails. `last` is its last valid reading. -/
def State.failSensor (s : State) (i : Nat) (last : Option Int) : State :=
  let x := s.sensor i
  let s := s.report 0x81 2 (sensorQuad i) i
  let s := s.setSensor i { x with
    lastValid := if s.sensorFailed i then x.lastValid else last
    floor := if s.sensorFailed i then x.floor else true
    failedAt := if s.sensorFailed i then x.failedAt else s.now
    cleared := false, passFrom := none }
  s.wr F.THM_FAIL.FAILED (insertBits (s.rd F.THM_FAIL.FAILED) i 1 1)

def inRange (v : Int) : Bool := decide (-500 ≤ v) && decide (v ≤ 1500)

/-- The sensor has at least two valid neighbours and differs from every one of them by more than its limit. -/
def State.apart (s : State) (i : Nat) : Bool :=
  let ns := s.validNeighbours i
  let lim := 10 * (if 20 ≤ i then s.rd F.THM_XCHK.GLASS_LIM else s.rd F.THM_XCHK.DIE_LIM)
  (s.sensor i).has && decide (2 ≤ ns.length) && ns.all (fun j => decide (lim < (s.reading i - s.reading j).natAbs))

def State.xchkTime (s : State) : Nat := ms (100 * max 1 (s.rd F.THM_XCHK.TIME))

/-- The cross-check of sensor `i` has held for THM_XCHK.TIME. -/
def State.apartLong (s : State) (i : Nat) : Bool :=
  match (s.sensor i).apartFrom with
  | some t => decide (t + s.xchkTime ≤ s.now)
  | none => false

/-- The sensor passes every test of R336 at this moment. -/
def State.passes (s : State) (i : Nat) : Bool :=
  (s.sensor i).has && inRange (s.reading i) && !(s.sensor i).stalled && !s.apartLong i

/-- Follow the cross-check of one sensor. -/
def State.followApart (prev : Int) (who : Nat) (s : State) (i : Nat) : State :=
  let x := s.sensor i
  if s.apart i then
    if x.apartFrom.isSome then s
    else s.setSensor i { x with apartFrom := some s.now, apartLast := if i = who then prev else s.reading i }
  else s.setSensor i { x with apartFrom := none }

/-- A sensor that fails a test at this moment fails; a cleared failed sensor counts its passing time. -/
def State.judgeSensor (s : State) (i : Nat) : State :=
  let x := s.sensor i
  if !x.has then s
  else if s.sensorFailed i then
    if !x.cleared then s
    else if s.passes i then s.setSensor i { x with passFrom := some (x.passFrom.getD s.now) }
    else s.failSensor i none
  else if s.apartLong i then s.failSensor i (some x.apartLast)
  else s

/-- SENSOR_CONVERSION (R336): sensor `i` delivers a reading at `t`; the tests of every sensor that compares with it follow. -/
def execSensorConversion (t : Nat) (i : Fin 24) (c : Conversion) (s : State) : Host.Outcome State Fault Refusal :=
  let s := s.advance t
  if s.asleep then done s
  else
    let v := clampInt (-32768) 32767 (match c with
      | .tenths v => v
      | .volts uV => s.ntcTenths uV)
    let x := s.sensor i.val
    let prev := s.reading i.val
    let s := (s.wr (F.THM_T.READ i.val) (unsigned 16 v)).setSensor i.val { x with has := true, stalled := false, lastAt := s.now }
    let s := if !inRange v && !s.sensorFailed i.val then s.failSensor i.val (if x.has then some prev else none) else s
    let s := (List.range 24).foldl (State.followApart prev i.val) s
    done ((List.range 24).foldl State.judgeSensor s).refreshAll

/-- Sensor `i` has not converted for ten of its periods, counted from step 9 at the earliest. -/
def State.stallDue (s : State) (i : Nat) : Bool :=
  match s.thm.monitorFrom with
  | some t => Nat.ble (max t (s.sensor i).lastAt + 10 * conversionPeriod i) s.now
  | none => false

/-- SENSOR_STALL (R336). -/
def execSensorStall (n : At (Fin 24)) (s : State) : Host.Outcome State Fault Refusal :=
  let i := n.it
  let s := s.advance n.t
  let x := s.sensor i.val
  if s.asleep || !s.stallDue i.val then done s
  else
    let s := s.setSensor i.val { x with stalled := true, passFrom := none }
    if s.sensorFailed i.val && !x.cleared then done s
    else done (s.failSensor i.val (if x.has then some (s.reading i.val) else none)).refreshAll

/-- SUBSTITUTE_FLOOR_END (R338). -/
def execSubstituteFloorEnd (n : At (Fin 24)) (s : State) : Host.Outcome State Fault Refusal :=
  let i := n.it
  let s := s.advance n.t
  if (s.sensor i.val).failedAt + sec 10 ≤ s.now then done (s.setSensor i.val { s.sensor i.val with floor := false }).refreshAll
  else done s

/-- FAULT_CLEAR of 0x81 begins the passing time of every failed sensor (R339). -/
def State.clearSensor (s : State) (i : Nat) : State :=
  if s.sensorFailed i then
    s.setSensor i { s.sensor i with cleared := true, passFrom := if s.passes i then some s.now else none }
  else s

def State.sensorsCleared (s : State) : State := (List.range 24).foldl State.clearSensor s

/-- SENSOR_RECOVERY (R339): a cleared sensor that has passed every test for 10 s comes back into use. -/
def execSensorRecovery (t : Nat) (i : Fin 24) (s : State) : Host.Outcome State Fault Refusal :=
  let s := s.advance t
  let x := s.sensor i.val
  let ripe := match x.passFrom with
    | some p => decide (p + sec 10 ≤ s.now)
    | none => false
  if s.sensorFailed i.val && x.cleared && ripe then
    let s := s.wr F.THM_FAIL.FAILED (insertBits (s.rd F.THM_FAIL.FAILED) i.val 1 0)
    done (s.setSensor i.val { x with cleared := false, passFrom := none, floor := false, lastValid := none }).refreshAll
  else done s

/-! ### Throttle (R341, R343) -/

/-- target of one sensor at temperature x (0.1 °C): the ceiling falls in proportion between START and END, down to FLOOR. -/
def State.targetOf (s : State) (i : Nat) (x : Int) : Nat :=
  let lo := 10 * s.startOf i
  let span := (10 * (s.endOf i - s.startOf i)).toNat
  let up := (clampInt 0 span (x - lo)).toNat
  0xFFFF - roundDiv (up * (0xFFFF - s.thmFloor)) span

/-- target(T + d) of quadrant q and the sensor that sets it, the lowest index among equals (DESIGN CHOICE, notes/assumptions/105.md). -/
def State.target (s : State) (q : Quad) (d : Int) : Nat × Nat :=
  (List.range 24).foldl (fun m i =>
    if bitsAt (governs i) q.val 1 = 1 then
      let c := s.targetOf i (s.teff i + d)
      if c < m.1 then (c, i) else m
    else m) (0x10000, 0)

def State.ceilTherm (s : State) (q : Quad) : Nat := s.rd (F.THM_CEIL.CEIL q.val)

/-- c_therm_q by R341; of several rules in force the lowest ceiling applies (R347). -/
def State.throttleQuad (q : Quad) (s : State) : State :=
  let prev := s.ceilTherm q
  let (low, who) := s.target q 0
  let c := if low < prev then low else max prev (min low (s.target q (10 * (s.thmHyst : Int))).1)
  let c := if bitsAt (s.rd F.THM_STAT.HOLD) q.val 1 = 1 then min c prev else c
  let c := if bitsAt (s.rd F.THM_STAT.RATE) q.val 1 = 1 then min c s.thmFloor else c
  (s.wr (F.THM_CEIL.CEIL q.val) c).wr (F.THM_CEIL.SENSOR q.val) who

/-- Quadrants whose ceiling is below 0xFFFF. -/
def State.throttled (s : State) : Nat :=
  bitsOf ([(0 : Quad), 1, 2, 3].map (fun q => decide (s.ceilTherm q < 0xFFFF)))

/-- START − T of sensor i in whole °C rounded down (R343). -/
def State.marginOf (s : State) (i : Nat) : Int := floorDiv (10 * s.startOf i - s.teff i) 10

/-- The heat margin of R343, the smallest over all sensors, limited to 0 while throttling is active. -/
def State.heatMargin (s : State) : Int :=
  let m := (List.range 24).foldl (fun m i => min m (s.marginOf i)) (s.marginOf 0)
  if s.throttled = 0 then m else min m 0

/-- What THM_STAT.MARGIN shows of a margin; one that it cannot show is its nearest end (DESIGN CHOICE, notes/assumptions/105.md). -/
def shownMargin (m : Int) : Nat := unsigned 8 (clampInt (-128) 127 m)

/-- THROTTLE_TICK (R341): monitoring runs in ACTIVE, DARK and STANDBY (R346). -/
def execThrottleTick (s : State) : Host.Outcome State Fault Refusal :=
  if s.asleep then done s
  else
    let was := s.rd F.THM_STAT.THROTTLE
    let s := forQ State.throttleQuad s
    let now := s.throttled
    let s := s.wr F.THM_STAT.THROTTLE now
    let s := s.wr F.THM_STAT.MARGIN (shownMargin s.heatMargin)
    done (if was = 0 ∧ now ≠ 0 then s.fault 0x80 0 else s)

/-! ### Rate of rise (R344) -/

/-- The rise of sensor `i` over the last second: the present value minus the lowest in that second. -/
def State.riseOf (s : State) (i : Nat) : Int :=
  s.teff i - ((s.sensor i).history.foldl (fun m e => min m e.2) (s.teff i))

/-- The rise limit of sensor `i`, 0.1 °C per second. -/
def State.riseLimit (s : State) (i : Nat) : Int := 10 * (if 20 ≤ i then s.rd F.THM_RATE.GLASS else s.rd F.THM_RATE.DIE : Nat)

/-- Keep the lowest values of the intervals between tests that lie in the last second, and the last window with half the limit or
more. -/
def State.rateSample (s : State) (i : Nat) : State :=
  let x := s.sensor i
  let h := (x.history.filter (fun e => decide (s.now < e.1 + sec 1))) ++ [(s.now, x.low)]
  let s := s.setSensor i { x with history := h, low := s.teff i }
  if 2 * s.riseOf i < s.riseLimit i then s else s.setSensor i { s.sensor i with restless := s.now }

/-- Every sensor that governs q has risen by less than half its limit in each window for 10 s. -/
def State.calm (s : State) (q : Quad) : Bool :=
  (List.range 24).all (fun i => bitsAt (governs i) q.val 1 == 0 || decide ((s.sensor i).restless + sec 10 ≤ s.now))

/-- The quadrants governed by sensors over their limit, and RATE_q kept where the others are not calm. -/
def State.rateBits (s : State) : Nat :=
  let hot := (List.range 24).foldl (fun m i => if s.riseLimit i < s.riseOf i then Nat.lor m (governs i) else m) 0
  bitsOf ([(0 : Quad), 1, 2, 3].map (fun q =>
    bitsAt hot q.val 1 == 1 || (bitsAt (s.rd F.THM_STAT.RATE) q.val 1 == 1 && !s.calm q)))

/-- The quadrant field of a rise fault: the first sensor over its limit. -/
def State.rising (s : State) : List Nat := (List.range 24).filter (fun i => decide (s.riseLimit i < s.riseOf i))

/-- RATE_TICK (R344). -/
def execRateTick (t : Nat) (s : State) : Host.Outcome State Fault Refusal :=
  let s := s.advance t
  if s.asleep then done s
  else
    let s := (List.range 24).foldl State.rateSample s
    if s.thm.rateOn && s.on F.THM_CFG.RATE_EN then
      let hot := s.rising
      let s := hot.foldl (fun s i => s.report 0x83 2 (sensorQuad i) i) s
      done { s.wr F.THM_STAT.RATE s.rateBits with thm.rateOver := !hot.isEmpty }
    else done s

/-- RATE_TEST_ENABLE (R344): the first 60 s of monitoring, counted from step 9 of the start, are over; the clock moves to their end. -/
def execRateTestEnable (s : State) : Host.Outcome State Fault Refusal :=
  match s.thm.monitorFrom with
  | some f => done { s.advance (f + sec 60) with thm.rateOn := true }
  | none => done s

/-- A write of THM_CFG: clearing RATE_EN clears every RATE_q at once. -/
def State.writeThmCfg (v : Nat) (s : State) : State :=
  let s := s.store A.THM_CFG v
  if s.on F.THM_CFG.RATE_EN then s else { s.wr F.THM_STAT.RATE 0 with thm.rateOver := false }

/-- THM_CFG_WRITE (R344). -/
def execThmCfgWrite (value : Word) (s : State) : Host.Outcome State Fault Refusal := done (s.writeThmCfg value.toNat)

/-! ### Hard limits (R345, R347) -/

/-- The comparator of sensor `i` trips. -/
def State.trip (s : State) (i : Nat) : State :=
  let s := if s.thermalLatch then s else (s.wr F.THM_STAT.SHUT 1).wr F.THM_STAT.SHUT_SENSOR i
  let s := if 8 ≤ i ∧ i < 16 then { s with thm.dieTrip := s.thm.dieTrip.set ((i - 8) / 2) true } else s
  s.report 0x84 4 (sensorQuad i) i

/-- Where the comparator of sensor `i` trips: within 3 °C of HARD (R346). -/
def State.tripPoint (s : State) (i : Nat) : Int := 10 * s.hardOf i - 30 + (Config.tripOffset i % 61 : Nat)

/-- HARD_LIMIT_TRIP (R345). -/
def execHardLimitTrip (level : TripLevel) (s : State) : Host.Outcome State Fault Refusal :=
  if s.asleep then done s
  else done (if s.tripPoint level.sensor.val < level.tenths then s.trip level.sensor.val else s)

/-! ### Causes of the thermal faults (R388) -/

def State.thermalCause (s : State) (src : Nat) : Bool :=
  if src = 0x81 then (List.range 24).any (fun i => s.sensorFailed i && !s.passes i)
  else if src = 0x82 then (List.range 24).any (fun i => (s.sensor i).blind)
  else if src = 0x83 then s.thm.rateOver
  else src == 0x84 && s.thermalLatch

end Sys2Proof.Machine
end

