-- ==== Sys2Proof/Machine/Safety.lean ====
section
/-! DEFINITION. Sys2Proof/Machine/Safety.lean: safety inputs and outputs, restart, the luminance cap, the black channel, the
safety parameters and the unlock sequence (15_safety_functions.md). The demands themselves act in Mute.lean. -/

namespace Sys2Proof.Machine

/-! ### The cap in force (R367) -/

def State.capInForce (s : State) : Nat :=
  if s.bcEn then min (s.rd F.SAF_CAP.STATIC) s.saf.bcCap else s.rd F.SAF_CAP.STATIC

/-- What a tail applies as the safety cap: its word, or 0 with no valid word for 3 ms (R368). -/
def State.tailCap (s : State) (q : Quad) : Nat := if nth s.saf.tailValid q.val then nth s.saf.tailCap q.val else 0

/-! ### Demands of SF-DARK (R349, R357) -/

/-- The safety island sees its inputs: outside SLEEP and outside a reset (R366, R444). -/
def State.islandSees (s : State) : Bool := !s.asleep && !s.sys.resetPin

/-- Count a demand that has begun between two states (SAF_CNT.DEMANDS). -/
def State.countDemand (before after : State) : State :=
  if after.sfDark && !before.sfDark then after.bump F.SAF_CNT.DEMANDS else after

/-! ### Safety inputs (R358 to R360) -/

/-- SAF_CFG.DISC_MS, with its limits, in the 10 µs ticks in which the core measures. -/
def State.discTime (s : State) : Nat := 100 * clampNat 10 500 (s.rd F.SAF_CFG.DISC_MS)

/-- The time t of R360, from instant a on, in 10 µs ticks. -/
def discTicks (a now : Nat) : Nat := (now - a) / us 10

/-- The disagreement has outlasted DISC_MS (R360). -/
def State.discExpire (s : State) : State :=
  match s.saf.disagreeAt with
  | none => s
  | some a =>
    if s.inEn && decide (s.discTime < discTicks a s.now) then
      ({ (s.wr F.SAF_STAT.DISC 1).setLatch with saf.disagreeAt := none, saf.bothOff := false }).report 0x90 3 15 0
    else s

/-- The channels have come to agree or to disagree: the time t of R360 starts or ends. -/
def State.judgeAgreement (before s : State) : State :=
  let a := s.on F.SAF_STAT.IN_A
  let b := s.on F.SAF_STAT.IN_B
  if a = b then
    if a then
      let inTime := s.saf.bothOff && s.saf.disagreeAt.any (fun x => decide (discTicks x s.now ≤ s.discTime))
      let s := if inTime then s.wr F.SAF_STAT.DISC 0 else s
      { s with saf.disagreeAt := none, saf.bothOff := false }
    else { s with saf.disagreeAt := none, saf.bothOff := true }
  else if before.on F.SAF_STAT.IN_A = before.on F.SAF_STAT.IN_B then { s with saf.disagreeAt := some s.now }
  else s

/-- SAFE_INPUT_CHANGE (R358, R360): the filter of an input has expired after a change. Without VIN_SAFE an input reads off (R439). -/
def execSafeInputChange (ch : Fin 2) (on : Bool) (t : Nat) (s : State) : Host.Outcome State Fault Refusal :=
  let s := s.advance t
  let on := on && s.sys.vinSafe
  if s.islandSees then
    let s0 := { s.discExpire with saf.raw := s.saf.raw.set ch.val on }
    let s1 := s0.wrB (if ch = 0 then F.SAF_STAT.IN_A else F.SAF_STAT.IN_B) on
    done (State.countDemand s0 (State.judgeAgreement s0 s1))
  else done s

/-- DISCREPANCY_TIMEOUT (R360). -/
def execDiscrepancyTimeout (t : Nat) (s : State) : Host.Outcome State Fault Refusal :=
  let s := s.advance t
  done (if s.islandSees then s.discExpire else s)

/-- A test pulse of SAFE_SUP channel `ch` passes: if its input was on before, it read off in the last sample of the pulse and on
again within 500 µs, and the other input did not change (R359). -/
def State.supplyTest (s : State) (ch : Nat) (pass : Bool) : State :=
  let fails := if pass then 0 else nth s.saf.supFails ch + 1
  let passes := if pass then nth s.saf.supPasses ch + 1 else 0
  let s := { s with saf.supFails := s.saf.supFails.set ch fails, saf.supPasses := s.saf.supPasses.set ch passes }
  if fails ≥ 2 then ((s.wr F.SAF_STAT.IN_TEST_FAIL 1).setLatch).report 0x91 3 15 0
  else if nth s.saf.supPasses 0 ≥ 2 ∧ nth s.saf.supPasses 1 ≥ 2 then s.wr F.SAF_STAT.IN_TEST_FAIL 0
  else s

/-- The next pulse of one of two channels is due: a period after its last one, and half a period away from the other channel's. -/
def pulseDue (last : List Nat) (ch period now : Nat) : Bool :=
  Nat.ble (nth last ch + period) now && Nat.ble (nth last (1 - ch) + period / 2) now

def State.supPeriod (s : State) : Nat := ms (100 * clampNat 1 100 (s.rd F.SAF_TP.SUP_PERIOD))

/-- The samples, one every 50 µs, that fall into a supply pulse. -/
def State.supSamples (s : State) : Nat := clampNat 10 50 (s.rd F.SAF_TP.SUP_US) / 5

/-- What the samples of a pulse say: `own` during it and in the 500 µs after it at the pulsed channel's input, and `other` at the other
input throughout. -/
def State.supPasses (s : State) (ch : Nat) (own : PulseSamples) (other : List Bool) : Bool :=
  let wasOn := s.on (if ch = 0 then F.SAF_STAT.IN_A else F.SAF_STAT.IN_B)
  (!wasOn || (!nth own.during (s.supSamples - 1) && (own.after.take 10).any id)) && (other.all id || other.all (!·))

/-- SUPPLY_TEST_PULSE (R359). -/
def execSupplyTestPulse (t : Nat) (ch : Fin 2) (own : PulseSamples) (other : List Bool) (s : State) : Host.Outcome State Fault Refusal :=
  let s := s.advance t
  if s.islandSees && s.safeClk && s.inEn && s.sys.vinSafe && pulseDue s.saf.supAt ch.val s.supPeriod s.now then
    let raw := (s.saf.raw.set ch.val (own.after.getLastD (nth s.saf.raw ch.val))).set (1 - ch.val) (other.getLastD (nth s.saf.raw (1 - ch.val)))
    done (({ s with saf.supAt := s.saf.supAt.set ch.val s.now, saf.raw := raw } : State).supplyTest ch.val (s.supPasses ch.val own other))
  else done s

/-! ### Safety outputs and feedback (R361 to R363, R490) -/

def State.outPeriod (s : State) : Nat := sec (clampNat 1 60 (s.rd F.SAF_TP.PERIOD_S))

/-- The length of an output pulse (SAF_TP.OUT_US). -/
def State.outPulse (s : State) : Nat := us (10 * clampNat 20 100 (s.rd F.SAF_TP.OUT_US))

/-- Output ch is energised: the outputs are on, and it has not switched itself off in current limit (R490). -/
def State.outEnergised (s : State) (ch : Nat) : Bool := s.saf.outOn && !nth s.saf.outTripped ch

/-- The check outside pulses: `outside` is the lowest level of an energised output, the highest of one that is off, in mV. -/
def State.levelOk (s : State) (ch outside vin : Nat) : Bool :=
  if s.outEnergised ch then decide (vin < outside + 2000) else decide (outside < 5000)

/-- OUTPUT_TEST_PULSE (R361, R362): at the end of a pulse, the levels of the output in mV, in it and outside pulses, and
VIN_SAFE. An output that has gone off in the pulse discards the test. -/
def execOutputTestPulse (t : Nat) (ch : Fin 2) (pulse : PulseLevels) (outside vin : Nat) (s : State) : Host.Outcome State Fault Refusal :=
  let s := s.advance t
  if !(s.islandSees && s.safeClk && pulseDue s.saf.outAt ch.val s.outPeriod s.now) then done s
  else
    let s := { s with saf.outAt := s.saf.outAt.set ch.val s.now }
    let on := s.outEnergised ch.val
    if !on && decide (s.now < s.saf.outSince + s.outPulse) then
      done { s.bump F.SAF_CNT.TESTS_REPEATED with saf.repeatTest := s.saf.repeatTest.set ch.val true }
    else if !s.levelOk ch.val outside vin then done (s.fault 0x92 4)
    else if !on then done s
    else
      let s := { s with saf.repeatTest := s.saf.repeatTest.set ch.val false }
      done (if pulse.low < 5000 ∧ vin < pulse.high + 2000 then s else s.fault 0x92 4)

/-- SAFE_OUT_OVERCURRENT (R490): the output switches itself off; this is a failed output test. -/
def execSafeOutOvercurrent (ch : Fin 2) (s : State) : Host.Outcome State Fault Refusal :=
  if s.outEnergised ch.val then done (({ s with saf.outTripped := s.saf.outTripped.set ch.val true }).fault 0x92 4) else done s

def State.fbTime (s : State) : Nat := ms (clampNat 20 500 (s.rd F.SAF_FB.TIME_MS))

/-- Both feedback inputs read what the outputs ask for: off while energised, on while off. -/
def State.fbMatches (s : State) : Bool :=
  s.on F.SAF_STAT.FB_A == !s.outEnergised 0 && s.on F.SAF_STAT.FB_B == !s.outEnergised 1

/-- FEEDBACK_INPUT_CHANGE (R363, R366): outside the time that follows a change of the output no change is allowed, once the safety
core has started (DEDUCED, notes/assumptions/77.md); both inputs off end the feedback wait. Without VIN_SAFE an input reads off. -/
def execFeedbackInputChange (ch : Fin 2) (on : Bool) (t : Nat) (s : State) : Host.Outcome State Fault Refusal :=
  let s := s.advance t
  if s.islandSees then
    let on := on && s.sys.vinSafe
    let f := if ch = 0 then F.SAF_STAT.FB_A else F.SAF_STAT.FB_B
    let changed := s.on f != on
    let s := s.wrB f on
    if !s.fbEn then done s
    else
      let s := if changed && s.safeClk && decide (s.saf.outSince + s.fbTime < s.now) then s.fault 0x93 4 else s
      done (if s.saf.fbWait && s.fbMatches && s.saf.outOn && decide (s.now ≤ s.saf.outSince + s.fbTime)
        then { s with saf.fbWait := false } else s)
  else done s

/-- FEEDBACK_TIMEOUT (R363, R366): SAF_FB.TIME_MS after a change of the output the inputs must match it. -/
def execFeedbackTimeout (t : Nat) (s : State) : Host.Outcome State Fault Refusal :=
  let s := s.advance t
  if s.islandSees && s.safeClk && s.fbEn && s.saf.fbWindow && decide (s.saf.outSince + s.fbTime ≤ s.now) then
    let s := { s with saf.fbWindow := false }
    done (if s.fbMatches then s else s.fault 0x93 4)
  else done s

/-! ### Restart (R364, R365) -/

/-- A restart edge: the latch clears if every condition holds; else the edge is used up. -/
def State.restartEdge (s : State) (rawA rawB : Bool) : State :=
  if s.restartOk rawA rawB then (if s.latched then s.clearLatch else s) else s.bump F.SAF_CNT.RST_REFUSED

def State.rstPin (s : State) : Bool := decide (s.rd F.SAF_CFG.RST_SRC ≠ 1)
def State.rstChannel (s : State) : Bool := decide (s.rd F.SAF_CFG.RST_SRC = 1) || decide (s.rd F.SAF_CFG.RST_SRC = 2)

/-- RESTART_EDGE (R364, R365): the fall of SAFE_RST after it has been on for `held` ticks, or the edge that the black channel
delivers at this instant; with the raw levels of the inputs. SAFE_RST reads off without VIN_SAFE. -/
def execRestartEdge (ev : RestartEvent) (rawA rawB : Bool) (t : Nat) (s : State) : Host.Outcome State Fault Refusal :=
  let s := s.advance t
  if !(s.islandSees && s.safeClk) then done s
  else
  let s := { s with saf.raw := [rawA, rawB] }
  match ev with
  | .channel =>
    let due := s.saf.bcEdge == some s.now
    let s := { s with saf.bcEdge := none }
    done (if due && s.rstChannel then s.restartEdge rawA rawB else s)
  | .press held =>
    if !(s.rstPin && s.sys.vinSafe) then done s
    else if sec 5 < held then done { s.bump F.SAF_CNT.RST_REFUSED with saf.rstFrom := s.now + ms 100 }
    else if held < ms 100 ∨ s.now < s.saf.rstFrom + held then done s
    else done (s.restartEdge rawA rawB)

/-! ### Supervision inside the safety island (R354) -/

/-- HEARTBEAT_TIMEOUT (R354). -/
def execHeartbeatTimeout (s : State) : Host.Outcome State Fault Refusal :=
  if s.islandSees && s.saf.released then done (({ s with saf.coreFail := true }).fault 0x97 4) else done s

/-- LOCKSTEP_MISMATCH (R354). -/
def execLockstepMismatch (s : State) : Host.Outcome State Fault Refusal :=
  if s.islandSees && s.saf.released then done (({ s with saf.coreFail := true }).fault 0x96 4) else done s

/-- What the pins show agrees with the demand in force: a quadrant in demand has its valve off on both paths and EMIT_Qn low, and
SAFE_OUT_A is off under a device demand and on, with VIN_SAFE, without one (R352, R354). -/
def State.pathsAgree (s : State) (valves emits path1 path2 : Fin 16) (outA : Bool) : Bool :=
  let lit := Nat.lor valves.val (Nat.lor emits.val (Nat.lor path1.val path2.val))
  let want := bitsOf [s.dark 0, s.dark 1, s.dark 2, s.dark 3]
  decide (Nat.land lit want = 0) && (if s.demandBesideWait then !outA else outA || !s.sys.vinSafe)

/-- MUTE_PATH_CHECK (R354): levels of VALVE_Qn and EMIT_Qn, paths 1 and 2 of each valve on, SAFE_OUT_A, and whether the two
filters of inputs in use agree within 0.2 ms. -/
def execMutePathCheck (valves emits path1 path2 : Fin 16) (outA filters : Bool) (s : State) : Host.Outcome State Fault Refusal :=
  if !(s.islandSees && s.safeClk) then done s
  else
    let n := if s.pathsAgree valves emits path1 path2 outA then 0 else s.saf.pathFails + 1
    let s := { s with saf.pathFails := n }
    done (if n ≥ 2 ∨ (s.inEn && !filters) then s.fault 0x98 4 else s)

/-! ### Luminance cap (R367, R368) -/

def State.takeCap (valid : Fin 16) (cap : Nat) (q : Quad) (s : State) : State :=
  if bitsAt valid.val q.val 1 = 1 then
    { s with saf.tailCap := s.saf.tailCap.set q.val cap, saf.tailValid := s.saf.tailValid.set q.val true
             saf.tailAt := s.saf.tailAt.set q.val s.now }
  else s

/-- CAP_WORD_SEND (R368): the safety core sends the cap in force; `valid` tells which tails received a valid word. -/
def execCapWordSend (valid : Fin 16) (t : Nat) (s : State) : Host.Outcome State Fault Refusal :=
  let s := s.advance t
  if s.islandSees && s.saf.released then
    done (forQ (State.takeCap valid s.capInForce) { s with saf.capCounter := (s.saf.capCounter + 1) % 16 })
  else done s

/-- CAP_WORD_TIMEOUT (R368): 3 ms without a valid cap word. -/
def execCapWordTimeout (q : Quad) (t : Nat) (s : State) : Host.Outcome State Fault Refusal :=
  let s := s.advance t
  if nth s.saf.tailAt q.val + ms 3 ≤ s.now then done { s with saf.tailValid := s.saf.tailValid.set q.val false } else done s

/-- The safety core judges the cap that tail q returned at a latch: missing or different in two frames in a row (R368). -/
def State.judgeCap (s : State) (q : Quad) (missing : Bool) (latched inForce : Nat) : State :=
  let n := if missing || latched != inForce then nth s.saf.capBad q.val + 1 else 0
  let s := { s with saf.capBad := s.saf.capBad.set q.val n }
  if n ≥ 2 then ({ s with saf.capDemand := s.saf.capDemand.set q.val true }).faultQ 0x95 3 q else s

/-- The cap monitor judges the mean of a frame's samples of quadrant q's shunt voltage, in µV: a current of 100 · µV / SHUNT mA (R369,
R487). -/
def State.judgeCurrent (s : State) (q : Quad) (samples : List Nat) (saturated : Bool) : State :=
  if !s.on (F.SAF_CAPI.EN q.val) then s
  else
    let cap := nth s.scn.latchedCap q.val
    let limit := s.rd (F.SAF_CAPI.LIMIT q.val) * (cap + cap / 32768) + s.rd (F.SAF_CAPI.OFS q.val) * 10 * 65536
    let shunt := max 1 (s.rd F.SAF_SHUNT.SHUNT)
    let n := if saturated || decide (shunt * limit * samples.length < 100 * samples.sum * 65536) then nth s.saf.capOver q.val + 1 else 0
    let s := { s with saf.capOver := s.saf.capOver.set q.val n }
    if n ≥ 2 then ({ s with saf.capDemand := s.saf.capDemand.set q.val true }).faultQ 0x95 3 q else s

/-! ### Black channel (R371 to R374) -/

/-- The check value of a frame with an identity pair folded in (R372). -/
def bcCrc (first second : Nat) (body : List Byte) : Nat := crcOf crc32Set (leBytes 4 first ++ leBytes 4 second ++ body)

/-- Bytes 0 to 11 of a status frame (R372). -/
def State.statusBody (s : State) (seq : Nat) : List Byte :=
  let ctrl := boolNat (s.outEnergised 0 && s.outEnergised 1) + 2 * boolNat s.latched + 4 * boolNat (s.on F.SAF_STAT.DISC || s.on F.SAF_STAT.IN_TEST_FAIL)
    + 8 * boolNat (s.bcEn && s.saf.bcLost) + 16 * boolNat s.classFour + 32 * boolNat s.thermalLatch
  let since := if s.saf.bcAny then min 65535 ((s.now - s.saf.bcAt) / ms 1) else 65535
  [0xA5#8, BitVec.ofNat 8 ctrl] ++ leBytes 2 seq ++ leBytes 2 s.capInForce ++ leBytes 2 s.saf.bcEcho
    ++ leBytes 4 (bitsOf [s.muteQ 0, s.muteQ 1, s.muteQ 2, s.muteQ 3] + since * 65536)

def State.setTx (s : State) : Nat → List Word → State
  | _, [] => s
  | i, w :: ws => (s.setReg (A.SAF_BC_TX i) w).setTx (i + 1) ws

/-- The safety core makes a new status frame (R372, R373). -/
def State.newStatus (s : State) : State :=
  let seq := (s.saf.bcTxSeq + 1) % 65536
  let body := s.statusBody seq
  let crc := bcCrc (s.rd F.SAF_BC_LOCAL.ID) (s.rd F.SAF_BC_PEER.ID) body
  { s.setTx 0 (wordsLE (body ++ leBytes 4 crc)) with saf.bcTxSeq := seq }

/-- What test of R373 a demand frame fails first: 1 or 2 count in CHECK_FAIL, 3 in SEQ_BAD; 0 when it is accepted. -/
def State.bcTest (s : State) (f : List Byte) : Nat :=
  let ctrl := byteAt f 1
  let seq := fieldLE f 2 2
  let win := max 1 (s.rd F.SAF_BC_CFG.SEQ_WIN)
  if byteAt f 0 ≠ 0x5A ∨ ctrl ≥ 8 ∨ fieldLE f 8 4 ≠ 0 then 1
  else if s.rd F.SAF_BC_PEER.ID = 0 ∨ s.rd F.SAF_BC_LOCAL.ID = 0 ∨
      fieldLE f 12 4 ≠ bcCrc (s.rd F.SAF_BC_PEER.ID) (s.rd F.SAF_BC_LOCAL.ID) (f.take 12) then 2
  else match s.saf.bcLast with
    | none => 0
    | some last => let d := (seq + 65536 - last) % 65536; if 1 ≤ d ∧ d ≤ win then 0 else 3

/-- An accepted demand frame: RUN, CAP, RESTART and SEQ are applied and the time expectation restarts (R373). -/
def State.bcAccept (s : State) (f : List Byte) : State :=
  let ctrl := byteAt f 1
  let seq := fieldLE f 2 2
  let restart := decide (bitsAt ctrl 2 1 = 1)
  { s with
    saf.bcEdge := if restart && s.saf.bcAny && !s.saf.bcRestart then some s.now else none
    saf.bcRestart := restart, saf.bcAny := true, saf.bcRun := decide (bitsAt ctrl 0 1 = 1)
    saf.bcCap := if bitsAt ctrl 1 1 = 1 then fieldLE f 4 2 else s.saf.bcCap
    saf.bcLast := some seq, saf.bcEcho := seq, saf.bcAt := s.now, saf.bcLost := false }

/-- The safety core takes a demand frame of 16 bytes (R373). -/
def State.bcFrame (s : State) (f : List Byte) : State :=
  if !(s.islandSees && s.saf.released) then s
  else match s.bcTest f with
    | 0 => (State.countDemand s (s.bcAccept f).latchDemand).driveOutputs.newStatus
    | 3 => s.bump F.SAF_BC_CNT.SEQ_BAD
    | _ => s.bump F.SAF_BC_CNT.CHECK_FAIL

/-- BC_DEMAND_FRAME (R371, R373): the four values of SAF_BC_RX_0 to SAF_BC_RX_3. -/
def execBcDemandFrame (w0 w1 w2 w3 : Word) (t : Nat) (s : State) : Host.Outcome State Fault Refusal :=
  done ((s.advance t).bcFrame (leBytes 4 w0.toNat ++ leBytes 4 w1.toNat ++ leBytes 4 w2.toNat ++ leBytes 4 w3.toNat))

def State.wdTime (s : State) : Nat := ms (clampNat 10 2000 (s.rd F.SAF_BC_CFG.WD_MS))

/-- BC_LOSS_TIMEOUT (R374). -/
def execBcLossTimeout (t : Nat) (s : State) : Host.Outcome State Fault Refusal :=
  let s := s.advance t
  if s.islandSees && s.saf.released && s.bcEn && !s.saf.bcLost && decide (s.saf.bcAt + s.wdTime ≤ s.now) then
    let s1 := ({ s with saf.bcLost := true, saf.bcLast := none }).bump F.SAF_BC_CNT.LOSSES
    done ((State.countDemand s s1.setLatch).fault 0x94 2)
  else done s

/-- BC_STATUS_REFRESH (R373). -/
def execBcStatusRefresh (t : Nat) (s : State) : Host.Outcome State Fault Refusal :=
  let s := s.advance t
  if s.islandSees && s.saf.released then done s.newStatus else done s

/-! ### Start test (R355) -/

/-- The start test ends (R355): the results of the comparators' test inputs, of the lockstep comparator, of the valve paths
and of one test pulse on each SAFE_SUP output. -/
def State.startTest (s : State) (comparators lockstep paths supA supB : Bool) : State :=
  if !s.saf.released || s.safeClk then s
  else
    let s := if comparators then s else s.fault 0x9B 4
    let s := if lockstep then s else s.fault 0x96 4
    let s := if paths then s else s.fault 0x98 4
    let s := if s.flash.conf.safParams = some none then s.fault 0x99 4 else s
    let s := (s.supplyTest 0 supA).supplyTest 1 supB
    s.wr F.SYS_ISLAND_STAT.SAFE_CLK 1

/-! ### Parameters and the unlock sequence (R376, R377) -/

/-- The 13 parameter registers in the order of R376. -/
def safParamAddrs : List Nat :=
  [A.SAF_CFG, A.SAF_TP, A.SAF_FB, A.SAF_CAP, A.SAF_CAPI 0, A.SAF_CAPI 1, A.SAF_CAPI 2, A.SAF_CAPI 3, A.SAF_SHUNT,
   A.SAF_BC_CFG, A.SAF_BC_LOCAL, A.SAF_BC_PEER, A.THM_GLASS]

/-- CRC-32 of the parameter set in use (SAF_PARAM_CRC). -/
def State.paramCrc (s : State) : Nat := crcOf crc32Set (safParamAddrs.flatMap (fun a => leBytes 4 (s.reg a).toNat))

/-- In FIELD and RETIRED keys have no effect and every parameter write is denied. -/
def State.paramsLocked (s : State) : Bool := decide (s.lifecycle = 2) || decide (s.lifecycle = 4)

/-- Source `src` may write parameters now (R377). -/
def State.unlockedFor (s : State) (src : Option Nat) : Bool :=
  match s.saf.unlock with
  | .opened x a => decide (x = src) && decide (s.now ≤ a + ms 10) && !s.paramsLocked
  | _ => false

/-- The sequence has timed out. -/
def State.unlockExpired (s : State) : Bool :=
  match s.saf.unlock with
  | .closed => true
  | .first _ a | .opened _ a => decide (a + ms 10 < s.now)

/-- A sequence of another source than `src` has begun or is open, and has not timed out: it goes on (R377). -/
def State.unlockOfOther (s : State) (src : Option Nat) : Bool :=
  !s.unlockExpired && (match s.saf.unlock with
    | .closed => false
    | .first x _ | .opened x _ => x != src)

/-- A key arrives from a source: a SRC_ID, or none for the service port (R377). While the sequence of one source runs the keys of
another have no effect (DESIGN CHOICE, notes/assumptions/119.md). -/
def State.unlockKey (s : State) (src : Option Nat) (key : Nat) : State :=
  if s.paramsLocked || s.unlockOfOther src then s
  else
    let begin_ := if key = 0x5AFE then Unlock.first src s.now else Unlock.closed
    let next := match s.saf.unlock with
      | .first _ a =>
        if s.now ≤ a + ms 10 then
          (if key = Nat.xor s.deviceId 0xFFFFFF then Unlock.opened src s.now else Unlock.closed)
        else begin_
      | _ => begin_
    { s with saf.unlock := next }

/-- The unlock ends with the command of its source that follows it. -/
def State.unlockUsed (s : State) (src : Option Nat) : State :=
  match s.saf.unlock with
  | .opened x _ => if x = src then { s with saf.unlock := .closed } else s
  | _ => s

/-- SAFETY_UNLOCK_KEY (R377). -/
def execSafetyUnlockKey (src : Option (BitVec 24)) (key : Word) (t : Nat) (s : State) : Host.Outcome State Fault Refusal :=
  done ((s.advance t).unlockKey (src.map (·.toNat)) key.toNat)

/-- UNLOCK_TIMEOUT (R377). -/
def execUnlockTimeout (t : Nat) (s : State) : Host.Outcome State Fault Refusal :=
  let s := s.advance t
  done (if s.unlockExpired then { s with saf.unlock := .closed } else s)

/-- A parameter register takes a value, and the set is queued for the configuration sector (R376). A feedback wait ends at once where
FB_EN becomes 0 (R366). -/
def State.writeSafParam (s : State) (a v : Nat) : State :=
  let s1 := s.store a v
  let s1 : State := { s1 with saf.fbWait := s1.saf.fbWait && s1.fbEn }
  (State.countDemand s s1.latchDemand).queueFlash .safParams

/-- SAFETY_PARAM_WRITE (R376, R377): parameter register `p` of the order of R376, from a source. -/
def execSafetyParamWrite (p : Fin 13) (value : Word) (src : Option (BitVec 24)) (t : Nat) (s : State) :
    Host.Outcome State Fault Refusal :=
  let s := s.advance t
  let who := src.map (·.toNat)
  if s.unlockedFor who then done ((s.unlockUsed who).writeSafParam (safParamAddrs.getD p.val 0) value.toNat) else done s

/-- The parameters stored in flash as a start loads them (R376): in FACTORY, with no record or with a failed one, the reset
values stay. -/
def State.loadSafParams (s : State) : State :=
  match s.flash.conf.safParams with
  | some (some ws) =>
    if s.lifecycle = 0 then s
    else (safParamAddrs.zip ws).foldl (fun s e => s.setReg e.1 (BitVec.ofNat 32 e.2)) s
  | _ => s

end Sys2Proof.Machine
end

