-- ==== Sys2Proof/Machine/Budget.lean ====
section
/-! DEFINITION. Sys2Proof/Machine/Budget.lean: the power budget and its energy credit, the current curves, and what an evaluation of
the governor starts with (07_budget_governor.md R172, R173, R175, R187). Currents count in 10^-8 A / 65,536, powers in
10^-14 W / 65,536, energies in the latter × 1 ns. -/

namespace Sys2Proof.Machine

/-! ### Budget and credit (R172, R173) -/

/-- 1 mW in the unit of power. -/
def milliwatt : Nat := 10 ^ 11 * 65536

/-- A governor register's field as the evaluation started last has taken it (R187). -/
def State.gv (s : State) (f : Fld) : Nat := inWords s.gov.inUse f

/-- PEAK and AVG as they act; none when neither is set. -/
def State.budget (s : State) : Option (Nat × Nat) :=
  let p := s.gv F.GOV_BUDGET.PEAK
  let a := s.gv F.GOV_BUDGET.AVG
  let unit := 100 * milliwatt
  if p = 0xFFFF ∧ a = 0xFFFF then none
  else if p = 0xFFFF then some (a * unit, a * unit)
  else if a = 0xFFFF then some (p * unit, p * unit)
  else some (p * unit, min a p * unit)

/-- ECAP; zero while neither limit is set (DEDUCED, notes/assumptions/95.md). -/
def State.creditCap (s : State) : Nat :=
  match s.budget with
  | none => 0
  | some (p, a) => (p - a) * max 1 (s.gv F.GOV_WINDOW.SECONDS) * 10 ^ 9

/-- Pallow; none when no limit is set. -/
def State.pallow (s : State) : Option Nat :=
  match s.budget with
  | none => none
  | some (p, a) =>
    let cap := s.creditCap
    if cap = 0 ∨ cap ≤ 4 * s.gov.credit then some p else some (a + (p - a) * (4 * s.gov.credit) / cap)

/-- E takes a value and shows it. -/
def State.setCredit (s : State) (e : Nat) : State :=
  { s.wr F.GOV_STAT.CREDIT (min 0xFFFF (e / (100 * milliwatt * 10 ^ 9))) with gov.credit := e }

/-- E after a frame of `period` ns has been shown. -/
def State.updateCredit (s : State) (period : Nat) : State :=
  match s.budget with
  | none => s
  | some (_, a) =>
    let e : Int := (s.gov.credit : Int) + ((a : Int) - s.gov.shownPower) * period
    s.setCredit (clampInt 0 s.creditCap e).toNat

/-! ### Current curves (R175) -/

def curveValid (pts : List Nat) : Bool :=
  decide (pts.headD 0 = 0) && (pts.zip (pts.drop 1)).all (fun p => Nat.ble p.1 p.2)
    && decide (8 * (nth pts 16 - nth pts 15) ≤ nth pts 16)

/-- I_c(p); p is at most 1,048,576. -/
def curveAt (pts : List Nat) (p : Nat) : Nat :=
  let k := min 16 (p / 65536)
  if k = 16 then nth pts 16 * 65536 else nth pts k * 65536 + (nth pts (k + 1) - nth pts k) * (p % 65536)

def State.curveOf (s : State) (c : Colour) : List Nat := nth s.gov.curves c.val

/-- No valid non-zero curve is in use. -/
def State.noCurve (s : State) : Bool := s.gov.curves.all (fun pts => pts.all (· == 0))

/-- The points a commit carries for colour c. -/
def committedCurve (m : Nat → Word) (c : Nat) : List Nat := (List.range 17).map (fun k => bitsAt (m (A.GOV_ICURVE c k)).toNat 0 16)

/-- A commit brings curves: the valid ones wait for the next evaluation; one that it makes invalid raises fault 0x72 (R175). -/
def State.commitCurves (s : State) (m : Nat → Word) : State :=
  let new := (List.range 3).map (committedCurve m)
  let bad := (List.range 3).any (fun c => nth new c != nth s.gov.curvesRaw c && !curveValid (nth new c))
  let next := (List.range 3).map (fun c => if curveValid (nth new c) then nth new c else nth s.gov.curvesNext c)
  let s := { s with gov.curvesRaw := new, gov.curvesNext := next }
  if bad then s.fault 0x72 0 else s

/-! ### The start of an evaluation (R180, R187) -/

/-- An evaluation starts: it takes the registers as they are written, the curves last committed valid, and the caps in force; E is
limited to the new ECAP. -/
def State.beginEvaluation (s : State) : State :=
  let s := { s with
    gov.inUse := s.regs.filter (fun e => e.1 / 0x10000 == 9), gov.curves := s.gov.curvesNext
    gov.caps := (List.range 4).map (fun q => s.tailCap (quadOf q)) }
  let s := s.wrB F.GOV_FLAGS.NO_CURVE s.noCurve
  if s.creditCap < s.gov.credit then s.setCredit s.creditCap else s

/-- `t` with the values that the evaluation in progress in `s` took when it started (R187). -/
def State.keepTaken (s t : State) : State :=
  if s.gov.eval.isSome then { t with gov.inUse := s.gov.inUse, gov.curves := s.gov.curves, gov.caps := s.gov.caps } else t

/-- E starts at ECAP, of the registers as they are, after a reset and at an entry into ACTIVE. -/
def State.fillCredit (s : State) : State :=
  let t := s.beginEvaluation
  s.keepTaken (t.setCredit t.creditCap)

end Sys2Proof.Machine
end

