-- ==== Sys2Proof/Machine/Dram.lean ====
section
/-! DEFINITION. Sys2Proof/Machine/Dram.lean: how accesses reach the rows of the DRAM: the address orders, activations and the
neighbour refreshes they draw, and power-down (08_frame_memory.md R192, R200, R204). -/

namespace Sys2Proof.Machine

/-! ### Address orders (R192) -/

/-- Rank × 16 + bank and row of a logical address. -/
def dramPlace (order a : Nat) : Nat × Nat :=
  if order = 0 then (bitsAt a 30 1 * 16 + bitsAt a 12 4, bitsAt a 16 14)
  else if order = 2 then (bitsAt a 12 1 * 16 + Nat.xor (bitsAt a 13 4) (bitsAt a 17 4), bitsAt a 17 14)
  else (bitsAt a 30 1 * 16 + Nat.xor (bitsAt a 12 4) (bitsAt a 16 4), bitsAt a 16 14)

/-- The order in use; 0b11 acts as HASHED. -/
def State.dramOrder (s : State) : Nat := s.rd F.FMC_ORDER.ORDER

/-! ### Neighbour refresh (R200) -/

/-- Rows at distance 1, and 2 when asked for, inside the bank. -/
def neighbourRows (dist2 : Bool) (row : Nat) : List Nat :=
  let near := (if row = 0 then [] else [row - 1]) ++ (if row ≥ 16383 then [] else [row + 1])
  let far := (if row < 2 then [] else [row - 2]) ++ (if row ≥ 16382 then [] else [row + 2])
  if dist2 then near ++ far else near

/-- One neighbour refresh of an entry of the queue runs. -/
def State.runNeighbour (s : State) (e : Nat × Nat) : State :=
  let s := s.bump F.FMC_CNT_PNR.RUNS
  { s with fmc.pnrRows := neighbourRows (s.on F.FMC_PNR.DIST2) e.2
           fmc.openRow := s.fmc.openRow.set e.1 none }

/-- LOG2_P in force: values outside 4 to 12 act as the nearer limit. -/
def State.pnrLog (s : State) : Nat := clampNat 4 12 (s.rd F.FMC_PNR.LOG2_P)

/-- A row is activated: with probability 2^(-LOG2_P), a free draw, its neighbours join the queue; a full queue runs its
oldest entry first. -/
def State.activate (s : State) (bank row : Nat) : State :=
  let s := { s with fmc.openRow := s.fmc.openRow.set bank (some row) }
  if !s.on F.FMC_PNR.EN then s
  else
    let (n, s) := s.draw
    if n % 2 ^ s.pnrLog ≠ 0 then s
    else match s.fmc.pnr, decide (s.fmc.pnr.length ≥ 16) with
      | old :: rest, true => { s with fmc.pnr := rest ++ [(bank, row)] }.runNeighbour old
      | _, _ => { s with fmc.pnr := s.fmc.pnr ++ [(bank, row)] }

/-! ### Accesses (R200, R204) -/

/-- Rank r leaves power-down at a request to it, whose instant counts for the next. -/
def State.wakeRank (s : State) (r : Nat) : State :=
  let s := { s with fmc.lastReq := s.fmc.lastReq.set r s.now }
  if bitsAt (s.rd F.FMC_PD.IN_PD) r 1 = 0 then s else s.wr F.FMC_PD.IN_PD (insertBits (s.rd F.FMC_PD.IN_PD) r 1 0)

/-- A request reaches a burst: its rank leaves power-down and its row is opened. -/
def State.touchDram (s : State) (a : Nat) : State :=
  let (bank, row) := dramPlace s.dramOrder a
  let s := s.wakeRank (bank / 16)
  if nth s.fmc.openRow bank = some row then s else s.activate bank row

/-- The `n` bytes from `a` are read or written in ascending order; in every address order 4 KiB of them lie in one row. What an
access of several rows activates between them is counted access by access (DEDUCED, notes/assumptions/82.md). -/
def State.touchSpan (s : State) (a n : Nat) : State :=
  (List.range ((a + n + 4095) / 4096 - a / 4096)).foldl (fun s i => s.touchDram ((a / 4096 + i) * 4096)) s

end Sys2Proof.Machine
end

