-- ==== Sys2Proof/Machine/LineCode.lean ====
section
/-! DEFINITION. Sys2Proof/Machine/LineCode.lean: the 8b/10b code of the lanes, what a receiver makes of a symbol, training sets as
symbols, and the bit patterns of the pattern test (09_serial_lanes.md R210, R217, R220, R231). The published code tables are taken
from outside the spec (PRESUMED, notes/assumptions/96.md). -/

namespace Sys2Proof.Machine

/-! ### 8b/10b (R210) -/

/-- A symbol on the wire: its bits in the order sent, the first as the most significant. -/
abbrev Symbol := BitVec 10

/-- Six-bit codes of the low five bits, and four-bit codes of the high three, at negative running disparity. -/
def sixCodes : List Nat :=
  [0b100111, 0b011101, 0b101101, 0b110001, 0b110101, 0b101001, 0b011001, 0b111000,
   0b111001, 0b100101, 0b010101, 0b110100, 0b001101, 0b101100, 0b011100, 0b010111,
   0b011011, 0b100011, 0b010011, 0b110010, 0b001011, 0b101010, 0b011010, 0b111010,
   0b110011, 0b100110, 0b010110, 0b110110, 0b001110, 0b101110, 0b011110, 0b101011]
def fourCodes : List Nat := [0b1011, 0b1001, 0b0101, 0b1100, 0b1101, 0b1010, 0b0110, 0b1110]

def bitCount (v n : Nat) : Nat := (List.range n).foldl (fun a i => a + bitsAt v i 1) 0

/-- Running disparity after a sub-block of `n` bits, six or four: positive with more ones than zeros, and after 000111 and 0011;
negative with fewer, and after 111000 and 1100; else as before. -/
def disparityAfter (rd : Bool) (v n : Nat) : Bool :=
  if n < 2 * bitCount v n then true
  else if 2 * bitCount v n < n then false
  else if v = (if n = 6 then 0b000111 else 0b0011) then true
  else if v = (if n = 6 then 0b111000 else 0b1100) then false
  else rd

/-- Running disparity after a symbol: that of its six-bit, then of its four-bit sub-block. -/
def symbolDisparity (rd : Bool) (w : Nat) : Bool := disparityAfter (disparityAfter rd (w / 16) 6) (w % 16) 4

/-- The six-bit code of x at a running disparity; D.7 alternates although it is balanced. -/
def sixOf (rd : Bool) (x : Nat) : Nat :=
  let c := nth sixCodes x
  if rd && (bitCount c 6 != 3 || x == 7) then 63 - c else c

/-- The four-bit code of y behind x, at the disparity that x has left; D.x.7 has an alternate that avoids five equal bits. -/
def fourOf (rd : Bool) (x y : Nat) : Nat :=
  let alt := y == 7 && (if rd then x == 11 || x == 13 || x == 14 else x == 17 || x == 18 || x == 20)
  let c := if alt then 0b0111 else nth fourCodes y
  if rd && (bitCount c 4 != 2 || y == 3) then 15 - c else c

/-- The symbol of a data byte at a running disparity. -/
def dataSymbol (rd : Bool) (b : Byte) : Symbol :=
  let x := b.toNat % 32
  let six := sixOf rd x
  BitVec.ofNat 10 (six * 16 + fourOf (disparityAfter rd six 6) x (b.toNat / 32))

/-- The comma K28.5. -/
def commaSymbol (rd : Bool) : Symbol := if rd then 0b1100000101#10 else 0b0011111010#10

/-- What a receiver makes of a symbol: data, the comma, a code violation or a disparity error. -/
inductive Received where
  | data (b : Byte)
  | comma
  | code
  | disp
  deriving DecidableEq, Repr, Inhabited

/-- The byte a symbol stands for at a running disparity. -/
def symbolByte (rd : Bool) (w : Symbol) : Option Byte :=
  match (List.range 32).find? (fun x => sixOf rd x == w.toNat / 16) with
  | none => none
  | some x => ((List.range 8).map (fun y => BitVec.ofNat 8 (32 * y + x))).find? (fun b => dataSymbol rd b == w)

/-- A symbol as received at a running disparity: any control symbol but the comma is a code violation, and one that the other
disparity allows is a disparity error. -/
def receive (rd : Bool) (w : Symbol) : Received :=
  match symbolByte rd w with
  | some b => .data b
  | none =>
    if w = commaSymbol rd then .comma
    else if w = commaSymbol (!rd) ∨ (symbolByte (!rd) w).isSome then .disp
    else .code

/-- Symbols received one after the other. -/
def receiveAll : Bool → List Symbol → List Received
  | _, [] => []
  | rd, w :: ws => receive rd w :: receiveAll (symbolDisparity rd w.toNat) ws

/-- The running disparity after symbols. -/
def disparityEnd (rd : Bool) (ws : List Symbol) : Bool := ws.foldl (fun rd w => symbolDisparity rd w.toNat) rd

def isError (r : Received) : Bool := r == .code || r == .disp

/-- Sync is lost: four of 16 consecutive symbols, each in error or not, are in error (R217). -/
def losesSync (l : List Bool) : Bool := (List.range l.length).any (fun i => Nat.ble 4 (((l.drop i).take 16).countP id))

/-! ### Training sets as symbols (R217, R220) -/

def setFill : Byte := 0x4A#8

/-- The 15 data symbols of a set. -/
def setBytes (t : TSet) : List Byte :=
  [t.ty, t.lane, t.rate, t.preset, t.ready, t.width, t.txUsed] ++ leBytes 3 t.devId.toNat ++ [t.role, t.version, setFill, setFill, setFill]

/-- Data bytes as symbols from a running disparity on. -/
def dataSymbols : Bool → List Byte → List Symbol
  | _, [] => []
  | rd, b :: bs => dataSymbol rd b :: dataSymbols (symbolDisparity rd (dataSymbol rd b).toNat) bs

/-- A set as sent from a running disparity on. -/
def setSymbols (rd : Bool) (t : TSet) : List Symbol :=
  commaSymbol rd :: dataSymbols (symbolDisparity rd (commaSymbol rd).toNat) (setBytes t)

/-- The bytes of a set without error, at a running disparity: a comma, then data. -/
def setData (rd : Bool) (ws : List Symbol) : Option (List Byte) :=
  match receiveAll rd ws with
  | .comma :: l => l.mapM (fun r => match r with
      | .data b => some b
      | _ => none)
  | _ => none

/-- A set from its data bytes. -/
def setOf (l : List Byte) : TSet :=
  ⟨nth l 0, nth l 1, nth l 2, nth l 3, nth l 4, nth l 5, nth l 6, BitVec.ofNat 24 (fieldLE l 7 3), nth l 10, nth l 11⟩

/-- A set in symbols of upright polarity, at a running disparity. -/
def wireSet (rd : Bool) (ws : List Symbol) : Option TSet :=
  ((setData rd ws).filter (fun l => l.drop 12 == [setFill, setFill, setFill])).map setOf

/-- The running disparity at which symbols begin, as their comma shows it. -/
def commaDisparity (ws : List Symbol) : Bool := ws.head? == some (commaSymbol true)

/-- A set as a receiver out of sync finds it, and whether its polarity is inverted: an inverted FILL reads as the complement of its
code. -/
def receiveSet (ws : List Symbol) : Option (TSet × Bool) :=
  let turned := ws.map (fun w => ~~~w)
  match wireSet (commaDisparity ws) ws with
  | some x => some (x, false)
  | none => (wireSet (commaDisparity turned) turned).map (·, true)

/-! ### Bit patterns (R231) -/

/-- The bit that follows `h`, a history with the newest bit first, in a pattern; patterns 6 and 7 are pattern 0. -/
def patternNext (pattern : Nat) (h : List Bool) : Bool :=
  match pattern with
  | 1 => xor (nth h 14) (nth h 13)
  | 2 => xor (nth h 22) (nth h 17)
  | 3 => xor (nth h 30) (nth h 27)
  | 4 => !nth h 0
  | 5 => !nth h 9
  | _ => xor (nth h 6) (nth h 5)

/-- How many bits of history a pattern follows from. -/
def patternSpan (pattern : Nat) : Nat :=
  match pattern with
  | 1 => 15
  | 2 => 23
  | 3 => 31
  | 4 => 1
  | 5 => 10
  | _ => 7

/-- The bits of two commas, running disparity alternating, the first sent as the most significant. -/
def commaPair : Nat := 0b00111110101100000101

/-- A checker that is to follow the history `h` has bits of the pattern before it: enough of them, not the zeros that no PRBS holds,
and for K28.5 ten bits in a row of the alternating commas. -/
def patternLike (pattern : Nat) (h : List Bool) : Bool :=
  Nat.ble (patternSpan pattern) h.length &&
    match pattern with
    | 4 => true
    | 5 => (List.range 20).any (fun o => (List.range 10).all (fun i => nth h i == commaPair.testBit ((o + i) % 20)))
    | _ => (h.take (patternSpan pattern)).any id

/-- The history a generator starts from. Where in its sequence a PRBS starts is open; a sequence of zeros is none (DESIGN CHOICE,
notes/assumptions/97.md). -/
def patternStart (pattern : Nat) : List Bool :=
  match pattern with
  | 4 => [false]
  | 5 => ((List.range 10).map (fun i => (commaSymbol true).getLsbD i))
  | _ => true :: (List.range 30).map (fun i => (Config.patternPhase pattern).testBit i)

end Sys2Proof.Machine
end

