-- ==== Sys2Proof/Machine/Columns.lean ====
section
/-! DEFINITION. Sys2Proof/Machine/Columns.lean: the columns of a port: how a frame is sent as columns and how a receiver parses columns
into frames (10_zhelan_link.md R238 to R240, R242 to R246; 09_serial_lanes.md R218). -/

namespace Sys2Proof.Machine

/-- Payload bytes of COUNT pixels in a format (R242). -/
def payloadBytes (fmt n : Nat) : Nat :=
  if fmt = 0 then 3 * n else if fmt = 1 then 4 * n else if fmt = 2 then 9 * ((n + 1) / 2) else 6 * n

/-- Byte 0 of a frame: its TYPE. -/
def frameType (b : List Byte) : Nat := (b.getD 0 0).toNat

/-- What a receiver knows of a frame's length from the bytes so far (R239, R240). -/
inductive FrameSize where
  /-- the header that gives the length is not complete -/
  | unread
  | bytes (n : Nat)
  /-- a TYPE that is not listed, or a segment of a reserved FMT: up to the next comma column -/
  | ignored
  deriving DecidableEq, Repr, Inhabited

/-- The size of a frame whose bytes begin with `b`. -/
def frameSize (b : List Byte) : FrameSize :=
  let packet : FrameSize := if b.length < 16 then .unread else .bytes (24 + fieldLE b 14 2)
  match frameType b with
  | 0x10 => if b.length < 2 then .unread else if 3 < byteAt b 1 then .ignored
      else if b.length < 10 then .unread else .bytes (12 + payloadBytes (byteAt b 1) (fieldLE b 8 2))
  | 0x11 => .bytes 20
  | 0x12 => .bytes 12
  | 0x20 => packet
  | 0x21 => packet
  | 0x30 => packet
  | 0x40 => .bytes 60
  | 0x50 => .bytes 4132
  | 0x51 => .bytes 4132
  | _ => .ignored

/-! ### Sending (R238, R239) -/

/-- Bytes as data columns of `w` lanes, at most `n` of them; zero bytes complete the last. -/
def dataColumns (w : Nat) : Nat → List Byte → List Column
  | 0, _ => []
  | _, [] => []
  | n + 1, b => .data ((b ++ List.replicate (w - b.length) 0#8).take w) :: dataColumns w n (b.drop w)

/-- A skip pair goes before a data column that would be the 2,049th in a row; `n` is the number sent since the last comma column. -/
def skipPairs : Nat → List Column → List Column
  | _, [] => []
  | n, c :: cs => if n = 2048 then .comma :: .comma :: c :: skipPairs 1 cs else c :: skipPairs (n + 1) cs

/-- A frame as its sender puts it on `w` lanes. -/
def sendColumns (w : Nat) (b : List Byte) : List Column := .comma :: skipPairs 0 (dataColumns (max 1 w) b.length b)

/-- A stripped frame: comma columns only (R252). -/
def stripColumns (cols : List Column) : List Column := cols.map (fun _ => .comma)

/-- The columns of a passing frame with other bytes in its data columns; its skip pairs stay (R249, R257). -/
def refill : List Column → List Byte → List Column
  | [], _ => []
  | .comma :: cs, b => .comma :: refill cs b
  | .data d :: cs, b => .data ((b ++ List.replicate (d.length - b.length) 0#8).take d.length) :: refill cs (b.drop d.length)

/-! ### Receiving (R239) -/

/-- A frame as received: its columns from the opening comma column on, its bytes, and whether all that its header calls for came. -/
structure RxFrame where
  cols : List Column
  bytes : List Byte
  whole : Bool
  deriving DecidableEq, Repr, Inhabited

/-- A receiver between two columns: the frame in progress, the comma columns since the last data column, and the frames ended. -/
structure Parser where
  open_ : Option RxFrame := none
  commas : Nat := 0
  out : List RxFrame := []
  deriving DecidableEq, Repr, Inhabited

/-- Data columns add to a frame; it ends after the last byte that its TYPE and header call for. -/
def Parser.take (x : Parser) (f : RxFrame) : Parser :=
  match frameSize f.bytes with
  | .bytes n => if n ≤ f.bytes.length then { out := x.out ++ [{ f with bytes := f.bytes.take n, whole := true }] }
      else { open_ := some f, out := x.out }
  | _ => { open_ := some f, out := x.out }

/-- The frame in progress ends where it stands: what is ignored up to here is whole as far as anyone can tell, any other frame is
truncated. -/
def Parser.close (x : Parser) : List RxFrame :=
  match x.open_ with
  | some f => x.out ++ [{ f with whole := frameSize f.bytes == .ignored }]
  | none => x.out

/-- One column is received. -/
def Parser.column (x : Parser) (c : Column) : Parser :=
  match c with
  | .comma =>
    if x.open_.any (fun f => frameSize f.bytes == .ignored) then { commas := 1, out := x.close } else { x with commas := x.commas + 1 }
  | .data d =>
    match x.open_ with
    | some f =>
      if x.commas = 0 then x.take { f with cols := f.cols ++ [.data d], bytes := f.bytes ++ d }
      else if x.commas = 2 then x.take { f with cols := f.cols ++ [.comma, .comma, .data d], bytes := f.bytes ++ d }
      else ({ out := x.close } : Parser).take ⟨[.comma, .data d], d, false⟩
    | none => if x.commas = 0 then x else x.take ⟨[.comma, .data d], d, false⟩

/-- The frames in the columns that a port receives until its source stops or idles. -/
def parseColumns (cols : List Column) : List RxFrame := (cols.foldl Parser.column {}).close

end Sys2Proof.Machine
end

