-- ==== Sys2Proof/Machine/Stream.lean ====
section
/-! DEFINITION. Sys2Proof/Machine/Stream.lean: port roles, stream selection, transmitter modes, TXCLK's source and the time base,
as both the lanes and the link protocol move them (10_zhelan_link.md R235 to R237, R247, R259 to R270, R495;
09_serial_lanes.md R214, R215). -/

namespace Sys2Proof.Machine

def ports : List Port := [0, 1, 2, 3]

def State.zport (s : State) (p : Nat) : ZlpPort := nth s.zlp.ports p
def State.setZport (s : State) (p : Nat) (x : ZlpPort) : State := { s with zlp.ports := s.zlp.ports.set p x }

def State.lport (s : State) (p : Nat) : LinkPort := nth s.lnk.ports p
def State.setLport (s : State) (p : Nat) (x : LinkPort) : State := { s with lnk.ports := s.lnk.ports.set p x }
def State.lane (s : State) (p k : Nat) : LaneState := nth (s.lport p).lanes k
def State.setLane (s : State) (p k : Nat) (x : LaneState) : State :=
  s.setLport p { s.lport p with lanes := (s.lport p).lanes.set k x }

/-! ### Roles and quarantine (R235, R236) -/

/-- A partner announcing role `r` is acceptable to a port of role `own`. -/
def acceptable (own r : Nat) : Bool :=
  if own = 1 then r == 3 || r == 2 || r == 4
  else if own = 2 then r == 1 || r == 4
  else own == 3 && r == 1

/-- The lowest-numbered port that has role `r` (1 PRIMARY_UP, 2 ALT_UP). -/
def State.portWith (s : State) (r : Nat) : Option Port := ports.find? (fun p => s.role p == r)

/-- Another port of lower number has the same up role. -/
def State.duplicateRole (s : State) (p : Port) : Bool :=
  (s.role p == 1 || s.role p == 2) && s.portWith (s.role p) != some p

def State.quarantined (s : State) (p : Port) : Bool := s.on (F.ZLP_PORT_STAT.QUARANTINED p.val)

def State.streamValid (s : State) (p : Port) : Bool := s.on (F.ZLP_PORT_STAT.VALID p.val)

/-- The valid stream of the up role `r`. -/
def State.upStream (s : State) (r : Nat) : Option Port := (s.portWith r).filter (fun p => s.streamValid p)

/-! ### Selection registers -/

def State.selState (s : State) : Nat := s.rd F.ZLP_SEL_STAT.STATE

/-- The selected port, also while the selection is LOST. -/
def State.selPort (s : State) : Option Port :=
  let n := s.rd F.ZLP_SEL_STAT.PORT
  if h : n < 4 then some ⟨n, h⟩ else none

/-- A stream is selected and valid. -/
def State.selected (s : State) : Bool := s.selState == 1 || s.selState == 2

/-- STATE of a selection on port p. -/
def State.selCode (s : State) (p : Port) : Nat := if s.role p = 2 then 2 else 1

/-- Port p carries the stream that capture follows (R37, R58, R270). -/
def State.captures (s : State) (p : Port) : Bool :=
  s.selPort == some p && ((s.selected && s.streamValid p) || (s.selState == 3 && s.portActive p && !s.quarantined p))

/-! ### TXCLK (R214, R215) -/

/-- TXCLK's offset from REFCLK, in 0.01 ppm: it moves toward zero by 1 ppm a millisecond once holdover has lasted 10 ms. -/
def State.txOffset (s : State) : Int :=
  let o := signed 16 (s.rd F.LNK_TXCLK.OFFSET)
  match s.lnk.driftAt with
  | none => o
  | some t =>
    let n : Int := ((s.now - t) / us 10 : Nat)
    if 0 ≤ o then max 0 (o - n) else min 0 (o + n)

/-- TXCLK stays at the frequency it has reached. -/
def State.stopDrift (s : State) : State := { s.wr F.LNK_TXCLK.OFFSET (unsigned 16 s.txOffset) with lnk.driftAt := none }

/-- TXCLK moves toward REFCLK in a holdover that has lasted 10 ms, while REFCLK is good (R215, R216). -/
def State.startDrift (s : State) : State :=
  if s.on F.LNK_TXCLK.HOLDOVER && s.lnk.holdExpired && s.on F.LNK_TXCLK.REFCLK_OK && s.lnk.driftAt.isNone then
    { s with lnk.driftAt := some s.now }
  else s

/-- TXCLK enters holdover; it is to lock to the port the selection stands on, or to REFCLK. -/
def State.txHoldover (s : State) : State :=
  let s := (s.stopDrift.wr F.LNK_TXCLK.HOLDOVER 1).wr F.LNK_TXCLK.LOCKED 0
  { s.fault 0x2D 0 with lnk.holdExpired := false }

/-- The port TXCLK is to follow has changed while TXCLK is on REFCLK: it slews to its new source. -/
def State.txAim (s : State) (p : Option Nat) : State :=
  { s.wr F.LNK_TXCLK.LOCKED 0 with lnk.txTarget := p }

/-! ### Time base states (R263, R495) -/

/-- HOLDOVER is entered from ACQUIRE or LOCKED when no valid stream remains selected. -/
def State.timeHoldover (s : State) : State :=
  let st := s.rd F.ZLP_TIME_STAT.STATE
  if st = 1 ∨ st = 2 then
    { (s.wr F.ZLP_TIME_STAT.STATE 3).fault 0x34 0 with zlp.fresh := false, zlp.okRun := 0, zlp.badRun := 0 }
  else s

/-! ### Transmitter modes (R247, R254) -/

/-- The up output: the PRIMARY_UP transmitter, unless only the ALT_UP stream is valid. -/
def State.upOutput (s : State) : Option Port :=
  match s.upStream 1, s.upStream 2 with
  | some p, _ => some p
  | none, some p => some p
  | none, none => s.portWith 1

/-- The port whose stream the transmitter of port p forwards while it is valid. -/
def State.sourceOf (s : State) (p : Port) : Option Port :=
  match s.role p with
  | 1 => s.upStream 2
  | 2 => s.upStream 1
  | 3 => if s.selected then s.selPort else none
  | _ => none

/-- Ports p and r are ACTIVE at one rate and width: forwarding between them is cut-through. -/
def State.sameSpeed (s : State) (p r : Port) : Bool :=
  s.rd (F.LNK_STAT.RATE p.val) == s.rd (F.LNK_STAT.RATE r.val) && s.rd (F.LNK_STAT.WIDTH p.val) == s.rd (F.LNK_STAT.WIDTH r.val)

/-- TX_MODE of port p by R247 and R254: 0 idle, 1 cut-through, 2 converted, 3 merging. -/
def State.modeOf (s : State) (p : Port) : Nat :=
  if !s.portActive p || s.quarantined p then 0
  else match s.sourceOf p with
    | none => 3
    | some r => if (s.zport p.val).splice then 0 else if (s.zport p.val).wait then 3 else if s.sameSpeed p r then 1 else 2

/-- A transmitter takes state `st`: 4 IDLE sets go out before it falls idle, 16 TS2 when it wakes (R228, R229). -/
def State.setLaneTx (s : State) (p k st : Nat) : State :=
  let was := s.rd (F.LNK_LSTAT.TX_STATE p k)
  let s := s.wr (F.LNK_LSTAT.TX_STATE p k) st
  if was = 0 ∧ st = 1 then s.setLane p k { s.lane p k with burst := some (0xB4#8, 4) }
  else if was = 1 ∧ st = 0 then s.setLane p k { s.lane p k with burst := some (0xB2#8, 16) }
  else s

/-- A request for IDLE stands for transmitter k: it was asked for and not refused. -/
def State.idleAsked (s : State) (p k : Nat) : Bool :=
  bitsAt (s.rd (F.LNK_LP.TX_REQ p)) (2 * k) 2 == 1 && bitsAt (s.rd (F.LNK_LP.REFUSED p)) k 1 == 0

/-- An ACTIVE port neither receives nor forwards a valid stream. -/
def State.streamless (s : State) (p : Port) : Bool :=
  s.portActive p && !s.streamValid p && s.modeOf p != 1 && s.modeOf p != 2

/-- In STANDBY the ports without a valid stream stand in TX IDLE (R316, R324). -/
def State.quiet (s : State) (p : Port) : Bool := decide (s.rd F.PWR_STATE.STATE = 2) && s.streamless p

/-- A transmitter whose lanes are asked to be IDLE, or of a quiet port, sends while the link needs it, and falls idle when it is
released (R229). -/
def State.laneIdle (p : Port) (sending : Bool) (s : State) (k : Lane) : State :=
  if s.portActive p ∧ bitsAt (s.rd (F.LNK_STAT.TX_USED p.val)) k.val 1 = 1 ∧ s.rd (F.LNK_LSTAT.TX_STATE p.val k.val) ≠ 2 then
    s.setLaneTx p.val k.val (if (s.idleAsked p.val k.val || s.quiet p) && !sending then 1 else 0)
  else s

/-- The link needs, or releases, the transmitter of port p. -/
def State.useTx (s : State) (p : Port) (sending : Bool) : State := [(0 : Lane), 1, 2, 3].foldl (State.laneIdle p sending) s

/-- The transmitter of port q forwards a stream. -/
def State.txForwards (s : State) (q : Port) : Bool :=
  s.rd (F.ZLP_PORT_STAT.TX_MODE q.val) == 1 || s.rd (F.ZLP_PORT_STAT.TX_MODE q.val) == 2

/-- The receivers in use of a port go on STANDBY (R228, R316). -/
def State.quietRx (s : State) (p : Port) : State :=
  [0, 1, 2, 3].foldl (fun s k => if bitsAt (s.rd (F.LNK_STAT.RX_USED p.val)) k 1 = 1 then s.wr (F.LNK_LSTAT.RX_STATE p.val k) 1 else s) s

/-- Mode, source and up-output bit of port p. A source that has gone makes its transmitter wait for the next frame start; a port that
no longer forwards a stream in STANDBY goes to its low-power states. -/
def State.refreshMode (s : State) (p : Port) : State :=
  let forwarded := s.txForwards p
  let src := s.sourceOf p
  let s := if src.isNone then s.setZport p.val { s.zport p.val with wait := true, splice := false } else s
  let m := s.modeOf p
  let s := s.wr (F.ZLP_PORT_STAT.TX_MODE p.val) m
  let s := s.wr (F.ZLP_PORT_STAT.SOURCE p.val) (if m = 1 ∨ m = 2 then (src.map (·.val)).getD 15 else 15)
  let s := s.wrB (F.ZLP_PORT_STAT.UP_OUT p.val) (s.upOutput == some p && s.portActive p && !s.quarantined p)
  let s := s.useTx p (m == 1 || m == 2)
  if forwarded && s.quiet p then s.quietRx p else s

/-- Modes of all transmitters and the validity bits of ZLP_SEL_STAT. -/
def State.refreshModes (s : State) : State :=
  let s := s.wrB F.ZLP_SEL_STAT.PRI_VALID (s.upStream 1).isSome
  let s := s.wrB F.ZLP_SEL_STAT.ALT_VALID (s.upStream 2).isSome
  ports.foldl State.refreshMode s

/-! ### Times (R259) -/

/-- a − b as a signed 64-bit number. -/
def timeDiff (a b : Nat) : Int := signed 64 ((a + 2 ^ 64 - b % 2 ^ 64) % 2 ^ 64)

/-- LT moves by d. -/
def State.moveLt (s : State) (d : Int) : State := { s with zlp.ltOffset := unsigned 64 (s.zlp.ltOffset + d) }

/-- d_in of port p in 1/12,800 ns: the mean of the samples in use (R261). -/
def State.delayOf (s : State) (p : Nat) : Int :=
  let l := (s.zport p).delays
  if l.isEmpty then 0 else roundDivInt (l.foldl (· + ·) 0) l.length

/-- d_in in 1/256 ns. -/
def State.delayTicks (s : State) (p : Nat) : Int := roundDivInt (s.delayOf p) 50

/-- The mean e of the last 16 TIME frames of port p, in 1/256 ns. -/
def State.meanErr (s : State) (p : Port) : Int :=
  let l := (s.zport p.val).errs
  if l.isEmpty then 0 else roundDivInt (l.foldl (· + ·) 0) l.length

/-- Registers of the selected stream: ERR in 0.1 ns, PATH in 0.1 ns, HOPS, STREAM_ID. -/
def State.showTime (s : State) (p : Port) : State :=
  let x := s.zport p.val
  let err := clampInt (-2147483648) 2147483647 (roundDivInt (s.meanErr p * 10) 256)
  let path := roundDivInt ((x.corr + s.delayTicks p.val) * 10) 256
  let s := s.wr F.ZLP_TIME_ERR.ERR (unsigned 32 err)
  let s := s.wr F.ZLP_PATH.PATH (min (2 ^ 32 - 1) path.toNat)
  (s.wr F.ZLP_TIME_STAT.HOPS (min 0xFFFFFF (x.hops + 1))).wr F.ZLP_SEL_STAT.STREAM_ID x.streamId

/-! ### Selecting (R267, R270) -/

/-- The selection moves to port p: capture, LT, the up output and the registers of the selected stream follow, and a DOWN transmitter
that forwards splices to the new stream. -/
def State.selectPort (s : State) (p : Port) : State :=
  let s := (s.wr F.ZLP_SEL_STAT.STATE (s.selCode p)).wr F.ZLP_SEL_STAT.PORT p.val
  ({ s with zlp.fresh := true
            zlp.ports := (ports.map (fun q =>
              if s.role q = 3 ∧ s.txForwards q then { s.zport q.val with splice := true } else s.zport q.val)) } : State).showTime p

/-- Every DOWN transmitter splices: it sends idle until the new stream's next frame start. -/
def State.spliceDown (s : State) : State :=
  { s with zlp.ports := ports.map (fun q => if s.role q = 3 then { s.zport q.val with splice := true } else s.zport q.val) }

/-- A switch under R267: counted, fault 0x30, the DOWN transmitters spliced, TXCLK through holdover to the new source. -/
def State.switchTo (s : State) (p : Port) : State :=
  let s := ((s.selectPort p).spliceDown.bump F.ZLP_CNT_SEL.SWITCHES).fault 0x30 1
  { s.txHoldover with lnk.txTarget := some p.val }

/-- The stream on port p has become valid (R266, R267, R270). -/
def State.streamUp (s : State) (p : Port) : State :=
  let s := (s.wr (F.ZLP_PORT_STAT.VALID p.val) 1).setZport p.val { s.zport p.val with validAt := s.now }
  let s :=
    if s.selState = 0 then (s.selectPort p).txAim (some p.val)
    else if s.selState = 3 then
      if s.selPort = some p then
        let s := s.selectPort p
        if s.lnk.txTarget = some p.val then s else s.txAim (some p.val)
      else s.switchTo p
    else s
  s.refreshModes

/-- The stream on port p has ceased to be valid (R266, R267, R270). -/
def State.streamLost (s : State) (p : Port) : State :=
  let s := (s.wr (F.ZLP_PORT_STAT.VALID p.val) 0).setZport p.val { s.zport p.val with run := 0 }
  let s :=
    if s.selPort = some p ∧ s.selected then
      match s.upStream (if s.role p = 2 then 1 else 2) with
      | some r => s.switchTo r
      | none => ((s.wr F.ZLP_SEL_STAT.STATE 3).fault 0x31 2).timeHoldover
    else s
  let s := s.refreshModes
  if s.quiet p then s.quietRx p else s

/-- A port leaves ACTIVE: its stream is lost, and TXCLK loses its source if it followed it. -/
def State.portLeaves (s : State) (p : Port) : State :=
  let s := if s.streamValid p then s.streamLost p else s.setZport p.val { s.zport p.val with run := 0 }
  let s := if s.lnk.txTarget = some p.val then { (if s.on F.LNK_TXCLK.HOLDOVER then s else s.txHoldover) with lnk.txTarget := none } else s
  s.refreshModes

end Sys2Proof.Machine
end

