-- ==== Sys2Proof/Machine/Lanes.lean ====
section
/-! DEFINITION. Sys2Proof/Machine/Lanes.lean: bring-up, port down, low-power states, eye scan and pattern test
(09_serial_lanes.md), with the commands EYE_SCAN and PATTERN_TEST (R291, R292). -/

namespace Sys2Proof.Machine

def lanes : List Lane := [0, 1, 2, 3]

/-- The state of port p; ports stand still while the link island is not clocked (R316). -/
def State.portState (s : State) (p : Nat) : Nat := if s.lnkClk then s.rd (F.LNK_STAT.STATE p) else 0
def State.refclkOk (s : State) : Bool := s.on F.LNK_TXCLK.REFCLK_OK

/-- Lane k of port p receives in use: it stands in RX_USED of an ACTIVE port. -/
def State.rxInUse (s : State) (p k : Nat) : Bool := s.portState p == 5 && bitsAt (s.rd (F.LNK_STAT.RX_USED p)) k 1 == 1

def countBits (w : Nat) : Nat := bitsAt w 0 1 + bitsAt w 1 1 + bitsAt w 2 1 + bitsAt w 3 1

/-- The largest of 4, 2 and 1 that does not exceed n; 0 for 0 (R223). -/
def laneWidth (n : Nat) : Nat := if n ≥ 4 then 4 else if n ≥ 2 then 2 else n

/-- The `n` lowest set bits of a mask of four. -/
def lowestBits (w n : Nat) : Nat :=
  ((List.range 4).foldl (fun (m : Nat × Nat) i =>
    if bitsAt w i 1 = 1 ∧ m.2 < n then (m.1 + 2 ^ i, m.2 + 1) else m) (0, 0)).1

/-! ### DETECT (R221, R222) -/

/-- A lane as it stands on entry into DETECT. -/
def State.clearLane (p : Nat) (s : State) (k : Lane) : State :=
  let s := s.setLane p k.val {}
  let s := (s.wr (F.LNK_LSTAT.SYNC p k.val) 0).wr (F.LNK_LSTAT.EXCLUDED p k.val) 0
  let s := s.wr (F.LNK_LSTAT.TX_STATE p k.val) 2
  s.wr (F.LNK_LSTAT.RX_STATE p k.val) (if bitsAt (s.lport p).laneEn k.val 1 = 1 then 0 else 2)

/-- Entry into DETECT: LANE_EN and MAX_RATE take effect; with MAX_RATE 0 the rate is 8.0 Gb/s, and a change of
rate begins the count of attempts anew. -/
def State.enterDetect (s : State) (p : Nat) : State :=
  let s := s.setLport p { s.lport p with
    laneEn := s.rd (F.LNK_CFG.LANE_EN p), maxRate := s.rd (F.LNK_CFG.MAX_RATE p), ready := 0, stable := false, width := 0, partnerTx := 0 }
  let s := if s.rd (F.LNK_CFG.MAX_RATE p) = 0 ∧ s.rd (F.LNK_STAT.RATE p) = 1 then (s.wr (F.LNK_STAT.RATE p) 0).wr (F.LNK_STAT.ATTEMPTS p) 0 else s
  let s := ((s.wr (F.LNK_STAT.WIDTH p) 0).wr (F.LNK_STAT.TX_USED p) 0).wr (F.LNK_STAT.RX_USED p) 0
  lanes.foldl (State.clearLane p) (s.wr (F.LNK_STAT.STATE p) 1)

/-- DETECT after OFF or after a port has left ACTIVE: the attempts begin anew at the highest rate (R222). -/
def State.freshDetect (s : State) (p : Nat) : State :=
  let s := (s.wr (F.LNK_STAT.ATTEMPTS p) 0).wr (F.LNK_STAT.RATE p) 1
  s.enterDetect p

/-- The partner's ID and role, from its last TS3, are recorded as EXCHANGE is left (R221). -/
def State.recordPartner (s : State) (p : Nat) : State :=
  match lanes.find? (fun k => bitsAt (s.rd (F.LNK_STAT.RX_USED p)) k.val 1 == 1 && ((s.lane p k.val).last.map (·.ty)) == some 0xB3#8
      && Nat.ble 2 (s.lane p k.val).same) with
  | some k =>
    match (s.lane p k.val).last with
    | some t => (s.wr (F.LNK_PARTNER.ROLE p) t.role.toNat).wr (F.LNK_PARTNER.DEV_ID p) t.devId.toNat
    | none => s
  | none => s

/-- An attempt fails: its cause is recorded, and the third in a row changes the rate (R222). -/
def State.failAttempt (s : State) (p cause : Nat) : State :=
  let s := (if s.portState p = 4 then s.recordPartner p else s).wr (F.LNK_STAT.LAST_FAIL p) cause
  let n := s.rd (F.LNK_STAT.ATTEMPTS p) + 1
  let s := if (s.lport p).maxRate = 1 ∧ n ≥ 3 then
      if s.rd (F.LNK_STAT.RATE p) = 1 then
        ((s.wr (F.LNK_STAT.RATE p) 0).wr (F.LNK_STAT.ATTEMPTS p) 0).bump (F.LNK_CNT.FALLBACKS p)
      else (s.wr (F.LNK_STAT.RATE p) 1).wr (F.LNK_STAT.ATTEMPTS p) 0
    else s.wr (F.LNK_STAT.ATTEMPTS p) (min 15 n)
  s.enterDetect p

/-- The port goes OFF: lanes off (R221, R235). -/
def State.enterOff (s : State) (p : Nat) : State :=
  let s := s.setLport p { patAt := (s.lport p).patAt }
  let s := ((s.wr (F.LNK_STAT.WIDTH p) 0).wr (F.LNK_STAT.TX_USED p) 0).wr (F.LNK_STAT.RX_USED p) 0
  lanes.foldl (fun s k => ((s.wr (F.LNK_LSTAT.SYNC p k.val) 0).wr (F.LNK_LSTAT.TX_STATE p k.val) 2).wr (F.LNK_LSTAT.RX_STATE p k.val) 2)
    (s.wr (F.LNK_STAT.STATE p) 0)

/-! ### TRAIN (R213, R221, R223) -/

/-- The transmitter preset of lane k: with FOLLOW the one the partner requests in its sets for that lane (R212). -/
def State.trainPreset (s : State) (p k : Nat) : Nat :=
  if s.on (F.LNK_TX.FOLLOW p) then
    match (s.lane p k).last with
    | some t => t.preset.toNat % 8
    | none => s.rd (F.LNK_LSTAT.PRESET_USED p k)
  else s.rd (F.LNK_TX.PRESET p)

/-- A lane as TRAIN begins: its transmitter sends TS1 if it is of `mask`; the equaliser holds its first or its fixed setting. -/
def State.trainLane (p mask : Nat) (s : State) (k : Lane) : State :=
  let s := if bitsAt mask k.val 1 = 1 then (s.wr (F.LNK_LSTAT.TX_STATE p k.val) 0).wr (F.LNK_LSTAT.PRESET_USED p k.val) (s.trainPreset p k.val) else s
  if s.on (F.LNK_RX.CTLE_MODE p) then
    (s.wr (F.LNK_LSTAT.CTLE_IN_USE p k.val) (s.rd (F.LNK_RX.CTLE_FIXED p))).setLane p k.val { s.lane p k.val with adapted := true }
  else (s.wr (F.LNK_LSTAT.CTLE_IN_USE p k.val) 0).setLane p k.val { s.lane p k.val with adapted := false, ctleNext := 0, ctleBest := 0, ctlePeak := 0 }

/-- An attempt begins, with TS1 sent on the lanes of `mask` (R222). -/
def State.enterTrain (s : State) (p mask : Nat) : State :=
  lanes.foldl (State.trainLane p mask) ((s.wr (F.LNK_STAT.STATE p) 2).setLport p { s.lport p with ready := 0, stable := false })

/-- Lane k is in sync and not excluded. -/
def State.syncLane (s : State) (p k : Nat) : Bool :=
  s.on (F.LNK_LSTAT.SYNC p k) && !s.on (F.LNK_LSTAT.EXCLUDED p k)

/-- Receive lanes in sync and adapted, as a mask. -/
def State.readyMask (s : State) (p : Nat) : Nat :=
  bitsOf (lanes.map (fun k => s.syncLane p k.val && (s.lane p k.val).adapted))

/-- W of R223 from the two counts. -/
def State.widthNow (s : State) (p : Nat) : Nat :=
  laneWidth (min (countBits (s.readyMask p)) (countBits (s.lport p).ready))

/-- Every lane in sync has adapted. -/
def State.allAdapted (s : State) (p : Nat) : Bool :=
  lanes.all (fun k => !s.syncLane p k.val || (s.lane p k.val).adapted)

/-- The partner's physical lanes whose receivers here satisfy `f`, as a mask (R220). -/
def State.partnerMask (s : State) (p : Nat) (f : Nat → Bool) : Nat :=
  (lanes.filter (fun k => f k.val)).foldl (fun m k => Nat.lor m (2 ^ s.rd (F.LNK_LSTAT.PARTNER_LANE p k.val))) 0

/-- READY[3:0] and READY[7:4] as this device sends them. -/
def State.readyOut (s : State) (p : Nat) : Nat := s.partnerMask p (fun k => s.syncLane p k && (s.lane p k).adapted)
def State.syncOut (s : State) (p : Nat) : Nat := s.partnerMask p (s.syncLane p)

/-- A receiver goes off: it is in sync again only through DETECT (R228). -/
def State.rxOff (s : State) (p k : Nat) : State :=
  ((s.wr (F.LNK_LSTAT.RX_STATE p k) 2).wr (F.LNK_LSTAT.SYNC p k) 0).setLane p k { burst := (s.lane p k).burst }

/-- Receive lanes in use: those that carry the partner lanes of a mask; the others go off. -/
def State.fixRx (s : State) (p : Nat) (partnerTx : Nat) : State :=
  let mask := bitsOf (lanes.map (fun k => s.syncLane p k.val && bitsAt partnerTx (s.rd (F.LNK_LSTAT.PARTNER_LANE p k.val)) 1 == 1))
  let s := (s.setLport p { s.lport p with partnerTx := partnerTx }).wr (F.LNK_STAT.RX_USED p) mask
  lanes.foldl (fun s k => if bitsAt mask k.val 1 = 1 then s.wr (F.LNK_LSTAT.RX_STATE p k.val) 0 else s.rxOff p k.val) s

/-- TRAIN is left for LOCK: W, TX_USED and the receive lanes are fixed. The partner transmits on the lowest lanes that this device
reports ready, and its TX_USED names them from its TS2 on (R223). -/
def State.enterLock (s : State) (p : Nat) : State :=
  let w := s.widthNow p
  let s := s.setLport p { s.lport p with width := w }
  let s := (s.wr (F.LNK_STAT.STATE p) 3).wr (F.LNK_STAT.TX_USED p) (lowestBits (s.lport p).ready w)
  let s := s.fixRx p (lowestBits (s.readyOut p) w)
  lanes.foldl (fun s k =>
    let s := s.setLane p k.val { s.lane p k.val with run := 0 }
    s.wr (F.LNK_LSTAT.TX_STATE p k.val) (if bitsAt (s.rd (F.LNK_STAT.TX_USED p)) k.val 1 = 1 then 0 else 2)) s

/-- The exit test of TRAIN. -/
def State.tryLock (s : State) (p : Nat) : State :=
  if s.portState p = 2 ∧ (s.lport p).stable ∧ s.allAdapted p ∧ s.widthNow p ≥ 1 then s.enterLock p else s

/-! ### LOCK and EXCHANGE (R219, R221, R224) -/

/-- Every receive lane in use has the given property. -/
def State.allRx (s : State) (p : Nat) (f : Nat → Bool) : Bool :=
  s.rd (F.LNK_STAT.RX_USED p) ≠ 0 && lanes.all (fun k => bitsAt (s.rd (F.LNK_STAT.RX_USED p)) k.val 1 == 0 || f k.val)

/-- Skew to remove, in symbols: the latest comma of the lanes in use against the earliest. -/
def State.skewOf (s : State) (p : Nat) : Nat :=
  let offs := (lanes.filter (fun k => bitsAt (s.rd (F.LNK_STAT.RX_USED p)) k.val 1 == 1)).map (fun k => (s.lane p k.val).offset)
  offs.foldl max 0 - offs.foldl min (offs.headD 0)

/-- Eight consecutive TS2 on all receive lanes in use, deskewed: EXCHANGE. -/
def State.tryExchange (s : State) (p : Nat) : State :=
  if s.portState p = 3 ∧ s.allRx p (fun k => decide (8 ≤ (s.lane p k).run) && ((s.lane p k).last.map (·.ty)) == some 0xB2#8) ∧ s.skewOf p ≤ 4 then
    (s.wr (F.LNK_STAT.STATE p) 4).wr (F.LNK_STAT.SKEW p) (s.skewOf p)
  else s

/-- Partner lanes on which TS3 are received, as a mask. -/
def State.ts3Lanes (s : State) (p : Nat) : Nat :=
  s.partnerMask p (fun k => bitsAt (s.rd (F.LNK_STAT.RX_USED p)) k 1 == 1 && ((s.lane p k).last.map (·.ty)) == some 0xB3#8)

/-! ### What the device sends (R212, R220, R235) -/

/-- TYPE of the sets a port sends in its state. -/
def State.sentType (s : State) (p : Nat) : Option Byte :=
  match s.portState p with
  | 2 => some 0xB1#8
  | 3 => some 0xB2#8
  | 4 => some 0xB3#8
  | _ => none

/-- The set of TYPE `ty` as transmitter k of port p sends it. -/
def State.sentSet (s : State) (p k : Nat) (ty : Byte) : TSet :=
  let x := s.lport p
  let late := ty == 0xB2#8 || ty == 0xB3#8
  let ex := ty == 0xB3#8
  { ty := ty, lane := BitVec.ofNat 8 (k + 4 * p), rate := BitVec.ofNat 8 (1 + 2 * x.maxRate)
    preset := BitVec.ofNat 8 (s.rd (F.LNK_TX.REQ_PRESET p) + 16 * s.rd (F.LNK_LSTAT.PRESET_USED p k))
    ready := BitVec.ofNat 8 (s.readyOut p + 16 * s.syncOut p)
    width := BitVec.ofNat 8 (if late then x.width else 0)
    txUsed := BitVec.ofNat 8 (if late then s.rd (F.LNK_STAT.TX_USED p) else 0)
    devId := BitVec.ofNat 24 (if ex then s.deviceId else 0)
    role := BitVec.ofNat 8 (if ex then s.role (quadOf p) else 0), version := 0x01#8 }

/-- What transmitter k of port p sends over and over in bring-up, as symbols. -/
def State.sending (s : State) (p k : Nat) (rd : Bool) : Option (List Symbol) :=
  if s.rd (F.LNK_LSTAT.TX_STATE p k) = 0 then (s.sentType p).map (fun ty => setSymbols rd (s.sentSet p k ty)) else none

/-- Quarantine of a port that is or becomes ACTIVE (R236). -/
def State.judgeQuarantine (s : State) (p : Port) : State :=
  if s.portActive p && !s.quarantined p && (!acceptable (s.role p) (s.rd (F.LNK_PARTNER.ROLE p.val)) || s.duplicateRole p) then
    let s := (s.wr (F.ZLP_PORT_STAT.QUARANTINED p.val) 1).fault 0x32 2
    if s.streamValid p then s.streamLost p else s
  else s

/-- Entry into ACTIVE (R224, R227, R236, R256); in STANDBY, without a stream, into its low-power states (R316). -/
def State.enterActive (s : State) (p : Port) : State :=
  let w := (s.lport p.val).width
  let s := ((s.wr (F.LNK_STAT.STATE p.val) 5).wr (F.LNK_STAT.WIDTH p.val) w).wr (F.LNK_STAT.ATTEMPTS p.val) 0
  let s := if s.rd (F.LNK_STAT.RATE p.val) = 0 ∧ (s.lport p.val).maxRate = 1 then s.fault (0x24 + p.val) 2 else s
  let s := if w < laneWidth (countBits (s.lport p.val).laneEn) then s.fault (0x28 + p.val) 2 else s
  let s := s.setZport p.val { s.zport p.val with
    run := 0, sent := 0, freedIn := 0, freedOut := 0, merge := [], conv := [], wait := true, splice := false, sentT := [], echo := none, errs := [] }
  let s := s.wr (F.ZLP_PORT_STAT.QUARANTINED p.val) 0
  let s := ((s.judgeQuarantine p).wr (F.ZLP_PORT_STAT.CREDIT p.val) 16).refreshModes
  if s.quiet p then s.quietRx p else s

/-- Four identical TS3 received and four sent after the first of them, one to each that arrives since (DEDUCED,
notes/assumptions/99.md): the checks of R224. Lanes whose skew breaks R211, by two symbols or more, are a listed
undefined case once they operate (R234). -/
def State.tryActive (s : State) (p : Port) (t : TSet) : State :=
  if s.portState p.val = 4 ∧ s.allRx p.val (fun k => decide (5 ≤ (s.lane p.val k).same)) then
    if t.width.toNat = (s.lport p.val).width ∧ t.txUsed.toNat % 16 = s.ts3Lanes p.val ∧ t.version = 0x01#8 then
      let s := (s.recordPartner p.val).enterActive p
      if Nat.ble 2 (s.rd (F.LNK_STAT.SKEW p.val)) then s.lastingCase else s
    else s.failAttempt p.val 4
  else s

/-! ### Port down (R226) -/

/-- The measurement of lane k of port p is over: the EYE job goes on with the oldest that is left, which is judged by its own due time,
or ends (R183, R230). -/
def State.eyeOver (s : State) (p k : Nat) : State :=
  let first := s.lnk.eyeDue.head?.any (fun e => e.1 == p * 4 + k)
  let s := { s with lnk.eyeDue := s.lnk.eyeDue.filter (fun e => e.1 != p * 4 + k) }
  match s.lnk.eyeDue, first with
  | [], _ => s.jobEnd jobEye
  | _, false => s
  | (_, d) :: _, true =>
    let x := s.job jobEye
    s.setJob jobEye { x with dueAt := d, forced := false, running := x.running && !x.forced, pending := x.pending || x.forced }

/-- The eye measurement of a lane ends with ABORTED (R230); an EYE_SCAN ends with the counts it has (R291). -/
def State.eyeAbort (p : Nat) (s : State) (k : Nat) : State :=
  if s.on (F.LNK_EYE_CFG.BUSY p k) then
    let s := ((s.wr (F.LNK_EYE_CFG.BUSY p k) 0).wr (F.LNK_EYE_CFG.ABORTED p k) 1).eyeOver p k
    let mine := s.lnk.eyes.filter (fun e => e.port == p && e.lane == k)
    let s := { s with lnk.eyes := s.lnk.eyes.filter (fun e => !(e.port == p && e.lane == k)) }
    mine.foldl (fun s e =>
      s.complete e.src e.tag (.ok (e.counts.flatMap (leBytes 4) ++ (e.points.flatMap (fun _ => leBytes 4 0xFFFFFFFF))))) s
  else s

/-- Port p leaves ACTIVE for DETECT with a cause of LNK_STAT.DOWN_CAUSE; causes 1 to 3 count and raise fault 0x20 + n. -/
def State.portDown (s : State) (p : Port) (cause : Nat) : State :=
  let s := s.wr (F.LNK_STAT.DOWN_CAUSE p.val) cause
  let s := if 1 ≤ cause ∧ cause ≤ 3 then (s.bump (F.LNK_CNT.DOWNS p.val)).fault (0x20 + p.val) 2 else s
  let s := lanes.foldl (fun s k => State.eyeAbort p.val s k.val) s
  let s := (s.freshDetect p.val).wr (F.ZLP_PORT_STAT.QUARANTINED p.val) 0
  s.portLeaves p

/-! ### Rows: bring-up -/

/-- DETECT_PULSE (R221): the pulses of the enabled lanes find the partner on the lanes of `found`. No pulses without REFCLK. -/
def execDetectPulse (p : Port) (found : Fin 16) (s : State) : Host.Outcome State Fault Refusal :=
  if s.portState p.val = 1 ∧ s.refclkOk then
    let mask := Nat.land found.val (s.lport p.val).laneEn
    let s := lanes.foldl (fun s k => s.wr (F.LNK_LSTAT.DETECTED p.val k.val) (bitsAt mask k.val 1)) s
    done (if mask = 0 then s else s.enterTrain p.val mask)
  else done s

/-- Commas in a row at one position, and SYNC after the third. Only a receiver out of sync realigns (R217). -/
def State.takeComma (s : State) (p k : Nat) (inverted : Bool) (offset : Nat) : State :=
  if s.on (F.LNK_LSTAT.SYNC p k) then s
  else
    let x := s.lane p k
    let n := if x.commas = 0 ∨ x.offset ≠ offset then 1 else x.commas + 1
    let s := s.setLane p k { x with commas := n, offset := offset }
    if 3 ≤ n then (s.wr (F.LNK_LSTAT.SYNC p k) 1).wrB (F.LNK_LSTAT.INVERTED p k) inverted else s

/-- The receiver of lane k is in sync and judges what arrives: it is neither on STANDBY nor off (R228). -/
def State.hears (s : State) (p k : Nat) : Bool := s.on (F.LNK_LSTAT.SYNC p k) && s.rd (F.LNK_LSTAT.RX_STATE p k) == 0

/-- Symbols as a receiver in sync takes them, their polarity put right (R217). -/
def State.upright (s : State) (p k : Nat) (ws : List Symbol) : List Symbol :=
  if s.on (F.LNK_LSTAT.INVERTED p k) then ws.map (fun w => ~~~w) else ws

/-- What a receiver in sync makes of symbols (R210). -/
def State.received (s : State) (p k : Nat) (ws : List Symbol) : List Received := receiveAll (s.lane p k).rd (s.upright p k ws)

/-- The set that symbols on lane k make, and whether its polarity is inverted (R217, R220). -/
def State.setHeard (s : State) (p k : Nat) (ws : List Symbol) : Option (TSet × Bool) :=
  if s.hears p k then (wireSet (s.lane p k).rd (s.upright p k ws)).map (·, s.on (F.LNK_LSTAT.INVERTED p k)) else receiveSet ws

/-- A receiver in sync hears symbols: with four of any 16 in a row in error, those heard before among them, it loses sync, and a lane
in use takes its port down (R217, R226). -/
def State.hear (s : State) (p : Port) (k : Nat) (ws : List Symbol) : State :=
  if !s.hears p.val k then s
  else
    let x := s.lane p.val k
    let errors := x.recent ++ (s.received p.val k ws).map isError
    if losesSync errors then
      let used := s.rxInUse p.val k
      let s := (s.wr (F.LNK_LSTAT.SYNC p.val k) 0).setLane p.val k { x with last := none, same := 0, run := 0, commas := 0, recent := [] }
      if used then s.portDown p 1 else s
    else s.setLane p.val k { x with rd := disparityEnd x.rd (s.upright p.val k ws), recent := errors.drop (errors.length - 15) }

/-- A set arrives on lane k: it counts as received when it has arrived identically twice in a row (R220). -/
def State.takeSet (s : State) (p k : Nat) (t : TSet) : State :=
  let x := s.lane p k
  if x.last = some t then
    let n := x.same + 1
    let s := s.wr (F.LNK_LSTAT.PARTNER_LANE p k) (t.lane.toNat % 4)
    s.setLane p k { x with same := n, run := if n = 2 then x.run + 2 else x.run + 1 }
  else
    let on := (x.last.map (·.ty)) == some t.ty && t.ty != 0xB3#8
    s.setLane p k { x with last := some t, same := 1, run := if on then x.run else 0 }

/-- With FOLLOW a transmitter takes the preset its partner requests while the port trains (R212). -/
def State.takePreset (s : State) (p k : Nat) : State :=
  if s.on (F.LNK_TX.FOLLOW p) && Nat.ble 2 (s.portState p) && Nat.ble (s.portState p) 4 then
    s.wr (F.LNK_LSTAT.PRESET_USED p k) (s.trainPreset p k)
  else s

/-- READY[3:0] of the partner; a change starts its 0.5 ms anew (R221). -/
def State.takeReady (s : State) (p : Nat) (t : TSet) : State :=
  let r := t.ready.toNat % 16
  if t.ty = 0xB1#8 ∧ (s.lport p).ready ≠ r then s.setLport p { s.lport p with ready := r, stable := false } else s

/-- An IDLE set is received: four put the receiver on STANDBY; on a lane of the displayed stream they are idle without IDLE sets
(R228, R229). -/
def State.takeIdle (s : State) (p : Port) (k : Nat) : State :=
  if !s.rxInUse p.val k then s
  else if s.selPort = some p ∧ s.selected then s.portDown p 2
  else if 4 ≤ (s.lane p.val k).run then s.wr (F.LNK_LSTAT.RX_STATE p.val k) 1
  else s

/-- TS1 is received: eight in a row begin an attempt, also on a lane in use of an ACTIVE port; TS1 then go out on every enabled
lane. -/
def State.takeTs1 (s : State) (p : Port) (k : Nat) (t : TSet) : State :=
  let st := s.portState p.val
  let eight := decide (8 ≤ (s.lane p.val k).run)
  if st = 1 ∧ eight ∧ s.refclkOk then (s.enterTrain p.val (s.lport p.val).laneEn).takeReady p.val t
  else if st = 2 then (s.takeReady p.val t).tryLock p.val
  else if s.rxInUse p.val k ∧ eight then
    let s := s.portDown p 5
    if s.refclkOk then s.enterTrain p.val (s.lport p.val).laneEn else s
  else s

/-- TS2 is received: it wakes a receiver on STANDBY, and in LOCK names the partner's lanes. -/
def State.takeTs2 (s : State) (p : Port) (k : Nat) (t : TSet) : State :=
  if s.portState p.val = 5 ∧ s.rd (F.LNK_LSTAT.RX_STATE p.val k) = 1 then s.wr (F.LNK_LSTAT.RX_STATE p.val k) 0
  else if s.portState p.val = 3 then (s.fixRx p.val (t.txUsed.toNat % 16)).tryExchange p.val
  else s

/-- A set is received on lane k. -/
def State.useSet (s : State) (p : Port) (k : Nat) (t : TSet) : State :=
  if t.ty = 0xB4#8 then s.takeIdle p k
  else
    let s := s.takePreset p.val k
    if t.ty = 0xB1#8 then s.takeTs1 p k t
    else if t.ty = 0xB2#8 then s.takeTs2 p k t
    else if t.ty = 0xB3#8 then s.tryActive p t
    else s

/-- The receiver of lane k listens: it is not off (R228). -/
def State.listens (s : State) (p : Port) (k : Lane) : Bool :=
  bitsAt (s.lport p.val).laneEn k.val 1 == 1 && Nat.ble 1 (s.portState p.val) && Nat.ble (s.portState p.val) 5
    && !s.on (F.LNK_LSTAT.EXCLUDED p.val k.val) && s.rd (F.LNK_LSTAT.RX_STATE p.val k.val) != 2 && s.lnkClk

/-- No set has arrived on lane k. -/
def State.breakRow (s : State) (p k : Nat) : State :=
  s.setLane p k { s.lane p k with last := none, same := 0, run := 0, commas := 0 }

/-- The comma of a set, the running disparity it leaves where it puts the receiver in sync, and the set are noted. -/
def State.noteSet (s : State) (p k : Nat) (inverted : Bool) (offset : Nat) (ws : List Symbol) (x : TSet) : State :=
  let heard := if inverted then ws.map (fun w => ~~~w) else ws
  let t := s.takeComma p k inverted offset
  let t := if t.on (F.LNK_LSTAT.SYNC p k) && !s.on (F.LNK_LSTAT.SYNC p k) then
      t.setLane p k { t.lane p k with rd := disparityEnd (commaDisparity heard) heard, recent := [] }
    else t
  t.takeSet p k x

/-- TRAINING_SET_RECEIVE (R220): the 16 symbols of a set arrive on lane k of port p, `offset` symbols behind the earliest lane's. A set
with an error in it breaks the row. -/
def execTrainingSetReceive (t : Nat) (p : Port) (k : Lane) (symbols : List Symbol) (offset : Nat) (s : State) :
    Host.Outcome State Fault Refusal :=
  let s := s.advance t
  if !s.listens p k then done s
  else
    let got := s.setHeard p.val k.val symbols
    let s := s.hear p k.val symbols
    match got with
    | none => done (s.breakRow p.val k.val)
    | some (x, inverted) =>
      let s := s.noteSet p.val k.val inverted offset symbols x
      done (if Nat.ble 2 (s.lane p.val k.val).same then s.useSet p k.val x else s)

/-- CTLE_STEP (R213): after 0.5 ms at one setting its eye height is known; the largest wins, the lower among equals. -/
def execCtleStep (p : Port) (k : Lane) (height : Nat) (s : State) : Host.Outcome State Fault Refusal :=
  let x := s.lane p.val k.val
  if s.portState p.val = 2 ∧ s.syncLane p.val k.val ∧ !s.on (F.LNK_RX.CTLE_MODE p.val) ∧ x.ctleNext < 16 then
    let better := x.ctleNext = 0 ∨ x.ctleBest < height
    let x := if better then { x with ctleBest := height, ctlePeak := x.ctleNext } else x
    let x := { x with ctleNext := x.ctleNext + 1 }
    if x.ctleNext = 16 then
      done (((s.setLane p.val k.val { x with adapted := true }).wr (F.LNK_LSTAT.CTLE_IN_USE p.val k.val) x.ctlePeak).tryLock p.val)
    else done ((s.setLane p.val k.val x).wr (F.LNK_LSTAT.CTLE_IN_USE p.val k.val) x.ctleNext)
  else done s

/-- READY_STABLE (R221). -/
def execReadyStable (p : Port) (s : State) : Host.Outcome State Fault Refusal :=
  if s.portState p.val = 2 then done ((s.setLport p.val { s.lport p.val with stable := true }).tryLock p.val) else done s

/-- LANE_SYNC_TIMEOUT (R223): a receive lane not in sync 8 ms after the first is excluded until the next DETECT. -/
def execLaneSyncTimeout (p : Port) (k : Lane) (s : State) : Host.Outcome State Fault Refusal :=
  if s.portState p.val = 2 ∧ !s.on (F.LNK_LSTAT.SYNC p.val k.val) then
    done ((s.wr (F.LNK_LSTAT.EXCLUDED p.val k.val) 1).tryLock p.val)
  else done s

/-- PORT_STAGE_TIMEOUT (R222): TRAIN, LOCK or EXCHANGE runs out; a TRAIN whose lanes were in sync but left W = 0 has cause 5. -/
def execPortStageTimeout (p : Port) (s : State) : Host.Outcome State Fault Refusal :=
  let st := s.portState p.val
  if st = 2 then done (s.failAttempt p.val (if s.widthNow p.val = 0 ∧ s.readyMask p.val ≠ 0 then 5 else 1))
  else if st = 3 then done (s.failAttempt p.val 2)
  else if st = 4 then done (s.failAttempt p.val 3)
  else done s

/-- LANE_SYNC_LOST (R217, R226): of the symbols that a lane receives, four of 16 in a row are in error. -/
def execLaneSyncLost (p : Port) (heard : LaneSymbols) (s : State) : Host.Outcome State Fault Refusal :=
  done (if s.listens p heard.lane then s.hear p heard.lane.val heard.symbols else s)

/-- IDLE sets have been received on lane k, and it does not carry the displayed stream: electrical idle is to come (R226, R229). -/
def State.idleWarned (s : State) (p : Port) (k : Nat) : Bool :=
  ((s.lane p.val k).last.map (·.ty)) == some 0xB4#8 && Nat.ble 2 (s.lane p.val k).same && !(s.selPort == some p && s.selected)

/-- LANE_IDLE_DETECT (R226): electrical idle; a lane in use that no IDLE set has warned of takes its port down. -/
def execLaneIdleDetect (p : Port) (k : Lane) (s : State) : Host.Outcome State Fault Refusal :=
  if s.rxInUse p.val k.val ∧ s.rd (F.LNK_LSTAT.RX_STATE p.val k.val) = 0 ∧ !s.idleWarned p k.val then done (s.portDown p 2)
  else done s

/-- DESKEW_MISMATCH (R219). -/
def execDeskewMismatch (p : Port) (s : State) : Host.Outcome State Fault Refusal :=
  if s.portState p.val = 5 then done (s.portDown p 3) else done s

/-- LANE_ERROR_WINDOW (R226): the symbols that lane k has received in sync in a second, or those around its errors, are judged. -/
def execLaneErrorWindow (t : Nat) (p : Port) (k : Lane) (symbols : List Symbol) (s : State) : Host.Outcome State Fault Refusal :=
  let s := s.advance t
  if !(s.listens p k && s.hears p.val k.val) then done s
  else
    let l := s.received p.val k.val symbols
    let code := l.countP (· == .code)
    let disp := l.countP (· == .disp)
    let s := (s.bumpBy (F.LNK_LERR.CODE p.val k.val) code).bumpBy (F.LNK_LERR.DISP p.val k.val) disp
    let s := if s.rd (F.LNK_CFG.ERR_LIM p.val) < code + disp then s.report (0x10 + 4 * p.val + k.val) 1 0 (4 * p.val + k.val) else s
    done (s.hear p k.val symbols)

/-- Writing RETRAIN: an ACTIVE port goes down with cause 4 and no fault; an attempt in progress has failed, with the code of its stage
(DESIGN CHOICE, notes/assumptions/98.md). -/
def State.retrain (s : State) (p : Port) : State :=
  let st := s.portState p.val
  if st = 5 then s.portDown p 4
  else if 2 ≤ st ∧ st ≤ 4 then s.failAttempt p.val (st - 1)
  else if st = 1 then s.enterDetect p.val
  else s

/-- PORT_RETRAIN (R221). -/
def execPortRetrain (p : Port) (s : State) : Host.Outcome State Fault Refusal := done (s.retrain p)

/-! ### Rows: low power (R229) -/

/-- One lane's request of LNK_LP.TX_REQ. A transmitter that the link must send on, in bring-up or for a pattern, stays ON; IDLE applies
once it is released, and a quiet port of STANDBY stays idle (R229, R316). -/
def State.txRequest (p : Port) (v : Nat) (s : State) (k : Lane) : State :=
  let req := bitsAt v (2 * k.val) 2
  let used := bitsAt (s.rd (F.LNK_STAT.TX_USED p.val)) k.val 1 == 1 && s.portState p.val == 5
  let forwards := used && (s.rd (F.ZLP_PORT_STAT.TX_MODE p.val) == 1 || s.rd (F.ZLP_PORT_STAT.TX_MODE p.val) == 2)
  let refused := (req == 1 && forwards) || (req == 2 && used)
  let s := s.wr (F.LNK_LP.REFUSED p.val) (insertBits (s.rd (F.LNK_LP.REFUSED p.val)) k.val 1 (boolNat refused))
  let now := s.rd (F.LNK_LSTAT.TX_STATE p.val k.val)
  if refused then s
  else if req = 2 then s.setLaneTx p.val k.val 2
  else if now = 2 then s
  else s.setLaneTx p.val k.val (if (req = 1 ∧ s.portState p.val = 5) ∨ s.quiet p then 1 else 0)

def State.writeLp (s : State) (p : Port) (v : Nat) : State :=
  lanes.foldl (State.txRequest p v) (s.wr (F.LNK_LP.TX_REQ p.val) (v % 256))

/-- TX_POWER_REQUEST (R229). -/
def execTxPowerRequest (p : Port) (value : Word) (s : State) : Host.Outcome State Fault Refusal := done (s.writeLp p value.toNat)

/-! ### Rows: eye scan (R230, R291) -/

/-- Start a measurement with the values in LNK_EYE_CFG_k. -/
def State.eyeBegin (s : State) (p k : Nat) : State :=
  if s.rxInUse p k then
    let s := { s with lnk.eyeDue := s.lnk.eyeDue ++ [(p * 4 + k, s.now)] }
    ((s.wr (F.LNK_EYE_CFG.BUSY p k) 1).wr (F.LNK_EYE_CFG.ABORTED p k) 0).jobDue jobEye
  else (s.wr (F.LNK_EYE_CFG.BUSY p k) 0).wr (F.LNK_EYE_CFG.ABORTED p k) 1

/-- A write of LNK_EYE_CFG_k: while BUSY it is an undefined case if it changes a field (R9, R234), else ignored. -/
def State.writeEye (s : State) (p k v : Nat) : State :=
  let same := bitsAt v 24 5 == s.rd (F.LNK_EYE_CFG.BITS p k) && bitsAt v 16 8 == s.rd (F.LNK_EYE_CFG.VOFF p k)
    && bitsAt v 0 7 == s.rd (F.LNK_EYE_CFG.PHASE p k)
  if s.on (F.LNK_EYE_CFG.BUSY p k) then (if same then s else s.undefCase)
  else
    let s := ((s.wr (F.LNK_EYE_CFG.BITS p k) (bitsAt v 24 5)).wr (F.LNK_EYE_CFG.VOFF p k) (bitsAt v 16 8)).wr (F.LNK_EYE_CFG.PHASE p k) (bitsAt v 0 7)
    if bitsAt v 31 1 = 1 then s.eyeBegin p k else s

/-- EYE_START (R230). -/
def execEyeStart (p : Port) (k : Lane) (value : Word) (s : State) : Host.Outcome State Fault Refusal :=
  done (s.writeEye p.val k.val value.toNat)

/-- The first EYE_SCAN that waits for lane k of port p. -/
def State.eyeFirst (s : State) (p k : Nat) : Option EyeCmd := s.lnk.eyes.find? (fun e => e.port == p && e.lane == k)

/-- The next point of that EYE_SCAN, if one is left, is started. -/
def State.eyePoint (s : State) (p k : Nat) : State :=
  match s.eyeFirst p k with
  | none => s
  | some e =>
    match e.points with
    | [] => s
    | (ph, v) :: _ =>
      let s := ((s.wr (F.LNK_EYE_CFG.BITS p k) e.bits).wr (F.LNK_EYE_CFG.VOFF p k) v).wr (F.LNK_EYE_CFG.PHASE p k) ph
      ({ s with lnk.eyes := s.lnk.eyes.map (fun (x : EyeCmd) => if x = e then { e with started := true } else x) }).eyeBegin p k

/-- An EYE_SCAN of lane k that has measured its whole grid is answered; the next point of the first that is left is started. -/
def State.eyeNext (s : State) (p k : Nat) : State :=
  match s.eyeFirst p k with
  | none => s
  | some e =>
    if e.points.isEmpty then
      (({ s with lnk.eyes := s.lnk.eyes.erase e } : State).complete e.src e.tag (.ok (e.counts.flatMap (leBytes 4)))).eyePoint p k
    else s.eyePoint p k

/-- The EYE job has been admitted and not yet paused. -/
def State.eyeRuns (s : State) : Bool := (s.job jobEye).running || (s.job jobEye).pausing

/-- EYE_SCAN_DONE (R230): the count of lane k's measurement is final. -/
def execEyeScanDone (p : Port) (k : Lane) (count : Nat) (s : State) : Host.Outcome State Fault Refusal :=
  if s.on (F.LNK_EYE_CFG.BUSY p.val k.val) && s.eyeRuns then
    let n := min (2 ^ 32 - 1) count
    let s := s.eyeOver p.val k.val
    let s := (s.wr (F.LNK_EYE_CFG.BUSY p.val k.val) 0).wr (F.LNK_EYE_CNT.ERRORS p.val k.val) n
    let s := { s with lnk.eyes := s.lnk.eyes.map (fun (e : EyeCmd) =>
      if e.port == p.val && e.lane == k.val && e.started then { e with points := e.points.tail, counts := e.counts ++ [n], started := false } else e) }
    done (s.eyeNext p.val k.val)
  else done s

/-- The values of a signed range with its step, ascending, at most `fuel` of them. -/
def rangeBy : Nat → Int → Int → Nat → List Int
  | 0, _, _, _ => []
  | f + 1, lo, hi, st => if lo ≤ hi then lo :: rangeBy f (lo + st) hi st else []

/-- Grid of R291 in order of phase, then of voltage offset, as register fields. -/
def eyeGrid (r : Request) : List (Nat × Nat) :=
  let phases := rangeBy 256 (signed 8 (pByte r 8)) (signed 8 (pByte r 9)) (pByte r 10)
  let volts := rangeBy 256 (signed 8 (pByte r 4)) (signed 8 (pByte r 5)) (pByte r 6)
  phases.flatMap (fun ph => volts.map (fun v => (unsigned 7 (clampInt (-32) 31 ph), unsigned 8 v)))

/-- The first field of an EYE_SCAN payload that fails its check, if one does. A grid that is too large is named by its first field. -/
def State.eyeScanRange (s : State) (r : Request) : Option Nat :=
  if pByte r 0 > 3 ∨ s.portState (pByte r 0) ≠ 5 then some 16
  else if pByte r 1 > 3 ∨ !s.rxInUse (pByte r 0) (pByte r 1) then some 17
  else if pByte r 3 ≠ 0 then some 19
  else if 1 ≤ pByte r 6 ∧ 1 ≤ pByte r 10 ∧ (eyeGrid r).length > 1024 then some 20
  else if pByte r 6 < 1 then some 22
  else if pByte r 7 ≠ 0 then some 23
  else if pByte r 10 < 1 then some 26
  else if pByte r 11 ≠ 0 then some 27
  else none

def eyeScanBody (r : Request) : State → State × Verdict :=
  withLen 12 r fun s =>
    match s.eyeScanRange r with
    | some d => answer (.range d) s
    | none =>
      if !s.lnkClk then answer (.notReady 0x01) s
      else if (eyeGrid r).isEmpty then (s, .keep false (.ok []))
      else
        let e : EyeCmd := ⟨r.src.toNat, r.tag.toNat, pByte r 0, pByte r 1, pByte r 2 % 32, eyeGrid r, [], false⟩
        let s := { s with lnk.eyes := s.lnk.eyes ++ [e] }
        (if s.on (F.LNK_EYE_CFG.BUSY e.port e.lane) then s else s.eyeNext e.port e.lane, .hold)

def execEyeScan (r : Request) (s : State) : Host.Outcome State Fault Refusal := done (command 0x78 r (eyeScanBody r) s)

/-! ### Rows: pattern test (R231, R232, R292) -/

/-- Generator and checker of lane k start afresh (R231). -/
def State.restartPattern (p : Nat) (s : State) (k : Lane) : State :=
  (s.wr (F.LNK_PAT_ERR.PSYNC p k.val) 0).setLane p k.val { s.lane p k.val with
    gen := patternStart (s.rd (F.LNK_PAT_CFG.PATTERN p)), genCount := 0, inject := 0, chk := [], good := 0, misses := [] }

/-- A write of LNK_PAT_CFG of port p. MODE 5 to 7 act as 0. -/
def State.writePattern (s : State) (p : Port) (v : Nat) : State :=
  let mode := if bitsAt v 0 3 ≤ 4 then bitsAt v 0 3 else 0
  let refused := mode ≠ 0 ∧ s.role p ≠ 0
  let moved := bitsAt v 4 3 ≠ s.rd (F.LNK_PAT_CFG.PATTERN p.val)
  let s := (s.wr (F.LNK_PAT_CFG.INJ_RATE p.val) (bitsAt v 24 4)).wr (F.LNK_PAT_CFG.LANES p.val) (bitsAt v 16 4)
  let s := (s.wr (F.LNK_PAT_CFG.RATE p.val) (bitsAt v 8 1)).wr (F.LNK_PAT_CFG.PATTERN p.val) (bitsAt v 4 3)
  let s := if moved then lanes.foldl (State.restartPattern p.val) s else s
  let s := if refused then s.wr (F.LNK_PAT_CFG.REFUSED p.val) 1
    else
      let s := if mode ≠ 0 then s.wr (F.LNK_PAT_CFG.REFUSED p.val) 0 else s
      let s := s.wr (F.LNK_PAT_CFG.MODE p.val) (bitsAt v 0 3)
      if mode ≠ 0 ∧ (s.portState p.val = 0 ∨ s.portState p.val = 6) then
        lanes.foldl (fun s k => if bitsAt (s.rd (F.LNK_PAT_CFG.LANES p.val)) k.val 1 = 1
            then (s.wr (F.LNK_LSTAT.TX_STATE p.val k.val) (if mode = 2 then 2 else 0)).wr (F.LNK_LSTAT.RX_STATE p.val k.val) (if mode = 1 then 2 else 0)
            else s)
          ((if s.portState p.val = 0 then lanes.foldl (State.restartPattern p.val) s else s).wr (F.LNK_STAT.STATE p.val) 6)
      else if mode = 0 ∧ s.portState p.val = 6 then
        lanes.foldl (fun s k => s.wr (F.LNK_PAT_ERR.PSYNC p.val k.val) 0) (s.enterOff p.val)
      else s
  s

/-- Lanes of port p that generate, and that check (R231). -/
def State.generates (s : State) (p k : Nat) : Bool :=
  s.portState p == 6 && [1, 3, 4].contains (s.rd (F.LNK_PAT_CFG.MODE p)) && bitsAt (s.rd (F.LNK_PAT_CFG.LANES p)) k 1 == 1
def State.checks (s : State) (p k : Nat) : Bool :=
  s.portState p == 6 && [2, 3, 4].contains (s.rd (F.LNK_PAT_CFG.MODE p)) && bitsAt (s.rd (F.LNK_PAT_CFG.LANES p)) k 1 == 1

/-- The next bit of a generator: of every 2^(r + 15) bits the last is inverted, and one for each single error asked for (R232;
DESIGN CHOICE, notes/assumptions/97.md). -/
def genBit (pattern rate : Nat) (x : LaneState) : Bool × LaneState :=
  let b := patternNext pattern x.gen
  let n := x.genCount + 1
  let timed := rate != 0 && n % 2 ^ (rate + 15) == 0
  let single := !timed && Nat.ble 1 x.inject
  (xor b (timed || single), { x with gen := (b :: x.gen).take 31, genCount := n, inject := if single then x.inject - 1 else x.inject })

/-- The next `n` bits of a generator, first sent first. -/
def genBits (pattern rate : Nat) : Nat → LaneState → List Bool × LaneState
  | 0, x => ([], x)
  | n + 1, x =>
    let (b, x) := genBit pattern rate x
    let (bs, x) := genBits pattern rate n x
    (b :: bs, x)

/-- A checker takes a bit: out of sync it follows the received bits until 64 of them are free of error; in sync it runs its own
sequence, counts what differs, and loses sync at more than 16 errors in 256 bits (R231). -/
def checkBit (pattern : Nat) (a : LaneState × Bool × Nat) (b : Bool) : LaneState × Bool × Nat :=
  let (x, sync, errs) := a
  let want := patternNext pattern x.chk
  if sync then
    let misses := (xor b want :: x.misses).take 256
    let lost := Nat.blt 16 (misses.countP id)
    ({ x with chk := if lost then [] else (want :: x.chk).take 31, good := 0, misses := if lost then [] else misses }, !lost,
      errs + boolNat (xor b want))
  else
    let good := if patternLike pattern x.chk && b == want then x.good + 1 else 0
    ({ x with chk := (b :: x.chk).take 31, good := good, misses := [] }, decide (64 ≤ good), errs)

/-- INJ_ONE: one bit is inverted on every generating lane (R232). -/
def State.injectOne (s : State) (p : Port) : State :=
  lanes.foldl (fun s k => if s.generates p.val k.val then
    s.setLane p.val k.val { s.lane p.val k.val with inject := (s.lane p.val k.val).inject + 1 } else s) s

/-- A write of LNK_PAT_CFG with its INJ_ONE bit. -/
def State.writePatCfg (s : State) (p : Port) (v : Nat) : State :=
  let s := s.writePattern p v
  if bitsAt v 31 1 = 1 then s.injectOne p else s

/-- PATTERN_MODE_WRITE (R231). -/
def execPatternModeWrite (p : Port) (value : Word) (s : State) : Host.Outcome State Fault Refusal := done (s.writePatCfg p value.toNat)

/-- INJECT_ONE (R232). -/
def execInjectOne (p : Port) (s : State) : Host.Outcome State Fault Refusal := done (s.injectOne p)

/-- The bits that lane k's generator sends while a receiver takes `n` bits. -/
def State.generate (s : State) (p k n : Nat) : List Bool × State :=
  if s.generates p k then
    let (bs, x) := genBits (s.rd (F.LNK_PAT_CFG.PATTERN p)) (s.rd (F.LNK_PAT_CFG.INJ_RATE p)) n (s.lane p k)
    (bs, s.setLane p k x)
  else ([], s)

/-- Lane k's checker takes bits. -/
def State.checkBits (s : State) (p k : Nat) (bits : List Bool) : State :=
  let pat := s.rd (F.LNK_PAT_CFG.PATTERN p)
  let (x, sync, errs) := bits.foldl (checkBit pat) (s.lane p k, s.on (F.LNK_PAT_ERR.PSYNC p k), 0)
  ((s.setLane p k x).wrB (F.LNK_PAT_ERR.PSYNC p k) sync).bumpBy (F.LNK_PAT_ERR.BITERR p k) errs

/-- PATTERN_CHECKER_SYNC (R231): the next bits arrive on lane k; looped back (MODE 4) the checker takes as many bits of its own
transmitter instead. -/
def execPatternCheckerSync (t : Nat) (p : Port) (k : Lane) (bits : List Bool) (s : State) : Host.Outcome State Fault Refusal :=
  let (sent, s) := (s.advance t).generate p.val k.val bits.length
  done (if s.checks p.val k.val then s.checkBits p.val k.val (if s.rd (F.LNK_PAT_CFG.MODE p.val) = 4 then sent else bits) else s)

/-- The register word a PATTERN_TEST payload stands for. -/
def patternWord (r : Request) : Nat :=
  bitsAt (pByte r 1) 0 3 + 16 * bitsAt (pByte r 2) 0 3 + 256 * bitsAt (pByte r 3) 0 1 + 65536 * bitsAt (pByte r 4) 0 4
    + 16777216 * bitsAt (pByte r 5) 0 4

def patternRange (r : Request) : Option Nat :=
  if pByte r 0 > 3 then some 16
  else if pByte r 1 > 7 then some 17
  else if pByte r 2 > 7 then some 18
  else if pByte r 3 > 1 then some 19
  else if pByte r 4 > 15 then some 20
  else if pByte r 5 > 15 then some 21
  else match nonZeroAt r 6 2 with
    | some d => some d
    | none => if pWord r 8 < 1 ∨ 60000 < pWord r 8 then some 24 else none

def patternBody (r : Request) : State → State × Verdict :=
  withLen 12 r fun s =>
    match patternRange r with
    | some d => answer (.range d) s
    | none =>
      if s.role (quadOf (pByte r 0)) ≠ 0 then answer (.denied 0) s
      else if !s.lnkClk then answer (.notReady 0x01) s
      else
        let s := s.writePattern (quadOf (pByte r 0)) (patternWord r)
        (s.setLport (pByte r 0) { s.lport (pByte r 0) with patAt := s.now }, .hold)

def execPatternTest (r : Request) (s : State) : Host.Outcome State Fault Refusal := done (command 0x79 r (patternBody r) s)

/-- The error counts a PATTERN_TEST returns; reading them clears them. -/
def State.patternCounts (s : State) (p : Port) : List Byte :=
  lanes.flatMap (fun k => if bitsAt (s.rd (F.LNK_PAT_CFG.LANES p.val)) k.val 1 = 1
    then leBytes 4 (s.reg (A.LNK_PAT_ERR p.val k.val)).toNat else leBytes 4 0)

/-- PATTERN_TEST_END (R292): the first test on port p ends at an instant; DURATION since the port's last test began is over then. -/
def execPatternTestEnd (port : At Port) (s : State) : Host.Outcome State Fault Refusal :=
  let s := s.advance port.t
  let p := port.it
  match s.cmd.places.find? (fun x => x.op == 0x79 && !x.answered && pByte x.req 0 == p.val) with
  | none => done s
  | some x =>
   if s.now < (s.lport p.val).patAt + ms (pWord x.req 8) then done s
   else
    let counts := s.patternCounts p
    let s := lanes.foldl (fun s k => if bitsAt (s.rd (F.LNK_PAT_CFG.LANES p.val)) k.val 1 = 1 then s.wr (F.LNK_PAT_ERR.BITERR p.val k.val) 0 else s) s
    let v := (s.reg (A.LNK_PAT_CFG p.val)).toNat
    done ((s.writePattern p (v / 8 * 8)).complete x.req.src.toNat x.req.tag.toNat (.ok counts))

/-! ### Rows: clocks (R215, R216) -/

/-- A training port falls back to DETECT when REFCLK is lost. -/
def State.refclkStop (s : State) (p : Port) : State :=
  let st := s.portState p.val
  if 2 ≤ st ∧ st ≤ 4 then s.failAttempt p.val (st - 1) else s

/-- REFCLK_LOST (R216). -/
def execRefclkLost (s : State) : Host.Outcome State Fault Refusal :=
  if s.refclkOk ∧ s.lnkClk then done (ports.foldl State.refclkStop ((s.stopDrift.wr F.LNK_TXCLK.REFCLK_OK 0).fault 0x2C 2)) else done s

/-- REFCLK_RESTORED (R216). -/
def execRefclkRestored (s : State) : Host.Outcome State Fault Refusal :=
  done (if s.lnkClk then (s.wr F.LNK_TXCLK.REFCLK_OK 1).startDrift else s)

/-- TXCLK_HOLDOVER_EXPIRY (R215, R216): after 10 ms TXCLK moves toward the REFCLK frequency, while REFCLK is good. -/
def execTxclkHoldoverExpiry (s : State) : Host.Outcome State Fault Refusal :=
  if s.on F.LNK_TXCLK.HOLDOVER then done ({ s with lnk.holdExpired := true } : State).startDrift else done s

/-- TXCLK_LOCKED (R215): TXCLK has slewed to its source, at `offset` × 0.01 ppm from REFCLK. -/
def execTxclkLocked (offset : Int) (s : State) : Host.Outcome State Fault Refusal :=
  if s.lnk.txTarget = none ∧ !s.refclkOk then done s
  else
    let s := ((s.wr F.LNK_TXCLK.LOCKED 1).wr F.LNK_TXCLK.HOLDOVER 0).wr F.LNK_TXCLK.SOURCE (s.lnk.txTarget.getD 15)
    done { s.wr F.LNK_TXCLK.OFFSET (unsigned 16 (clampInt (-32768) 32767 offset)) with lnk.driftAt := none, lnk.holdExpired := false }

end Sys2Proof.Machine
end

