-- ==== Sys2Proof/Machine/Zlp.lean ====
section
/-! DEFINITION. Sys2Proof/Machine/Zlp.lean: forwarding, stripping, containers, the upstream merge, TIME frames, stream loss and the
role register (10_zhelan_link.md). -/

namespace Sys2Proof.Machine

/-! ### TIME frames (R245, R260) -/

/-- Bytes 0 to 55 of a TIME frame. -/
def timeBody (f : TimeFrame) : List Byte :=
  [0x40#8, f.flags] ++ leBytes 2 f.streamId.toNat ++ leBytes 2 f.seq.toNat ++ leBytes 3 f.hops.toNat ++ [f.freed]
    ++ leBytes 8 f.rootTime.toNat ++ leBytes 8 f.corr.toNat ++ leBytes 8 f.tTx.toNat ++ leBytes 8 f.echoTx.toNat
    ++ leBytes 8 f.echoRx.toNat ++ leBytes 3 f.senderId.toNat ++ [0#8, 0#8, 0#8]

def timeValid (f : TimeFrame) : Bool := decide (crc32c (timeBody f) = f.crc.toNat)
def isLocal (f : TimeFrame) : Bool := f.flags.getLsbD 0
def echoValid (f : TimeFrame) : Bool := f.flags.getLsbD 1

/-- The fields every hop writes when it sends a TIME frame on port p at LT `lt` (R245): T_TX, the echo, FREED, SENDER_ID. -/
def State.stampTime (s : State) (p : Port) (lt : Nat) (f : TimeFrame) : TimeFrame :=
  let x := s.zport p.val
  let e := x.echo.getD (0, 0)
  { f with
    flags := if x.echo.isSome then f.flags ||| 0x02#8 else f.flags &&& 0xFD#8
    freed := BitVec.ofNat 8 x.freedOut, tTx := BitVec.ofNat 64 lt
    echoTx := BitVec.ofNat 64 e.1, echoRx := BitVec.ofNat 64 e.2, senderId := BitVec.ofNat 24 s.deviceId }

/-- A TIME frame as forwarded: HOPS, CORR and the stamps rewritten, the check value folded so that a corrupted frame stays
corrupted (R260). `arrived` and `leaves` are LT at the pins. -/
def State.rewriteTime (s : State) (src out : Port) (arrived leaves : Nat) (f : TimeFrame) : TimeFrame :=
  let corr := signed 64 f.corr.toNat + s.delayTicks src.val + timeDiff leaves arrived
  let g := s.stampTime out leaves
    { f with hops := BitVec.ofNat 24 (min 0xFFFFFF (f.hops.toNat + 1)), corr := BitVec.ofNat 64 (unsigned 64 corr) }
  { g with crc := BitVec.ofNat 32 (Nat.xor (crc32c (timeBody g)) (Nat.xor f.crc.toNat (crc32c (timeBody f)))) }

def timeBytes (f : TimeFrame) : List Byte := timeBody f ++ leBytes 4 f.crc.toNat

/-- Read a TIME frame's fields back from its 60 bytes. -/
def timeOf (b : List Byte) : TimeFrame :=
  { flags := b.getD 1 0, streamId := BitVec.ofNat 16 (ofLE ((b.drop 2).take 2)), seq := BitVec.ofNat 16 (ofLE ((b.drop 4).take 2))
    hops := BitVec.ofNat 24 (ofLE ((b.drop 6).take 3)), freed := b.getD 9 0, rootTime := BitVec.ofNat 64 (ofLE ((b.drop 10).take 8))
    corr := BitVec.ofNat 64 (ofLE ((b.drop 18).take 8)), tTx := BitVec.ofNat 64 (ofLE ((b.drop 26).take 8))
    echoTx := BitVec.ofNat 64 (ofLE ((b.drop 34).take 8)), echoRx := BitVec.ofNat 64 (ofLE ((b.drop 42).take 8))
    senderId := BitVec.ofNat 24 (ofLE ((b.drop 50).take 3)), crc := BitVec.ofNat 32 (ofLE ((b.drop 56).take 4)) }

/-- Keep the T_TX values of the last 100 µs (R261). -/
def State.noteSent (s : State) (p : Port) (lt : Nat) : State :=
  let x := s.zport p.val
  s.setZport p.val { x with sentT := (lt % 2 ^ 64, s.now) :: x.sentT.filter (fun e => decide (s.now ≤ e.2 + us 100)) }

/-- Send columns, or a frame of the device's own making, on port p's transmitter. -/
def State.sendOn (s : State) (p : Port) (cols : List Column) : State := s.setZport p.val { s.zport p.val with tx := cols }
def State.transmit (s : State) (p : Port) (b : List Byte) : State := s.sendOn p (sendColumns (s.rd (F.LNK_STAT.WIDTH p.val)) b)

/-! ### Forwarding (R247, R249, R252, R254, R257) -/

/-- R252: the frame is stripped here: TYPE 0x20, ROUTE_ID the device's own, on an up receiver. -/
def State.strips (s : State) (p : Port) (b : List Byte) : Bool :=
  frameType b == 0x20 && Nat.ble 4 b.length && s.deviceId != 0 && ofLE ((b.drop 1).take 3) == s.deviceId && (s.role p == 1 || s.role p == 2)

/-- A reply frame of the device's own queue. -/
def replyFrame (r : Reply) : List Byte := [0x30#8, 0#8, 0#8, 0#8] ++ replyBytes r

/-- The upstream queues in the order of the round robin from `turn` on: queue number and the frame at its head (R255). -/
def State.upQueues (s : State) : List (Nat × List Byte) :=
  let own := (s.cmd.replies.head?).map (fun r => (0, replyFrame r))
  let merged := ports.map (fun p => (((s.zport p.val).merge).head?).map (fun b => (p.val + 1, b)))
  let all := own :: merged
  ((all.drop s.zlp.turn) ++ (all.take s.zlp.turn)).filterMap id

/-- The frame of queue `n` has gone: its buffer place is freed and the turn passes on (R255, R256). -/
def State.popUp (s : State) (n : Nat) : State :=
  let s := { s with zlp.turn := (n + 1) % 5 }
  if n = 0 then s.replySent
  else
    let x := s.zport (n - 1)
    s.setZport (n - 1) { x with merge := x.merge.tail, freedOut := (x.freedOut + 1) % 256 }

/-- A full container with one upstream frame (R246). -/
def fillContainer (inner : List Byte) : List Byte :=
  [0x51#8, 0#8] ++ leBytes 2 inner.length ++ inner ++ List.replicate (4128 - inner.length) 0#8

/-- What transmitter p makes of a passing frame, beside a TIME frame: containers are filled on the up output. -/
def State.passFrame (s : State) (p : Port) (b : List Byte) : List Byte × State :=
  if frameType b = 0x50 ∧ s.on (F.ZLP_PORT_STAT.UP_OUT p.val) then
    match (s.upQueues).find? (fun e => decide (e.2.length ≤ 4128)) with
    | some (n, inner) => (fillContainer inner, s.popUp n)
    | none => (b, s)
  else (b, s)

/-- Bytes stored in a converted-mode buffer. -/
def storedBytes (l : List Stored) : Nat := l.foldl (fun n x => n + x.bytes.length) 0

/-- The receiver of port p takes upstream frames (R248): an up port without a valid stream, unless it is the selected port in
LOST, or a DOWN port. -/
def State.takesUpstream (s : State) (p : Port) : Bool :=
  s.portActive p && !s.quarantined p &&
    (s.role p == 3 || ((s.role p == 1 || s.role p == 2) && !s.streamValid p && !(s.selState == 3 && s.selPort == some p)))

/-- The device takes the frame that begins with `b` from port p (R248). -/
def State.takesFrame (s : State) (p : Port) (b : List Byte) : Bool :=
  match frameType b with
  | 0x10 => s.captures p
  | 0x11 => s.captures p
  | 0x12 => s.captures p
  | 0x30 => s.takesUpstream p
  | 0x40 => true
  | 0x51 => s.takesUpstream p
  | n => (n == 0x20 || n == 0x21) && Nat.ble 9 b.length && s.receives p &&
      s.addressed { (default : Request) with flags := nth b 5, dest := BitVec.ofNat 24 (fieldLE b 6 3) }

/-- Transmitter p takes a frame of its source: cut-through, column by column, with comma columns behind a frame cut short; stored whole
for a converted port; or not at all while it waits or merges. A frame start ends the wait (R247, R249, R254, R267). -/
def State.forwardOn (src : Port) (f : RxFrame) (strip : Bool) (s : State) (p : Port) : State :=
  if s.sourceOf p ≠ some src ∨ !s.portActive p ∨ s.quarantined p then s
  else
    let s := (s.setZport p.val { s.zport p.val with wait := false, splice := false }).refreshMode p
    let rest : List Column := if f.whole then [] else [.comma]
    if s.rd (F.ZLP_PORT_STAT.TX_MODE p.val) = 2 then
      if strip then s
      else if 65536 - storedBytes (s.zport p.val).conv < 6160 then (s.bump (F.ZLP_PORT_CNT.DROPS p.val)).fault 0x35 0
      else if f.whole then s.setZport p.val { s.zport p.val with conv := (s.zport p.val).conv ++ [Stored.mk f.bytes src.val s.lt] }
      else s
    else if strip then s.sendOn p (stripColumns f.cols ++ rest)
    else
      let (b, s) := s.passFrame p f.bytes
      s.sendOn p (refill f.cols b ++ rest)

/-- A frame received on port p is passed on; one that was truncated counts as BAD if the device takes it. Whole TIME frames are passed
on by TIME_FRAME_RECEIVE. -/
def State.forwardFrame (p : Port) (s : State) (f : RxFrame) : State :=
  if frameType f.bytes == 0x40 && f.whole then s
  else
    let s := if !f.whole && s.takesFrame p f.bytes then s.bump (F.ZLP_PORT_CNT.BAD p.val) else s
    let strip := s.strips p f.bytes
    let s := if strip then s.bump F.ZLP_CNT.STRIPPED else s
    ports.foldl (State.forwardOn p f strip) s

/-- FRAME_FORWARD (R239, R249): the frames in columns received on port p are passed on. -/
def execFrameForward (t : Nat) (p : Port) (cols : List Column) (s : State) : Host.Outcome State Fault Refusal :=
  let s := s.advance t
  if !s.portActive p || s.quarantined p then done s else done ((parseColumns cols).foldl (State.forwardFrame p) s)

/-- CONVERTED_FRAME_SEND (R254): the oldest stored frame leaves; a TIME frame is rewritten with its longer residence. -/
def execConvertedFrameSend (t : Nat) (p : Port) (s : State) : Host.Outcome State Fault Refusal :=
  let s := s.advance t
  if s.rd (F.ZLP_PORT_STAT.TX_MODE p.val) ≠ 2 then done s
  else match (s.zport p.val).conv with
    | [] => done s
    | x :: rest =>
      let s := s.setZport p.val { s.zport p.val with conv := rest }
      if frameType x.bytes = 0x40 then
        let f := s.rewriteTime (quadOf x.source) p x.at_ s.lt (timeOf x.bytes)
        done ((s.transmit p (timeBytes f)).noteSent p s.lt)
      else
        let (b, s) := s.passFrame p x.bytes
        done (s.transmit p b)

/-! ### Upstream merge (R255, R256) -/

/-- UPSTREAM_FRAME_RECEIVE (R256): a REPLY frame, or the inner frame of a full container, reaches port p. -/
def execUpstreamFrameReceive (p : Port) (b : List Byte) (s : State) : Host.Outcome State Fault Refusal :=
  if !s.takesUpstream p then done s
  else
    let x := s.zport p.val
    if x.merge.length ≥ 16 then done ((s.bump (F.ZLP_PORT_CNT.DROPS p.val)).fault 0x35 0)
    else done (s.setZport p.val { x with merge := x.merge ++ [b] })

/-- Frames port p may still start (R256). -/
def State.creditOf (s : State) (p : Nat) : Nat :=
  16 - min 16 (((s.zport p).sent + 256 - (s.zport p).freedIn) % 256)

def State.refreshCredit (s : State) (p : Nat) : State := s.wr (F.ZLP_PORT_STAT.CREDIT p) (s.creditOf p)

/-- MERGE_FRAME_SEND (R255): the up output in merging mode starts the next upstream frame, if a credit is left. -/
def execMergeFrameSend (s : State) : Host.Outcome State Fault Refusal :=
  match s.upOutput with
  | none => done s
  | some p =>
    if s.rd (F.ZLP_PORT_STAT.TX_MODE p.val) = 3 ∧ s.on (F.ZLP_PORT_STAT.UP_OUT p.val) ∧ s.creditOf p.val > 0 then
      match s.upQueues with
      | [] => done s
      | (n, b) :: _ =>
        let s := ((s.useTx p true).popUp n).transmit p b
        let x := s.zport p.val
        done (((s.setZport p.val { x with sent := (x.sent + 1) % 256 }).refreshCredit p.val).useTx p false)
    else done s

/-- LOCAL_TIME_FRAME_SEND (R255): a merging transmitter sends a local TIME frame at `t`, SEQ one above that of the last (R245; the
first has 0: DESIGN CHOICE, notes/assumptions/100.md). -/
def execLocalTimeFrameSend (t : Nat) (p : Port) (s : State) : Host.Outcome State Fault Refusal :=
  let s := s.advance t
  if s.rd (F.ZLP_PORT_STAT.TX_MODE p.val) ≠ 3 then done s
  else
    let s := s.useTx p true
    let x := s.zport p.val
    let f := s.stampTime p s.lt { flags := 0x01#8, streamId := 0, seq := BitVec.ofNat 16 x.seq, hops := 0, freed := 0, rootTime := 0, corr := 0, tTx := 0,
                                  echoTx := 0, echoRx := 0, senderId := 0, crc := 0 }
    let f := { f with crc := BitVec.ofNat 32 (crc32c (timeBody f)) }
    let s := s.setZport p.val { x with seq := (x.seq + 1) % 2 ^ 16 }
    done (((s.transmit p (timeBytes f)).noteSent p s.lt).useTx p false)

/-! ### Receiving TIME frames (R261 to R266) -/

/-- A delay sample in 1/12,800 ns (R261). -/
def State.delaySample (s : State) (p : Port) (t4 : Nat) (f : TimeFrame) : Int :=
  let a := timeDiff t4 f.echoTx.toNat - timeDiff f.tTx.toNat f.echoRx.toNat
  25 * a + 64 * signed 16 (s.rd (F.ZLP_PORT_ASYM.ASYM p.val))

/-- DELAY_SAMPLE: used if ECHO_TX was sent on this port within 100 µs; set aside if more than 10 ns off; 16 of those restart the mean. -/
def State.takeDelay (s : State) (p : Port) (t4 : Nat) (f : TimeFrame) : State :=
  let x := s.zport p.val
  if !echoValid f || !x.sentT.any (fun e => e.1 == f.echoTx.toNat && decide (s.now ≤ e.2 + us 100)) then s
  else
    let d := s.delaySample p t4 f
    let x :=
      if x.delays.isEmpty ∨ (d - s.delayOf p.val).natAbs ≤ 128000 then { x with delays := (d :: x.delays).take 16, aside := [] }
      else if x.aside.length ≥ 15 then { x with delays := d :: x.aside, aside := [] }
      else { x with aside := d :: x.aside }
    let s := s.setZport p.val x
    s.wr (F.ZLP_PORT_DELAY.DELAY p.val) (min (2 ^ 32 - 1) (roundDivInt (s.delayOf p.val) 128).toNat)

/-- Steer LT toward RT by ē, at most 1 ns per µs in ACQUIRE and 50 ns per ms in LOCKED (R264). -/
def State.steer (s : State) (p : Port) : State :=
  let dt := s.now - s.zlp.steerAt
  let st := s.rd F.ZLP_TIME_STAT.STATE
  let lim : Nat := if st = 1 then dt / 1000 else if st = 2 then dt / 20000 else 0
  { s.moveLt (clampInt (-(lim : Int)) lim (s.meanErr p)) with zlp.steerAt := s.now }

/-- Enter ACQUIRE, LT stepped to RT. -/
def State.acquire (s : State) (e : Int) (fault : Bool) : State :=
  let s := (s.moveLt e).wr F.ZLP_TIME_STAT.STATE 1
  let s := if fault then s.fault 0x33 2 else s
  { s with zlp.okRun := 0, zlp.badRun := 0, zlp.steerAt := s.now
           zlp.ports := s.zlp.ports.map (fun (x : ZlpPort) => { x with errs := x.errs.map (· - e) }) }

/-- The time base takes the error e of a TIME frame of the selected stream (R263, R264, R495). -/
def State.timeBase (s : State) (p : Port) (e : Int) : State :=
  let st := s.rd F.ZLP_TIME_STAT.STATE
  let ok := decide (e.natAbs ≤ ns 20)
  let bad := decide (ns 5000 < e.natAbs)
  if st = 0 then s.acquire e false
  else if st = 3 then
    if s.zlp.fresh && !bad then { s.wr F.ZLP_TIME_STAT.STATE 2 with zlp.okRun := 0, zlp.badRun := 0, zlp.steerAt := s.now }
    else s.acquire e true
  else
    let s := { s with zlp.okRun := if ok then s.zlp.okRun + 1 else 0, zlp.badRun := if bad then s.zlp.badRun + 1 else 0 }
    if st = 1 ∧ s.zlp.okRun ≥ 64 then ({ s with zlp.okRun := 0, zlp.badRun := 0 }.wr F.ZLP_TIME_STAT.STATE 2).steer p
    else if st = 2 ∧ s.zlp.badRun ≥ 16 then s.acquire e true
    else s.steer p

/-- A valid TIME frame without LOCAL on an up receiver: error, validity of the stream, time base (R262, R263, R266). -/
def State.rootTime (s : State) (p : Port) (t4 : Nat) (f : TimeFrame) : State :=
  let x := s.zport p.val
  let e := timeDiff (unsigned 64 (f.rootTime.toNat + signed 64 f.corr.toNat + s.delayTicks p.val)) t4
  let s := s.setZport p.val { x with
    run := x.run + 1, lastAt := s.now, streamId := f.streamId.toNat, hops := f.hops.toNat, corr := signed 64 f.corr.toNat
    errs := (e :: x.errs).take 16 }
  let s := if !s.streamValid p && decide (4 ≤ (s.zport p.val).run) then s.streamUp p else s
  if s.selected && s.selPort == some p then (s.timeBase p e).showTime p else s

/-- Pass a TIME frame on through every transmitter fed by port p. -/
def State.forwardTime (src : Port) (arrived : Nat) (f : TimeFrame) (residence : Nat) (s : State) (p : Port) : State :=
  if s.sourceOf p ≠ some src ∨ !s.portActive p ∨ s.quarantined p then s
  else
    let s := (s.setZport p.val { s.zport p.val with wait := false, splice := false }).refreshMode p
    if s.rd (F.ZLP_PORT_STAT.TX_MODE p.val) = 2 then
      if 65536 - storedBytes (s.zport p.val).conv < 6160 then (s.bump (F.ZLP_PORT_CNT.DROPS p.val)).fault 0x35 0
      else s.setZport p.val { s.zport p.val with conv := (s.zport p.val).conv ++ [Stored.mk (timeBytes f) src.val arrived] }
    else
      let leaves := (arrived + residence) % 2 ^ 64
      (s.transmit p (timeBytes (s.rewriteTime src p arrived leaves f))).noteSent p leaves

/-- TIME_FRAME_RECEIVE (R262): a TIME frame arrives on port p at `t`; the copies it feeds leave after `residence`. -/
def execTimeFrameReceive (t : Nat) (p : Port) (f : TimeFrame) (residence : Nat) (s : State) : Host.Outcome State Fault Refusal :=
  let s := s.advance t
  if !s.portActive p || s.quarantined p then done s
  else
    let t4 := s.lt
    let s := ports.foldl (State.forwardTime p t4 f residence) s
    if !timeValid f then
      done ((s.setZport p.val { s.zport p.val with run := 0 }).bump (F.ZLP_PORT_CNT.BAD p.val))
    else
      let s := (s.setZport p.val { s.zport p.val with freedIn := f.freed.toNat }).refreshCredit p.val
      let s := s.takeDelay p t4 f
      let s := s.setZport p.val { s.zport p.val with echo := some (f.tTx.toNat, t4) }
      if !isLocal f && (s.role p == 1 || s.role p == 2) then done (s.rootTime p t4 f) else done s

/-- LOSS in force, in µs (ZLP_SEL.LOSS). -/
def State.lossTime (s : State) : Nat := us (clampNat 4 14 (s.rd F.ZLP_SEL.LOSS))

/-- STREAM_LOSS_TIMEOUT (R266): no valid TIME frame without LOCAL on port p for LOSS µs. -/
def execStreamLossTimeout (t : Nat) (p : Port) (s : State) : Host.Outcome State Fault Refusal :=
  let s := s.advance t
  if s.streamValid p ∧ (s.zport p.val).lastAt + s.lossTime ≤ s.now then done (s.streamLost p) else done s

/-! ### Re-centring (R251) -/

/-- RECENTRE (R251): the next idle run of `run` columns between frames loses or gains one; a run is shortened only if two remain. -/
def execRecentre (p : Port) (shorten : Bool) (run : Nat) (s : State) : Host.Outcome State Fault Refusal :=
  let n := if shorten then (if run ≥ 3 then run - 1 else run) else run + 1
  done (s.setZport p.val { s.zport p.val with idleRun := n })

/-! ### Local time (R259) -/

/-- A read of ZLP_TIME_LO latches what ZLP_TIME_HI returns. -/
def State.latchTime (s : State) : State := { s with zlp.hiLatch := s.lt / 2 ^ 32 }

/-- TIME_LO_READ (R259). -/
def execTimeLoRead (s : State) : Host.Outcome State Fault Refusal := done s.latchTime

/-! ### The role register (R237) -/

/-- The role field of ZLP_ROLE as a value takes it for port p. -/
def roleIn (v : Nat) (p : Port) : Nat := bitsAt v (2 * p.val) 2

/-- An ACTIVE port whose role changes goes down with DOWN_CAUSE 6 and no fault, under the role it still has. -/
def State.leaveRole (v : Nat) (s : State) (p : Port) : State :=
  if roleIn v p = s.role p then s
  else if s.portState p.val = 5 then s.portDown p 6
  else s.wr (F.LNK_STAT.DOWN_CAUSE p.val) 6

/-- A port that has a new role goes OFF, or begins at DETECT. A bring-up in progress has failed, with the code of its stage
(DESIGN CHOICE, notes/assumptions/98.md); a port already in DETECT keeps its attempts (R222). -/
def State.enterRole (old : Nat) (s : State) (p : Port) : State :=
  if roleIn old p = s.role p then s
  else
    let s := s.wr (F.ZLP_PORT_STAT.QUARANTINED p.val) 0
    if s.role p = 0 then s.enterOff p.val
    else if !s.lnkClk then s
    else
      let st := s.portState p.val
      let s := s.wr (F.LNK_PAT_CFG.MODE p.val) 0
      if 2 ≤ st ∧ st ≤ 4 then s.failAttempt p.val (st - 1) else if st = 1 then s.enterDetect p.val else s.freshDetect p.val

/-- Store the four roles (ZLP_ROLE.SAVE). -/
def State.saveRoles (s : State) : State := (s.wr F.ZLP_ROLE.STORED 0).queueFlash .zlpRole

/-- A write of ZLP_ROLE: the ports that change leave first, the one that carries the selected stream last, so that the selection
moves to a stream that stays. -/
def State.writeRoles (v : Nat) (s : State) : State :=
  let old := (s.reg A.ZLP_ROLE).toNat
  let chosen := s.selPort
  let s := (ports.filter (fun p => chosen != some p) ++ ports.filter (fun p => chosen == some p)).foldl (State.leaveRole v) s
  let s := ports.foldl (State.enterRole old) (s.store A.ZLP_ROLE v)
  let s := (ports.foldl State.judgeQuarantine s).refreshModes
  if bitsAt v 8 1 = 1 then s.saveRoles else s

/-- PORT_ROLE_WRITE (R237). -/
def execPortRoleWrite (value : Word) (s : State) : Host.Outcome State Fault Refusal := done (s.writeRoles value.toNat)

/-- ROLE_SAVE (R237). -/
def execRoleSave (s : State) : Host.Outcome State Fault Refusal := done s.saveRoles

/-! ### Revert (R269) -/

/-- At a FRAME_START on the PRIMARY_UP stream after a FRAME_END on the ALT_UP stream, with no buffer FILLING, a device on the
ALT_UP stream goes back once the PRIMARY_UP stream has been valid for REVERT_S seconds. -/
def State.tryRevert (s : State) (filling : Bool) : State :=
  match s.upStream 1 with
  | some p =>
    if s.selState = 2 ∧ s.rd F.ZLP_SEL.REVERT_S ≠ 0 ∧ !filling ∧ s.zlp.altEnded
        ∧ (s.zport p.val).validAt + sec (s.rd F.ZLP_SEL.REVERT_S) ≤ s.now then
      let s := (s.selectPort p).bump F.ZLP_CNT_SEL.REVERTS
      { s.txHoldover with lnk.txTarget := some p.val }.refreshModes
    else s
  | none => s

/-- FRAME_START and FRAME_END of the ALT_UP stream, for the moment of R269. -/
def State.noteAlt (s : State) (p : Port) (ended : Bool) : State :=
  if s.role p = 2 then { s with zlp.altEnded := ended } else s

end Sys2Proof.Machine
end

