-- ==== Sys2Proof/Machine/Pixel.lean ====
section
/-! DEFINITION. Sys2Proof/Machine/Pixel.lean: canvas capture, linearisation, colour matrices, frame buffers, the fill of missing
pixels, and the overlay store (02_canvas_and_presentation.md). -/

namespace Sys2Proof.Machine

/-! ### Windows (R40, R41, R42) -/

/-- Scale of quadrant q: 1, 2, 4 or 8. -/
def scaleOf (g : List (Nat × Word)) (q : Quad) : Nat :=
  2 ^ (if inWords g F.PIX_WIN.QUAD_SEP = 1 then bitsAt (inWords g F.PIX_WIN.QSCALE) (2 * q.val) 2 else inWords g F.PIX_WIN.SCALE)

/-- Side of quadrant q's window in canvas pixels. -/
def windowSide (g : List (Nat × Word)) (q : Quad) : Nat := 512 / scaleOf g q

/-- Origin of quadrant q on the canvas. -/
def originOf (g : List (Nat × Word)) (q : Quad) : Nat × Nat :=
  if inWords g F.PIX_WIN.QUAD_SEP = 1 then (inWords g (F.PIX_QWIN.X q.val), inWords g (F.PIX_QWIN.Y q.val))
  else
    let w := windowSide g q
    (inWords g F.PIX_WIN_ORG.X0 + w * (q.val % 2), inWords g F.PIX_WIN_ORG.Y0 + w * (q.val / 2))

/-- A canvas coordinate lies outside the canvas. -/
def isOutside (g : List (Nat × Word)) (x y : Nat) : Bool :=
  decide (inWords g F.PIX_CANVAS_SIZE.WIDTH ≤ x) || decide (inWords g F.PIX_CANVAS_SIZE.HEIGHT ≤ y)

/-- Window pixels (dx, dy) of quadrant q, row by row. -/
def windowPixels (g : List (Nat × Word)) (q : Quad) : List (Nat × Nat) :=
  let w := windowSide g q
  (List.range w).flatMap (fun dy => (List.range w).map (fun dx => (dx, dy)))

/-- Quadrant q's window reaches beyond the canvas. -/
def reachesOutside (g : List (Nat × Word)) (q : Quad) : Bool :=
  let (x, y) := originOf g q
  let w := windowSide g q
  decide (inWords g F.PIX_CANVAS_SIZE.WIDTH < x + w) || decide (inWords g F.PIX_CANVAS_SIZE.HEIGHT < y + w)

/-- The window pixels of quadrant q that lie outside the canvas. -/
def outsidePixels (g : List (Nat × Word)) (q : Quad) : List (Nat × Nat) :=
  if reachesOutside g q then
    let (x, y) := originOf g q
    (windowPixels g q).filter (fun p => isOutside g (x + p.1) (y + p.2))
  else []

/-! ### Frame buffers (R50) -/

def bufBase (k : Nat) : Nat := 0x10000000 + k * 0x800000

/-- DRAM address of pixel (x, y) of quadrant q in buffer k. -/
def pixelAddr (k : Nat) (q : Quad) (x y : Nat) : Nat := bufBase k + q.val * 0x200000 + (y * 512 + x) * 8

/-- A frame-buffer word. -/
def pixelWord (r g b : Nat) (held clip out : Bool) : Nat :=
  r + g * 2 ^ 20 + b * 2 ^ 40 + boolNat held * 2 ^ 60 + boolNat clip * 2 ^ 61 + boolNat out * 2 ^ 62

/-- D_ub of a value V in a block of bounds gb and ob (R174). -/
def driveBound (v gb ob : Nat) : Nat := min ((v * gb + 0x3FFF) / 16384 + ob) 0xFFFFF

/-- One subpixel of value `v` enters the bins of its quadrant and colour (q × 3 + c) i. -/
def State.noteValue (s : State) (i x y v : Nat) (m : List (Nat × (Nat × Nat))) : List (Nat × (Nat × Nat)) :=
  let g := nth s.gov.bounds (i * 256 + (y / 32 * 16 + x / 32))
  let d := driveBound v g.1 g.2
  let o := Sparse.get (fun _ => (0, 0)) m (i * 256 + d / 4096)
  Sparse.put (fun _ => (0, 0)) m (i * 256 + d / 4096) (o.1 + 1, o.2 + d)

/-- The statistics of a frame take in a pixel as it is written (R174). -/
def State.notePixel (s : State) (k : Nat) (q : Quad) (x y w : Nat) : State :=
  let b := nth s.pix.bufs k
  let bins := [0, 1, 2].foldl (fun m c => s.noteValue (q.val * 3 + c) x y (bitsAt w (20 * c) 20) m) b.bins
  { s with pix.bufs := s.pix.bufs.set k { b with bins := bins } }

/-- Write a word of a frame to one of its device pixels. -/
def State.writePixel (s : State) (k : Nat) (q : Quad) (x y w : Nat) : State :=
  (s.writeLE (pixelAddr k q x y) 8 w).notePixel k q x y w

/-- Write one word to `n` device pixels of row y from x on; a device row of a buffer is one row of a DRAM bank. -/
def State.writeRun (s : State) (k : Nat) (q : Quad) (x y n w : Nat) : State :=
  (List.range n).foldl (fun s i => s.writePixel k q (x + i) y w) (s.touchDram (pixelAddr k q x y))

/-- Write one word to the s × s device pixels of canvas pixel (dx, dy). -/
def State.writeBlock (s : State) (k : Nat) (q : Quad) (scale dx dy w : Nat) : State :=
  (List.range scale).foldl (fun s j => s.writeRun k q (dx * scale) (dy * scale + j) scale w) s

def State.buf (s : State) (k : Nat) : FrameBuf := nth s.pix.bufs k
def State.setBuf (s : State) (k : Nat) (b : FrameBuf) : State := { s with pix.bufs := s.pix.bufs.set k b }

/-- The lowest-numbered buffer in a state. -/
def State.bufIn (s : State) (st : BufState) : Option Nat := [0, 1, 2, 3].find? (fun k => (s.buf k).st == st)

/-! ### Timing (R26, R52, R54) -/

/-- Period of the present scan-out frame, and its line period, in ticks. -/
def State.period (s : State) : Nat := ns s.scn.period
def State.linePeriod (s : State) : Nat := s.period / (512 + s.scn.blank)

/-- LT has reached `pt` minus `lead`. -/
def State.reached (s : State) (pt lead : Nat) : Bool := decide (timeDiff s.lt pt + (lead : Int) ≥ 0)

/-- Two time values lie within ±1.0 µs. -/
def near (a b : Nat) : Bool := decide ((timeDiff a b).natAbs ≤ us 1)

def periodTarget (v : Nat) : Nat := clampNat 4166667 41708333 v

/-- T of the frame after one of period `t` (R139). -/
def slewPeriod (t target : Nat) : Nat :=
  if t < target then min target (t + t / 200) else max target (t - t / 200)

/-- Blanking lines in use for a period, of `want` asked for (R129). -/
def blankFor (period want : Nat) : Nat := min want (period / 6800 - 512)

def blankWanted (m : List (Nat × Word)) : Nat := clampNat 8 256 (inWords m F.SCN_TIMING.BLANK)

/-- Period and blanking lines of the frame after one of period `t`, with the frame-side values `m` in force (R129, R139). -/
def nextTiming (m : List (Nat × Word)) (t : Nat) : Nat × Nat :=
  let p := slewPeriod t (periodTarget (inWords m F.SCN_PERIOD.PERIOD_NS))
  (p, blankFor p (blankWanted m))

/-- Frame-side values once the waiting commits that `f` picks are in force (R137). -/
def State.regsAfter (s : State) (f : Due → Bool) : List (Nat × Word) :=
  s.scn.due.foldl (fun m d =>
    match f d, d.ev with
    | true, .commit vs => vs.foldl (fun m e => Sparse.put resetWord m e.1 e.2) m
    | _, _ => m) s.frameRegs

/-- Frame-side values with the waiting commits of the coming frame in force (R137). -/
def State.comingRegs (s : State) : List (Nat × Word) := s.regsAfter (fun d => !d.late)

/-- The scheduled start of the coming frame: one period after the present frame's, or now when no frame has started yet. -/
def State.scheduled (s : State) : Nat := if s.scn.anyFrame then (s.scn.start + s.period) % 2 ^ 64 else s.lt

/-- Scheduled start, period and blanking lines of the (n + 1)-th frame from now (R139, R140). -/
def State.frameAhead (s : State) : Nat → Nat × Nat × Nat
  | 0 => (s.scheduled, nextTiming s.comingRegs s.scn.period)
  | n + 1 =>
    let (start, p, _) := s.frameAhead n
    ((start + ns p) % 2 ^ 64, nextTiming (s.regsAfter (fun _ => true)) p)

/-- Line period of a frame of `period` ns with `blank` blanking lines, in ticks (R26). -/
def lineTicks (period blank : Nat) : Nat := ns period / (512 + blank)

/-- The line period of the coming frame. -/
def State.comingLine (s : State) : Nat := lineTicks (s.frameAhead 0).2.1 (s.frameAhead 0).2.2

/-- The line period of the scan-out frame that is to show a frame of presentation time `pt`: that of the first scheduled start
which `pt` does not pass by more than 1.0 µs (R26, R52). -/
def State.lineFor (s : State) (pt : Nat) : Nat :=
  let f := ([0, 1, 2].find? (fun n => decide (timeDiff pt (s.frameAhead n).1 ≤ us 1))).getD 2
  lineTicks (s.frameAhead f).2.1 (s.frameAhead f).2.2

/-- Lead of the decision instant ahead of the start of a frame of presentation time `pt` (R54). -/
def State.decisionLead (s : State) (pt : Nat) : Nat := 3 * s.lineFor pt + us 1

/-- The start whose decision instant holds for `pt`: the scheduled one where `pt` lies near it, else `pt` itself (R54, R63). -/
def State.decisionStart (s : State) (pt : Nat) : Nat := if near pt s.scheduled then s.scheduled else pt

/-- Lead of the closing deadline ahead of `pt` (R52). -/
def State.closingLead (s : State) (pt : Nat) : Nat := us 250 + 3 * s.lineFor pt

/-- Capture runs (R316, R325). -/
def State.capturing (s : State) : Bool := s.scn.running && s.pixClk

/-! ### Linearisation (R44 to R48) -/

/-- Depth of a canvas format; none for a reserved one (R35). -/
def depthOf : Nat → Option Nat
  | 0 => some 8
  | 1 => some 10
  | 2 => some 12
  | 3 => some 16
  | _ => none

/-- The normalised code n as a fraction (R45). -/
def normCode (range depth code : Nat) : Nat × Nat :=
  if range = 0 then (code, 2 ^ depth - 1)
  else
    let lo := 64 * 2 ^ depth / 1024
    let hi := 940 * 2 ^ depth / 1024
    (clampNat lo hi code - lo, hi - lo)

/-- Nearest integer of a fixed-point number, limited to L20. -/
def fixToL20 (v : Nat) : Nat := min 0xFFFFF ((v + fixOne / 2) / fixOne)

/-- SMPTE ST 2084: min(1, Y / PEAK) × 0xF_FFFF (PRESUMED, notes/assumptions/13.md gives the constants). -/
def pqL20 (peak a b : Nat) : Nat :=
  let x := powFix a b 32 2523
  let num := 4096 * x - 3424 * fixOne
  let den := 77216 * fixOne - 76544 * x
  fixToL20 (powFix num den 16384 2610 * 10000 * 0xFFFFF / peak)

/-- ITU-R BT.2100 HLG: E^γ × 0xF_FFFF (PRESUMED, notes/assumptions/13.md). -/
def hlgL20 (peak a b : Nat) : Nat :=
  let gamma : Int := 12 * (fixOne : Int) / 10 + 42 * log10Fix (clampNat 400 2000 peak) 1000 / 100
  let e := if 2 * a ≤ b then a * a * fixOne / (3 * b * b)
    else (expFix ((a * 100000000 : Int) - 55991073 * b) (17883277 * b) + 28466892 * fixOne / 100000000) / 12
  if e = 0 then 0 else fixToL20 (exp2Fix (Int.fdiv (log2Fix e fixOne * gamma) fixOne) * 0xFFFFF)

/-- F(n) in L20 (R45). -/
def transfer (tf peak a b : Nat) : Nat :=
  if tf = 0 then roundDiv (a * 0xFFFFF) b
  else if tf = 1 then pqL20 peak a b
  else if tf = 2 then hlgL20 peak a b
  else roundPow 0xFFFFF a b 12 5

/-- Entry i of the table of a colour. -/
def linEntry (t : LinTable) (c : Colour) (i : Nat) : Nat :=
  match t with
  | .builtin tf range peak depth =>
    let code := if depth ≤ 12 then i / 2 ^ (12 - depth) else i * 16
    let n := normCode range depth code
    transfer tf peak n.1 n.2
  | .user es => es.getD (c.val * 4096 + i) 0

/-- Linearise one channel code (R44). -/
def linearise (t : LinTable) (depth : Nat) (c : Colour) (code : Nat) : Nat :=
  if depth = 8 then linEntry t c (Nat.lor (code * 16) (code / 16))
  else if depth = 10 then linEntry t c (Nat.lor (code * 4) (code / 256))
  else if depth = 12 then linEntry t c code
  else
    let i := code / 16
    let f : Int := (code % 16 : Nat)
    let lo : Int := linEntry t c i
    let hi : Int := linEntry t c (min 4095 (i + 1))
    (lo + floorDiv ((hi - lo) * f + 8) 16).toNat

/-- The inactive bank. -/
def State.activeBank (s : State) : Nat := s.rd F.PIX_LIN_STAT.ACTIVE_BANK
def State.setBank (s : State) (k : Nat) (b : LinBank) : State := { s with pix.banks := s.pix.banks.set k b }
def State.linBusy (s : State) : Bool := s.pix.linOp.isSome

/-- A BUILD or LOAD ends: ERR with its result, in place of a 3 that a write during it has left, and on success DONE (R47; DESIGN CHOICE,
notes/assumptions/130.md). -/
def State.linEnd (s : State) (err : Nat) : State :=
  let s := ({ s.wr F.PIX_LIN_STAT.ERR err with pix.linOp := none } : State).leaveChannel .linear
  if err = 0 then s.wr F.PIX_LIN_STAT.DONE 1 else s

/-- A BUILD or LOAD takes the inactive bank, which is invalid from then on. -/
def State.linBegin (s : State) (op : LinOp) : State :=
  { s.setBank (1 - s.activeBank) {} with pix.linOp := some op }

def State.linBuild (s : State) : State :=
  if s.linBusy then s.wr F.PIX_LIN_STAT.ERR 3
  else
    let tf := s.rd F.PIX_LIN_BUILD.TF
    let peak := s.rd F.PIX_LIN_BUILD.PEAK
    match depthOf (s.rd F.PIX_CANVAS.FMT) with
    | some d =>
      if tf ≤ 3 ∧ 100 ≤ peak ∧ peak ≤ 10000 then s.linBegin (.build tf (s.rd F.PIX_LIN_BUILD.RANGE) peak d)
      else (s.setBank (1 - s.activeBank) {}).linEnd 4
    | none => (s.setBank (1 - s.activeBank) {}).linEnd 4

/-- The bytes a LOAD reads: the set and its CRC (R46). -/
def linSetBytes : Nat := 49156

/-- The source of a LOAD lies wholly in the free region and is aligned. -/
def linSrcOk (a : Nat) : Bool := decide (0x1C000000 ≤ a) && decide (a + linSetBytes ≤ 0x80000000) && a % 4 == 0

/-- A LOAD is asked for. One that ends at once with ERR 2 leaves the inactive bank invalid, as R45 says of a BUILD (R46; DESIGN CHOICE,
notes/assumptions/131.md). -/
def State.linLoad (s : State) : State :=
  let a := s.rd F.PIX_LIN_SRC.ADDR
  if s.linBusy then s.wr F.PIX_LIN_STAT.ERR 3
  else if linSrcOk a then (s.linBegin (.load a)).takeChannel .linear
  else (s.setBank (1 - s.activeBank) {}).linEnd 2

/-- LIN_BUILD (R45). -/
def execLinBuild (s : State) : Host.Outcome State Fault Refusal := done s.linBuild

/-- LIN_LOAD (R46). -/
def execLinLoad (s : State) : Host.Outcome State Fault Refusal := done s.linLoad

/-- LIN_OP_DONE (R45 to R47): the new tables are complete, or the set fails its check, which waits for a channel (R403). -/
def execLinOpDone (s : State) : Host.Outcome State Fault Refusal :=
  match s.pix.linOp with
  | none => done s
  | some (.build tf range peak depth) =>
    done ((s.setBank (1 - s.activeBank) ⟨true, .builtin tf range peak depth⟩).linEnd 0)
  | some (.load a) =>
    let b := s.readBytes a 49152
    let s := s.touchSpan a linSetBytes
    if !s.hasChannel .linear then done s
    else if crc32c b = s.readLE (a + 49152) 4 then
      done ((s.setBank (1 - s.activeBank) ⟨true, .user ((wordsLE b).map (fun w => bitsAt w.toNat 0 20))⟩).linEnd 0)
    else done (s.linEnd 1)

/-! ### Colour matrix (R49) -/

def coef (g : List (Nat × Word)) (q : Quad) (k : Nat) : Int := signed 18 (inWords g (F.PIX_CMX.COEF q.val k))

/-- Output row of the matrix before limiting. -/
def matrixRow (g : List (Nat × Word)) (q : Quad) (row : Nat) (r gr b : Nat) : Int :=
  floorDiv (coef g q (3 * row) * r + coef g q (3 * row + 1) * gr + coef g q (3 * row + 2) * b + 16384) 32768

/-- The frame-buffer word of a pixel: matrix, limit, CLIP. -/
def matrixWord (g : List (Nat × Word)) (q : Quad) (r gr b : Nat) : Nat :=
  let vs := [matrixRow g q 0 r gr b, matrixRow g q 1 r gr b, matrixRow g q 2 r gr b]
  let out := vs.map (fun v => (clampInt 0 0xFFFFF v).toNat)
  let clip := vs.any (fun v => decide (v < 0) || decide (v > 0xFFFFF))
  pixelWord (out.getD 0 0) (out.getD 1 0) (out.getD 2 0) false clip false

/-! ### Segments (R35, R38, R39, R242) -/

/-- Channel codes of pixel i (R35). -/
def pixelCodes (fmt : Nat) (px : List Byte) (i : Nat) : Nat × Nat × Nat :=
  if fmt = 0 then (byteAt px (3 * i), byteAt px (3 * i + 1), byteAt px (3 * i + 2))
  else if fmt = 1 then
    let w := fieldLE px (4 * i) 4
    (bitsAt w 0 10, bitsAt w 10 10, bitsAt w 20 10)
  else if fmt = 2 then
    let w := fieldLE px (9 * (i / 2)) 9
    let o := 36 * (i % 2)
    (bitsAt w o 12, bitsAt w (o + 12) 12, bitsAt w (o + 24) 12)
  else (fieldLE px (6 * i) 2, fieldLE px (6 * i + 2) 2, fieldLE px (6 * i + 4) 2)

/-- Test 1 of R38: COUNT and length fit and the CRC-16 with FRAME_NO and LINE folded in, sent most significant byte first
(R241, R397), passes. The spec does not say whether a SEGMENT of a reserved FMT, whose length R239 cannot tell, is judged at all;
the model judges its CRC over the bytes given, and it then fails test 2 (DESIGN CHOICE, notes/assumptions/80.md). -/
def segmentCheck (b : List Byte) : Bool :=
  let n := fieldLE b 8 2
  let fmt := byteAt b 1
  let body := b.take (b.length - 2)
  decide (1 ≤ n) && decide (n ≤ 1024) && (decide (3 < fmt) || decide (b.length = 12 + payloadBytes fmt n)) &&
    decide (crcOf crc16Set (leBytes 2 (fieldLE b 2 2) ++ leBytes 2 (fieldLE b 4 2) ++ body) = ofBE (b.drop (b.length - 2)))

/-- Tests 2 to 4 of R38, with the capture-side values in force. The whole byte of FMT is compared, so that a segment whose bits [7:4] are
not zero fails test 2 (DESIGN CHOICE, notes/assumptions/137.md). -/
def State.segmentFits (s : State) (b : List Byte) : Bool :=
  decide (byteAt b 1 = s.cap F.PIX_CANVAS.FMT) && decide (byteAt b 1 ≤ 3) &&
    decide (fieldLE b 4 2 < s.cap F.PIX_CANVAS_SIZE.HEIGHT) &&
    decide (fieldLE b 6 2 + fieldLE b 8 2 ≤ s.cap F.PIX_CANVAS_SIZE.WIDTH)

def coverKey (q : Quad) (dx dy : Nat) : Nat := q.val * 2 ^ 18 + dy * 512 + dx

/-- Window pixel (dx, dy) of quadrant q is covered: written, or outside the canvas (R39, R43). -/
def isCovered (b : FrameBuf) (q : Quad) (dx dy : Nat) : Bool :=
  let (x, y) := originOf b.geom q
  Sparse.get (fun _ => false) b.covered (coverKey q dx dy) || isOutside b.geom (x + dx) (y + dy)

/-- The window pixels a segment brings to quadrant q: column in the window, row in the window, index in the segment. -/
def segmentPixels (g : List (Nat × Word)) (line x0 n : Nat) (q : Quad) : List (Quad × Nat × Nat × Nat) :=
  let (qx, qy) := originOf g q
  let w := windowSide g q
  if qy ≤ line ∧ line < qy + w then
    (List.range n).filterMap (fun i =>
      if qx ≤ x0 + i ∧ x0 + i < qx + w then some (q, x0 + i - qx, line - qy, i) else none)
  else []

/-- Capture the pixels of a segment into buffer k while the write buffer has room for them (R39, R198); the flag tells that
some did not fit. -/
def State.capturePixels (k fmt depth : Nat) (px : List Byte) :
    List (Quad × Nat × Nat × Nat) → Nat → State → Bool × State
  | [], _, s => (false, s)
  | (q, dx, dy, i) :: rest, room, s =>
    let b := s.buf k
    let n := scaleOf b.geom q
    if isCovered b q dx dy then State.capturePixels k fmt depth px rest room s
    else if room < n * n then (true, s)
    else
      let t := (nth s.pix.banks s.activeBank).table
      let (cr, cg, cb) := pixelCodes fmt px i
      let w := matrixWord b.geom q (linearise t depth 0 cr) (linearise t depth 1 cg) (linearise t depth 2 cb)
      let s := s.writeBlock k q n dx dy w
      let s := s.setBuf k { s.buf k with covered := Sparse.put (fun _ => false) b.covered (coverKey q dx dy) true }
      State.capturePixels k fmt depth px rest (room - n * n) s

/-- SEGMENT_CAPTURE (R38, R39): a SEGMENT frame on port p. `room` is how many device pixels the capture write buffer takes
before it is full (R198; DESIGN CHOICE, notes/assumptions/14.md). -/
def execSegmentCapture (p : Port) (b : List Byte) (room : Nat) (s : State) : Host.Outcome State Fault Refusal :=
  if !(s.capturing && s.captures p) then done s
  else if !segmentCheck b then done ((s.bump F.PIX_CNT_SEG.SEG_BAD).bump (F.ZLP_PORT_CNT.BAD p.val))
  else if !s.segmentFits b then done (s.bump F.PIX_CNT_SEG.SEG_BAD)
  else match s.bufIn .filling with
    | none => done s
    | some k =>
      if (s.buf k).no ≠ fieldLE b 2 2 then done s
      else
        let g := (s.buf k).geom
        let fmt := byteAt b 1
        let px := (b.drop 10).take (payloadBytes fmt (fieldLE b 8 2))
        let todo := [0, 1, 2, 3].flatMap (fun i => segmentPixels g (fieldLE b 4 2) (fieldLE b 6 2) (fieldLE b 8 2) (quadOf i))
        let (cut, s) := State.capturePixels k fmt ((depthOf fmt).getD 8) px todo room s
        done (if cut then (s.bump F.FMC_CNT_CAP.OVF).fault 0x7C 0 else s)

/-! ### Frame starts (R48, R51, R53, R60, R61, R69, R492) -/

/-- The registers whose RWS fields are capture-side (R69). -/
def captureAddrs : List Nat :=
  [A.PIX_CANVAS, A.PIX_CANVAS_SIZE, A.PIX_WIN, A.PIX_WIN_ORG] ++ (List.range 4).map A.PIX_QWIN
    ++ (List.range 4).flatMap (fun n => (List.range 9).map (fun k => A.PIX_CMX n k))

/-- One commit's capture-side values come into force; CAPTURE_EN stays as the commits themselves have left it. -/
def State.applyCapture (s : State) (vals : List (Nat × Word)) : State :=
  let en := s.cap F.PIX_CANVAS.CAPTURE_EN
  let m := vals.foldl (fun m e => Sparse.put resetWord m e.1 e.2) s.capRegs
  let w := insertBits (Sparse.get resetWord m A.PIX_CANVAS).toNat 31 1 en
  { s with capRegs := Sparse.put resetWord m A.PIX_CANVAS (BitVec.ofNat 32 w) }

/-- The waiting commits an accepted frame-start takes: every one at least 20 µs old; a younger one now or at the next
frame-start, which is left open (R69, DESIGN CHOICE, notes/assumptions/2.md). -/
def State.takeCommits : List (Nat × List (Nat × Word)) → State → Bool × State
  | [], s => (false, { s with pix.capDue := [] })
  | (at_, vals) :: rest, s =>
    if at_ + us 20 ≤ s.now then (true, (State.takeCommits rest (s.applyCapture vals)).2)
    else
      let (n, s) := s.draw
      if n % 2 = 0 then (true, (State.takeCommits rest (s.applyCapture vals)).2)
      else (false, { s with pix.capDue := (at_, vals) :: rest })

/-- LIN_BANK as committed selects a bank at this frame-start; an invalid one is not taken (R48). -/
def State.selectBank (s : State) : State :=
  let want := s.cap F.PIX_CANVAS.LIN_BANK
  if want = s.activeBank then s
  else if (nth s.pix.banks want).valid then s.wr F.PIX_LIN_STAT.ACTIVE_BANK want
  else s.fault 0x44 0

/-- The tests of R53, for a presentation time. -/
def State.acceptsStart (s : State) (pt : Nat) : Option Nat :=
  let d := timeDiff pt s.lt
  if s.cap F.PIX_CANVAS.CAPTURE_EN = 1 ∧ 0 ≤ d ∧ d ≤ (s.period + us 2100 : Nat) then
    [0, 1, 2, 3].find? (fun k => (s.buf k).st == .free && s.pix.fillSrc != some k)
  else none

/-- The buffer in FILLING, if any, enters CLOSING (R51). -/
def State.closeFilling (s : State) : State :=
  match s.bufIn .filling with
  | none => s
  | some k => s.setBuf k { s.buf k with st := .closing }

/-- Buffer k enters FILLING with frame `no` of time `pt` (R51, R43). PIX_FRAME_NO keeps each number until the next frame takes its place
(DESIGN CHOICE, notes/assumptions/139.md). -/
def State.openFrame (s : State) (k no pt : Nat) : State :=
  let (took, s) := State.takeCommits s.pix.capDue s
  let s := if took then s.wr F.PIX_COMMIT_FRAME.FRAME_NO no else s
  let s := if took then s.selectBank else s
  let g := s.capRegs
  let out := reachesOutside g 0 || reachesOutside g 1 || reachesOutside g 2 || reachesOutside g 3
  (s.setBuf k { st := .filling, no := no, pt := pt, geom := g, outside := out }).wr F.PIX_FRAME_NO.FILLING no

/-- A FRAME_START of the capture stream (R51, R53, R60). -/
def State.frameStart (s : State) (no pt : Nat) : State :=
  let same := (s.bufIn .filling).filter (fun k => (s.buf k).no == no)
  match same with
  | some k => if (s.buf k).pt = pt then s else (s.fault 0x45 0).closeFilling
  | none =>
    let s := s.closeFilling
    match s.acceptsStart pt with
    | some k => s.openFrame k no pt
    | none => (s.bump F.PIX_CNT_FRAME.REJECTED).fault 0x43 0

/-- A FRAME_START or FRAME_END of `n` bytes passes its check (R243). -/
def markerCheck (b : List Byte) (n : Nat) : Bool :=
  decide (b.length = n) && decide (crc32c (b.take (n - 4)) = fieldLE b (n - 4) 4)

/-- FRAME_START_RECEIVE (R53): a FRAME_START frame on port p. One on the primary stream may first bring the device back from
the alternate stream (R269). -/
def execFrameStartReceive (t : Nat) (p : Port) (b : List Byte) (s : State) : Host.Outcome State Fault Refusal :=
  let s := s.advance t
  if !s.receives p then done s
  else if !markerCheck b 20 then done (if s.captures p then s.bump (F.ZLP_PORT_CNT.BAD p.val) else s)
  else
    let s := if s.role p = 1 then s.tryRevert (s.bufIn .filling).isSome else s
    let s := s.noteAlt p false
    done (if s.capturing && s.captures p then s.frameStart (fieldLE b 2 2) (fieldLE b 8 8) else s)

/-- FRAME_END_RECEIVE (R51): the frame-end marker of the filling frame. -/
def execFrameEndReceive (p : Port) (b : List Byte) (s : State) : Host.Outcome State Fault Refusal :=
  if !s.receives p then done s
  else if !markerCheck b 12 then done (if s.captures p then s.bump (F.ZLP_PORT_CNT.BAD p.val) else s)
  else
    let s := s.noteAlt p true
    let mine := (s.bufIn .filling).any (fun k => (s.buf k).no == fieldLE b 2 2)
    done (if s.capturing && s.captures p && mine then s.closeFilling else s)

/-- CLOSING_DEADLINE (R52). -/
def execClosingDeadline (t : Nat) (s : State) : Host.Outcome State Fault Refusal :=
  let s := s.advance t
  done (if (s.bufIn .filling).any (fun k => s.reached (s.buf k).pt (s.closingLead (s.buf k).pt)) then s.closeFilling else s)

/-! ### Fill (R43, R54, R56, R57, R492) -/

/-- The uncovered window pixels of quadrant q in buffer k. -/
def missingPixels (b : FrameBuf) (q : Quad) : List (Nat × Nat) :=
  (windowPixels b.geom q).filter (fun p => !isCovered b q p.1 p.2)

/-- The device pixels (x, y) of quadrant q to be filled. -/
def missingDevice (b : FrameBuf) (q : Quad) : List (Nat × Nat) :=
  let n := scaleOf b.geom q
  (missingPixels b q).flatMap (fun p =>
    (List.range n).flatMap (fun j => (List.range n).map (fun i => (p.1 * n + i, p.2 * n + j))))

/-- The word a missing pixel takes: the same pixel of the fill source, or zero, with HELD set (R56). -/
def State.fillWord (s : State) (q : Quad) (x y : Nat) : Nat :=
  let w := match s.pix.fillSrc with
    | some j => s.readLE (pixelAddr j q x y) 8
    | none => 0
  Nat.lor w (2 ^ 60)

/-- The rows of the fill source and of the buffer that a fill of device row y reads and writes. -/
def State.fillRow (k : Nat) (q : Quad) (s : State) (y : Nat) : State :=
  let s := match s.pix.fillSrc with
    | some j => s.touchDram (pixelAddr j q 0 y)
    | none => s
  s.touchDram (pixelAddr k q 0 y)

def State.fillQuad (k : Nat) (b : FrameBuf) (q : Quad) (s : State) : State :=
  let todo := missingDevice b q
  todo.foldl (fun s p => s.writePixel k q p.1 p.2 (s.fillWord q p.1 p.2))
    ((todo.map (fun p => p.2)).dedup.foldl (State.fillRow k q) s)

def missingCount (b : FrameBuf) : Nat :=
  [0, 1, 2, 3].foldl (fun n i => n + (missingPixels b (quadOf i)).length * scaleOf b.geom (quadOf i) ^ 2) 0

/-- PIX_HOLD.MAX_HELD in device pixels (R56). -/
def State.maxHeld (s : State) : Nat := min 64 (s.rd F.PIX_HOLD.MAX_HELD) * 1024

/-- The decision instant of a frame of presentation time `pt` has passed (R54). -/
def State.tooLate (s : State) (pt : Nat) : Bool :=
  decide (0 < timeDiff s.lt (s.decisionStart pt) + (s.decisionLead pt : Int))

/-- The buffer the coming frame is to show, as far as it is known. -/
def State.comingBuffer (s : State) : Option Nat :=
  match s.pix.decision with
  | .show k => some k
  | .none =>
    ((List.range 4).filter (fun k => (s.buf k).st == .ready)).foldl (fun b k =>
      match b with
      | none => some k
      | some j => if timeDiff (s.buf k).pt (s.buf j).pt < 0 then some k else some j) none
  | _ => none

/-- The evaluation of the coming READY frame starts, if none is in progress and its ceilings do not stand yet (R180). -/
def State.startEvaluation (s : State) : State :=
  match s.comingBuffer with
  | some k =>
    if s.governing && s.gov.eval.isNone && decide (s.gov.written ≠ some k) then { s.beginEvaluation with gov.eval := some k } else s
  | none => s

/-- A closing buffer whose fill and outside writes are complete becomes READY and the fill source; after its decision instant it
goes to FREE instead and counts as late (R51, R54, R492). -/
def State.tryReady (s : State) (k : Nat) : State :=
  let b := s.buf k
  if b.st = .closing ∧ b.filled ∧ !b.outside then
    let s := { s with pix.fillSrc := some k }
    if s.tooLate b.pt then
      (s.setBuf k { b with st := .free }).bump F.PIX_CNT_FRAME.LATE
    else (s.setBuf k { b with st := .ready }).startEvaluation
  else s

/-- FRAME_FILL_DONE (R56, R57): buffer k has been counted and filled. A lost frame neither counts in FRAMES_FILLED nor raises 0x40 (DESIGN
CHOICE, notes/assumptions/138.md). PIX_HELD_PIXELS.LAST has 20 bits and 2^20 device pixels may
be missing: it then reads 0xF_FFFF (DESIGN CHOICE, notes/assumptions/81.md). -/
def execFrameFillDone (k : Fin 4) (t : Nat) (s : State) : Host.Outcome State Fault Refusal :=
  let s := s.advance t
  let b := s.buf k.val
  if b.st ≠ .closing ∨ b.filled then done s
  else
    let n := missingCount b
    let s := s.wr F.PIX_HELD_PIXELS.LAST (min 0xFFFFF n)
    if s.maxHeld < n then done (s.setBuf k.val { b with st := .free })
    else
      let s := if n = 0 then s else ((forQ (State.fillQuad k.val b) s).bump F.PIX_CNT_SEG.FRAMES_FILLED).fault 0x40 1
      done ((s.setBuf k.val { s.buf k.val with filled := true }).tryReady k.val)

/-- The outside writes of quadrant q (R42, R43). -/
def State.writeOutside (k : Nat) (b : FrameBuf) (q : Quad) (s : State) : State :=
  (outsidePixels b.geom q).foldl (fun s p => s.writeBlock k q (scaleOf b.geom q) p.1 p.2 (pixelWord 0 0 0 false false true)) s

/-- OUTSIDE_WRITES_DONE (R43): the device pixels of buffer k outside the canvas are written. -/
def execOutsideWritesDone (k : Fin 4) (t : Nat) (s : State) : Host.Outcome State Fault Refusal :=
  let s := s.advance t
  let b := s.buf k.val
  if b.outside && (b.st == .filling || b.st == .closing) then
    let s := forQ (State.writeOutside k.val b) s
    done ((s.setBuf k.val { s.buf k.val with outside := false }).tryReady k.val)
  else done s

/-! ### Overlay store (R68) -/

/-- The overlay store in DRAM. -/
def overlayLo : Nat := 0x18000000
def overlayHi : Nat := 0x1C000000

/-- The bytes of DRAM in [lo, hi), and DRAM with that region replaced. -/
def State.region (s : State) (lo hi : Nat) : List Host.Cell := s.mem.filter (fun c => decide (lo ≤ c.1) && decide (c.1 < hi))

def State.setRegion (s : State) (lo hi : Nat) (cs : List Host.Cell) : State :=
  { s with mem := s.mem.filter (fun c => decide (c.1 < lo))
                    ++ Sparse.norm s.unlisted (cs.filter (fun c => decide (lo ≤ c.1) && decide (c.1 < hi)))
                    ++ s.mem.filter (fun c => decide (hi ≤ c.1)) }

/-- DRAM takes the flash overlay store. -/
def State.loadOverlay (s : State) : State :=
  (s.touchSpan overlayLo (overlayHi - overlayLo)).setRegion overlayLo overlayHi s.flash.overlay

def State.overlayBusy (s : State) : Bool := s.on F.PIX_OVL_SAVE.BUSY

/-- SAVE or RESTORE written: queued as a flash write-back, ignored while one is busy. -/
def State.queueOverlay (s : State) (j : FlashJob) : State :=
  if s.overlayBusy then s else (s.wr F.PIX_OVL_SAVE.BUSY 1).queueFlash j

/-- OVERLAY_SAVE (R68). In RETIRED the write is denied. -/
def execOverlaySave (s : State) : Host.Outcome State Fault Refusal :=
  done (if s.lifecycle = 4 then s else s.queueOverlay .overlaySave)

/-- OVERLAY_RESTORE (R68). -/
def execOverlayRestore (s : State) : Host.Outcome State Fault Refusal := done (s.queueOverlay .overlayRestore)

/-- OVERLAY_SAVE_DONE (R68). -/
def execOverlaySaveDone (s : State) : Host.Outcome State Fault Refusal :=
  if s.inFlight .overlaySave then
    let s := s.touchSpan overlayLo (overlayHi - overlayLo)
    done (({ s with flash.overlay := s.region overlayLo overlayHi }.wr F.PIX_OVL_SAVE.BUSY 0).flashDone)
  else done s

/-- OVERLAY_RESTORE_DONE (R68). -/
def execOverlayRestoreDone (s : State) : Host.Outcome State Fault Refusal :=
  if s.inFlight .overlayRestore then
    done ((s.loadOverlay.wr F.PIX_OVL_SAVE.BUSY 0).flashDone)
  else done s

end Sys2Proof.Machine
end

