-- ==== Sys2Proof/Machine/Sha.lean ====
section
/-! DEFINITION. Sys2Proof/Machine/Sha.lean: SHA-256, which R421, R422, R424 and R454 name; its constants and rounds are those of
FIPS 180-4 (PRESUMED, notes/assumptions/36.md). -/

namespace Sys2Proof.Machine

/-- The first 32 bits of the fraction of the k-th root of p. -/
def rootBits (k p : Nat) : Word := BitVec.ofNat 32 (floorRoot k 37 (p * 2 ^ (32 * k)))

/-- The first 64 primes: below 19², what 2 to 17 do not divide. -/
def shaPrimes : List Nat := ((List.range 312).drop 2).filter (fun p => [2, 3, 5, 7, 11, 13, 17].all (fun d => p == d || p % d != 0))

/-- The round constants: the cube roots of the primes. The first hash value: the square roots of the first eight. -/
def shaK : List Word := shaPrimes.map (rootBits 3)
def shaInit : List Word := (shaPrimes.take 8).map (rootBits 2)

def beBytes (n v : Nat) : List Byte := (leBytes n v).reverse

/-- The message with its padding: 0x80, zeros, the bit length in 8 bytes. -/
def shaPad (m : List Byte) : List Byte :=
  m ++ [0x80#8] ++ List.replicate ((119 - m.length % 64) % 64) 0#8 ++ beBytes 8 (8 * m.length)

/-- The rotations of a word to the right by the amounts of a list, added without carry. -/
def rotated (w : Word) (l : List Nat) : Word := l.foldl (fun a n => a ^^^ w.rotateRight n) 0

/-- `n` more words of the message schedule behind the 16 words `w`, oldest first. -/
def shaExtend : Nat → List Word → List Word
  | 0, _ => []
  | n + 1, w =>
    let near := w.getD 14 0
    let far := w.getD 1 0
    let x := w.getD 0 0 + w.getD 9 0 + (rotated near [17, 19] ^^^ near >>> 10) + (rotated far [7, 18] ^^^ far >>> 3)
    x :: shaExtend n (w.drop 1 ++ [x])

/-- A round on the eight working words, oldest last, with its constant and its schedule word. -/
def shaRound (h : List Word) (kw : Word × Word) : List Word :=
  let x := h.getD 4 0
  let choose := (x &&& h.getD 5 0) ||| (~~~x &&& h.getD 6 0)
  let mix := h.getD 7 0 + kw.1 + kw.2 + choose + rotated x [6, 11, 25]
  let y := h.getD 0 0
  let majority := (y &&& (h.getD 1 0 ||| h.getD 2 0)) ||| (h.getD 1 0 &&& h.getD 2 0)
  [mix + majority + rotated y [2, 13, 22]] ++ h.take 3 ++ [h.getD 3 0 + mix] ++ (h.drop 4).take 3

/-- One block of 64 bytes. -/
def shaBlock (h : List Word) (b : List Byte) : List Word :=
  let w := (List.range 16).map (fun i => BitVec.ofNat 32 (ofBE ((b.drop (4 * i)).take 4)))
  List.zipWith (· + ·) h ((shaK.zip (w ++ shaExtend 48 w)).foldl shaRound h)

def shaBlocks : Nat → List Word → List Byte → List Word
  | 0, h, _ => h
  | n + 1, h, m => shaBlocks n (shaBlock h (m.take 64)) (m.drop 64)

/-- SHA-256 of a message, 32 bytes. -/
def sha256 (m : List Byte) : List Byte :=
  let p := shaPad m
  (shaBlocks (p.length / 64) shaInit p).flatMap (fun w => beBytes 4 w.toNat)

end Sys2Proof.Machine
end

