-- ==== Sys2Proof/Machine/Ecdsa.lean ====
section
/-! DEFINITION. Sys2Proof/Machine/Ecdsa.lean: verification of an ECDSA signature on P-256 over a SHA-256 hash, which R421, R422 and
R454 name; the curve is that of FIPS 186-4 (PRESUMED, notes/assumptions/36.md). -/

namespace Sys2Proof.Machine

/-- Field prime, order and coefficient b of P-256. -/
def p256P : Nat := 0xffffffff00000001000000000000000000000000ffffffffffffffffffffffff
def p256N : Nat := 0xffffffff00000000ffffffffffffffffbce6faada7179e84f3b9cac2fc632551
def p256B : Nat := 0x5ac635d8aa3a93e7b3ebbd55769886bc651d06b0cc53b0f63bce3c3e27d2604b

/-- A point; none at infinity. -/
abbrev Point := Option (Nat × Nat)

def p256G : Point :=
  some (0x6b17d1f2e12c4247f8bce6e563a440f277037d812deb33a0f4a13945d898c296,
        0x4fe342e2fe1a7f9b8ee7eb4a7c0f9e162bce33576b315ececbb6406837bf51f5)

/-- b^e modulo m; `n` bounds the bits of e. -/
def powMod (m : Nat) : Nat → Nat → Nat → Nat
  | 0, _, _ => 1 % m
  | n + 1, b, e =>
    let r := powMod m n (b * b % m) (e / 2)
    if e % 2 = 1 then b * r % m else r

/-- Inverse modulo a prime. -/
def invMod (m a : Nat) : Nat := powMod m 256 (a % m) (m - 2)

def subMod (m a b : Nat) : Nat := (a + (m - b % m)) % m

/-- The third point on the line of slope l through x1 and x2. -/
def chord (l x1 y1 x2 : Nat) : Point :=
  let x3 := subMod p256P (subMod p256P (l * l) x1) x2
  some (x3, subMod p256P (l * subMod p256P x1 x3) y1)

def addPoint (a b : Point) : Point :=
  match a, b with
  | none, _ => b
  | _, none => a
  | some (x1, y1), some (x2, y2) =>
    if x1 = x2 then
      if (y1 + y2) % p256P = 0 then none
      else chord ((3 * x1 * x1 + (p256P - 3)) * invMod p256P (2 * y1) % p256P) x1 y1 x2
    else chord (subMod p256P y2 y1 * invMod p256P (subMod p256P x2 x1) % p256P) x1 y1 x2

/-- k times a point; `n` bounds the bits of k. -/
def mulPoint : Nat → Nat → Point → Point
  | 0, _, _ => none
  | n + 1, k, a =>
    let r := mulPoint n (k / 2) (addPoint a a)
    if k % 2 = 1 then addPoint a r else r

def onCurve (x y : Nat) : Bool :=
  decide (x < p256P) && decide (y < p256P) && y * y % p256P == (x * x * x + (p256P - 3) * x + p256B) % p256P

/-- The signature (r, s) verifies over the hash z with the public key (x, y). -/
def ecdsaVerify (x y z r s : Nat) : Bool :=
  if !onCurve x y || r == 0 || s == 0 || decide (p256N ≤ r) || decide (p256N ≤ s) then false
  else
    let w := invMod p256N s
    match addPoint (mulPoint 256 (z * w % p256N) p256G) (mulPoint 256 (r * w % p256N) (some (x, y))) with
    | none => false
    | some (x1, _) => x1 % p256N == r

/-- The bytes `msg` carry the signature `sig` (r, then s, big-endian) of the key `key` (x, then y, big-endian). -/
def signedBy (key sig msg : List Byte) : Bool :=
  ecdsaVerify (ofBE (key.take 32)) (ofBE ((key.drop 32).take 32)) (ofBE (sha256 msg)) (ofBE (sig.take 32)) (ofBE ((sig.drop 32).take 32))

end Sys2Proof.Machine
end

