-- ==== Sys2Proof/Machine/Comp.lean ====
section
/-! DEFINITION. Sys2Proof/Machine/Comp.lean: compensation tables, ageing, the stress record, the defect table and concealment
(03_compensation_and_concealment.md). -/

namespace Sys2Proof.Machine

/-! ### Subpixels (R77, R96) -/

def subpixels : Nat := 3145728

/-- k of R77. -/
def subK (q : Quad) (x y : Nat) (c : Colour) : Nat := ((q.val * 512 + y) * 512 + x) * 3 + c.val

def subQuad (k : Nat) : Quad := quadOf (k / 786432)
def subColour (k : Nat) : Colour := ⟨k % 3, Nat.mod_lt _ (by decide)⟩
def subX (k : Nat) : Nat := k / 3 % 512
def subY (k : Nat) : Nat := k / 1536 % 512

/-- Index q × 3 + c. -/
def qc (q : Quad) (c : Colour) : Nat := q.val * 3 + c.val

/-- The key of a defect entry, bits [30:9], and the subpixel it names. -/
def entryKey (e : Nat) : Nat := bitsAt e 9 22
def entryK (e : Nat) : Nat := entryKey e / 4 * 3 + entryKey e % 4
def keyOfK (k : Nat) : Nat := k / 3 * 4 + k % 3
def entryKind (e : Nat) : Nat := bitsAt e 6 3
def entrySrc (e : Nat) : Nat := bitsAt e 2 2

/-- ACTION: 0 NONE, 1 CONCEAL, 2 DARK; 3 acts as CONCEAL. -/
def entryAction (e : Nat) : Nat := if bitsAt e 4 2 = 3 then 1 else bitsAt e 4 2

def entryWord (k kind action src : Nat) : Nat := 2 ^ 31 + keyOfK k * 512 + kind * 64 + action * 16 + src * 4

/-- The entry for a key in a defect table. -/
def entryFor (t : List Nat) (key : Nat) : Option Nat := t.find? (fun e => entryKey e == key)

/-- The action in force for subpixel k; 0 without an entry. -/
def actionOf (t : List Nat) (k : Nat) : Nat := ((entryFor t (keyOfK k)).map entryAction).getD 0

/-! ### The compensation word (R74, R75) -/

def wordGain (w : Word) : Nat := bitsAt w.toNat 20 12
def wordOffset (w : Word) : Int := signed 8 (bitsAt w.toNat 12 8)
def wordTrim (w : Word) : Int := signed 4 (bitsAt w.toNat 8 4)
def wordNoAge (w : Word) : Bool := decide (bitsAt w.toNat 0 1 = 1)

def packWord (gain : Nat) (offset trim : Int) (flags : Nat) : Word :=
  BitVec.ofNat 32 (gain * 2 ^ 20 + unsigned 8 offset * 2 ^ 12 + unsigned 4 trim * 2 ^ 8 + flags)

/-- The drive value D of a composited value V under word w and ageing factor A. -/
def compensate (v : Nat) (w : Word) (factor : Nat) : Nat :=
  let d0 : Int := ((v * wordGain w + 1024) / 2048 : Nat)
  let d1 := if v > 0 then d0 + wordOffset w * 16 else d0
  let d := (clampInt 0 0xFFFFF d1).toNat
  if wordNoAge w then d else min ((d * factor + 16384) / 32768) 0xFFFFF

/-- One signed field of the blend of R81. -/
def blendField (o n : Int) (phi : Nat) : Int := o + floorDiv ((n - o) * phi + 2048) 4096

/-- The applied word of slide frame j of 2^log2 frames (R81). -/
def blendWord (o n : Word) (j log2 : Nat) : Word :=
  let phi := j * 4096 / 2 ^ log2
  packWord (blendField (wordGain o) (wordGain n) phi).toNat (blendField (wordOffset o) (wordOffset n) phi)
    (blendField (wordTrim o) (wordTrim n) phi) (bitsAt n.toNat 0 8)

def State.tblState (s : State) : Nat := s.rd F.CMP_TBL_STAT.STATE
def State.activeCopy (s : State) : Nat := s.rd F.CMP_TBL_STAT.ACTIVE_COPY

/-- The applied word the head uses for subpixel k in the present frame. -/
def State.headWord (s : State) (k : Nat) : Word :=
  let j := s.rd F.CMP_TBL_STAT.SLIDE_POS
  let o := s.appliedWord s.activeCopy k
  if s.tblState = 3 ∧ 0 < j then blendWord o (s.appliedWord (1 - s.activeCopy) k) j s.cmp.slideLog2 else o

/-! ### Curves and stress (R86, R89) -/

def lossAt (t : Table) (c : Colour) (i : Nat) : Int := ((t.loss.getD c.val []).getD i 0x8000 : Nat)
def driftAt (t : Table) (c : Colour) (i : Nat) : Int := (t.drift.getD c.val []).getD i 0

/-- A curve evaluated at an effective code (R89). -/
def evalCurve (x : Nat → Int) (se : Nat) : Int :=
  let k := se / 1024
  let nxt := if k < 63 then x (k + 1) else x 63
  x k + floorDiv ((nxt - x k) * (se % 1024 : Nat) + 512) 1024

def State.kappa (s : State) (q : Quad) (c : Colour) : Int := signed 13 (s.rd (F.CMP_AGE.KAPPA q.val c.val))

/-- The stress code of subpixel k, in DRAM (R86). -/
def stressAddr (k : Nat) : Nat := 0x16000000 + 2 * k
def State.stressCode (s : State) (k : Nat) : Nat := s.readLE (stressAddr k) 2

def State.effCode (s : State) (q : Quad) (c : Colour) (code : Nat) : Nat :=
  (clampInt 0 65535 ((code : Int) + s.kappa q c)).toNat

/-- Relative efficiency of subpixel k under table t. -/
def State.relEff (s : State) (t : Table) (k : Nat) : Int :=
  evalCurve (lossAt t (subColour k)) (s.effCode (subQuad k) (subColour k) (s.stressCode k))

/-- Predicted forward-voltage drift of subpixel k, in 0.1 mV. -/
def State.predDrift (s : State) (k : Nat) : Int :=
  evalCurve (driftAt s.cmp.base (subColour k)) (s.effCode (subQuad k) (subColour k) (s.stressCode k))

/-! ### Medians

A value with how often it occurs; the median of an even number of values is the mean of the two in the middle, a half rounded
up (DEDUCED, notes/assumptions/15.md). -/

def insertValue (v : Int × Nat) : List (Int × Nat) → List (Int × Nat)
  | [] => [v]
  | w :: rest => if v.1 ≤ w.1 then v :: w :: rest else w :: insertValue v rest

/-- The value at position i of the sorted values. -/
def valueAt : List (Int × Nat) → Nat → Int
  | [], _ => 0
  | (v, n) :: rest, i => if i < n then v else valueAt rest (i - n)

def medianOf (l : List (Int × Nat)) : Option Int :=
  let n := l.foldl (fun n v => n + v.2) 0
  if n = 0 then none
  else
    let sorted := l.foldr insertValue []
    some (floorDiv (valueAt sorted ((n - 1) / 2) + valueAt sorted (n / 2) + 1) 2)

/-! ### Ageing factors and applied gains (R76, R90) -/

def baseWord (t : Table) (k : Nat) : Word := Sparse.get unityWord t.words k

/-- Subpixels that differ from the unity word, carry stress or have an entry; every other one of a colour is like the next. -/
def State.specials (s : State) (t : Table) : List Nat :=
  (t.words.map (fun (e : Nat × Word) => e.1) ++ (s.region 0x16000000 0x16600000).map (fun (c : Host.Cell) => (c.1 - 0x16000000) / 2) ++ s.cmp.defects.map entryK).dedup

/-- Subpixel k counts in the median of R90. -/
def State.inMedian (s : State) (t : Table) (k : Nat) : Bool :=
  !wordNoAge (baseWord t k) && decide (actionOf s.cmp.defects k = 0)

/-- Efficiency of a subpixel of quadrant q and colour c without stress. -/
def State.freshEff (s : State) (t : Table) (q : Quad) (c : Colour) : Int := evalCurve (lossAt t c) (s.effCode q c 0)

/-- r_ref of quadrant q and colour c; none when no subpixel counts (R90). -/
def State.rrefOf (s : State) (t : Table) (q : Quad) (c : Colour) : Option Int :=
  let mine := (s.specials t).filter (fun k => subQuad k == q && subColour k == c)
  let listed := (mine.filter (s.inMedian t)).map (fun k => (s.relEff t k, 1))
  medianOf ((s.freshEff t q c, 262144 - mine.length) :: listed)

/-- r_ref for every quadrant and colour; where no subpixel counts the present one stays (DESIGN CHOICE,
notes/assumptions/86.md). -/
def State.rrefs (s : State) (t : Table) : List Nat :=
  (List.range 12).map (fun i =>
    match s.rrefOf t (quadOf (i / 3)) (subColour i) with
    | some r => r.toNat
    | none => nth s.cmp.rref i)

/-- The applied gain of a subpixel of base gain g and efficiency r, before the limit. -/
def agedGain (g rref : Nat) (r : Int) : Nat := if r ≤ 0 then 0x1000 else roundDiv (g * rref) r.toNat

/-- The applied word of a subpixel under concealment (R76). -/
def concealedWord (w : Word) : Word := packWord 0x800 0 (wordTrim w) (bitsAt w.toNat 0 8)

/-- The applied word of subpixel k of table t under the r_ref values `rr`, its base word with the ageing residual (R76, R90). -/
def State.residualWord (s : State) (t : Table) (rr : List Nat) (k : Nat) : Word :=
  let w := baseWord t k
  if wordNoAge w then w
  else
    let g := min 0xFFF (agedGain (wordGain w) (nth rr (qc (subQuad k) (subColour k))) (s.relEff t k))
    packWord g (wordOffset w) (wordTrim w) (bitsAt w.toNat 0 8)

/-- The word a build writes for subpixel k (R76). -/
def State.buildWord (s : State) (t : Table) (rr : List Nat) (k : Nat) : Word :=
  if actionOf s.cmp.defects k = 1 then concealedWord (baseWord t k) else s.residualWord t rr k

/-- The word of a subpixel of quadrant q and colour c that is not special. -/
def State.commonWord (s : State) (t : Table) (rr : List Nat) (q : Quad) (c : Colour) : Word :=
  packWord (min 0xFFF (agedGain 0x800 (nth rr (qc q c)) (s.freshEff t q c))) 0 0 0

/-- The applied table of t, as words other than the unity word. The r_ref values are those last computed, also for a table that an
activation or REVERT brings with curves of its own (DESIGN CHOICE, notes/assumptions/86.md). -/
def State.buildTable (s : State) (t : Table) : List (Nat × Word) :=
  let rr := s.cmp.rref
  let plain := (List.range 12).all (fun i => s.commonWord t rr (quadOf (i / 3)) (subColour i) == unityWord 0)
  let ks := if plain then s.specials t else List.range subpixels
  Sparse.norm unityWord (ks.map (fun k => (k, s.buildWord t rr k)))

/-- The base table that copy `n` of the applied table is of: of the one in use, and while another is built or slides in the inactive copy,
in a slide both, of that (R76, R80; DEDUCED, notes/assumptions/133.md). -/
def State.tableOf (s : State) (n : Nat) : Table :=
  if s.tblState = 3 ∨ s.tblState = 2 ∧ n ≠ s.activeCopy then s.cmp.next else s.cmp.base

/-- Write the word of subpixel k in both copies, `w` of the base table of each (R76). -/
def State.putApplied (s : State) (k : Nat) (w : Table → Word) : State :=
  { (s.touchDram (0x14000000 + 4 * k)).touchDram (0x14C00000 + 4 * k) with
    cmp.applied := [Sparse.put unityWord (nth s.cmp.applied 0) k (w (s.tableOf 0)), Sparse.put unityWord (nth s.cmp.applied 1) k (w (s.tableOf 1))] }

/-- The firmware computes r_ref and the target factors; a division that does not come out is cut off (DESIGN CHOICE,
notes/assumptions/86.md) (R90). -/
def State.ageFactors (s : State) : State :=
  let rr := s.rrefs s.cmp.base
  { s with cmp.rref := rr, cmp.targets := rr.map (fun r => if r = 0 then 0xFFFF else min (2 ^ 30 / r) 0xFFFF) }

/-- The same, the accumulators and the defect table being read for it (R90, R200). -/
def State.readFactors (s : State) : State := (s.touchSpan 0x16000000 0x600000).ageFactors

/-- AGE_FACTOR_TICK (R90). -/
def execAgeFactorTick (t : Nat) (s : State) : Host.Outcome State Fault Refusal :=
  let s := s.advance t
  if s.awake && decide (sec 60 ≤ s.cmp.ageTicks) then
    done ({ s with cmp.ageTicks := s.cmp.ageTicks - sec 60 }).readFactors
  else done s

/-- Each FACTOR moves toward its target by at most 1 (R90). -/
def State.stepFactor (s : State) (i : Nat) : State :=
  let f := F.CMP_AGE.FACTOR (i / 3) (i % 3)
  let now := s.rd f
  let want := nth s.cmp.targets i
  s.wr f (if now < want then now + 1 else if want < now then now - 1 else now)

def State.stepFactors (s : State) : State := (List.range 12).foldl State.stepFactor s

/-! ### Stress update (R87, R88) -/

/-- The knee of colour c in use, in L20. -/
def State.kneeInUse (s : State) (c : Colour) : Nat := nth s.hyb.bank.knees c.val

/-- W_c[b] (R88). -/
def stressWeight (beta knee b : Nat) : Nat :=
  let u := b * 4096 + 2048
  let full := 1048575
  let w := if knee ≤ u then powFix u full beta 256 else powFix knee full beta 256 * u / knee
  min 65535 ((65535 * w + fixOne / 2) / fixOne)

/-- E of a stress code in fixed point (R86). -/
def stressDecode (code : Nat) : Nat := exp2Fix ((code : Int) * fixOne / 2048) - fixOne

/-- Aq in fixed point: 2^((Tq − TREF) / TD), with Tq in 0.1 °C. -/
def ageAccel (t : Table) (tq : Int) : Nat := exp2Fix (Int.fdiv ((tq - 10 * t.tref) * fixOne) (10 * t.td))

/-- One subpixel takes `add` more reference seconds, fixed point: `lo` is the last code that stands for no more than it then has, and which
of the two codes beside it the subpixel takes is left open, but for the code itself where nothing is added (R88; DESIGN CHOICE,
notes/assumptions/2.md). -/
def stressStep (code add choice : Nat) : Nat :=
  let e := stressDecode code + add
  let near := (Int.fdiv (2048 * log2Fix (fixOne + e) fixOne) fixOne).toNat
  let lo := if stressDecode (near + 1) ≤ e then near + 1 else near
  min 65535 (if choice % 2 = 1 ∧ stressDecode lo < e then lo + 1 else lo)

/-- The stress codes of every subpixel take the light of the frame that ends: final values `p k`, glass temperatures `tq`
(R87, R88). -/
def State.stressUpdate (s : State) (p : Nat → Nat) (tq : Quad → Int) : State :=
  let n := max 8 (s.rd F.CMP_AGE_CFG.INTERVAL)
  let base := s.cmp.base
  let first := s.freeNo
  let step := fun (s : State) (k : Nat) =>
    if actionOf s.cmp.defects k ≠ 0 then s
    else
      let c := subColour k
      let w := stressWeight (nth base.beta c.val) (s.kneeInUse c) (p k / 4096)
      let add := w * ageAccel base (tq (subQuad k)) * (n * s.scn.period) / (65536 * 10 ^ 9)
      s.writeLE (stressAddr k) 2 (stressStep (s.stressCode k) add (Config.freeNat (first + k)))
  { (List.range subpixels).foldl step s with freeNo := first + subpixels }.touchSpan 0x16000000 0x600000

/-- A frame begins in the stress group; at its first frame the pseudo-random generator draws one of its frames. A group that runs when
INTERVAL changes is judged by the new N (R87; DESIGN CHOICE, notes/assumptions/134.md). -/
def State.stressFrame (s : State) : State :=
  let n := max 8 (s.rd F.CMP_AGE_CFG.INTERVAL)
  if 0 < s.cmp.groupPos ∧ s.cmp.groupPos < n then { s with cmp.groupPos := s.cmp.groupPos + 1 }
  else
    let (r, s) := s.draw
    { s with cmp.groupPos := 1, cmp.groupPick := r % n }

/-- The present frame is the one of its group that was drawn. -/
def State.stressDraws (s : State) : Bool := decide (s.cmp.groupPos = s.cmp.groupPick + 1)

/-! ### Table engine (R78 to R85) -/

def tableFileBytes : Nat := 12583940

/-- The file of an activation lies wholly in the free region and is aligned (R79). -/
def tableSrcOk (a : Nat) : Bool := decide (0x1C000000 ≤ a) && decide (a + tableFileBytes ≤ 0x80000000) && a % 4 == 0

/-- LOSS of one colour: entry 0 is 0x8000, entries do not increase and are at least 0x2000. -/
def lossValid (l : List Nat) : Bool :=
  decide (l.headD 0 = 0x8000) && l.all (fun v => Nat.ble 0x2000 v) && (l.zip (l.drop 1)).all (fun p => Nat.ble p.2 p.1)

/-- DRIFT of one colour: entry 0 is 0 and entries do not decrease. -/
def driftValid (l : List Int) : Bool := decide (l.headD 1 = 0) && (l.zip (l.drop 1)).all (fun p => decide (p.1 ≤ p.2))

def halves (b : List Byte) (o n : Nat) : List Nat := (List.range n).map (fun i => fieldLE b (o + 2 * i) 2)

def headLoss (h : List Byte) : List (List Nat) := (List.range 3).map (fun c => halves h (64 + 128 * c) 64)
def headDrift (h : List Byte) : List (List Int) := (List.range 3).map (fun c => (halves h (448 + 128 * c) 64).map (signed 16 ·))
def headBeta (h : List Byte) : List Nat := halves h 28 3

/-- Every header field of R78 but GLASS_ID has a valid value. -/
def headerValid (h : List Byte) : Bool :=
  decide (fieldLE h 0 4 = 0x31504D43) && decide (fieldLE h 4 2 = 1) && decide (fieldLE h 6 2 = 0) &&
    decide (fieldLE h 24 4 = subpixels) && (headBeta h).all (fun b => Nat.ble 0x100 b && Nat.ble b 0x300) &&
    decide (byteAt h 34 ≤ 100) && decide (4 ≤ byteAt h 35) && decide (byteAt h 35 ≤ 40) && decide (fieldLE h 36 28 = 0) &&
    (headLoss h).all lossValid && (headDrift h).all driftValid && decide (fieldLE h 832 192 = 0)

/-- The base table of a file at address a (R78). -/
def State.readTable (s : State) (a : Nat) : Table :=
  let h := s.readBytes a 1024
  { id := fieldLE h 20 4, glass := fieldLE h 8 8, beta := headBeta h, tref := byteAt h 34, td := byteAt h 35
    loss := headLoss h, drift := headDrift h
    words := (List.range subpixels).filterMap (fun k =>
      let w := BitVec.ofNat 32 (s.readLE (a + 1024 + 4 * k) 4)
      if w = unityWord k then none else some (k, w)) }

def State.glassId (s : State) : Nat := s.rd F.SCN_GLASS_ID_LO.ID + 2 ^ 32 * s.rd F.SCN_GLASS_ID_HI.ID

/-- What the check of a file finds: 0, or the ERR of R79. -/
def State.checkTable (s : State) (a : Nat) : Nat :=
  let h := s.readBytes a 1024
  if crc32c (s.readBytes a 12583936) ≠ s.readLE (a + 12583936) 4 then 1
  else if !headerValid h then 4
  else if fieldLE h 8 8 ≠ 0 ∧ fieldLE h 8 8 ≠ s.glassId then 5
  else 0

/-- An activation of the file at `a`: refused at once, or in CHECK with the place of its command (R79). -/
def State.activateTable (s : State) (a : Nat) (place : Option (Nat × Nat)) : State × Option Answer :=
  if s.lifecycle = 4 then (s.wr F.CMP_TBL_STAT.ERR 0, some (.denied 1))
  else if s.tblState ≠ 0 then (s.wr F.CMP_TBL_STAT.ERR 3, some (.busy 0))
  else if !tableSrcOk a then (s.wr F.CMP_TBL_STAT.ERR 2, some (.range 12))
  else (({ s.wr F.CMP_TBL_STAT.STATE 1 with cmp.checking := some (a, place) } : State).takeChannel .table, none)

def tableActivateBody (r : Request) : State → State × Verdict :=
  withLen 0 r fun s =>
    if !s.memClk then answer (.notReady 0xFFFF) s
    else match s.activateTable r.arg.toNat (some (r.src.toNat, r.tag.toNat)) with
    | (s, some a) => (s, .answer a)
    | (s, none) => (s, .hold)

/-- TABLE_ACTIVATE (R79). In RETIRED it is denied, which sets ERR 0. -/
def execTableActivate (r : Request) (s : State) : Host.Outcome State Fault Refusal :=
  let s := if s.gate 0x20 r = .denied then s.wr F.CMP_TBL_STAT.ERR 0 else s
  done (command 0x20 r (tableActivateBody r) s)

/-- A write of CMP_TBL_CMD.ACTIVATE. -/
def State.activateFromSrc (s : State) : State := (s.activateTable (s.rd F.CMP_TBL_SRC.ADDR) none).1

/-- CMP_TBL_ACTIVATE (R79). -/
def execCmpTblActivate (s : State) : Host.Outcome State Fault Refusal := done s.activateFromSrc

/-- The reply to TABLE_ACTIVATE by the ERR of its check; DETAIL 1 stands for a request's CRC only (R79, R281). -/
def tableReply (err : Nat) : Answer := if err = 0 then .ok [] else if err = 1 then .checkFail 0 else .range 12

/-- A due ageing rebuild starts in IDLE (R80, R85). -/
def State.startRebuild (s : State) : State :=
  if s.cmp.rebuildDue && s.tblState == 0 then
    { s.wr F.CMP_TBL_STAT.STATE 2 with cmp.rebuildDue := false, cmp.next := s.cmp.base, cmp.kind := .ageing }
  else s

/-- The check of the file at `a` has found `err` (R79). -/
def State.tableChecked (s : State) (a err : Nat) : State :=
  let s := ({ (s.touchSpan a tableFileBytes).wr F.CMP_TBL_STAT.ERR err with cmp.checking := none } : State).leaveChannel .table
  if err = 0 then
    { (s.wr F.CMP_TBL_STAT.STATE 2).wr F.CMP_TBL_STAT.SAVED 0 with cmp.next := s.readTable a, cmp.kind := .activation }
  else ((s.wr F.CMP_TBL_STAT.STATE 0).fault 0x50 0).startRebuild

/-- TABLE_CHECK_DONE (R79, R80). The check ends once it has had a check channel (R403). -/
def execTableCheckDone (s : State) : Host.Outcome State Fault Refusal :=
  match s.cmp.checking with
  | none => done s
  | some (a, place) =>
    if !s.hasChannel .table then done s
    else
      let err := s.checkTable a
      let s := s.tableChecked a err
      done (match place with
        | some (src, tag) => s.complete src tag (tableReply err)
        | none => s)

/-- The flash copies by index: 0 A, 1 B (R83). -/
def State.calCopy (s : State) (i : Nat) : Option CalCopy := if i = 0 then s.flash.calA else s.flash.calB
def State.setCalCopy (s : State) (i : Nat) (c : CalCopy) : State :=
  if i = 0 then { s with flash.calA := some c } else { s with flash.calB := some c }

/-- TABLE_REVERT (R83, R85). -/
def State.revertTable (s : State) : State :=
  if s.lifecycle = 4 then s
  else if s.tblState ≠ 0 then s.wr F.CMP_TBL_STAT.ERR 3
  else match s.calCopy (1 - s.rd F.CMP_TBL_STAT.FLASH_CUR) with
    | none => s.wr F.CMP_TBL_STAT.ERR 6
    | some c =>
      { ((s.wr F.CMP_TBL_STAT.ERR 0).wr F.CMP_TBL_STAT.STATE 2).wr F.CMP_TBL_STAT.SAVED 0 with
        cmp.next := c.table, cmp.kind := .revert }

def execTableRevert (s : State) : Host.Outcome State Fault Refusal := done s.revertTable

/-! ### Applying frames (R137, R493) -/

/-- The window of the present frame is closed: some quadrant's scan line 510 is the last of the four to open (R137). On an entry into
STANDBY or SLEEP everything applies where the scan-out stops, so no window closes (R493). -/
def State.windowClosed (s : State) : Bool :=
  s.scn.running && s.scn.anyFrame && decide (s.pwr.trans ≠ .entry) && s.scn.line.all (fun l => Nat.ble 510 l && Nat.blt l 1023)

/-- An event waits for its applying frame; one outside any window waits for the first frame. -/
def State.schedule (s : State) (ev : DueEvent) : State := { s with scn.due := s.scn.due ++ [Due.mk s.windowClosed ev] }


/-! ### Bounds for the frame statistics (R174) -/

/-- The larger of the ageing factor in use and its target. -/
def State.factorBound (s : State) (q : Quad) (c : Colour) : Nat :=
  max (s.rd (F.CMP_AGE.FACTOR q.val c.val)) (nth s.cmp.targets (qc q c))

/-- gb of one subpixel: GAIN × factor with 0x4000 as 1.0, rounded up (DEDUCED, notes/assumptions/30.md). -/
def State.gainBound (s : State) (k : Nat) (f : Nat) : Nat :=
  (max (wordGain (s.appliedWord 0 k)) (wordGain (s.appliedWord 1 k)) * f + 4095) / 4096

def State.offsetBound (s : State) (k : Nat) : Nat :=
  (max (wordOffset (s.appliedWord 0 k)) (wordOffset (s.appliedWord 1 k)) * 16).toNat

/-- The positions of block b of a quadrant, 32 × 32 pixels. -/
def blockPixels (b : Nat) : List (Nat × Nat) :=
  (List.range 32).flatMap (fun j => (List.range 32).map (fun i => (b % 16 * 32 + i, b / 16 * 32 + j)))

/-- gb and ob of a block. -/
def State.blockBounds (s : State) (q : Quad) (c : Colour) (b : Nat) : Nat × Nat :=
  let f := s.factorBound q c
  (blockPixels b).foldl (fun m p =>
    let k := subK q p.1 p.2 c
    (max m.1 (s.gainBound k f), max m.2 (s.offsetBound k))) (0, 0)

/-- The firmware rebuilds the bounds. -/
def State.buildBounds (s : State) : State :=
  { s with gov.bounds := (List.range 3072).map (fun i => s.blockBounds (quadOf (i / 768)) (subColour (i / 256)) (i % 256)) }

/-- gq_c: the largest gb of a quadrant. -/
def State.quadBound (s : State) (q : Quad) (c : Colour) : Nat :=
  (List.range 256).foldl (fun m b => max m (nth s.gov.bounds ((q.val * 3 + c.val) * 256 + b)).1) 0

/-- The slide starts with frame 1 (R81). -/
def State.beginSlide (s : State) : State :=
  { (s.wr F.CMP_TBL_STAT.STATE 3).wr F.CMP_TBL_STAT.SLIDE_POS 0 with
    cmp.slideLog2 := clampNat 4 12 (s.rd F.CMP_SLIDE.LOG2_FRAMES) }

/-- The flash save after an activation or REVERT is queued; where baselines wait for theirs, a REVERT's save, which stores neither, is one
of its own (R80, R83, R161). -/
def State.queueTable (s : State) : State :=
  let own := decide (s.cmp.kind = .revert) && s.cmp.saveDue.isNone
  let s' : State := { s with cmp.saveDue := some s.cmp.kind }
  if own then s'.addFlash .calibration else s'.queueFlash .calibration

/-- The save of new baselines is queued, beside a REVERT's (R161). -/
def State.queueBaselines (s : State) : State :=
  if s.cmp.saveDue = some .revert ∧ s.gov.flash.count .calibration ≤ 1 then s.addFlash .calibration else s.queueFlash .calibration

/-- The last slide frame: the copies exchange roles, and after an activation or REVERT the flash save is queued (R80). -/
def State.endSlide (s : State) : State :=
  let s := ((s.wr F.CMP_TBL_STAT.STATE 0).wr F.CMP_TBL_STAT.SLIDE_POS 0).wr F.CMP_TBL_STAT.ACTIVE_COPY (1 - s.activeCopy)
  let s : State := { s.wr F.CMP_TBL_ID.TABLE_ID s.cmp.next.id with cmp.base := s.cmp.next }
  let s := if s.cmp.kind = .ageing then s else s.queueTable
  s.buildBounds.startRebuild

/-- The next slide frame (R80, R81). -/
def State.slideFrame (s : State) : State :=
  if s.tblState = 3 then
    let j := s.rd F.CMP_TBL_STAT.SLIDE_POS + 1
    if j < 2 ^ s.cmp.slideLog2 then s.wr F.CMP_TBL_STAT.SLIDE_POS j else s.endSlide
  else s

/-! ### Flash calibration copies (R83) -/

/-- Baselines in use (R161): VALID, ITEST and TREF of each quadrant, and the array in DRAM. -/
def State.baselinesNow (s : State) : Baselines :=
  { meta_ := (List.range 4).map (fun q => (s.on (F.SNS_BASE_T.VALID q), s.rd (F.SNS_BASE_T.ITEST q), s.rd (F.SNS_BASE_T.TREF q)))
    values := (s.region 0x0E800000 0x0F000000).map (fun c => (c.1, c.2.toNat)) }

/-- A newer table than the one in use is being built or slid in. -/
def State.newTable (s : State) : Bool := decide (s.tblState = 2 ∨ s.tblState = 3) && s.cmp.kind != .ageing

/-- In the trial of a cold image the newest record of the old format stays untouched until the image is confirmed (R435). -/
def State.coldTrial (s : State) : Bool := s.upd.cold && decide (s.rd F.UPD_STAT.STATE = 5)

/-- The calibration copy that the next save writes: the one that is not current, but for one of the old format in a cold trial. -/
def State.saveTo (s : State) : Nat :=
  let cur := s.rd F.CMP_TBL_STAT.FLASH_CUR
  if s.coldTrial && (s.calCopy (1 - cur)).any (fun c => c.fmt != s.upd.running.dataFmt) then cur else 1 - cur

/-- TABLE_FLASH_SAVED (R83): after an activation the copy that is not current holds the table in use and becomes current; after a
REVERT that copy, unchanged, becomes current. A save of an earlier activation that completes while a REVERT is built or slides in writes
the copy reverted to; the other one is then current at the REVERT's save (R83; DESIGN CHOICE, notes/assumptions/136.md). -/
def execTableFlashSaved (s : State) : Host.Outcome State Fault Refusal :=
  if !s.inFlight .calibration || s.noChannel then done s
  else
    let s := s.checkRecord
    let cur := s.rd F.CMP_TBL_STAT.FLASH_CUR
    let top := max ((s.flash.calA.map (·.seq)).getD 0) ((s.flash.calB.map (·.seq)).getD 0)
    let copy : CalCopy := match s.cmp.saveDue, s.calCopy (1 - cur) with
      | some .revert, some c => { c with seq := top + 1, fmt := s.upd.running.dataFmt }
      | _, _ => ⟨top + 1, s.upd.running.dataFmt, s.cmp.base, s.baselinesNow⟩
    let s := (s.setCalCopy s.saveTo copy).wr F.CMP_TBL_STAT.FLASH_CUR s.saveTo
    let s := if s.cmp.saveDue.isSome && !s.newTable then s.wr F.CMP_TBL_STAT.SAVED 1 else s
    done ({ s with cmp.saveDue := none }.flashDone)

/-! ### Stress store (R93, R95) -/

/-- STRESS_WRITEBACK_DUE (R93). -/
def execStressWritebackDue (t : Nat) (s : State) : Host.Outcome State Fault Refusal :=
  let s := s.advance t
  if s.awake && decide (sec 14400 ≤ s.cmp.unsaved) then done (s.queueFlash .stress) else done s

/-- FORCE_SAVE (R93). -/
def execForceSave (s : State) : Host.Outcome State Fault Refusal := done (s.queueFlash .stress)

def State.stressRecord (s : State) (seq : Nat) : StressRec :=
  { seq := seq, fmt := s.upd.running.dataFmt, codes := (s.region 0x16000000 0x16600000).map (fun c => (c.1, c.2.toNat)), defects := s.cmp.defects
    kappa := (List.range 12).map (fun i => s.kappa (quadOf (i / 3)) (subColour i)) }

/-- Insert an entry at its key's place. -/
def insertEntry (e : Nat) : List Nat → List Nat
  | [] => [e]
  | f :: rest => if entryKey e < entryKey f then e :: f :: rest
    else if entryKey e = entryKey f then e :: rest else f :: insertEntry e rest

def removeKey (key : Nat) (t : List Nat) : List Nat := t.filter (fun e => entryKey e != key)

def State.setDefects (s : State) (t : List Nat) : State := ({ s with cmp.defects := t }).wr F.CMP_DEF_STAT.COUNT t.length

/-- Faults of a STUCK_ON entry that is made for a subpixel of quadrant q (R101). -/
def State.stuckFaults (s : State) (q : Quad) : State :=
  let s := s.faultQ 0x53 2 q
  let limit := s.rd F.CMP_DEF_CFG.STUCK_LIMIT
  let n := (s.cmp.defects.filter (fun e => entryKind e == 2 && subQuad (entryK e) == q)).length
  if limit ≠ 0 ∧ limit < n then s.faultQ 0x55 3 q else s

/-- Faults of an automatic entry (R101, R104). -/
def State.entryFaults (s : State) (k kind : Nat) : State :=
  if kind = 2 then s.stuckFaults (subQuad k) else s.faultQ 0x52 1 (subQuad k)

/-- The lowest-keyed entry of action NONE. -/
def noneEntry (t : List Nat) : Option Nat := t.find? (fun e => entryAction e == 0)

/-- An automatic entry (R97, R100): an entry of SRC CONTROLLER with the same key stays, whatever brings the new one (for
AGE_LIMIT: DESIGN CHOICE, notes/assumptions/87.md); another keeps its SRC under a sensing entry and takes FIRMWARE under R91; a full table gives
up an entry of action NONE or drops the new one. -/
def State.autoEntry (s : State) (k kind action src : Nat) : State :=
  let e := entryWord k kind action src
  match entryFor s.cmp.defects (keyOfK k) with
  | some old =>
    if entrySrc old = 2 then s
    else
      let new := insertEntry (entryWord k kind action (if src = 1 then entrySrc old else src)) s.cmp.defects
      if entryFor new (keyOfK k) = some old then s else (s.setDefects new).entryFaults k kind
  | none =>
    if s.cmp.defects.length < 16384 then (s.setDefects (insertEntry e s.cmp.defects)).entryFaults k kind
    else match noneEntry s.cmp.defects with
      | some old => (s.setDefects (insertEntry e (removeKey (entryKey old) s.cmp.defects))).entryFaults k kind
      | none => (s.bump F.CMP_DEF_STAT.OVERFLOW).fault 0x54 2

/-- Subpixels whose applied gain under table t is limited at 0xFFF become AGE_LIMIT entries (R91). -/
def State.ageLimitEntries (s : State) (t : Table) (rr : List Nat) : State :=
  let over_ := (s.specials t).filter (fun k =>
    s.inMedian t k && Nat.blt 0xFFF (agedGain (wordGain (baseWord t k))
      (nth rr (qc (subQuad k) (subColour k))) (s.relEff t k)))
  over_.foldl (fun s k => s.autoEntry k 5 (s.rd F.CMP_DEF_CFG.ACT_AGE) 3) s

/-- A build writes the applied table of t into copy `n`, having entered the subpixels whose gain it limits (R80, R91). -/
def State.writeCopy (s : State) (n : Nat) (t : Table) : State :=
  let s := (s.ageLimitEntries t s.cmp.rref).touchSpan (0x14000000 + n * 0xC00000) 0xC00000
  { s with cmp.applied := s.cmp.applied.set n (s.buildTable t) }

/-- TABLE_BUILD_DONE (R80): the inactive copy is written; the slide begins at the applying frame. -/
def execTableBuildDone (s : State) : Host.Outcome State Fault Refusal :=
  if s.tblState = 2 ∧ !s.scn.due.any (fun d => d.ev == .slide) then
    done ((s.writeCopy (1 - s.activeCopy) s.cmp.next).buildBounds.schedule .slide)
  else done s

/-- After a write-back the applied gains are computed; a change is built and slid in (R90, R91). -/
def State.afterWriteback (s : State) : State :=
  let rr := s.rrefs s.cmp.base
  let s := { s with cmp.rref := rr }.ageLimitEntries s.cmp.base rr
  if s.buildTable s.cmp.base = s.cmp.applied.getD s.activeCopy [] then s
  else { s with cmp.rebuildDue := true }.startRebuild

/-- The region that the next write-back takes: the next in turn, but for the newest of the old format in a cold trial (R93, R435). -/
def State.nextRegion (s : State) : Nat :=
  let region := s.rd F.CMP_STRESS_STAT.REGION
  let next := (region + 1) % 3
  let old := fun (r : StressRec) => r.fmt != s.upd.running.dataFmt
  let newest := s.flash.stress.foldl (fun m r => max m (((r.filter old).map (·.seq)).getD 0)) 0
  if (nth s.flash.stress region).isNone then region
  else if s.coldTrial && (nth s.flash.stress next).any (fun r => old r && r.seq == newest) then (next + 1) % 3
  else next

/-- STRESS_WRITEBACK_DONE (R93): the record stands in the next region, or its verification has failed. -/
def execStressWritebackDone (ok : Bool) (s : State) : Host.Outcome State Fault Refusal :=
  if !s.inFlight .stress || s.noChannel then done s
  else
    let s := s.checkRecord
    let region := s.rd F.CMP_STRESS_STAT.REGION
    let seq := ((nth s.flash.stress region).map (fun r => r.seq + 1)).getD 1
    let next := s.nextRegion
    let s := (s.flashDone.touchSpan 0x16000000 0x600000).touchSpan 0x17000000 0x10000
    if ok then
      let s := { s with flash.stress := s.flash.stress.set next (some (s.stressRecord seq)), cmp.unsaved := 0 }
      done (s.wr F.CMP_STRESS_STAT.REGION next).afterWriteback
    else done ({ s with flash.stress := s.flash.stress.set next none }.fault 0x57 2)

/-- The index of the region of highest sequence number. -/
def bestRegion (l : List (Option StressRec)) : Option (Nat × StressRec) :=
  (List.range l.length).foldl (fun b i =>
    match nth l i, b with
    | some r, some (_, x) => if x.seq < r.seq then some (i, r) else b
    | some r, none => some (i, r)
    | none, _ => b) none

/-! ### Defect edits (R98 to R100, R288) -/

/-- One operation on the table: the new table, or the offset in the packet of the operation that is refused. -/
def editOp (r : Request) (i : Nat) (t : List Nat) : Except Nat (List Nat) :=
  let o := 8 * i
  let op := pByte r o
  let w := pWord r (o + 4)
  if op > 2 ∨ nonZeroAt r (o + 1) 3 ≠ none then .error (16 + o)
  else if op = 0 then
    if bitsAt w 9 2 = 3 ∨ bitsAt w 6 3 = 7 then .error (16 + o)
    else
      let new := insertEntry (insertBits w 31 1 1) t
      if 16384 < new.length then .error (16 + o) else .ok new
  else if op = 1 then .ok (removeKey (bitsAt w 9 22) t)
  else .ok (t.filter (fun e => entrySrc e != bitsAt w 2 2))

/-- The operations of a DEFECT_EDIT in list order. -/
def editOps (r : Request) : Nat → Nat → List Nat → Except Nat (List Nat)
  | 0, _, t => .ok t
  | n + 1, i, t =>
    match editOp r i t with
    | .ok t => editOps r n (i + 1) t
    | .error d => .error d

/-- All operations of a DEFECT_EDIT on table t. -/
def editTable (r : Request) (t : List Nat) : Except Nat (List Nat) := editOps r (r.payload.length / 8) 0 t

/-- The table that the accepted edits `l` make of t once they are complete. -/
def editedBy (l : List Request) (t : List Nat) : List Nat :=
  l.foldl (fun t r => match editTable r t with
    | .ok u => u
    | .error _ => t) t

def defectEditBody (r : Request) (s : State) : State × Verdict :=
  let n := r.payload.length
  if n % 8 ≠ 0 ∨ n = 0 ∨ 4096 < n then answer (.range 10) s
  else match editTable r (editedBy s.cmp.edits s.cmp.defects) with
    | .error d => answer (.range d) s
    | .ok _ => if s.memClk then ({ s with cmp.edits := s.cmp.edits ++ [r] }, .hold) else answer (.notReady 0xFFFF) s

/-- DEFECT_EDIT (R98, R288): its operations apply, and it is answered, when the edit is complete, after every automatic entry made
until then. -/
def execDefectEdit (r : Request) (s : State) : Host.Outcome State Fault Refusal :=
  done (command 0x21 r (defectEditBody r) s)

/-- Bytes of the DRAM mirror (R96). -/
def mirrorCells (t : List Nat) : List Host.Cell :=
  (t.flatMap (fun e => leBytes 4 e)).zipIdx.map (fun e => (0x17000000 + e.2, e.1))

/-- The entries of action CONCEAL in table t that the tails do not yet conceal have their applied word in both copies when they are
made (R76). -/
def State.concealWords (s : State) (t : List Nat) : State :=
  ((t.filter (fun e => entryAction e == 1 && actionOf s.cmp.tailDefects (entryK e) != 1)).map entryK).foldl
    (fun s k => s.putApplied k (fun b => concealedWord (baseWord b k))) s

/-- The table stands in DRAM and in the source dies' SRAM, and takes effect at its applying frame (R96, R99). -/
def State.shadowDefects (s : State) : State :=
  let s := ((s.touchSpan 0x17000000 0x10000).setRegion 0x17000000 0x17010000 (mirrorCells s.cmp.defects)).concealWords s.cmp.defects
  s.schedule (.defects s.cmp.defects)

/-- STUCK_ON entries of table t that table `old` does not have raise their faults; an ADD that replaces one by another raises none
(R101, R104; DESIGN CHOICE, notes/assumptions/135.md). -/
def State.newStuck (s : State) (old t : List Nat) : State :=
  (t.filter (fun e => entryKind e == 2 && !((entryFor old (entryKey e)).any (fun o => entryKind o == 2)))).foldl
    (fun s e => s.stuckFaults (subQuad (entryK e))) s

/-- DEFECT_EDIT_COMPLETE (R99): the entries made so far and the oldest accepted DEFECT_EDIT are complete, the edit applying last (R98).
An ADD that automatic entries have meanwhile left without room is refused now (R100). -/
def execDefectEditComplete (s : State) : Host.Outcome State Fault Refusal :=
  match s.cmp.edits with
  | [] => done s.shadowDefects
  | r :: rest =>
    let s := { s with cmp.edits := rest }
    match editTable r s.cmp.defects with
    | .ok t =>
      done ((((s.setDefects t).newStuck s.cmp.defects t).shadowDefects).complete r.src.toNat r.tag.toNat (.ok (leBytes 4 t.length)))
    | .error d => done (s.shadowDefects.complete r.src.toNat r.tag.toNat (.range d))

/-- The table takes effect: the tails drive by it, and the applied words of subpixels that enter or leave CONCEAL are set in both
copies in the same frame (R76, R99). -/
def State.applyDefects (s : State) (t : List Nat) : State :=
  let ks := ((t ++ s.cmp.tailDefects).map entryK).dedup
  let changed := ks.filter (fun k => (actionOf t k == 1) != (actionOf s.cmp.tailDefects k == 1))
  let s := { s with cmp.tailDefects := t }
  changed.foldl (fun s k => s.putApplied k (fun b =>
    if actionOf t k = 1 then concealedWord (baseWord b k) else s.residualWord b s.cmp.rref k)) s

/-! ### Concealment and ceiling (R73, R102) -/

/-- The neighbours of (x, y) within the quadrant. -/
def pixelNeighbours (x y : Nat) : List (Nat × Nat) :=
  (if 0 < x then [(x - 1, y)] else []) ++ (if x < 511 then [(x + 1, y)] else [])
    ++ (if 0 < y then [(x, y - 1)] else []) ++ (if y < 511 then [(x, y + 1)] else [])

/-- The donors of a subpixel: its neighbours without an entry of action CONCEAL or DARK. -/
def donors (t : List Nat) (q : Quad) (x y : Nat) (c : Colour) : List (Nat × Nat) :=
  (pixelNeighbours x y).filter (fun p => actionOf t (subK q p.1 p.2 c) == 0)

/-- What subpixel (x, y) receives from concealed neighbours; `d` gives the drive values. -/
def received (t : List Nat) (q : Quad) (d : Nat → Nat → Nat) (x y : Nat) (c : Colour) : Nat :=
  (pixelNeighbours x y).foldl (fun a p =>
    if actionOf t (subK q p.1 p.2 c) = 1 then
      let n := (donors t q p.1 p.2 c).length
      if n = 0 then a else a + d p.1 p.2 / n
    else a) 0

/-- E of a subpixel, and whether its light was limited (R102, R103). -/
def conceal (t : List Nat) (enabled : Bool) (limit : Nat) (q : Quad) (d : Nat → Nat → Nat) (x y : Nat) (c : Colour) : Nat × Bool :=
  if actionOf t (subK q x y c) ≠ 0 then (0, false)
  else if !enabled then (d x y, false)
  else
    let a := d x y + received t q d x y c
    let e := min a (max (d x y) limit)
    (e, decide (e < a))

/-- The ceiling stage (R73). -/
def ceilStage (e c : Nat) : Nat := (e * (c + c / 32768) + 32768) / 65536

end Sys2Proof.Machine
end

