-- ==== Sys2Proof/Machine/Hybrid.lean ====
section
/-! DEFINITION. Sys2Proof/Machine/Hybrid.lean: the amplitude ladder, the encoder arithmetic, the voltage maps, and ladder builds
(04_hybrid_encoding.md, and R134 of 05_quadrant_scan.md). -/

namespace Sys2Proof.Machine

/-! ### Ladders (R108 to R110) -/

/-- HYB_KNEE_c.KNEE as it acts (R109). -/
def kneeOf (v : Nat) : Nat := clampNat 0x1000 0x30000 v

/-- The knee register holds a value outside the range of R109. -/
def kneeOutside (v : Nat) : Bool := decide (v < 0x1000) || decide (0x30000 < v)

def kneeMin (kc : Nat) : Nat := kc - 8 * kc / 32

/-- L_c[a] for the knee kc (R108). -/
def ladderEntry (kc a : Nat) : Nat := roundPow (kneeMin kc) 0xFFFFF (kneeMin kc) a 255

def ladder (kc : Nat) : List Nat := (List.range 256).map (ladderEntry kc)

/-- The smallest amplitude code whose entry is at least v. -/
def codeFor (lad : List Nat) (v : Nat) : Nat := ((List.range 256).find? (fun a => Nat.ble v (nth lad a))).getD 255

/-- The knee K of a subpixel of trim t (R110). -/
def kneeTrimmed (kc : Nat) (t : Int) : Int := (kc : Int) + floorDiv (t * kc) 32

/-- The knee code n of R110. -/
def kneeCode (lad : List Nat) (kc : Nat) (t : Int) : Nat := codeFor lad (kneeTrimmed kc t).toNat

/-! ### Sweeps (R111, R112) -/

/-- log2 of the requested sweep count; 7 acts as 6. -/
def sweepRequest (v : Nat) : Nat := min 6 v

/-- log2 of the sweep count in use for a frame of `period` ns. -/
def sweepLog2 (want period : Nat) : Nat :=
  ((List.range (want + 1)).filter (fun l => Nat.ble (130208 * 2 ^ l) period)).getLast?.getD 0

/-- ρ(k): the low n bits of k in reverse order. -/
def bitReverse : Nat → Nat → Nat
  | 0, _ => 0
  | n + 1, k => k % 2 * 2 ^ n + bitReverse n (k / 2)

/-- The subpixel of pulse-width code h emits in step j of sweep k of 2^l sweeps. -/
def emitsIn (l h j k : Nat) : Bool := decide (j * 2 ^ l + bitReverse l k < h)

/-! ### Dither and blend (R114, R115) -/

/-- The frame phase fc of R114: the FRAME_NO of the frame shown plus the scan-out frames it has been shown for. -/
def State.framePhase (s : State) : Nat :=
  ((if s.pix.presented then s.rd F.PIX_FRAME_NO.SHOWN else 0) + s.pix.shownFor) % 4

/-- M[y & 1][x & 1]. -/
def ditherCell (x y : Nat) : Nat := if y % 2 = 0 then 2 * (x % 2) else 3 - 2 * (x % 2)

def ditherPhase (en rot : Bool) (fc x y : Nat) (c : Colour) : Nat :=
  if en then (ditherCell x y + fc + (if rot then c.val else 0)) % 4 else 0

def blendFloor (n width phi : Nat) : Nat := min (n + width * phi / 4) 255

/-! ### Encoder (R116) -/

/-- Amplitude code and pulse-width code of final value p, with ladder `lad`, knee code n, 2^l sweeps. Where the bound of R117 and these
steps disagree the steps hold (DESIGN CHOICE, notes/assumptions/88.md). -/
def encode (lad : List Nat) (n width phi : Nat) (en : Bool) (l p : Nat) : Nat × Nat :=
  if p = 0 then (0, 0)
  else
    let a := max (blendFloor n width phi) (codeFor lad p)
    let la := nth lad a
    let h4 := (p * 4096 * 2 ^ l + la / 2) / la
    (a, if en then (h4 + phi) / 4 else (h4 + 2) / 4)

/-! ### Voltage maps (R134) -/

/-- p of R134 in fixed point: −2 log2 of the full-light share f, at most 32. -/
def lightExponent (light scale : Nat) : Int :=
  min (32 * (fixOne : Int)) (-2 * log2Fix (light * scale) (0xFFFFF * 32768))

/-- VA_c at light L_c[a]: the source code for light `light`, with the glass curve e in mV and FULL_SCALE. -/
def ampCode (e : List Nat) (scale light : Nat) : Nat :=
  let p := lightExponent light scale
  let i := (Int.fdiv p fixOne).toNat
  let u := p - (i : Int) * fixOne
  let e0 : Int := nth e i
  let e1 : Int := nth e (min (i + 1) 32)
  let v := e0 * fixOne + (e1 - e0) * u - 300 * fixOne
  (roundDivInt (v * 262143) (5200 * fixOne)).toNat

/-- The source code for pulse-width code h of 2^l sweeps, between two ramp voltages in mV. -/
def thresholdCode (lo hi l h : Nat) : Nat :=
  let n : Nat := 1024 * 2 ^ l
  (roundDivInt ((((lo : Int) - 300) * (n : Int) + ((hi : Int) - lo) * h) * 262143) (n * 5200)).toNat

/-! ### Changes (R119, R120) -/

/-- SCN_AMP_c.FULL_SCALE as it acts. -/
def scaleAmp (v : Nat) : Nat := clampNat 0x2000 0x8000 v

def kneeAddrs : List Nat := (List.range 3).map A.HYB_KNEE
def ampAddrs : List Nat := (List.range 4).flatMap (fun q => (List.range 3).map (fun c => A.SCN_AMP q c))

/-- The amplitude curves of the panel records (R126). -/
def State.panelCurves (s : State) : List (List (List Nat)) := s.scn.records.map (·.eamp)

/-- The set a ladder build makes from committed register values and amplitude curves. -/
def ladderSet (m : Nat → Word) (curves : List (List (List Nat))) : LadderSet :=
  { curves := curves
    knees := kneeAddrs.map (fun a => kneeOf (bitsAt (m a).toNat 0 20))
    scales := ampAddrs.map (fun a => scaleAmp (bitsAt (m a).toNat 0 16)) }

/-- Values of a waiting commit at an address. -/
def dueValue (a : Nat) (d : Due) : Option Word :=
  match d.ev with
  | .commit vs => (vs.find? (fun e => e.1 == a)).map (·.2)
  | _ => none

/-- The last committed value of a frame-side register. -/
def State.committed (s : State) (a : Nat) : Word :=
  ((s.scn.due.reverse.filterMap (dueValue a)).head?).getD (Sparse.get resetWord s.frameRegs a)

/-- A ladder build starts, or starts again with the newest values; what an earlier build has ready is not applied (R119, R120). -/
def State.startLadder (s : State) (set : LadderSet) : State :=
  { s.wr F.HYB_STAT.LADDER_BUSY 1 with hyb.building := some set, scn.due := s.scn.due.filter (fun d => d.ev != .ladder) }

/-- The inactive bank is written, its voltage maps by the records as they stand (R119, R134). -/
def State.writeLadder (s : State) (b : LadderSet) : State :=
  { s with hyb.building := some { b with curves := s.panelCurves } }.schedule .ladder

/-- LADDER_BUILD_DONE (R119): the inactive bank is written; the exchange waits for its applying frame. -/
def execLadderBuildDone (s : State) : Host.Outcome State Fault Refusal :=
  match s.hyb.building, s.scn.due.any (fun d => d.ev == .ladder) with
  | some b, false => done (s.writeLadder b)
  | _, _ => done s

/-- The banks are exchanged at the applying frame (R119). -/
def State.exchangeLadder (s : State) : State :=
  match s.hyb.building with
  | none => s
  | some b =>
    let s := (s.wr F.HYB_STAT.LADDER_BANK (1 - s.rd F.HYB_STAT.LADDER_BANK)).wr F.HYB_STAT.LADDER_BUSY 0
    { s with hyb.bank := b, hyb.building := none }

/-- A ladder read of quadrant q met a single-bit error (R121). -/
def State.ladderCorr (s : State) (q : Quad) : State :=
  ({ s.bump F.HYB_ECC.CORR with hyb.eccWarn := s.hyb.eccWarn.set q.val true }).faultQ 0x58 1 q

/-- A ladder read of quadrant q met a double-bit error (R121). -/
def State.ladderErr (s : State) (q : Quad) : State :=
  ({ s.bump F.HYB_ECC.UNCORR with hyb.eccBad := s.hyb.eccBad.set q.val true }).faultQ 0x59 2 q

/-- LADDER_REWRITE_DONE (R121): the firmware has rewritten what failed in the tail of quadrant q. -/
def execLadderRewriteDone (q : Quad) (s : State) : Host.Outcome State Fault Refusal :=
  done { s with hyb.eccBad := s.hyb.eccBad.set q.val false, hyb.eccWarn := s.hyb.eccWarn.set q.val false }

/-- A knee register takes a value: its colour's clamp bit follows (R109). -/
def State.kneeWritten (s : State) (c v : Nat) : State :=
  s.wr F.HYB_STAT.KNEE_CLAMPED (insertBits (s.rd F.HYB_STAT.KNEE_CLAMPED) c 1 (boolNat (kneeOutside v)))

/-- Sweep count and its report for a frame of `period` ns (R111). -/
def State.setSweeps (s : State) (period : Nat) : State :=
  let want := sweepRequest (s.frame F.HYB_SWEEP.LOG2_S)
  let l := sweepLog2 want period
  { (s.wr F.HYB_STAT.S_IN_USE l).wrB F.HYB_STAT.S_LIMITED (decide (l < want)) with scn.log2S := l }

end Sys2Proof.Machine
end

