-- ==== Sys2Proof/Machine/Present.lean ====
section
/-! DEFINITION. Sys2Proof/Machine/Present.lean: what the scan-out shows: the overlay planes, the composited video, and the
subpixel pipeline of R72 from the frame buffer to the two codes (02 R62 to R67, 03 R72 to R75 and R102, 04 R116). -/

namespace Sys2Proof.Machine

/-! ### Overlay planes (R65 to R67)

`m` holds the presentation-side values in force. -/

def planeWidth (m : List (Nat × Word)) (n : Nat) : Nat := min 1024 (inWords m (F.PIX_OVL_SIZE.WIDTH n))
def planeHeight (m : List (Nat × Word)) (n : Nat) : Nat := min 1024 (inWords m (F.PIX_OVL_SIZE.HEIGHT n))
def planeArea (m : List (Nat × Word)) (n : Nat) : Nat := planeWidth m n * planeHeight m n

/-- Planes asked for, with a size, in rising order. -/
def planesWanted (m : List (Nat × Word)) (fallback : Bool) : List Nat :=
  (List.range 8).filter (fun n =>
    (if fallback then bitsAt (inWords m F.PIX_FALLBACK.PLANES) n 1 == 1 else inWords m (F.PIX_OVL_CTRL.EN n) == 1)
      && decide (planeArea m n ≠ 0))

/-- The plane's data lie within the 64 MiB store. -/
def planeFits (m : List (Nat × Word)) (n : Nat) : Bool :=
  decide (inWords m (F.PIX_OVL_ADDR.OFFSET n) + planeArea m n ≤ 0x4000000)

/-- Drop planes from the highest index down until the rest hold at most 4,194,304 pixels; the list is in falling order. -/
def dropPlanes (m : List (Nat × Word)) : List Nat → List Nat
  | [] => []
  | n :: rest => if ((n :: rest).map (planeArea m)).sum ≤ 4194304 then n :: rest else dropPlanes m rest

/-- The planes shown, in rising order (R67). -/
def planesShown (m : List (Nat × Word)) (fallback : Bool) : List Nat :=
  (dropPlanes m ((planesWanted m fallback).filter (planeFits m)).reverse).reverse

/-- Index byte of plane n at tile position (x, y), if the plane reaches there. -/
def State.planeIndex (s : State) (n x y : Nat) : Option Nat :=
  let m := s.frameRegs
  let px := inWords m (F.PIX_OVL_POS.X n)
  let py := inWords m (F.PIX_OVL_POS.Y n)
  let w := planeWidth m n
  if px ≤ x ∧ x < px + w ∧ py ≤ y ∧ y < py + planeHeight m n then
    some (s.readByte (overlayLo + inWords m (F.PIX_OVL_ADDR.OFFSET n) + (y - py) * w + (x - px))).toNat
  else none

/-- Palette colour of entry e of plane n. -/
def paletteColour (m : List (Nat × Word)) (n e : Nat) (c : Colour) : Nat :=
  match c with
  | 0 => inWords m (F.PIX_PAL_A.RED n e)
  | 1 => inWords m (F.PIX_PAL_G.GREEN n e)
  | 2 => inWords m (F.PIX_PAL_B.BLUE n e)

/-- One plane over a value (R66). -/
def blendPlane (v p a : Nat) : Nat := ((v : Int) + floorDiv (((p : Int) - v) * (a + a / 128 : Nat)) 256).toNat

/-! ### The picture (R62, R63, R66, R313) -/

/-- L20 of the fallback colour. -/
def fallbackColour (m : List (Nat × Word)) (c : Colour) : Nat :=
  1024 * (match c with
    | 0 => inWords m F.PIX_FALLBACK_COLOUR.RED
    | 1 => inWords m F.PIX_FALLBACK_COLOUR.GREEN
    | 2 => inWords m F.PIX_FALLBACK_COLOUR.BLUE)

/-- A channel of a pixel in a frame buffer. -/
def State.bufferValue (s : State) (k : Nat) (q : Quad) (x y : Nat) (c : Colour) : Nat :=
  bitsAt (s.readLE (pixelAddr k q x y) 8) (20 * c.val) 20

/-- The video layer at a subpixel in the present frame. -/
def State.videoValue (s : State) (q : Quad) (x y : Nat) (c : Colour) : Nat :=
  if s.identifying && s.rln.identFlat then 0x40000
  else if s.pix.fallback then fallbackColour s.frameRegs c
  else match s.bufIn .showing with
    | some k => s.bufferValue k q x y c
    | none => fallbackColour s.frameRegs c

/-- The composited value V of a subpixel. -/
def State.composited (s : State) (q : Quad) (x y : Nat) (c : Colour) : Nat :=
  s.pix.planes.foldl (fun v n =>
    match s.planeIndex n (x + 512 * (q.val % 2)) (y + 512 * (q.val / 2)) with
    | some e => blendPlane v (paletteColour s.frameRegs n e c) (inWords s.frameRegs (F.PIX_PAL_A.ALPHA n e))
    | none => v) (s.videoValue q x y c)

/-! ### The pipeline (R72, R73, R75, R102, R116) -/

/-- Drive value D of a subpixel. -/
def State.driveValue (s : State) (q : Quad) (c : Colour) (x y : Nat) : Nat :=
  compensate (s.composited q x y c) (s.headWord (subK q x y c)) (s.rd (F.CMP_AGE.FACTOR q.val c.val))

/-- E of a subpixel, and whether a donor was limited. -/
def State.concealed (s : State) (q : Quad) (c : Colour) (x y : Nat) : Nat × Bool :=
  conceal s.cmp.tailDefects (s.frame F.CMP_CONCEAL.EN == 1) (s.frame F.CMP_CONCEAL.LIMIT) q (s.driveValue q c) x y c

/-- The fraction c of the ceiling stage: the lower of ceiling and cap as latched. -/
def State.ceilInUse (s : State) (q : Quad) : Nat := min (nth s.scn.latched q.val) (nth s.scn.latchedCap q.val)

/-- Final value P of a subpixel. -/
def State.finalValue (s : State) (q : Quad) (c : Colour) (x y : Nat) : Nat :=
  ceilStage (s.concealed q c x y).1 (s.ceilInUse q)

/-- Final value by subpixel number. -/
def State.finalOf (s : State) (k : Nat) : Nat := s.finalValue (subQuad k) (subColour k) (subX k) (subY k)

/-- The encoder's settings of the present frame, and the ladders in use. -/
structure EncoderSet where
  lads : List (List Nat)
  knees : List Nat
  width : Nat
  en : Bool
  rot : Bool
  fc : Nat
  log2S : Nat
  deriving DecidableEq, Repr, Inhabited

def State.encoder (s : State) : EncoderSet :=
  { lads := s.hyb.bank.knees.map ladder, knees := s.hyb.bank.knees, width := min 16 (s.frame F.HYB_BLEND.WIDTH)
    en := s.frame F.HYB_DITHER.EN == 1, rot := s.frame F.HYB_DITHER.COLOUR_ROT == 1, fc := s.framePhase, log2S := s.scn.log2S }

/-- The codes of a subpixel of trim `t` and final value `p` (R116). -/
def EncoderSet.codes (e : EncoderSet) (c : Colour) (t : Int) (x y p : Nat) : Nat × Nat :=
  let lad := nth e.lads c.val
  encode lad (kneeCode lad (nth e.knees c.val) t) e.width (ditherPhase e.en e.rot e.fc x y c) e.en e.log2S p

/-- The column and colour that output o drives (R123). -/
def State.outputDrives (s : State) (q : Quad) (o : Nat) : Nat × Colour :=
  let x := if s.on (F.SCN_QCFG.COL_MIRROR q.val) then 511 - o / 3 else o / 3
  let c := if s.on (F.SCN_QCFG.SUBPX_ORDER q.val) then 2 - o % 3 else o % 3
  (x, ⟨c % 3, Nat.mod_lt _ (by decide)⟩)

/-- Row of scan line n (R125). -/
def State.rowOf (s : State) (q : Quad) (n : Nat) : Nat := if s.on (F.SCN_QCFG.SCAN_DIR q.val) then 511 - n else n

/-- The codes of a row, by output. -/
def State.encodeRow (s : State) (q : Quad) (y : Nat) : RowCodes :=
  let e := s.encoder
  (List.range 1536).map (fun o =>
    let (x, c) := s.outputDrives q o
    e.codes c (wordTrim (s.headWord (subK q x y c))) x y (s.finalValue q c x y))

/-- Donors limited in a row (R102). -/
def State.limitedIn (s : State) (q : Quad) (y : Nat) : Nat :=
  if s.cmp.tailDefects.isEmpty then 0
  else ((List.range 1536).filter (fun i => (s.concealed q ⟨i % 3, Nat.mod_lt _ (by decide)⟩ (i / 3) y).2)).length

/-- The codes a row shows on the glass. -/
def State.shownRow (s : State) (q : Quad) (y : Nat) : RowCodes :=
  ((s.scn.glass.find? (fun e => e.1 == q.val * 512 + y)).map (fun e => e.2)).getD []

def State.setRow (s : State) (q : Quad) (y : Nat) (r : RowCodes) : State :=
  { s with scn.glass := Sparse.put (fun _ => []) s.scn.glass (q.val * 512 + y) r }

end Sys2Proof.Machine
end

