-- ==== Sys2Proof/Machine/Governor.lean ====
section
/-! DEFINITION. Sys2Proof/Machine/Governor.lean: the frame power prediction, the ceilings and the background jobs
(07_budget_governor.md), in the units of Budget.lean. -/

namespace Sys2Proof.Machine

/-! ### Prediction (R176, R177) -/

/-- What a frame shows, as the governor sees it: a buffer, the fallback image, or every subpixel at 0xF_FFFF (c_safe). -/
inductive Content where
  | buffer (k : Nat)
  | fallback
  | full
  deriving DecidableEq, Repr, Inhabited

/-- Counts and mean D_ub of quadrant q and colour c. -/
def State.contentItems (s : State) (m : List (Nat × Word)) (x : Content) (q : Quad) (c : Colour) : List (Nat × Nat) :=
  match x with
  | .buffer k => ((s.buf k).bins.filter (fun e => e.1 / 256 == q.val * 3 + c.val)).map (fun e => (e.2.1, e.2.2 / e.2.1))
  | .fallback => [(262144, driveBound (fallbackColour m c) (s.quadBound q c) 0)]
  | .full => [(262144, 0xFFFFF)]

/-- Area of plane n in quadrant q. -/
def planeInQuad (m : List (Nat × Word)) (n : Nat) (q : Quad) : Nat :=
  let cut := fun (lo len side : Nat) => min (lo + len) (512 * side + 512) - max lo (512 * side)
  cut (inWords m (F.PIX_OVL_POS.X n)) (planeWidth m n) (q.val % 2) * cut (inWords m (F.PIX_OVL_POS.Y n)) (planeHeight m n) (q.val / 2)

/-- Omax of plane n and colour c. -/
def paletteMax (m : List (Nat × Word)) (n : Nat) (c : Colour) : Nat :=
  (List.range 256).foldl (fun v e => if inWords m (F.PIX_PAL_A.ALPHA n e) = 0 then v else max v (paletteColour m n e c)) 0

/-- The terms of quadrant q and colour c: a count, and a value that a ceiling c2 of 65,536 leaves as it is. -/
structure Term where
  n : Nat
  value : Nat
  shift : Nat
  deriving DecidableEq, Repr, Inhabited

def State.contentTerms (s : State) (m : List (Nat × Word)) (planes : List Nat) (x : Content) (q : Quad) (c : Colour) : List Term :=
  (s.contentItems m x q c).map (fun i => Term.mk i.1 i.2 16)
    ++ (match x with
      | .full => []
      | _ => planes.map (fun n => Term.mk (planeInQuad m n q) (paletteMax m n c * s.quadBound q c) 30))

/-- CONCEAL entries of quadrant q and colour c in a defect table. -/
def concealEntries (d : List Nat) (q : Quad) (c : Colour) : Nat :=
  (d.filter (fun e => entryAction e == 1 && subQuad (entryK e) == q && subColour (entryK e) == c)).length

/-- The frame an evaluation is for: its content, and the frame-side values and the defect table in force in it. -/
structure Scene where
  what : Content
  regs : List (Nat × Word)
  defects : List Nat
  deriving DecidableEq, Repr, Inhabited

/-- Current of a list of terms at ceiling c. -/
def termsAt (pts : List Nat) (ts : List Term) (ceil : Nat) : Nat :=
  let c2 := ceil + ceil / 32768
  ts.foldl (fun a t =>
    let p := if t.shift = 16 then (t.value * c2 + 32768) / 65536 else t.value * c2 / 2 ^ 30
    a + t.n * curveAt pts (min 0x100000 p)) 0

/-- What the prediction of a quadrant rests on: per colour the curve, the terms and the concealment term. -/
abbrev QuadModel := List (List Nat × List Term × Nat)

/-- The model of quadrant q for a content: empty while its valve is open or in DARK. -/
def State.quadModel (s : State) (x : Scene) (q : Quad) : QuadModel :=
  if !s.valveOn q || decide (s.power = 1) then []
  else
    let planes := planesShown x.regs (x.what == .fallback)
    (List.range 3).map (fun i =>
      let c := subColour i
      let pts := s.curveOf c
      (pts, s.contentTerms x.regs planes x.what q c, if x.what == .full then 0 else 2 * concealEntries x.defects q c * curveAt pts 0xFFFFF))

/-- Ipred_q(c) (R176). -/
def ipred (md : QuadModel) (ceil : Nat) : Nat := md.foldl (fun a t => a + termsAt t.1 t.2.1 ceil + t.2.2) 0

/-- The models of Q0 to Q3. -/
def State.models (s : State) (x : Scene) : List QuadModel := (List.range 4).map (fun q => s.quadModel x (quadOf q))

def State.vled (s : State) (q : Nat) : Nat := s.gv (F.GOV_VLED.VLED q)

/-- LED power with the margin factor `f` in thousandths: VLED_q × Ipred_q(min(c_q, cap_q)) summed over q. -/
def State.ledPower (s : State) (mds : List QuadModel) (f : Nat) (cs : List Nat) : Nat :=
  (List.range 4).foldl (fun a q => a + s.vled q * ipred (nth mds q) (min (nth cs q) (nth s.gov.caps q)) * f) 0

def State.marginF (s : State) : Nat := 1000 + s.rd F.GOV_CFG.MARGIN
def State.pdev (s : State) : Nat := s.gv F.GOV_PDEV.BASE * milliwatt

/-! ### Jobs (R183, R184) -/

def State.jobPower (s : State) (j : Nat) : Nat := s.gv (F.GOV_JOB_CFG.POWER j) * milliwatt

/-- Jobs counted in P_fix: forced ones, FLASH for a forced copy of the fault log (R391), and a running RETRAIN, which cannot pause. -/
def State.jobFixed (s : State) (j : Nat) : Bool :=
  (s.job j).forced || (decide (j = jobFlash) && s.forcedCopy) || (decide (j = jobRetrain) && (s.job j).running)

def State.pfix (s : State) : Nat := (List.range 6).foldl (fun a j => a + (if s.jobFixed j then s.jobPower j else 0)) 0

/-- SENSE and SCRUB always wait for admission (DEDUCED, notes/assumptions/31.md). -/
def State.standingJobs (s : State) : State :=
  [jobSense, jobScrub].foldl (fun s j => if (s.job j).running || (s.job j).pausing then s else s.setJob j { s.job j with pending := true }) s

/-- Decide the jobs from job j on with `head` left, none for no limit; also the power the jobs draw in this frame. While a forced copy of
the fault log is due the other flash writes stay as they are (R391). -/
def State.decideJobs (m : Int) : List Nat → Option Int → Nat → State → Nat × State
  | [], _, p, s => (p, s)
  | j :: rest, head, p, s =>
    let x := s.job j
    let w := s.jobPower j
    if j = jobFlash ∧ s.forcedCopy then State.decideJobs m rest head (p + w) s
    else if s.jobFixed j then State.decideJobs m rest head (p + w) (s.setJob j { x with running := true, pending := false, paused := false, pausing := false })
    else if (x.running || x.pending || x.pausing || x.paused) && decide (s.gv (F.GOV_JOB_CFG.EN j) = 1) && head.all (fun h => decide ((w : Int) ≤ h))
        && decide ((s.gv (F.GOV_JOB_CFG.HEAT_MIN j) : Int) ≤ m) then
      State.decideJobs m rest (head.map (· - (w : Int))) (p + w)
        (s.setJob j { x with running := true, pending := false, paused := false, pausing := false })
    else if x.running then
      State.decideJobs m rest head (p + w) (s.setJob j { x with running := false, pausing := true })
    else State.decideJobs m rest head p s

/-! ### The ceilings (R178, R179) -/

/-- The largest c in [lo, hi] with f c, for f that once false stays false; lo when there is none. -/
def largest (f : Nat → Bool) : Nat → Nat → Nat → Nat
  | 0, lo, _ => lo
  | n + 1, lo, hi => let mid := (lo + hi + 1) / 2
    if f mid then largest f n mid hi else largest f n lo (mid - 1)

def largestCeil (f : Nat → Bool) : Nat := largest f 16 0 0xFFFF

/-- c_imax_q. -/
def State.imaxCeil (s : State) (md : QuadModel) : Nat :=
  let lim := s.gv F.GOV_LIMIT.IMAX
  if lim = 0xFFFF then 0xFFFF else largestCeil (fun c => Nat.ble (ipred md c) (lim * 10 ^ 5 * 65536))

def State.riseCeil (s : State) (q : Nat) : Nat := min 0xFFFF (nth s.gov.prev q + max 1 (s.rd F.GOV_CFG.RISE))

/-- The terms of lim_q with their causes, in the order of R178. -/
def State.limTerms (s : State) (mds : List QuadModel) (q : Nat) : List (Nat × Nat) :=
  [(4, s.ceilTherm (quadOf q)), (5, s.gv F.GOV_LIMIT.USER), (3, s.imaxCeil (nth mds q)), (7, s.riseCeil q)]

def State.limOf (s : State) (mds : List QuadModel) (q : Nat) : Nat := (s.limTerms mds q).foldl (fun m t => min m t.2) 0xFFFF

/-- The budget takes part in the ceiling. -/
def State.budgetActs (s : State) : Bool := s.on F.GOV_CFG.EN && !s.noCurve && s.budget.isSome

/-- c_bud for a content's models and the limits of the quadrants. -/
def State.budgetCeil (s : State) (mds : List QuadModel) (lims : List Nat) : Nat :=
  match s.pallow with
  | some p =>
    if s.budgetActs then
      largestCeil (fun c => Nat.ble (s.pdev + s.pfix + s.ledPower mds s.marginF (lims.map (min c))) p)
    else 0xFFFF
  | none => 0xFFFF

/-- Why quadrant q has its ceiling. -/
def State.causeOf (s : State) (mds : List QuadModel) (bud c q : Nat) : Nat :=
  if c = 0xFFFF then 0
  else match (s.limTerms mds q).find? (fun t => t.2 == c) with
    | some t => t.1
    | none => if bud ≠ c then 0 else if s.pallow = s.budget.map (fun b => b.1) then 1 else 2

def writeCeil (cs causes : List Nat) (mds : List QuadModel) (s : State) : State :=
  (List.range 4).foldl (fun s q =>
    ((s.wr (F.GOV_CEIL.CEIL q) (nth cs q)).wr (F.GOV_CEIL.CAUSE q) (nth causes q)).wr (F.GOV_IPRED.IPRED q)
      (min 0xFFFF (ipred (nth mds q) (nth cs q) / (10 ^ 5 * 65536)))) s

/-- The ceilings `cs` stand for the coming frame: jobs are decided, and the frame's power is kept for R173 and R186. -/
def State.applyCeilings (s : State) (mds : List QuadModel) (cs causes : List Nat) : State :=
  let led := s.ledPower mds s.marginF cs
  let head := s.pallow.map (fun p => (p : Int) - (s.pdev + s.pfix + led : Nat))
  let s := writeCeil cs causes mds s
  let (pj, s) := State.decideJobs s.heatMargin [0, 1, 2, 3, 4, 5] head 0 s.standingJobs
  let pf := s.pdev + pj + led
  { (s.wr F.GOV_STAT.PFRAME (min 0xFFFF (pf / (100 * milliwatt)))).wr F.GOV_FLAGS.STALLED 0 with
    gov.pframe := pf, gov.pled := s.ledPower mds 1000 cs, gov.missed := 0, upd.point := some s.now
    gov.predVled := (List.range 4).map s.vled, gov.predCurves := s.gov.curves }

/-- The governor's evaluation for a frame, with what it took when it started (R178). -/
def State.evaluate (s : State) (x : Scene) : State :=
  let mds := s.models x
  let lims := (List.range 4).map (s.limOf mds)
  let bud := s.budgetCeil mds lims
  let cs := lims.map (min bud)
  let causes := (List.range 4).map (fun q => s.causeOf mds bud (nth cs q) q)
  let s := if bud < 0xFFFF then s.bump F.GOV_CNT.BOUND else s
  (s.applyCeilings mds cs causes).wr F.GOV_FLAGS.LATE_LAST 0

/-- The defect table in force in the coming frame (R99). -/
def State.comingDefects (s : State) : List Nat :=
  s.scn.due.foldl (fun d e => match e.late, e.ev with
    | false, .defects t => t
    | _, _ => d) s.cmp.tailDefects

/-- The coming frame, showing buffer k. -/
def State.comingScene (s : State) (k : Nat) : Scene := ⟨.buffer k, s.comingRegs, s.comingDefects⟩

/-- The frame whose line 0 opens. -/
def State.presentScene (s : State) : Scene :=
  let what : Content := match s.pix.fallback, s.bufIn .showing with
    | false, some k => .buffer k
    | _, _ => .fallback
  ⟨what, s.frameRegs, s.cmp.tailDefects⟩

/-- The ceilings written stand for the frame whose line 0 opens: it is the one they were evaluated for. -/
def State.ceilingsStand (s : State) : Bool :=
  match s.gov.written with
  | some k => !s.pix.fallback && !s.pix.holding && decide (s.bufIn .showing = some k)
  | none => false

/-- A frame whose ceilings do not stand when its line 0 opens (R181): min(c_prev, c_safe) for every quadrant. -/
def State.lateCeilings (s : State) : State :=
  let x := s.presentScene
  let full := s.models { x with what := .full }
  let lims := (List.range 4).map (s.limOf full)
  let safe := s.budgetCeil full lims
  let cs := s.gov.prev.map (min safe)
  let s := (s.applyCeilings (s.models x) cs [6, 6, 6, 6]).wr F.GOV_FLAGS.LATE_LAST 1
  (s.bump F.GOV_CNT.LATE).fault 0x70 0

/-- Register blocks that firmware holds: CMD, GOV and TUN (R430; DEDUCED, notes/assumptions/112.md). -/
def firmwareBlocks : List Nat := [0x03, 0x09, 0x11]

/-- A register of those blocks. -/
def firmwareHeld (a : Nat) : Bool := firmwareBlocks.contains (a / 0x10000)

/-- In TRIAL and CONFIRMED the active image keeps a checkpoint after every evaluation (R433). -/
def State.takeCheckpoint (s : State) : State :=
  let st := s.rd F.UPD_STAT.STATE
  let c : Checkpoint :=
    { cmd := s.cmd, gov := s.gov, tun := s.tun, copies := s.flt.copies, copyFailed := s.flt.copyFailed
      regs := s.regs.filter (fun e => firmwareHeld e.1) }
  if st = 5 ∨ st = 6 then { s with upd.checkpoint := some c } else s

/-- An evaluation made at once, with the registers as they are; one that is in progress goes on with the values it started with
(R187). -/
def State.evaluateApart (s : State) (f : State → State) : State :=
  (s.keepTaken (f s.beginEvaluation)).takeCheckpoint

/-- Once per frame, when the first quadrant opens line 0: the ceilings evaluated for the frame stand; a held or fallback frame is
evaluated here, another one is late; with no governor the tails keep the last ceilings (R180 to R182). Then the evaluation of the next
READY frame starts. -/
def State.governFrame (s : State) (governor : Bool) : State :=
  let s := if s.ceilingsStand then s
    else if !(governor && s.governing) then { s with gov.missed := s.gov.missed + 1 }
    else if s.pix.fallback || s.pix.holding then s.evaluateApart (fun s => s.evaluate s.presentScene)
    else s.evaluateApart State.lateCeilings
  ({ s with
    gov.written := none, gov.shownPower := s.gov.pframe, gov.shownLed := s.gov.pled
    gov.shownVled := s.gov.predVled, gov.shownCurves := s.gov.predCurves
    gov.prev := (List.range 4).map (fun q => s.rd (F.GOV_CEIL.CEIL q)) } : State).startEvaluation

/-- Ceilings for buffer k are still in time: its frame is READY, or shown with no quadrant's line 0 open yet (R180, R181). -/
def State.inTime (s : State) (k : Nat) : Bool := (s.buf k).st == .ready || ((s.buf k).st == .showing && !s.pix.holding && s.firstLine)

/-- The frame of buffer k with its overlays and defects: still to come, or shown with its line 0 yet to open. -/
def State.sceneOf (s : State) (k : Nat) : Scene := if (s.buf k).st = .ready then s.comingScene k else s.presentScene

/-- The evaluation in progress, for buffer k, is complete: its ceilings stand for that frame (R178, R180). -/
def State.evaluationDone (s : State) (k : Nat) : State :=
  let s := { s with gov.eval := none }
  if s.inTime k then { (s.evaluate (s.sceneOf k)).takeCheckpoint with gov.written := some k }.startEvaluation
  else s.startEvaluation

/-- GOV_EVALUATION_DONE (R178). An evaluation is in progress from the instant its frame is READY (R180). -/
def execGovEvaluationDone (t : Nat) (s : State) : Host.Outcome State Fault Refusal :=
  let s := s.advance t
  match s.governing, s.gov.eval with
  | true, some k => done (s.evaluationDone k)
  | _, _ => done s

/-- GOV_STALL (R182). -/
def execGovStall (s : State) : Host.Outcome State Fault Refusal :=
  if 4 ≤ s.gov.missed ∧ !s.on F.GOV_FLAGS.STALLED then done ((s.wr F.GOV_FLAGS.STALLED 1).fault 0x71 2) else done s

/-! ### Job events (R183, R184) -/

/-- When a pending job is forced; none for never. -/
def State.forceAt (s : State) (j : Nat) : Option Nat :=
  if j = jobFlash then some ((s.job j).dueAt + sec 1800)
  else if j = jobTune then some ((s.job j).dueAt + sec 600)
  else if j = jobScrub then some (s.gov.scrubAt + sec 86400)
  else if j = jobEye then some ((s.job j).dueAt + sec 10)
  else none

/-- JOB_FORCE_TIMEOUT (R183). -/
def execJobForceTimeout (t : Nat) (j : Fin 6) (s : State) : Host.Outcome State Fault Refusal :=
  let s := s.advance t
  let x := s.job j.val
  let waits := x.pending || x.running || x.paused || x.pausing || decide (j.val = jobScrub)
  match s.forceAt j.val with
  | some d => done (if waits && Nat.ble d s.now then s.forceJob j.val else s)
  | none => done s

/-- JOB_PAUSE_POINT (R184): a job told to pause stops. -/
def execJobPausePoint (j : Fin 6) (s : State) : Host.Outcome State Fault Refusal :=
  let x := s.job j.val
  let p := s.setJob j.val { x with pausing := false, paused := true, pending := true }
  done (if x.pausing then (if j.val = jobFlash then p.flashIdle else p) else s)

/-- SCRUB_PASS_DONE (R183). -/
def execScrubPassDone (t : Nat) (s : State) : Host.Outcome State Fault Refusal :=
  let s := s.advance t
  if (s.job jobScrub).running then done ({ s with gov.scrubAt := s.now }.jobEnd jobScrub) else done s

/-! ### Code-derived current (R186) -/

/-- Irow of a row's codes by output, in 10^-8 A / 65,536 / 65,536: I_c(L_c[a]) × H / (1,024 × S). -/
def State.rowCurrent (s : State) (e : EncoderSet) (q : Quad) (r : RowCodes) : Nat :=
  (r.zipIdx.map (fun p =>
    let c := (s.outputDrives q p.2).2
    curveAt (nth s.gov.shownCurves c.val) (nth (nth e.lads c.val) p.1.1) * p.1.2 * 2 ^ (6 - e.log2S))).sum

/-- Sum of Irow over the rows of quadrant q in a frame's list. -/
def irowSum (l : List (Nat × Nat)) (q : Nat) : Nat := ((l.filter (fun e => e.1 / 512 == q)).map (fun e => e.2)).sum

/-- At the end of a frame its code-derived current is reported and compared with the prediction (R186). -/
def State.checkCodeCurrent (s : State) : State :=
  let sums := (List.range 4).map (irowSum s.gov.irow)
  let s := (List.range 4).foldl (fun s q => s.wr (F.GOV_IPRED.ICODE q) (min 0xFFFF (nth sums q / (10 ^ 5 * 65536 * 65536)))) s
  let power := (List.range 4).foldl (fun a q => a + nth s.gov.shownVled q * nth sums q) 0
  let drawn := decide (s.gov.shownLed * s.marginF * 65536 < power * 1000 * 1000)
  let s : State := { s with gov.overDrawn := drawn }
  if drawn then s.fault 0x74 2 else s

end Sys2Proof.Machine
end

