-- ==== Sys2Proof/Machine/Fault.lean ====
section
/-! DEFINITION. Sys2Proof/Machine/Fault.lean: the fault collector, its latches and log, and the commands FAULT_READ, FAULT_ACK,
FAULT_CLEAR and FAULT_INJECT (16_fault_handling.md). -/

namespace Sys2Proof.Machine

/-! ### Sources (R394, R395) -/

/-- The assigned source IDs. -/
def faultSources : List Nat :=
  [0x00, 0x01, 0x02, 0x03, 0x04, 0x05, 0x07, 0x08, 0x09, 0x0A, 0x0B, 0x0C, 0x0D, 0x10, 0x11, 0x12, 0x13, 0x14, 0x15, 0x16, 0x17,
   0x18, 0x19, 0x1A, 0x1B, 0x1C, 0x1D, 0x1E, 0x1F, 0x20, 0x21, 0x22, 0x23, 0x24, 0x25, 0x26, 0x27, 0x28, 0x29, 0x2A, 0x2B, 0x2C,
   0x2D] ++
  [0x30, 0x31, 0x32, 0x33, 0x34, 0x35, 0x36, 0x38, 0x39, 0x3A, 0x3B, 0x40, 0x41, 0x42, 0x43, 0x44, 0x45, 0x46, 0x50, 0x51, 0x52,
   0x53, 0x54, 0x55, 0x56, 0x57, 0x58, 0x59, 0x5A, 0x5B, 0x5C, 0x5D, 0x5E, 0x5F, 0x60, 0x61, 0x62, 0x63, 0x64, 0x70, 0x71, 0x72,
   0x73, 0x74] ++
  [0x78, 0x79, 0x7A, 0x7B, 0x7C, 0x80, 0x81, 0x82, 0x83, 0x84, 0x90, 0x91, 0x92, 0x93, 0x94, 0x95, 0x96, 0x97, 0x98, 0x99, 0x9A,
   0x9B, 0xA0, 0xA1, 0xA2, 0xA8, 0xA9, 0xAA, 0xB0, 0xB1, 0xB2, 0xB3, 0xB4, 0xB5, 0xB8, 0xB9, 0xBA, 0xBB, 0xBC, 0xC0, 0xC1, 0xC2]

def assigned (src : Nat) : Bool := faultSources.contains src

/-- Class of the sources whose class is fixed; R387's class for 0x5C, 0x7A and 0x82. -/
def classTable (src : Nat) : Nat :=
  if [0x03, 0x04, 0x2D, 0x34, 0x35, 0x36, 0x38, 0x39, 0x3A, 0x3B, 0x43, 0x44, 0x45, 0x46, 0x50, 0x5B, 0x5F, 0x60, 0x62, 0x70, 0x72,
      0x73, 0x7C, 0x80, 0xA0, 0xA2, 0xA9, 0xAA, 0xB0, 0xB1, 0xB5, 0xB9, 0xBB].contains src then 0
  else if (0x10 ≤ src ∧ src ≤ 0x1F) ∨ [0x30, 0x40, 0x41, 0x52, 0x58, 0x5A, 0x78].contains src then 1
  else if [0x02, 0x08, 0x09, 0x0A, 0x0B, 0x55, 0x5D, 0x5E, 0x61, 0x90, 0x91, 0x95].contains src then 3
  else if [0x05, 0x7B, 0x82, 0x84, 0x92, 0x93, 0x96, 0x97, 0x98, 0x99, 0x9A, 0x9B, 0xC0, 0xC1].contains src then 4
  else 2

/-- SRC_DARK is 1 in at least one quadrant. -/
def State.srcDark (s : State) : Bool :=
  s.on (F.SCN_RB_CFG.SRC_DARK 0) || s.on (F.SCN_RB_CFG.SRC_DARK 1) || s.on (F.SCN_RB_CFG.SRC_DARK 2) || s.on (F.SCN_RB_CFG.SRC_DARK 3)

/-- The class an injection of `src` takes (R387). -/
def injectClass (src : Nat) (s : State) : Nat :=
  if src = 0x5C then (if s.srcDark then 3 else 2) else classTable src

/-! ### Source states (R382) -/

def State.srcState (s : State) (src : Nat) : Nat := s.rd (F.FLT_SRC.STATE src)
def State.uncleared (s : State) (src : Nat) : Bool := decide (s.srcState src ≠ 0)
def State.srcReal (s : State) (src : Nat) : Bool := s.on (F.FLT_SRC.REAL src)

def State.liveOf (s : State) (src : Nat) : Option Live := s.flt.live.find? (fun l => l.src == src)

/-- The highest class in force among uncleared sources, 7 when there is none (FLT_STAT.HIGHEST). -/
def State.highestClass (s : State) : Nat :=
  s.flt.live.foldl (fun h l => let c := s.rd (F.FLT_SRC.CLASS l.src); if h = 7 then c else max h c) 7

/-- FAULT_N is driven low (R390). -/
def State.faultNLow (s : State) : Bool :=
  s.flt.restoring ||
    s.flt.live.any (fun l => Nat.ble (min 4 (s.rd F.FLT_CFG.PIN_CLASS)) (s.rd (F.FLT_SRC.CLASS l.src)))

/-- A fault of class 3 or 4 is uncleared: refuser FAULT_ACTIVE (R321, R380). -/
def State.faultActive (s : State) : Bool := s.flt.live.any (fun l => Nat.ble 3 (s.rd (F.FLT_SRC.CLASS l.src)))

/-! ### Records (R391) -/

/-- The quadrants a QUAD field names: all four when it is zero (R379). -/
def quadMask (quad : Nat) : Nat := if quad = 0 then 15 else quad % 16

/-- Bytes of a log record. -/
def recordBytes (r : LogRec) : List Byte :=
  leBytes 2 r.seq ++ [BitVec.ofNat 8 r.src, BitVec.ofNat 8 (r.cls + 8 * r.raised + 64 * boolNat r.inj + 128 * boolNat r.esc),
    BitVec.ofNat 8 (boolNat r.first + 2 * boolNat r.ltValid + 16 * r.quad)] ++ leBytes 3 r.data ++ leBytes 8 r.time

/-- The copy of a record of class 3 or 4 is a forced FLASH job (R184): it counts and raises fault 0x73, and the write in flight is told to
pause for it (R391; DEDUCED, notes/assumptions/114.md). -/
def State.forceCopy (s : State) : State :=
  let x := s.job jobFlash
  let s := (s.bump (F.GOV_JOB_STAT.FORCED jobFlash)).fault 0x73 0
  if x.running then { s.setJob jobFlash { x with running := false, pausing := true } with flt.flashHeld := true } else s

/-- Add a record to the SRAM log and, where R391 asks for it, to the records awaiting a flash
copy: a FLASH job, but for a record of class 3 or 4, whose copy overtakes the jobs. -/
def State.record (s : State) (src cls raised : Nat) (inj esc first : Bool) (quad data : Nat) : State :=
  let valid := decide (s.rd F.ZLP_TIME_STAT.STATE ≠ 0)
  let r : LogRec := ⟨s.flt.nextSeq, src, cls, raised, inj, esc, first, valid, quad % 16, data % 2 ^ 24,
    if valid then s.lt else s.now % 2 ^ 64⟩
  let log := s.flt.log ++ [r]
  let copies :=
    if cls ≥ 3 then (s.flt.copies.filter (fun c => Nat.ble 3 c.cls)) ++ [r] ++ s.flt.copies.filter (fun c => !Nat.ble 3 c.cls)
    else if cls = 2 ∨ s.on F.FLT_CFG.LOG_ALL then s.flt.copies ++ [r]
    else s.flt.copies
  let s : State := { s with flt.log := log.drop (log.length - 1024), flt.nextSeq := (s.flt.nextSeq + 1) % 65536, flt.copies := copies }
  if 3 ≤ cls then s.forceCopy
  else if cls = 2 ∨ s.on F.FLT_CFG.LOG_ALL = true then s.addFlash .logCopy else s

/-! ### Latches (R379, R388) -/

/-- Quadrant q is latched dark by `src`, if it is not latched already. -/
def State.latchQuad (src : Nat) (mask : Nat) (q : Quad) (s : State) : State :=
  if bitsAt mask q.val 1 = 1 ∧ bitsAt (s.rd F.FLT_LATCH.QUAD) q.val 1 = 0 then
    let s := s.wr F.FLT_LATCH.QUAD (s.rd F.FLT_LATCH.QUAD + 2 ^ q.val)
    s.wr F.FLT_LATCH_SRC.SRC (insertBits (s.rd F.FLT_LATCH_SRC.SRC) (8 * q.val) 8 src)
  else s

def State.latch (s : State) (src cls quad : Nat) : State :=
  if cls = 3 then forQ (State.latchQuad src (quadMask quad)) s
  else if cls = 4 ∧ !s.on F.FLT_LATCH.DARK_LATCH then (s.wr F.FLT_LATCH.DARK_LATCH 1).wr F.FLT_LATCH.LATCH_SRC src
  else s

/-- A class 3 source in force that holds quadrant q. -/
def State.holderOf (s : State) (q : Quad) : Option Live :=
  s.flt.live.find? (fun l => s.rd (F.FLT_SRC.CLASS l.src) == 3 && bitsAt (quadMask l.quad) q.val 1 == 1)

/-- R388: the latch of quadrant q clears when no class 3 source holding it remains; else it names a source that holds it. -/
def State.relatchQuad (q : Quad) (s : State) : State :=
  if bitsAt (s.rd F.FLT_LATCH.QUAD) q.val 1 = 0 then s
  else match s.holderOf q with
    | none =>
      let s : State := { s.wr F.FLT_LATCH.QUAD (insertBits (s.rd F.FLT_LATCH.QUAD) q.val 1 0) with
        flt.resuming := s.flt.resuming.set q.val true }
      s.wr F.FLT_LATCH_SRC.SRC (insertBits (s.rd F.FLT_LATCH_SRC.SRC) (8 * q.val) 8 0)
    | some l =>
      if s.flt.live.any (fun m => m.src == bitsAt (s.rd F.FLT_LATCH_SRC.SRC) (8 * q.val) 8) then s
      else s.wr F.FLT_LATCH_SRC.SRC (insertBits (s.rd F.FLT_LATCH_SRC.SRC) (8 * q.val) 8 l.src)

/-- FLT_FIRST is armed whenever no real fault of class 2 or higher is uncleared (R385). -/
def State.rearmFirst (s : State) : State :=
  if s.flt.live.any (fun l => s.srcReal l.src && Nat.ble 2 (s.rd (F.FLT_SRC.CLASS l.src))) then s
  else s.setReg A.FLT_FIRST 0

/-! ### The collector cycle (R383, R385, R386, R387) -/

/-- The reports of one source in one collector cycle: one raise, real if any of them is. -/
structure Raise where
  src : Nat
  cls : Nat
  quad : Nat
  data : Nat
  inj : Bool
  raises : Nat
  injections : Nat
  deriving DecidableEq, Repr

/-- Core-island cycle of an instant: 1.25 ns (R19). -/
def coreCycle (t : Nat) : Nat := t / 320

/-- QUAD of several reports together; one that names no quadrant concerns the whole device. -/
def joinQuads (reps : List Report) : Nat :=
  if reps.any (fun r => r.quad == 0) then 0 else reps.foldl (fun a r => Nat.lor a r.quad) 0

def raiseOf (src : Nat) (reps : List Report) : Raise :=
  let mine := reps.filter (fun r => r.src == src)
  let real := mine.filter (fun r => !r.inj)
  let lead := if real.isEmpty then mine else real
  { src := src, cls := lead.foldl (fun c r => max c r.cls) 0, quad := joinQuads lead
    data := (lead.map (·.data)).headD 0, inj := real.isEmpty
    raises := mine.length, injections := (mine.filter (·.inj)).length }

/-- R386: another source is RAISED through a real fault raised in class c in an earlier cycle. -/
def State.escalates (s : State) (cycle : Nat) (r : Raise) : Bool :=
  !r.inj && (r.cls == 2 || r.cls == 3) &&
    s.flt.live.any (fun l => l.src != r.src && s.srcState l.src == 1 && s.srcReal l.src && l.raised == r.cls
      && Nat.blt l.cycle cycle)

/-- A raise of a source that is uncleared makes no record, unless it is the first real one (R383, R387). -/
def State.repeats (s : State) (r : Raise) : Bool := s.uncleared r.src && (s.srcReal r.src || r.inj)

/-- The class a raise is applied in. -/
def State.applied (s : State) (cycle : Nat) (r : Raise) : Nat := r.cls + boolNat (s.escalates cycle r)

/-- Counts that every raise makes, recorded or not. -/
def State.countRaise (s : State) (r : Raise) (cls : Nat) : State :=
  let s := s.bumpBy (F.FLT_SRC.COUNT r.src) r.raises
  let s := s.bumpBy (F.FLT_SRC.INJ_CNT r.src) r.injections
  let s := s.bumpBy F.FLT_CNT_2.INJECTED r.injections
  if cls = 0 then s.bumpBy F.FLT_CNT_0.NOTE r.raises
  else if cls = 1 then s.bumpBy F.FLT_CNT_0.CORRECTED r.raises
  else s

/-- A repeated raise: counted; a real one of class 3 also holds the quadrants it names (DEDUCED, notes/assumptions/11.md). -/
def State.repeatRaise (s : State) (r : Raise) : State :=
  let cls := s.rd (F.FLT_SRC.CLASS r.src)
  let s := s.countRaise r cls
  if !r.inj && decide (cls = 3) && decide (r.cls = 3) then
    { s with flt.live := s.flt.live.map (fun (l : Live) =>
        if l.src = r.src then { l with quad := Nat.lor (quadMask l.quad) (quadMask r.quad) } else l) }.latch r.src 3 r.quad
  else s

/-- A raise that is recorded, in the class decided for it (R379, R385, R386). -/
def State.recordRaise (cycle : Nat) (s : State) (r : Raise) (esc : Bool) : State :=
  let cls := r.cls + boolNat esc
  let first := !r.inj && decide (2 ≤ cls) && !s.on F.FLT_FIRST.VALID
  let seq := s.flt.nextSeq
  let s := s.countRaise r cls
  let s := s.wr (F.FLT_SRC.STATE r.src) (if cls ≥ 2 then 1 else 2)
  let s := (s.wrB (F.FLT_SRC.REAL r.src) (!r.inj)).wr (F.FLT_SRC.CLASS r.src) cls
  let s := { s with flt.live := s.flt.live.filter (fun (l : Live) => l.src != r.src) ++ [Live.mk r.src r.cls (r.quad % 16) cycle] }
  let s := s.record r.src cls r.cls r.inj esc first r.quad r.data
  let s := if cls = 2 then s.bump F.FLT_CNT_1.DEGRADED else if cls = 3 then s.bump F.FLT_CNT_1.DARK_QUAD
    else if cls = 4 then s.bump F.FLT_CNT_1.DARK_LATCH else s
  let s := if esc then s.bump F.FLT_CNT_2.ESCALATED else s
  let s := if first then
      ((((s.wr F.FLT_FIRST.VALID 1).wrB F.FLT_FIRST.ESC esc).wr F.FLT_FIRST.CLASS cls).wr F.FLT_FIRST.SOURCE r.src).wr F.FLT_FIRST.SEQ seq
    else s
  s.latch r.src cls r.quad

/-- The first raise in the order of R385 goes ahead of the others: higher class, then lower source ID. -/
def raiseBefore (a b : Raise × Bool) : Bool :=
  let ca := a.1.cls + boolNat a.2
  let cb := b.1.cls + boolNat b.2
  Nat.blt cb ca || (ca == cb && Nat.ble a.1.src b.1.src)

def insertRaise (a : Raise × Bool) : List (Raise × Bool) → List (Raise × Bool)
  | [] => [a]
  | b :: rest => if raiseBefore a b then a :: b :: rest else b :: insertRaise a rest

/-- One collector cycle takes the reports that arrived in it. -/
def State.collect (s : State) (reps : List Report) : State :=
  let s := { s with flt.cycle := s.flt.cycle + 1 }
  let raises := ((reps.map (·.src)).dedup).map (fun src => raiseOf src reps)
  let repeated := raises.filter s.repeats
  let fresh := (raises.filter (fun r => !s.repeats r)).map (fun r => (r, s.escalates s.flt.cycle r))
  let sorted := fresh.foldr insertRaise []
  let s := repeated.foldl State.repeatRaise s
  sorted.foldl (fun s r => s.recordRaise s.flt.cycle r.1 r.2) s

/-- FAULT_RECORD (R379): the collector takes the reports of the next cycle in which some arrived. No new record is made
before FLT_LATCH and the log have been restored (R383, R392). -/
def execFaultRecord (s : State) : Host.Outcome State Fault Refusal :=
  match s.flt.inbox with
  | [] => done s
  | r :: _ =>
    if s.flt.restoring then done s
    else
      let cycle := coreCycle r.at_
      let now := s.flt.inbox.filter (fun x => coreCycle x.at_ == cycle)
      done ({ s with flt.inbox := s.flt.inbox.filter (fun x => !(coreCycle x.at_ == cycle)) }.collect now)

/-! ### Restoration after a warm reset (R383, R392) -/

/-- One latched source raised again in ACKED, without a record; a raise counts in COUNT (DEDUCED, notes/assumptions/108.md). -/
def State.restoreSource (s : State) (src cls quad : Nat) : State :=
  let s := (((s.wr (F.FLT_SRC.STATE src) 2).wr (F.FLT_SRC.REAL src) 1).wr (F.FLT_SRC.CLASS src) cls).wr (F.FLT_SRC.COUNT src) 1
  { s with flt.live := match s.liveOf src with
      | some _ => s.flt.live.map (fun (l : Live) => if l.src = src then { l with quad := Nat.lor l.quad quad } else l)
      | none => s.flt.live ++ [Live.mk src cls quad 0] }

def State.restoreQuad (q : Quad) (s : State) : State :=
  if bitsAt (s.rd F.FLT_LATCH.QUAD) q.val 1 = 1 then
    s.restoreSource (bitsAt (s.rd F.FLT_LATCH_SRC.SRC) (8 * q.val) 8) 3 (2 ^ q.val)
  else s

/-- Distance of a record number from another, as a signed 16-bit number (R392: modulo 65,536). -/
def seqRel (seq newest : Nat) : Int := ((seq + 0x8000 + 65536 - newest) % 65536 : Nat) - (0x8000 : Int)

/-- The CRC-32C of a flash entry (R391). -/
def entryCrc (r : LogRec) : Nat := crc32c (recordBytes r)

/-- Put a record at its place in SEQ order, counted from the number `ref`. -/
def insertRec (ref : Nat) (r : LogRec) : List LogRec → List LogRec
  | [] => [r]
  | x :: rest => if seqRel r.seq ref ≤ seqRel x.seq ref then r :: x :: rest else x :: insertRec ref r rest

/-- The valid entries of the flash log in SEQ order. Of the entries that half a turn of the record number does not reach the oldest
are left out. -/
def flashRecords (l : List LogEntry) : List LogRec :=
  let valid := (l.filter (fun e => e.crc == entryCrc e.entry)).map (·.entry)
  let near := valid.drop (valid.length - 0x8000)
  near.foldr (insertRec ((near.getLast?.map (·.seq)).getD 0)) []

/-- The firmware restores the sources held in FLT_LATCH and fills the SRAM log with the newest 1,024 valid flash entries (R392). -/
def State.restoreFaults (s : State) : State :=
  let s := forQ State.restoreQuad s
  let s := if s.on F.FLT_LATCH.DARK_LATCH then s.restoreSource (s.rd F.FLT_LATCH.LATCH_SRC) 4 0 else s
  let held := flashRecords s.flash.log
  let log := held.drop (held.length - 1024)
  { s with flt.restoring := false, flt.log := log
           flt.nextSeq := match log.getLast? with
             | some r => (r.seq + 1) % 65536
             | none => 0 }

/-! ### FLT_CFG (R389) -/

/-- A write of FLT_CFG: the values are taken and their storing is queued. -/
def State.writeFltCfg (v : Nat) (s : State) : State :=
  let s := ((s.wr F.FLT_CFG.LOG_ALL (bitsAt v 8 1)).wr F.FLT_CFG.C3_EXIT (bitsAt v 4 1)).wr F.FLT_CFG.PIN_CLASS (bitsAt v 0 3)
  (s.wr F.FLT_CFG.STORED 0).queueFlash .fltCfg

/-- FLT_CFG_WRITE (R389). In FIELD a write that would change C3_EXIT is denied and changes nothing. -/
def execFltCfgWrite (value : Word) (s : State) : Host.Outcome State Fault Refusal :=
  if s.lifecycle = 2 ∧ bitsAt value.toNat 4 1 ≠ s.rd F.FLT_CFG.C3_EXIT then done s
  else done (s.writeFltCfg value.toNat)

/-! ### Flash copies (R391) -/

/-- A record enters the flash log; when its 64 sectors of 2,048 entries are full the oldest sector is erased. -/
def State.copyOne (s : State) (r : LogRec) : State :=
  let log := if s.flash.log.length ≥ 64 * 2048 then s.flash.log.drop 2048 else s.flash.log
  { s with flash.log := log ++ [⟨r, entryCrc r⟩] }

/-- A copy runs: a forced one while no FLASH job is in flight, another as the FLASH job in flight. -/
def State.copies (s : State) (r : LogRec) : Bool :=
  if 3 ≤ r.cls then !(s.job jobFlash).running && !(s.job jobFlash).pausing else s.inFlight .logCopy

/-- Once no forced copy awaits, a life-cycle transition that waited for them writes its record, and the FLASH job that they have paused
resumes (R391, R456). -/
def State.resumeFlash (s : State) : State :=
  if s.forcedCopy then s
  else if !s.flt.flashHeld then s.flashIdle
  else
    let s : State := { s.flashIdle with flt.flashHeld := false }
    if s.gov.flash.isEmpty then s
    else s.setJob jobFlash { s.job jobFlash with running := true, pending := false, paused := false }

/-- The copy at the head, of record r, is over. -/
def State.copyOver (s : State) (r : LogRec) : State :=
  let s := { s with flt.copies := s.flt.copies.drop 1, flt.copyFailed := s.flt.copyFailed.filter (· != r.seq) }
  if 3 ≤ r.cls then s.resumeFlash else s.flashDone

/-- FAULT_LOG_COPY_DONE (R391): the copy at the head has been programmed; its read-back passes or fails. -/
def execFaultLogCopyDone (ok : Bool) (s : State) : Host.Outcome State Fault Refusal :=
  match s.flt.copies with
  | [] => done s
  | r :: _ =>
    if !s.copies r || s.noChannel then done s
    else
    let s := s.checkRecord
    if ok then done ((s.copyOver r).copyOne r)
    else if s.flt.copyFailed.contains r.seq then done ((s.copyOver r).fault 0x0C 2)
    else done { s with flt.copyFailed := s.flt.copyFailed ++ [r.seq] }

/-! ### Commands (R384, R387, R392) -/

/-- FAULT_ACK on one source: RAISED becomes ACKED. -/
def State.ackSource (s : State) (src : Nat) : State :=
  if s.srcState src = 1 then s.wr (F.FLT_SRC.STATE src) 2 else s

/-- The sources a FAULT_ACK or FAULT_CLEAR names, or the RANGE that answers it (R384, R395). -/
def namedSources (r : Request) : Except Nat (List Nat) :=
  let all := pByte r 1
  if all ≤ 1 ∧ (all = 1 ∨ assigned (pByte r 0)) then .ok (if all = 1 then faultSources else [pByte r 0])
  else if all = 0 then .error 16
  else .error 17

def ackBody (r : Request) : State → State × Verdict :=
  withLen 4 r fun s =>
    match namedSources r with
    | .error d => answer (.range d) s
    | .ok l => withZeros r 2 2 (fun s => answer (.ok []) (l.foldl State.ackSource s)) s

/-- FAULT_INJECT (R387): DENIED in FIELD for classes 3 and 4, RANGE for an unassigned source. -/
def injectBody (r : Request) (s : State) : State × Verdict :=
  let src := pByte r 0
  let c := injectClass src s
  if !r.payload.isEmpty && assigned src && s.lifecycle == 2 && Nat.ble 3 c then answer (.denied 1) s
  else withLen 4 r (fun s =>
    if !assigned src then answer (.range 16) s
    else withZeros r 1 3 (fun s =>
      let quad := if 0x08 ≤ src ∧ src ≤ 0x0B then 2 ^ (src - 0x08) else 0
      answer (.ok []) { s with flt.inbox := s.flt.inbox ++ [Report.mk src c quad 0 true s.now] }) s) s

def readBody (r : Request) : State → State × Verdict :=
  withLen 4 r fun s =>
    let count := pHalf r 2
    if count < 1 ∨ 255 < count then answer (.range 18) s
    else
      let newest := ((s.flt.log.getLast?).map (·.seq)).getD 0
      let held := s.flt.log.filter (fun x => decide (seqRel (pHalf r 0) newest ≤ seqRel x.seq newest))
      answer (.ok ((held.take count).flatMap recordBytes)) s

def execFaultRead (r : Request) (s : State) : Host.Outcome State Fault Refusal := done (command 0x50 r (readBody r) s)
def execFaultAck (r : Request) (s : State) : Host.Outcome State Fault Refusal := done (command 0x51 r (ackBody r) s)
def execFaultInject (r : Request) (s : State) : Host.Outcome State Fault Refusal := done (command 0x53 r (injectBody r) s)

end Sys2Proof.Machine
end

