-- ==== Sys2Proof/Machine/Rails.lean ====
section
/-! DEFINITION. Sys2Proof/Machine/Rails.lean: the panel-rail sequencer (20_start_up.md R449, R450) and the switching of one
quadrant's LED supply (05_quadrant_scan.md R494). -/

namespace Sys2Proof.Machine

def State.railOn (s : State) (k : Nat) : Bool := bitsAt (s.rd F.SYS_PRAIL_STAT.EN) k 1 == 1
def State.railPg (s : State) (k : Nat) : Bool := bitsAt (s.rd F.SYS_PRAIL_STAT.PG) k 1 == 1
def State.setRailEn (s : State) (k : Nat) (on : Bool) : State :=
  s.wr F.SYS_PRAIL_STAT.EN (insertBits (s.rd F.SYS_PRAIL_STAT.EN) k 1 (boolNat on))

def State.glassValid (s : State) (q : Nat) : Bool := s.on (F.SCN_EE_STAT.VALID q)

/-- The sequence switches rail k: it is used, and the glass of an LED supply's quadrant is valid. -/
def State.railWanted (s : State) (k : Nat) : Bool := bitsAt s.sys.used k 1 == 1 && (Nat.blt k 2 || s.glassValid (k - 2))

/-- The first rail from k on that the sequence switches. -/
def State.nextRail (s : State) (k : Nat) : Option Nat := ((List.range 6).drop k).find? s.railWanted

/-- The enabled rail of highest number below k. -/
def State.lastRail (s : State) (k : Nat) : Option Nat := ((List.range (min k 6)).reverse).find? s.railOn

/-- Rail k is switched on and its PG awaited. -/
def State.switchOn (s : State) (k : Nat) : State :=
  let s := s.setRailEn k true
  if s.railPg k then s else { s with sys.pgWait := s.sys.pgWait.filter (fun w => w.1 != k) ++ [(k, s.now)] }

def State.switchOff (s : State) (k : Nat) : State :=
  let s := s.setRailEn k false
  { s with sys.pgWait := s.sys.pgWait.filter (fun w => w.1 != k) }

def State.railDelay (s : State) : Nat := us (100 * s.rd F.SYS_PRAIL_CFG.DELAY)
def State.pgTime (s : State) : Nat := ms (max 1 (s.rd F.SYS_PRAIL_CFG.PG_TO))

/-- Switch on the next rail from k on, as far as the sequence goes without waiting; past the last one it has run. -/
def State.sequenceFrom : Nat → Nat → State → State
  | 0, _, s => { s with sys.rails := .idle, sys.railsUp := true }
  | n + 1, k, s =>
    match s.nextRail k with
    | none => { s with sys.rails := .idle, sys.railsUp := true }
    | some j =>
      let s := s.switchOn j
      if s.railPg j then
        if s.railDelay = 0 then s.sequenceFrom n (j + 1) else { s with sys.rails := .waitDelay j, sys.railAt := s.now }
      else { s with sys.rails := .waitPg j }

/-- The rail sequence begins (R449). -/
def State.railsOn (s : State) : State := { s with sys.used := s.rd F.SYS_PRAIL_CFG.USED }.sequenceFrom 7 0

/-- Rails switch off in descending order below k, each after the next higher one's PG has gone low. -/
def State.offBelow : Nat → Nat → State → State
  | 0, _, s => { s with sys.rails := .idle }
  | n + 1, k, s =>
    match s.lastRail k with
    | none => { s with sys.rails := .idle }
    | some j =>
      let s := s.switchOff j
      if s.railPg j then { s with sys.rails := .fall j, sys.railAt := s.now } else s.offBelow n j

def State.railsOff (s : State) : State := { s with sys.railsUp := false }.offBelow 7 6

/-- Rail k fails (R450): fault 0x02 with the rail in DATA, for all quadrants or its own. -/
def State.railFault (s : State) (k : Nat) : State :=
  let s := s.wr F.SYS_PRAIL_STAT.FAILED (insertBits (s.rd F.SYS_PRAIL_STAT.FAILED) k 1 1)
  s.report 0x02 3 (if k < 2 then 15 else 2 ^ (k - 2)) k

/-- Input k of PRAIL_PG reads `high` (R450). -/
def State.pgChange (s : State) (k : Fin 6) (high : Bool) : State :=
  let waited := s.sys.pgWait.any (fun w => w.1 == k.val)
  let fell := s.railOn k.val && s.railPg k.val && !high
  let s := s.wr F.SYS_PRAIL_STAT.PG (insertBits (s.rd F.SYS_PRAIL_STAT.PG) k.val 1 (boolNat high))
  if high then
    let s := { s with sys.pgWait := s.sys.pgWait.filter (fun w => w.1 != k.val) }
    if s.sys.rails = .waitPg k.val then
      if s.railDelay = 0 then s.sequenceFrom 7 (k.val + 1) else { s with sys.rails := .waitDelay k.val, sys.railAt := s.now }
    else s
  else if s.sys.rails = .fall k.val then s.offBelow 7 k.val
  else if fell && !waited then s.railFault k.val else s

/-- A rail's PG has not risen within PG_TO, and the following rails still switch on (R450); or it has not fallen within PG_TO of its
switching off, and the next lower rail follows (R449). -/
def State.pgTimeout (s : State) (k : Fin 6) : State :=
  if s.sys.rails = .fall k.val then (if s.sys.railAt + s.pgTime ≤ s.now then s.offBelow 7 k.val else s)
  else match s.sys.pgWait.find? (fun w => w.1 == k.val) with
    | some (_, since) =>
      if s.now < since + s.pgTime then s
      else
        let s := { s with sys.pgWait := s.sys.pgWait.filter (fun w => w.1 != k.val) }.railFault k.val
        if s.sys.rails = .waitPg k.val then s.sequenceFrom 7 (k.val + 1) else s
    | none => s

/-- DELAY after a rail's PG has passed (R449). -/
def State.delayExpiry (s : State) : State :=
  match s.sys.rails with
  | .waitDelay k => if s.sys.railAt + s.railDelay ≤ s.now then s.sequenceFrom 7 (k + 1) else s
  | _ => s

/-- A write of SYS_PRAIL_CFG queues the FLASH job that stores the values. -/
def State.writePrailCfg (s : State) (v : Nat) : State := ((s.store A.SYS_PRAIL_CFG v).wr F.SYS_PRAIL_CFG.STORED 0).queueFlash .prailCfg

/-- PRAIL_CFG_WRITE (R449). -/
def execPrailCfgWrite (value : Word) (s : State) : Host.Outcome State Fault Refusal := done (s.writePrailCfg value.toNat)

/-- The LED supply of quadrant q follows its glass (R494): in ACTIVE and DARK, once the rail sequence has run. -/
def State.ledRail (s : State) (was : Bool) (q : Quad) : State :=
  let k := q.val + 2
  if !(s.awake && s.sys.railsUp) || was == s.glassValid q.val then s
  else if s.glassValid q.val then (if bitsAt s.sys.used k 1 = 1 then s.switchOn k else s)
  else s.switchOff k

end Sys2Proof.Machine
end

