-- ==== Sys2Proof/Machine/Sense.lean ====
section
/-! DEFINITION. Sys2Proof/Machine/Sense.lean: sweep order, slot plans, readings and their classification, baselines, the
supply-current comparison and sense requests (06_subpixel_sensing.md). -/

namespace Sys2Proof.Machine

def State.sq (s : State) (q : Nat) : SnsQuad := nth s.sns.quads q
def State.setSq (s : State) (q : Nat) (x : SnsQuad) : State := { s with sns.quads := s.sns.quads.set q x }

/-! ### Units (R145, R148, R164) -/

/-- Unit u of the regular sweep: scan line and mux position. -/
def sweepUnit (u : Nat) : Nat × Nat := (u % 512, u / 512)

/-- Unit v of band b of a burst. -/
def burstUnit (b v : Nat) : Nat × Nat := (32 * b + v % 32, v / 32)

/-- The subpixel that ADC g of quadrant q measures on a scan line at mux position m, with its colour. -/
def State.measured (s : State) (q : Quad) (line m g : Nat) : Nat × Colour :=
  let (x, c) := s.outputDrives q (32 * g + m)
  (subK q x (s.rowOf q line) c, c)

def State.adcFailed (s : State) (q g : Nat) : Bool :=
  if g < 32 then bitsAt (s.rd (F.SNS_ADC_FAIL_LO.FAIL q)) g 1 == 1 else bitsAt (s.rd (F.SNS_ADC_FAIL_HI.FAIL q)) (g - 32) 1 == 1

/-- Sensing runs in quadrant q (R151). -/
def State.sensing (s : State) (q : Quad) : Bool :=
  s.scn.running && s.qClk q && s.on (F.SCN_EE_STAT.VALID q.val) && !nth s.scn.sigFailed q.val

/-- ITEST as it acts. -/
def State.itest (s : State) : Nat := clampNat 1 16 (s.frame F.SNS_CFG.ITEST)

/-- Quadrant q's baselines are valid at the present test current (R161). -/
def State.baseValid (s : State) (q : Quad) : Bool :=
  s.on (F.SNS_BASE_T.VALID q.val) && decide (s.rd (F.SNS_BASE_T.ITEST q.val) = s.itest)

/-- Tq: the quadrant's glass temperature or its substitute, in 0.1 °C. -/
def State.glassTemp (s : State) (q : Quad) : Int := s.teff (20 + q.val)

/-! ### Slot plans (R132, R149, R150, R152) -/

/-- Slot positions per blanking line: min(2, floor(t_line / 4.3 µs)). -/
def slotsPerLine (period blank : Nat) : Nat := min 2 (period / ((512 + blank) * 4300))

/-- Start of slot position p, in units of 1 ns / (512 + blank) from the opening of the first blanking line. -/
def slotStart (period blank per p : Nat) : Nat := p / per * period + (300 + 4300 * (p % per)) * (512 + blank)

/-- The positions a frame can use: a last one that leaves no 40 ns for the reload is not used. -/
def slotPositions (period blank : Nat) : Nat :=
  let per := slotsPerLine period blank
  if per = 0 then 0
  else
    let p := per * blank
    if slotStart period blank per (p - 1) + 4040 * (512 + blank) ≤ blank * period then p else p - 1

/-- The first position after `prev` that the token, at 40 ns a scan line, reaches in time. -/
def reachPos (period blank per prevPos prevLine line n : Nat) : Option Nat :=
  ((List.range n).drop (prevPos + 1)).find? (fun p =>
    Nat.ble (slotStart period blank per prevPos + (4000 + 40 * (line - prevLine)) * (512 + blank)) (slotStart period blank per p))

/-- Place sorted slots at positions; those that no position reaches are left over. -/
def placeSlots (period blank n : Nat) : Option (Nat × Nat) → List Slot → List Slot × List Slot
  | _, [] => ([], [])
  | none, x :: rest =>
    if n = 0 then ([], x :: rest)
    else
      let (a, b) := placeSlots period blank n (some (0, x.line)) rest
      ({ x with pos := 0 } :: a, b)
  | some (p, l), x :: rest =>
    match reachPos period blank (slotsPerLine period blank) p l x.line n with
    | some p2 =>
      let (a, b) := placeSlots period blank n (some (p2, x.line)) rest
      ({ x with pos := p2 } :: a, b)
    | none => ([], x :: rest)

def slotBefore (a b : Slot) : Bool := decide (a.line < b.line) || (decide (a.line = b.line) && decide (a.mux ≤ b.mux))

def insertSlot (x : Slot) : List Slot → List Slot
  | [] => [x]
  | y :: rest => if slotBefore x y then x :: y :: rest else y :: insertSlot x rest

/-- Slot positions a tuning run takes in each quadrant (R410). -/
def tuneSlots (parts : Nat) : Nat := 16 * bitsAt parts 0 1 + 256 * bitsAt parts 1 1 + 256 * bitsAt parts 2 1

/-- Positions the tuning run in progress still wants of quadrant q. -/
def State.tuneWants (s : State) (q : Nat) : Nat :=
  match s.tun.run with
  | some r => if (s.job jobTune).running then tuneSlots r.parts - nth r.slots q else 0
  | none => 0

def newSlot (use : SlotUse) (zero : Bool) (u : Nat × Nat) : Slot := ⟨0, u.1, u.2, use, zero⟩

/-- The next `n` units of the regular sweep from unit u. -/
def sweepSlots (u n : Nat) : List Slot := ((List.range n).filter (fun i => Nat.blt (u + i) 16384)).map (fun i => newSlot .sweep false (sweepUnit (u + i)))

/-- The unit that measures subpixel k. -/
def State.unitOf (s : State) (k : Nat) : Nat × Nat :=
  let q := subQuad k
  let x := if s.on (F.SCN_QCFG.COL_MIRROR q.val) then 511 - subX k else subX k
  let c := (subColour k).val
  let o := 3 * x + (if s.on (F.SCN_QCFG.SUBPX_ORDER q.val) then 2 - c else c)
  (s.rowOf q (subY k), o % 32)

/-- Units of the burst not yet planned. -/
def burstSlots (b : Option Burst) : List Slot :=
  match b with
  | none => []
  | some b => ((List.range 16384).drop b.done).map (fun i => newSlot .burst false (burstUnit (nth b.bands (i / 1024)) (i % 1024)))


/-- The quota of R152 for a frame of `period` ns, after `run` ticks of the sweep. -/
def quota (run done_ period : Nat) : Nat :=
  let r := 16384 - done_
  let f := (sec 59 - run) / ns period
  if f ≤ 1 then r else (r + f - 1) / f

def isSweep (x : Slot) : Bool := decide (x.use = .sweep)
def isConfirm (x : Slot) : Bool := match x.use with
  | .confirm _ _ => true
  | _ => false
def isBurst (x : Slot) : Bool := decide (x.use = .burst)
def isTuning (x : Slot) : Bool := decide (x.use = .tuning)
def requestSeq (x : Slot) : Option Nat := match x.use with
  | .request n => some n
  | _ => none

/-- Units of the requests for quadrant q, oldest request first, and of each those in `carry` first (R149, R150). -/
def State.requestSlots (s : State) (q : Nat) (carry : List Slot) : List Slot :=
  (s.sns.requests.filter (fun r => r.quad == q)).flatMap (fun r =>
    carry.filter (fun y => requestSeq y == some r.seq) ++ r.todo.map (fun u => newSlot (.request r.seq) false (u % 512, u / 512)))

/-- Candidates free to be confirmed in this plan, whose confirmation neither waits in `carry` nor has its result to come. -/
def State.confirmSlots (s : State) (x : SnsQuad) (carry : List Slot) : List Slot :=
  let under := carry ++ s.sns.inflight.map (·.slot)
  (x.cands.filter (fun c => c.wait == 0 && !under.any (fun y => y.use == .confirm c.k c.kind))).map
    (fun c => newSlot (.confirm c.k c.kind) (c.kind == 2) (s.unitOf c.k))

/-- The slots of a plan in the order of R149. `n` positions, `grant` of them for classes 4 to 6, quota `k`; each class takes
what earlier plans left over first; of the tuning run it takes what the run still wants (R410). -/
def State.chooseSlots (s : State) (q : Nat) (n grant k : Nat) (carry : List Slot) : List Slot :=
  let x := s.sq q
  let fresh := sweepSlots x.sweepNext (16384 - x.sweepNext)
  let sweep := carry.filter isSweep ++ fresh
  let one := (sweep.take k).take n
  let two := ((carry.filter isConfirm ++ s.confirmSlots x carry).take 8).take (n - one.length)
  let n2 := n - one.length - two.length
  let three := (carry.filter isBurst ++ burstSlots x.burst).take n2
  let g := min grant (n2 - three.length)
  let four := List.replicate (min g (s.tuneWants q)) (newSlot .tuning false (0, 0))
  let five := (s.requestSlots q carry).take (g - four.length)
  let six := (sweep.drop one.length).take (g - four.length - five.length)
  one ++ two ++ three ++ four ++ five ++ six

/-- Fix the plan of quadrant q for a frame of `period` ns with `blank` blanking lines (R150). -/
def State.planQuad (period blank : Nat) (q : Quad) (s : State) : State :=
  if !s.sensing q then s.setSq q.val { s.sq q.val with plan := [] , left := (s.sq q.val).plan ++ (s.sq q.val).left }
  else
    let x := s.sq q.val
    let carry := (x.plan ++ x.left).filter (fun y => !isTuning y)
    let n := slotPositions period blank
    let grant := if (s.job jobSense).running then n else 0
    let k := quota x.sweepRun (s.rd (F.SNS_QSTAT.SWEEP_POS q.val)) period
    let chosen := s.chooseSlots q.val n grant k carry
    let unused := carry.filter (fun y => !chosen.contains y)
    let (placed, over_) := placeSlots period blank n none (chosen.foldr insertSlot [])
    let news := fun (f : Slot → Bool) => (chosen.filter f).length - (carry.filter f).length
    let seqs := s.sns.requests.map (fun (r : SenseReq) =>
      if r.quad = q.val then
        let mine := fun (y : Slot) => requestSeq y == some r.seq
        { r with todo := r.todo.drop ((chosen.filter mine).length - (chosen.filter (fun y => mine y && carry.contains y)).length) }
      else r)
    let s := { s with sns.requests := seqs }
    let s := s.setSq q.val { x with
      plan := placed, left := unused ++ over_, sweepNext := x.sweepNext + news isSweep
      burst := x.burst.map (fun b => { b with done := b.done + news isBurst })
      cands := x.cands.map (fun (c : Candidate) => { c with wait := c.wait - 1 }) }
    (s.wrB (F.SNS_QSTAT.MANDATORY q.val) (decide (grant < k))).wrB (F.SNS_QSTAT.BURST q.val) x.burst.isSome

/-- The plans of all quadrants for a frame. -/
def State.planFrame (s : State) (period blank : Nat) : State :=
  let s := forQ (State.planQuad period blank) s
  { s with
    sns.inflight := s.sns.inflight.map (fun (r : SlotResult) => { r with age := r.age + 1 })
    sns.quads := s.sns.quads.map (fun (x : SnsQuad) =>
      { x with unjudged := x.unjudged.map (fun (u : Unjudged) => { u with age := u.age + 1 }) }) }

/-! ### Measuring (R146, R147) -/

def resultAddr (k : Nat) : Nat := 0x0E000000 + 2 * k
def baseAddr (k : Nat) : Nat := 0x0E800000 + 2 * k

/-- A baseline; none where the array holds 0xFFFF or the baselines are not valid. -/
def State.baseline (s : State) (k : Nat) : Option Nat :=
  let v := s.readLE (baseAddr k) 2
  if s.baseValid (subQuad k) && v != 0xFFFF then some v else none

/-- The last reading of a subpixel. -/
def State.lastReading (s : State) (k : Nat) : Option Nat :=
  let v := s.readLE (resultAddr k) 2
  if v = 0xFFFF then none else some v

/-- The precharge level of a measured output, in 0.1 mV. -/
def State.precharge (s : State) (zero : Bool) (k : Nat) : Nat :=
  if zero then 3000 else ((s.lastReading k).or (s.baseline k)).getD 25000

def wordCorr (w : Nat) : Correction := ⟨signed 16 (w / 65536), signed 16 w⟩

/-- The correction of ADC g of quadrant q (R408). -/
def State.adcCorrection (s : State) (q g : Nat) : Correction := wordCorr (s.reg (A.TUN_ADC q g)).toNat

/-- A raw 12-bit code by its ADC's correction, to the nearest 0.1 mV and not below zero (DESIGN CHOICE, notes/assumptions/94.md). -/
def corrected (c : Correction) (r : Nat) : Nat := (roundDivInt ((r : Int) * 56000 * (65536 + c.gain)) (4096 * 65536) + c.offset).toNat

/-- What the 48 ADCs of quadrant q make of their raw codes. -/
def State.sample (s : State) (q : Nat) (raw : List (BitVec 12)) : List Nat :=
  (List.range 48).map (fun g => corrected (s.adcCorrection q g) (nth raw g).toNat)

/-- All units of quadrant q's regular sweep are measured: the next begins, and what has still to come of this one is counted
(R148, R152). -/
def State.sweepEnd (s : State) (q : Quad) : State :=
  let x := s.sq q.val
  let tens := min 0xFFFF (x.sweepRun / ms 10)
  let tail := (s.sns.inflight.filter (fun r => r.quad == q.val && isSweep r.slot)).length
  let s := s.setSq q.val { x with sweepRun := 0, sweepNext := 0, overdue := false, sweepTail := tail }
  ((s.wr (F.SNS_QSTAT.SWEEP_POS q.val) 0).wr F.SNS_SWEEP.LAST tens).wr F.SNS_SWEEP.MAX (max (s.rd F.SNS_SWEEP.MAX) tens)

/-- A unit of the regular sweep has been measured. -/
def State.sweepStep (s : State) (q : Quad) : State :=
  let n := s.rd (F.SNS_QSTAT.SWEEP_POS q.val) + 1
  if 16384 ≤ n then s.sweepEnd q else s.wr (F.SNS_QSTAT.SWEEP_POS q.val) n

/-- The arrays of R160 are read for the precharge level of subpixel k, the baseline where there is no last reading (R147, R200). -/
def State.touchReading (s : State) (k : Nat) : State :=
  let t := s.touchDram (resultAddr k)
  if (s.lastReading k).isSome then t else t.touchDram (baseAddr k)

/-- A unit is measured: its result is on its way. -/
def State.measure (s : State) (q : Quad) (slot : Slot) (raw1 raw2 : List (BitVec 12)) : State :=
  let ks := (List.range 48).map (fun g => (s.measured q slot.line slot.mux g).1)
  let pre := ks.map (s.precharge slot.zero)
  let s := if slot.zero then s else ks.foldl State.touchReading s
  let s := { s with sns.inflight := s.sns.inflight ++ [⟨q.val, slot, 0, pre, s.sample q.val raw1, s.sample q.val raw2⟩] }
  if isSweep slot then s.sweepStep q else s

/-- A slot position given to tuning is used (R410). -/
def State.tuneSlot (s : State) (q : Quad) : State :=
  { s with tun.run := s.tun.run.map (fun (r : TuneRun) => { r with slots := modAt r.slots q.val (· + 1) }) }

/-- SENSE_SLOT (R146): quadrant q measures the next unit of its plan; `raw1` and `raw2` are the 12-bit conversions of its ADCs at the
two samples. Where sensing has stopped nothing is measured (R151). -/
def execSenseSlot (t : Nat) (q : Quad) (raw1 raw2 : List (BitVec 12)) (s : State) : Host.Outcome State Fault Refusal :=
  let s := s.advance t
  let x := s.sq q.val
  match s.sensing q, x.plan with
  | true, slot :: rest =>
    let s := s.setSq q.val { x with plan := rest }
    done (if slot.use = .tuning then s.tuneSlot q else s.measure q slot raw1 raw2)
  | _, _ => done s

/-! ### Readings (R156, R157, R160) -/

/-- V2t of R156 for a reading taken at the glass temperature `tq`, rounded to 0.1 mV (DESIGN CHOICE, notes/assumptions/33.md). -/
def State.tempCorrected (s : State) (k v2 : Nat) (tq : Int) : Int :=
  let q := subQuad k
  let tb : Int := if s.baseValid q then signed 16 (s.rd (F.SNS_BASE_T.TREF q.val)) else 250
  (v2 : Int) - roundDivInt (signed 16 (s.rd (F.SNS_TC.TC (subColour k).val)) * (tq - tb)) 100

/-- The reference of a subpixel. -/
def State.refOf (s : State) (k : Nat) : Option Int :=
  match s.baseline k with
  | some b => some b
  | none => nth (s.sq (subQuad k).val).median (subColour k).val

/-- The kind of a reading (R157): 0 OPEN, 1 SHORT, 2 STUCK_ON, 3 DIM, 4 WEAK, 6 NORMAL. -/
def State.classify (s : State) (k v1 v2 : Nat) (v2t ref : Int) : Nat :=
  if (s.rd F.SNS_CFG.OPEN_DV * 10 : Int) ≤ (v2 : Int) - v1 ∨ s.rd F.SNS_THR_V.OPEN_V * 10 ≤ v2 then 0
  else if v2 < s.rd F.SNS_THR_V.SHORT_V * 10 then 1
  else if (s.rd F.SNS_THR_D.STUCK_DV * 10 : Int) ≤ v2t - ref then 2
  else if v2t - ref ≤ -(s.rd F.SNS_THR_D.DIM_DV * 10 : Int) then 3
  else match s.baseline k with
    | some b => if (s.rd F.SNS_THR_S.WEAK_DV : Int) ≤ v2t - b - s.predDrift k then 4 else 6
    | none => 6

def actionFor (s : State) (kind : Nat) : Nat :=
  if kind = 0 then s.rd F.CMP_DEF_CFG.ACT_OPEN
  else if kind = 1 then s.rd F.CMP_DEF_CFG.ACT_SHORT
  else if kind = 2 then s.rd F.CMP_DEF_CFG.ACT_STUCK
  else if kind = 3 then s.rd F.CMP_DEF_CFG.ACT_DIM
  else s.rd F.CMP_DEF_CFG.ACT_WEAK

/-- A candidate is added, if the quadrant has room and does not hold the subpixel already (R158). -/
def State.addCandidate (s : State) (k kind wait : Nat) : State :=
  let q := (subQuad k).val
  let x := s.sq q
  if x.cands.any (fun c => c.k == k) then s
  else if 64 ≤ x.cands.length then s.bump F.SNS_CNT.DROPPED
  else s.setSq q { x with cands := x.cands ++ [⟨k, kind, wait⟩] }

def State.dropCandidate (s : State) (k : Nat) : State :=
  let q := (subQuad k).val
  s.setSq q { s.sq q with cands := (s.sq q).cands.filter (fun c => c.k != k) }

/-- A kind is confirmed (R159): it counts, raises fault 0x60, and is entered with AUTO set (R97). -/
def State.confirmKind (s : State) (k kind : Nat) : State :=
  let q := subQuad k
  let s := ((s.dropCandidate k).bump F.SNS_CNT.CONFIRMED).faultQ 0x60 0 q
  let x := s.sq q.val
  let s := s.setSq q.val { x with burst := x.burst.map (fun (b : Burst) => { b with confirmed := true }) }
  if s.on F.CMP_DEF_CFG.AUTO then s.autoEntry k kind (actionFor s kind) 1 else s

/-- Subpixel k is a candidate of that kind. -/
def State.stands (s : State) (k kind : Nat) : Bool := (s.sq (subQuad k).val).cands.any (fun c => c.k == k && c.kind == kind)

/-- The repeat reading of a candidate gives `kind` (R158). -/
def State.judgeRepeat (s : State) (k was kind wait : Nat) : State :=
  if kind = was then s.confirmKind k was
  else
    let s := (s.dropCandidate k).bump F.SNS_CNT.DROPPED
    if kind = 6 then s else s.addCandidate k kind wait

/-- A reading at the test current is classified (R157, R158). -/
def State.judgeReading (s : State) (use : SlotUse) (wait k v1 v2 : Nat) (v2t ref : Int) : State :=
  let kind := s.classify k v1 v2 v2t ref
  let s := { s with sns.kinds := Sparse.put (fun _ => 6) s.sns.kinds k kind }
  let plain := if kind = 6 then s else s.addCandidate k kind wait
  match use with
  | .confirm k2 was => if k2 = k ∧ s.stands k was then s.judgeRepeat k was kind wait else plain
  | _ => plain

/-- One ADC's reading at the test current: the result array, the sweep's values, and its class, at once or when a reference
exists (R156, R160). -/
def State.takeReading (r : SlotResult) (s : State) (g : Nat) : State :=
  let q := quadOf r.quad
  if s.adcFailed q.val g then s
  else
    let k := (s.measured q r.slot.line r.slot.mux g).1
    let v1 := nth r.v1 g
    let v2 := nth r.v2 g
    let tq := s.glassTemp q
    let s := ((s.touchDram (resultAddr k)).writeLE (resultAddr k) 2 (min 0xFFFE v2)).touchDram (baseAddr k)
    let x := s.sq q.val
    let s := if isSweep r.slot then s.setSq q.val { x with sweepV := (k, v2, tq) :: x.sweepV } else s
    match s.refOf k with
    | some ref => s.judgeReading r.slot.use (1 - r.age) k v1 v2 (s.tempCorrected k v2 tq) ref
    | none =>
      let x := s.sq q.val
      s.setSq q.val { x with unjudged := x.unjudged ++ [⟨k, v1, v2, tq, r.age⟩] }

/-- The zero-current confirmation of a STUCK_ON candidate; one below STUCK_V0, or of an ADC that has failed since, drops the candidate
and counts in DROPPED (R158; DESIGN CHOICE, notes/assumptions/125.md). -/
def State.takeZero (s : State) (r : SlotResult) (k : Nat) : State :=
  let q := quadOf r.quad
  if !s.stands k 2 then s
  else match (List.range 48).find? (fun g => !s.adcFailed q.val g && (s.measured q r.slot.line r.slot.mux g).1 == k) with
  | some g =>
    if s.rd F.SNS_THR_S.STUCK_V0 * 10 ≤ nth r.v2 g then s.confirmKind k 2
    else (s.dropCandidate k).bump F.SNS_CNT.DROPPED
  | none => (s.dropCandidate k).bump F.SNS_CNT.DROPPED

/-- Readings that waited for a reference are judged once one exists; a candidate's confirmation keeps its two frames from the reading
(R156, R158). -/
def State.judgeWaiting (s : State) (q : Nat) : State :=
  let l := (s.sq q).unjudged
  let s := s.setSq q { s.sq q with unjudged := l.filter (fun u => (s.refOf u.k).isNone) }
  l.foldl (fun s u =>
    match s.refOf u.k with
    | some ref => s.judgeReading .sweep (1 - u.age) u.k u.v1 u.v2 (s.tempCorrected u.k u.v2 u.tq) ref
    | none => s) s

/-! ### Sweep completion and cross-check (R92, R148, R162) -/

/-- m of R92 for a quadrant and colour, over the sweep just completed. -/
def State.driftMedian (s : State) (q : Quad) (c : Colour) : Option Int :=
  medianOf ((s.sq q.val).sweepV.filterMap (fun e =>
    let kind := Sparse.get (fun _ => 6) s.sns.kinds e.1
    if subColour e.1 = c ∧ s.inMedian s.cmp.base e.1 ∧ (kind = 6 ∨ kind = 4) then
      (s.baseline e.1).map (fun b => (s.tempCorrected e.1 e.2.1 e.2.2 - (b : Int) - s.predDrift e.1, 1))
    else none))

/-- The cross-check of one quadrant and colour. A sweep that gives no m changes neither κ nor the count of sweeps in a row (R92; DESIGN
CHOICE, notes/assumptions/126.md). -/
def State.crossCheck (s : State) (q : Quad) (c : Colour) : State :=
  if (nth s.cmp.base.drift c.val).all (· == 0) then s
  else match s.driftMedian q c with
    | none => s
    | some m =>
      let band : Int := s.rd F.CMP_AGE_CHK.DEADBAND
      let k := s.kappa q c
      let k2 := clampInt (-2048) 2048 (if band < m then k + 1 else if m < -band then k - 1 else k)
      let n := if (s.rd F.CMP_AGE_CHK.LIMIT : Int) < m.natAbs then nth s.cmp.chkFails (qc q c) + 1 else 0
      let s := s.wr (F.CMP_AGE.KAPPA q.val c.val) (unsigned 13 k2)
      let s := { s with cmp.chkFails := s.cmp.chkFails.set (qc q c) n }
      if 8 ≤ n ∨ k2.natAbs = 2048 then s.faultQ 0x56 2 q else s

/-- All results of quadrant q's completed sweep have arrived: cross-check, medians, and the readings that waited. -/
def State.sweepDone (s : State) (q : Quad) : State :=
  let s := s.touchSpan (baseAddr (786432 * q.val)) 0x180000
  let s := if s.on F.CMP_AGE_CFG.TRACK then [0, 1, 2].foldl (fun s i => s.crossCheck q (subColour i)) s else s
  let x := s.sq q.val
  let med := (List.range 3).map (fun c =>
    medianOf ((x.sweepV.filter (fun e => (subColour e.1).val == c)).map (fun e => (s.tempCorrected e.1 e.2.1 e.2.2, 1))))
  (s.setSq q.val { x with sweepV := [], median := med }).judgeWaiting q.val

/-- A result of the regular sweep has arrived. -/
def State.sweepArrived (s : State) (q : Quad) : State :=
  let x := s.sq q.val
  let s := s.setSq q.val { x with sweepTail := x.sweepTail - 1 }
  if x.sweepTail = 1 then s.sweepDone q else s

/-! ### Bursts and requests (R161, R164, R167) -/

/-- Slots of quadrant q on their way: planned, left over or measured and not yet judged. -/
def State.outstanding (s : State) (q : Nat) (f : Slot → Bool) : Bool :=
  (s.sq q).plan.any f || (s.sq q).left.any f || s.sns.inflight.any (fun r => r.quad == q && f r.slot)

/-- A burst whose units are all measured ends (R164, R165). -/
def State.endBurst (s : State) (q : Quad) : State :=
  let x := s.sq q.val
  match x.burst with
  | some b =>
    if 16384 ≤ b.done ∧ !s.outstanding q.val isBurst then
      (s.setSq q.val { x with burst := none, unproductive := !b.confirmed, trigRun := if b.confirmed then x.trigRun else 0 }).wr
        (F.SNS_QSTAT.BURST q.val) 0
    else s
  | none => s

def allUnits : List Nat := List.range 16384

/-- The new baselines of a BASELINE request stand (R161). -/
def State.setBaselines (s : State) (q : Quad) : State :=
  let s := s.sns.baseNew.foldl (fun s e => (s.touchDram (baseAddr e.1)).writeLE (baseAddr e.1) 2 (min 0xFFFE e.2)) s
  let tref := if s.sns.tqCount = 0 then s.glassTemp q else roundDivInt s.sns.tqSum s.sns.tqCount
  let s := ((s.wr (F.SNS_BASE_T.VALID q.val) 1).wr (F.SNS_BASE_T.ITEST q.val) s.itest).wr (F.SNS_BASE_T.TREF q.val) (unsigned 16 tref)
  (({ s with sns.baseNew := [], sns.tqSum := 0, sns.tqCount := 0 } : State).queueBaselines).judgeWaiting q.val

/-- A slot measures for a request of `l`. -/
def servesAny (l : List SenseReq) (y : Slot) : Bool := l.any (fun r => requestSeq y == some r.seq)

/-- Where sensing has stopped, the requests that wait measure no more, and a BASELINE under way keeps nothing (R151, R167). -/
def State.dropStopped (s : State) : State :=
  let off := fun (r : SenseReq) => !r.dropped && !s.sensing (quadOf r.quad)
  let gone := s.sns.requests.filter off
  let keep := fun (y : Slot) => !servesAny gone y
  let s := if gone.any (fun r => decide (r.pass = 1)) then { s with sns.baseNew := [], sns.tqSum := 0, sns.tqCount := 0 } else s
  { s with
    sns.requests := s.sns.requests.map (fun (r : SenseReq) => if off r then { r with dropped := true, todo := [] } else r)
    sns.quads := s.sns.quads.map (fun (x : SnsQuad) => { x with plan := x.plan.filter keep, left := x.left.filter keep }) }

/-- Complete requests at the head of the queue that have nothing left to measure, in sequence order (R167). -/
def State.finishRequests : Nat → State → State
  | 0, s => s
  | n + 1, s =>
    match s.sns.requests with
    | [] => s
    | r :: rest =>
      let q := quadOf r.quad
      let gone := fun (s : State) => ({ s with sns.requests := rest } : State).wr F.SNS_REQ.DONE_SEQ (r.seq % 65536)
      if r.dropped then (gone s).finishRequests n
      else if !r.todo.isEmpty || s.outstanding q.val (fun y => requestSeq y == some r.seq) then s
      else if r.mode = 2 ∧ r.pass = 0 then { s with sns.requests := { r with pass := 1, todo := allUnits } :: rest }
      else if r.mode = 2 then (gone (s.setBaselines q)).finishRequests n
      else (gone s).finishRequests n

/-- The requests after a result, a new request, or a stop of sensing. One whose quadrant has stopped completes with no measurement
when those before it have completed (DESIGN CHOICE, notes/assumptions/93.md). -/
def State.settleRequests (s : State) : State := s.dropStopped.finishRequests s.sns.requests.length

/-- A reading of the second pass of a BASELINE is kept. -/
def State.keepBaseline (s : State) (r : SlotResult) : State :=
  match requestSeq r.slot with
  | none => s
  | some n =>
    if s.sns.requests.any (fun x => x.seq == n && x.mode == 2 && x.pass == 1) then
      let q := quadOf r.quad
      let new := ((List.range 48).filter (fun g => !s.adcFailed q.val g)).map (fun g => ((s.measured q r.slot.line r.slot.mux g).1, nth r.v2 g))
      { s with sns.baseNew := new ++ s.sns.baseNew, sns.tqSum := s.sns.tqSum + s.glassTemp q, sns.tqCount := s.sns.tqCount + 1 }
    else s

/-- SENSE_RESULT (R157): the oldest measured unit reaches the result array. -/
def execSenseResult (t : Nat) (s : State) : Host.Outcome State Fault Refusal :=
  let s := s.advance t
  match s.sns.inflight with
  | [] => done s
  | r :: rest =>
    let q := quadOf r.quad
    let s := { s with sns.inflight := rest }
    let s := match r.slot.use, r.slot.zero with
      | .confirm k _, true => s.takeZero r k
      | _, _ => (List.range 48).foldl (State.takeReading r) s
    let s := s.keepBaseline r
    let s := if isSweep r.slot then s.sweepArrived q else s
    done (s.endBurst q).settleRequests

/-- Running time of quadrant q's sweep, in ticks (R152). -/
def State.sweepAge (s : State) (q : Quad) : Nat := (s.sq q.val).sweepRun

/-- SWEEP_DEADLINE (R153). -/
def execSweepDeadline (q : Quad) (s : State) : Host.Outcome State Fault Refusal :=
  let x := s.sq q.val
  if s.sensing q && !x.overdue && Nat.ble (sec 60) (s.sweepAge q) then
    done ((s.setSq q.val { x with overdue := true }).faultQ 0x61 3 q)
  else done s

/-! ### Supply current (R163 to R165, R487) -/

def irowAt (l : List (Nat × Nat)) (q n : Nat) : Nat := Sparse.get (fun _ => 0) l (q * 512 + n)

/-- Ipred of the last frame in units of 10^-8 A / 65,536² / (512 + blank). -/
def State.ipredFrame (s : State) (q : Nat) : Nat :=
  let d := 512 + s.scn.prevBlank
  ((List.range 512).map (fun n => (d - n) * irowAt s.gov.irowPrev q n + n * irowAt s.gov.irowOld q n)).sum

/-- The bands of a burst, by the sum of Irow of the last frame: descending for missing current, ascending for excess; equal sums
take the lower band first. -/
def State.burstBands (s : State) (q : Nat) (missing : Bool) : List Nat :=
  let sum := fun (b : Nat) => ((List.range 32).map (fun i => irowAt s.gov.irowPrev q (32 * b + i))).sum
  let before := fun (a b : Nat) => if missing then Nat.blt (sum b) (sum a) else Nat.blt (sum a) (sum b)
  let ins := fun (b : Nat) (l : List Nat) => l.takeWhile (fun a => !before b a) ++ [b] ++ l.dropWhile (fun a => !before b a)
  (List.range 16).foldl (fun l b => ins b l) []

/-- The trigger condition held or did not hold in a frame (R164, R165). -/
def State.judgeSupply (s : State) (q : Quad) (hit missing : Bool) : State :=
  let n := max 1 (s.rd F.SNS_ISNS_CFG.PERSIST)
  let x := s.sq q.val
  if hit then
    let s := s.faultQ 0x62 0 q
    let x := { x with trigRun := x.trigRun + 1, clearRun := 0 }
    let fail := x.unproductive && decide (n ≤ x.trigRun) && !x.blocked
    let x := { x with blocked := x.blocked || fail }
    let x := if x.burst.isNone && !x.blocked then { x with burst := some ⟨s.burstBands q.val missing, 0, false⟩ } else x
    let s := s.setSq q.val x
    if fail then s.faultQ 0x63 2 q else s
  else
    let x := { x with trigRun := 0, clearRun := x.clearRun + 1 }
    s.setSq q.val (if n ≤ x.clearRun then { x with blocked := false, unproductive := false } else x)

/-- ISNS_COMPARE_DONE (R163): the mean shunt voltage of the last frame is `nV` nanovolts, or the input was saturated (R487). -/
def execIsnsCompareDone (q : Quad) (nV : Nat) (saturated : Bool) (s : State) : Host.Outcome State Fault Refusal :=
  if !(s.on F.SNS_ISNS_CFG.EN && s.scn.running) then done s
  else
    let shunt : Nat := max 1 (s.rd F.SNS_ISNS_SHUNT.SHUNT)
    let k : Nat := (512 + s.scn.prevBlank) * 10 ^ 4 * 65536 * 65536
    let p : Nat := s.ipredFrame q.val
    let eps : Int := (nV : Int) * k - (p : Int) * shunt
    let s := s.wr (F.SNS_ISNS_Q.RESID q.val) (unsigned 16 (clampInt (-32768) 32767 (roundDivInt eps (shunt * k))))
    let s := s.wr (F.SNS_ISNS_Q.MEAS q.val) (if saturated then 0xFFFF else min 0xFFFF (nV / (10 * shunt)))
    let hit := s.rd F.SNS_ISNS_CFG.ABS * shunt * k ≤ eps.natAbs ∧ s.rd F.SNS_ISNS_CFG.REL * p * shunt ≤ 1000 * eps.natAbs
    done (s.judgeSupply q hit (decide (eps < 0)))

/-! ### Sense requests (R166, R167, R290) -/

/-- The units of a rectangle: scan lines that hold rows y0 to y1, mux positions that serve an output of columns x0 to x1. -/
def State.rectUnits (s : State) (q : Quad) (x0 y0 x1 y1 : Nat) : List Nat :=
  let cols := if s.on (F.SCN_QCFG.COL_MIRROR q.val) then (511 - x1, 511 - x0) else (x0, x1)
  let muxes := (List.range 32).filter (fun m => (List.range 48).any (fun g =>
    Nat.ble (3 * cols.1) (32 * g + m) && Nat.ble (32 * g + m) (3 * cols.2 + 2)))
  allUnits.filter (fun u => let y := s.rowOf q (u % 512); Nat.ble y0 y && Nat.ble y y1 && muxes.contains (u / 512))

/-- The tests in the order of R284, then the queue (R167). -/
def senseRequestBody (r : Request) : State → State × Verdict :=
  fun s =>
    let q := pByte r 0
    let mode := pByte r 1
    let x0 := pHalf r 4
    let y0 := pHalf r 6
    let x1 := pHalf r 8
    let y1 := pHalf r 10
    if mode = 2 ∧ s.lifecycle = 2 then answer (.denied 1) s
    else if r.payload.length ≠ 12 then answer (.range 10) s
    else if 3 < q then answer (.range 16) s
    else if 2 < mode then answer (.range 17) s
    else if 1 < pByte r 2 then answer (.range 18) s
    else if pByte r 3 ≠ 0 then answer (.range 19) s
    else if 511 < x0 then answer (.range 20) s
    else if 511 < y0 then answer (.range 22) s
    else if 511 < x1 ∨ x1 < x0 then answer (.range 24) s
    else if 511 < y1 ∨ y1 < y0 then answer (.range 26) s
    else if 256 ≤ s.sns.requests.length then answer (.busy 0) s
    else
      let n := s.sns.nextSeq
      let todo := if mode = 0 then s.rectUnits (quadOf q) x0 y0 x1 y1 else allUnits
      let req : SenseReq := ⟨n, q, mode, x0, y0, x1, y1, pByte r 2 == 1, todo, 0, false⟩
      let s := { s with sns.requests := s.sns.requests ++ [req], sns.nextSeq := (n + 1) % 65536 }
      (s.settleRequests, .answer (.ok (leBytes 4 n)))

/-- SENSE_REQUEST (R167). -/
def execSenseRequest (r : Request) (s : State) : Host.Outcome State Fault Refusal :=
  done (command 0x48 r (senseRequestBody r) s)

/-- Entry into STANDBY or SLEEP is refused for sensing's sake (R168). -/
def State.senseHolds (s : State) : Bool :=
  s.sns.quads.any (fun x => !x.cands.isEmpty) || s.sns.requests.any (fun r => r.hold)

end Sys2Proof.Machine
end

