-- ==== Sys2Proof/Machine/Tune.lean ====
section
/-! DEFINITION. Sys2Proof/Machine/Tune.lean: the reference monitor, tuning runs, their judgement and their slides
(18_tuning.md). -/

namespace Sys2Proof.Machine

/-! ### Corrections in force (R408)

Converters are numbered: ADC q × 48 + g, output 192 + q × 1,536 + o, ramp 6,336 + q × 2 + h. -/

def converters : List Nat := List.range 6344
def converterQuad (i : Nat) : Quad := quadOf (if i < 192 then i / 48 else if i < 6336 then (i - 192) / 1536 else (i - 6336) / 2)

/-- The part of a run that measures converter i. -/
def converterPart (i : Nat) : Nat := if i < 192 then 0 else if i < 6336 then 1 else 2

def outputAddr (i : Nat) : Nat := 0x0F000000 + 4 * (i - 192)

def corrWord (c : Correction) : Nat := unsigned 16 c.gain * 65536 + unsigned 16 c.offset

def State.correction (s : State) (i : Nat) : Correction :=
  if i < 192 then s.adcCorrection (i / 48) (i % 48)
  else if i < 6336 then wordCorr (s.readLE (outputAddr i) 4)
  else wordCorr (s.reg (A.TUN_RAMP ((i - 6336) / 2) (i % 2))).toNat

def State.setCorrection (s : State) (i : Nat) (c : Correction) : State :=
  if i < 192 then s.setReg (A.TUN_ADC (i / 48) (i % 48)) (BitVec.ofNat 32 (corrWord c))
  else if i < 6336 then (s.touchDram (outputAddr i)).writeLE (outputAddr i) 4 (corrWord c)
  else if i < 6344 then s.setReg (A.TUN_RAMP ((i - 6336) / 2) (i % 2)) (BitVec.ofNat 32 (corrWord c))
  else s

def State.setCorrections (s : State) (l : Corrections) : State := l.foldl (fun s e => s.setCorrection e.1 e.2) s

/-- The corrections in force, those that are not zero. -/
def State.corrections (s : State) : Corrections :=
  (converters.map (fun i => (i, s.correction i))).filter (fun e => e.2 != {})

/-! ### Results (R410, R412)

The result of a converter, or none when a limit is passed. `prev` gives the previous values against which a change is limited;
there is none in a start run. -/

def changeOk (prev : Option Correction) (c : Correction) (off offDen gain gainDen : Nat) : Bool :=
  match prev with
  | none => true
  | some p => decide ((c.offset - p.offset).natAbs * offDen ≤ off) && decide ((c.gain - p.gain).natAbs * gainDen ≤ gain)

/-- An ADC from the sums of 64 raw codes of taps T1, T3 and T5: least squares of the taps in mV over the sums. -/
def adcResult (prev : Option Correction) (m : AdcMeasure) : Option Correction :=
  let x1 : Int := m.t1
  let x3 : Int := m.t3
  let x5 : Int := m.t5
  let sx := x1 + x3 + x5
  let sy : Int := 7500
  let d := 3 * (x1 * x1 + x3 * x3 + x5 * x5) - sx * sx
  let n := 3 * (625 * x1 + 1875 * x3 + 5000 * x5) - sx * sy
  if d ≤ 0 then none
  else
    let c : Correction := ⟨roundDivInt ((n * 8192 - 175 * d) * 65536) (175 * d).toNat, roundDivInt (10 * (sy * d - n * sx)) (3 * d).toNat⟩
    if (3 * n * x3 + sy * d - n * sx - 5625 * d).natAbs ≤ (6 * d).natAbs ∧ c.offset.natAbs ≤ 200 ∧ c.gain.natAbs * 50 ≤ 65536
        ∧ changeOk prev c 50 1 65536 200 then some c
    else none

/-- The sum of 16 raw codes by their ADC's correction, in 0.1 mV / 2^28 (R408). -/
def correctedSum (c : Correction) (sum : Nat) : Int := (sum : Int) * 56000 * (65536 + c.gain) + 16 * c.offset * 2 ^ 28

/-- A source output from the sums of 16 raw codes at the codes 25,206 and 236,937, `adc` the correction of the ADC that reads it. -/
def outResult (prev : Option Correction) (adc : Correction) (m : OutMeasure) : Option Correction :=
  let l := (correctedSum adc m.low - 48000 * 2 ^ 28) * 262143
  let g := (correctedSum adc m.high - 48000 * 2 ^ 28) * 262143 - l
  let full : Int := 832000 * 211731 * 2 ^ 28
  if g ≤ 0 then none
  else
    let o := l * 211731 - g * 25206
    let c : Correction := ⟨roundDivInt ((full - g) * 262144) g.toNat, roundDivInt (-o) g.toNat⟩
    if o.natAbs * 5200 ≤ 30 * 262143 * full.natAbs ∧ (g - full).natAbs * 1000 ≤ 15 * full.natAbs
        ∧ changeOk prev c (10 * 262143) 5200 (3 * 262144) 1000 then some c
    else none

/-- A ramp from the sums of 32 codes at its eight levels, against the codes of the threshold voltages between `lo` and `hi` mV; a
20-bit code spans 5,200 mV (PRESUMED, notes/assumptions/34.md). -/
def rampResult (lo hi : Nat) (prev : Option Correction) (m : RampMeasure) : Option Correction :=
  let xs : List Int := (List.range 8).map (fun i => (16 * (lo : Int) + ((hi : Int) - lo) * (2 * i + 1) - 4800) * 1048575)
  let ys : List Int := (List.range 8).map (fun i => (nth m.sums i : Int))
  let sx := xs.sum
  let sy := ys.sum
  let sxx := (xs.map (fun x => x * x)).sum
  let sxy := ((xs.zip ys).map (fun p => p.1 * p.2)).sum
  let d := 8 * sxx - sx * sx
  let n := 8 * sxy - sx * sy
  if d ≤ 0 then none
  else
    let c : Correction := ⟨roundDivInt ((2600 * n - d) * 1048576) d.toNat, roundDivInt (sy * d - n * sx) (256 * d).toNat⟩
    let fits := (xs.zip ys).all (fun p => decide ((8 * p.2 * d - (8 * n * p.1 + sy * d - n * sx)).natAbs * 26000 ≤ 1048575 * 256 * d.natAbs))
    if fits ∧ c.offset.natAbs * 5200 ≤ 5 * 1048575 ∧ c.gain.natAbs * 200 ≤ 1048576
        ∧ changeOk prev c 1048575 5200 1048576 1000 then some c
    else none

/-- Results of every converter that a run's measurements list, by converter. -/
def State.tuneResults (s : State) (start : Bool) (m : Measured) : List (Nat × Option Correction) :=
  let prev := fun i => if start then none else some (s.correction i)
  m.adcs.map (fun x => (x.adc % 192, adcResult (prev (x.adc % 192)) x))
    ++ m.outs.map (fun x => (192 + x.out % 6144, outResult (prev (192 + x.out % 6144)) (s.adcCorrection (x.out % 6144 / 1536) (x.out % 1536 / 32)) x))
    ++ m.ramps.map (fun x =>
      let g := nth s.scn.records (x.ramp % 8 / 2)
      (6336 + x.ramp % 8, rampResult g.vthLo g.vthHi (prev (6336 + x.ramp % 8)) x))

/-- The doubler of source die q has been checked, and is within 0.02 % (R406, R412). -/
def doublerOk (m : Measured) (q : Quad) : Bool := (m.doublers[q.val]?).any (fun v => decide (((v.1 : Int) - v.2).natAbs * 5000 ≤ v.2))

/-- The doubler check passes on every source die of a run that `runs` does not skip. -/
def doublersOk (m : Measured) (runs : Quad → Bool) : Bool := quads.all (fun q => !runs q || doublerOk m q)

/-! ### Runs (R413 to R418) -/

def State.refValid (s : State) : Bool := s.on F.TUN_REF.VALID

/-- Time in ACTIVE or DARK since power-on. -/
def State.awakeTicks (s : State) : Nat := nth s.pwr.timeIn 0 + nth s.pwr.timeIn 1

/-- The source-die junction sensors JqA and JqB, in 0.1 °C. -/
def State.junctionTemps (s : State) : List Int := (List.range 8).map (fun i => s.teff (8 + i))

/-- A run of `parts` begins: due as the TUNE job, and in progress until it has been judged or has failed (R416, R417; DESIGN CHOICE,
notes/assumptions/127.md). -/
def State.beginRun (s : State) (parts : Nat) (place : Option (Nat × Nat)) : State :=
  ({ s with tun.run := some { parts := parts, place := place } } : State).jobDue jobTune

/-- The run that waits starts (R416). -/
def State.nextRun (s : State) : State :=
  match s.tun.waiting with
  | some p => if s.awake && s.refValid then ({ s with tun.waiting := none } : State).beginRun p none else s
  | none => s

/-- The run in progress is over, and what the plans still hold of it; a command that asked for it is answered (R417). -/
def State.closeRun (s : State) (a : Answer) : State :=
  let place := s.tun.run.bind (·.place)
  let quiet := s.sns.quads.map (fun (x : SnsQuad) => { x with plan := x.plan.filter (fun y => !isTuning y) })
  let s := ({ s with tun.run := none, sns.quads := quiet } : State).jobEnd jobTune
  match place with
  | some (src, tag) => s.complete src tag a
  | none => s

/-- The run in progress fails: result 3 for the reference, 4 otherwise (R413). A command that asked for it is answered NOT_READY, as it is
while the reference is invalid and outside ACTIVE and DARK (R417; for the doubler check DESIGN CHOICE, notes/assumptions/128.md). -/
def State.failRun (s : State) (result : Nat) : State :=
  if s.tun.run.isNone then s
  else (((s.wr F.TUN_STAT.LAST_RESULT result).bump F.TUN_CNT.FAILED).fault 0xBB 0).closeRun (.notReady 0x11)

/-- A converter of a run is judged: its count of rejections in a row. -/
def State.judgeConverter (s : State) (e : Nat × Option Correction) : State :=
  let n := if e.2.isSome then 0 else Sparse.get (fun _ => 0) s.tun.rejects e.1 + 1
  let s := { s with tun.rejects := Sparse.put (fun _ => 0) s.tun.rejects e.1 n }
  if n = 0 then s
  else
    let q := converterQuad e.1
    let s := (s.bump F.TUN_CNT.REJECTED).faultQ 0xB9 0 q
    if 3 ≤ n then s.faultQ 0xBA 2 q else s

def accepted (l : List (Nat × Option Correction)) : Corrections := l.filterMap (fun e => e.2.map (fun c => (e.1, c)))

/-- A run has been judged and is complete (R412, R418). -/
def State.runComplete (s : State) (l : List (Nat × Option Correction)) (start : Bool) : State :=
  let s := l.foldl State.judgeConverter s
  let s := (s.wr F.TUN_STAT.LAST_RESULT (if l.all (fun e => e.2.isSome) then 1 else 2)).bump F.TUN_CNT.RUNS
  let s := { s with tun.okAt := s.now, tun.okAwake := s.awakeTicks, tun.junctions := s.junctionTemps }
  let old := s.tun.storedAt.all (fun t => Nat.ble (t + sec 86400) s.now)
  if start || old then s.queueFlash .tuning else s

/-- Accepted results start their slide, or wait for the end of the one that runs (R414). -/
def State.slideTo (s : State) (new : Corrections) : State :=
  if new.isEmpty then s
  else if s.tun.slide.isSome then { s with tun.nextSlides := s.tun.nextSlides ++ [new] }
  else
    let k := clampNat 2 10 (s.rd F.TUN_CFG.LOG2_SLIDE)
    { s with tun.slide := some ⟨new.map (fun e => (e.1, s.correction e.1)), new, 0, k⟩ }

/-- One field in slide frame j. -/
def slideField (old new : Int) (j log2K : Nat) : Int := old + floorDiv ((new - old) * j * 4096 / 2 ^ log2K + 2048) 4096

/-- The corrections of slide frame j. -/
def TuneSlide.frame (sl : TuneSlide) (j : Nat) : Corrections :=
  (sl.old.zip sl.new).map (fun e =>
    (e.2.1, ⟨slideField e.1.2.gain e.2.2.gain j sl.log2K, slideField e.1.2.offset e.2.2.offset j sl.log2K⟩))

/-- The slide is over: the next one, if a run has completed in it, begins with the next frame. -/
def State.tuneSlideEnd (s : State) : State :=
  match s.tun.slide, s.tun.nextSlides with
  | some sl, l =>
    if sl.j < 2 ^ sl.log2K then s
    else match l with
      | [] => { s with tun.slide := none }
      | n :: rest => ({ s with tun.slide := none, tun.nextSlides := rest } : State).slideTo n
  | none, _ => s

/-- The next frame of the slide: outputs and ramps change at its start, the ADCs at its first blanking line. -/
def State.tuneSlideFrame (s : State) : State :=
  let s := ({ s.setCorrections s.tun.adcNext with tun.adcNext := [] } : State).tuneSlideEnd
  match s.tun.slide with
  | none => s
  | some sl =>
    let j := sl.j + 1
    let now := sl.frame j
    let s := s.setCorrections (now.filter (fun e => Nat.ble 192 e.1))
    { s with tun.adcNext := now.filter (fun e => Nat.blt e.1 192), tun.slide := some { sl with j := j } }

/-- The first blanking line of quadrant q: its ADCs take the corrections of the slide frame, and after the last quadrant's the frame of
the slide is over (R414). -/
def State.adcSlide (s : State) (q : Quad) : State :=
  let s := s.setCorrections (s.tun.adcNext.filter (fun e => Nat.blt e.1 192 && converterQuad e.1 == q))
  let rest := s.tun.adcNext.filter (fun e => converterQuad e.1 != q)
  let s : State := { s with tun.adcNext := rest }
  if rest.isEmpty then s.tuneSlideEnd else s

/-- Every quadrant that is not skipped has given the run the slot positions of its parts (R410). -/
def State.runMeasured (s : State) (r : TuneRun) : Bool :=
  quads.all (fun q => !s.sensing q || Nat.ble (tuneSlots r.parts) (nth r.slots q.val))

/-- TUNE_RUN_DONE (R412): the measurements of the run in progress are judged. A quadrant in which sensing has stopped is skipped. -/
def execTuneRunDone (t : Nat) (m : Measured) (s : State) : Host.Outcome State Fault Refusal :=
  let s := s.advance t
  match s.tun.run with
  | none => done s
  | some r =>
    if !s.runMeasured r then done s
    else if !s.refValid then done (s.failRun 3).nextRun
    else if !s.awake || !doublersOk m s.sensing then done (s.failRun 4).nextRun
    else
      let l := (s.tuneResults false m).filter (fun e => bitsAt r.parts (converterPart e.1) 1 == 1 && s.sensing (converterQuad e.1))
      done (((s.runComplete l false).slideTo (accepted l)).closeRun (.ok [])).nextRun

/-- The start run of R415: its results apply at once. With an invalid reference, and as the values a rejected converter keeps,
the stored corrections apply, or zero (R419, DEDUCED, notes/assumptions/35.md). -/
def State.startTune (s : State) (m : Measured) : State :=
  let s := s.setCorrections (s.storedConf.tuning.getD [])
  if !s.refValid then s
  else if !doublersOk m (fun _ => true) then ((s.wr F.TUN_STAT.LAST_RESULT 4).bump F.TUN_CNT.FAILED).fault 0xBB 0
  else
    let l := s.tuneResults true m
    (s.runComplete l true).setCorrections (accepted l)

def tuneRunBody (r : Request) : State → State × Verdict :=
  withLen 4 r fun s =>
    let what := pWord r 0
    if what = 0 ∨ 7 < what then answer (.range 16) s
    else if !(s.refValid && s.awake) then answer (.notReady 0x11) s
    else if s.tun.run.isSome then answer (.busy 0) s
    else (s.beginRun what (some (r.src.toNat, r.tag.toNat)), .hold)

/-- TUNE_RUN (R417): answered when the run has been judged or has failed. -/
def execTuneRun (r : Request) (s : State) : Host.Outcome State Fault Refusal := done (command 0x70 r (tuneRunBody r) s)

/-- A junction has moved by DELTA_T since the last successful run. -/
def State.junctionMoved (s : State) : Bool :=
  let d := 10 * max 1 (s.rd F.TUN_CFG.DELTA_T)
  (s.junctionTemps.zip s.tun.junctions).any (fun p => Nat.ble d (p.1 - p.2).natAbs)

/-- TUNE_RUN_DUE (R416). -/
def execTuneRunDue (t : Nat) (s : State) : Host.Outcome State Fault Refusal :=
  let s := s.advance t
  let parts := s.rd F.TUN_CFG.PARTS
  let period := s.rd F.TUN_CFG.PERIOD
  let due := (period != 0 && Nat.ble (s.tun.okAt + sec (60 * period)) s.now) || s.junctionMoved
  if !(s.awake && due) || parts == 0 then done s
  else if s.tun.run.isSome then done (if s.tun.waiting.isSome then s else { s with tun.waiting := some parts })
  else if s.refValid then done (s.beginRun parts none)
  else done s

/-- 24 h of ACTIVE or DARK have passed without a successful run (R418). -/
def State.tuneStale (s : State) : Bool := Nat.ble (s.tun.okAwake + sec 86400) s.awakeTicks

/-- TUNE_STALE_TIMEOUT (R418). -/
def execTuneStaleTimeout (t : Nat) (s : State) : Host.Outcome State Fault Refusal :=
  let s := s.advance t
  done (if s.tuneStale then s.fault 0xBC 2 else s)

/-! ### The reference (R407, R419) -/

def refInside (tenths : Nat) : Bool := Nat.ble 24750 tenths && Nat.ble tenths 25250

/-- The reference becomes invalid: the run in progress fails. -/
def State.refInvalid (s : State) : State :=
  if s.refValid then ((s.wr F.TUN_REF.VALID 0).fault 0xB8 2).failRun 3 else s

/-- REF_MONITOR_TICK (R407): REF_IN reads `tenths` × 0.1 mV, and the bandgaps agree within 0.5 % or do not. -/
def execRefMonitorTick (t : Nat) (tenths : Nat) (agree : Bool) (s : State) : Host.Outcome State Fault Refusal :=
  let s := s.advance t
  if s.asleep then done s
  else
    let inside := refInside tenths && agree
    let s := s.wr F.TUN_REF.REF (min 0xFFFF tenths)
    let s := { s with
      tun.outsideFrom := if refInside tenths then none else some (s.tun.outsideFrom.getD s.now)
      tun.insideFrom := if inside then some (s.tun.insideFrom.getD s.now) else none }
    if !agree || s.tun.outsideFrom.any (fun a => Nat.ble (a + ms 10) s.now) then done s.refInvalid
    else if !s.refValid && s.tun.insideFrom.any (fun a => Nat.ble (a + sec 1) s.now) then done ((s.wr F.TUN_REF.VALID 1).nextRun)
    else done s

end Sys2Proof.Machine
end

