-- ==== Sys2Proof/Machine/Scan.lean ====
section
/-! DEFINITION. Sys2Proof/Machine/Scan.lean: what a scan-out frame shows, its start and end, commits and other events at its
applying frame, and the period slew (02 R54, R62, R63; 05 R137 to R140, R493; 13 R323, R324). -/

namespace Sys2Proof.Machine

/-! ### The decision (R54, R62, R63, R140) -/

/-- The READY buffer of earliest PT among those that satisfy `f`. -/
def State.firstReady (s : State) (f : Nat → Bool) : Option Nat :=
  ((List.range 4).filter (fun k => (s.buf k).st == .ready && f (s.buf k).pt)).foldl (fun b k =>
    match b with
    | none => some k
    | some j => if timeDiff (s.buf k).pt (s.buf j).pt < 0 then some k else some j) none

/-- While the fallback image is shown, a READY frame is taken when its own decision instant is reached and its PT is still to
come. -/
def State.followable (s : State) (pt : Nat) : Bool :=
  near pt s.scheduled || (s.reached pt (s.decisionLead pt) && decide (timeDiff s.lt pt ≤ 0))

def State.maxHolds (s : State) : Nat := max 1 (s.rd F.PIX_HOLD.MAX_FRAMES)

/-- No frame fits: the SHOWING frame is held, or after MAX_FRAMES holds the fallback image is entered. -/
def State.holdOrFall (s : State) : State :=
  if inWords s.comingRegs F.PIX_FALLBACK.MODE = 0 ∧ s.maxHolds ≤ s.pix.holds then
    ({ s with pix.decision := .fallback, pix.feedLost := true }.bump F.PIX_CNT_FRAME.FALLBACK_ENTRIES).fault 0x42 2
  else ({ s with pix.decision := .hold, pix.holds := s.pix.holds + 1 }.bump F.PIX_CNT_FRAME.HELD).fault 0x41 1

/-- The coming frame shows buffer k; lines fetched for another image count no longer. -/
def State.decideShow (s : State) (k : Nat) : State :=
  if s.pix.decision = .show k then s
  else { s with pix.decision := .show k, scn.ahead := [0, 0, 0, 0], scn.aheadBad := [] }

/-- What the coming frame start shows. -/
def State.decideFrame (s : State) : State :=
  if s.pix.fallback then
    match s.firstReady s.followable with
    | some k => s.decideShow k
    | none => { s with pix.decision := .fallback }
  else
    match s.firstReady (fun pt => near pt s.scheduled) with
    | some k => s.decideShow k
    | none => s.holdOrFall

/-- A decision is open, or the fallback image may still give way to a READY frame. -/
def State.mayDecide (s : State) : Bool :=
  s.scn.running && (decide (s.pix.decision = .none) || (s.pix.fallback && decide (s.pix.decision = .fallback)))

/-- The decision instant of the scheduled start, or of a READY frame that the fallback image gives way to. -/
def State.decisionDue (s : State) : Bool :=
  s.reached s.scheduled (s.decisionLead s.scheduled) || (s.pix.fallback && (s.firstReady s.followable).isSome)

/-- DECISION_INSTANT (R54). -/
def execDecisionInstant (t : Nat) (s : State) : Host.Outcome State Fault Refusal :=
  let s := s.advance t
  done (if s.mayDecide && s.decisionDue then s.decideFrame else s)

/-! ### Events at their applying frame (R137, R493) -/

/-- A due event applies. With the test current of the baselines back in force, the readings that wait for a reference have one (R156). -/
def State.applyDue (s : State) (e : DueEvent) : State :=
  match e with
  | .commit vs => forQ (fun q s => s.judgeWaiting q.val) { s with frameRegs := vs.foldl (fun m e => Sparse.put resetWord m e.1 e.2) s.frameRegs }
  | .slide => s.beginSlide
  | .ladder => s.exchangeLadder
  | .defects t => s.applyDefects t

/-- At a vertical blank the events of the coming frame apply in their order; the late ones are those of the next. -/
def State.applyComing (s : State) : State :=
  let now := s.scn.due.filter (fun d => !d.late)
  let later := (s.scn.due.filter (·.late)).map (fun d => { d with late := false })
  now.foldl (fun s d => s.applyDue d.ev) { s with scn.due := later }

/-- Where the scan-out stops, every waiting event applies. -/
def State.applyAll (s : State) : State := s.scn.due.foldl (fun s d => s.applyDue d.ev) { s with scn.due := [] }

/-! ### Timing of a frame (R129, R132, R139) -/

/-- Period, blanking, emission time and sweeps of the frame that starts. -/
def State.frameTiming (s : State) : State :=
  let target := periodTarget (s.frame F.SCN_PERIOD.PERIOD_NS)
  let want := blankWanted s.frameRegs
  let (period, blank) := nextTiming s.frameRegs s.scn.period
  let s := (s.wrB F.SCN_TSTAT.BLANK_LIMITED (decide (blank < want))).wrB F.SCN_TSTAT.SLEWING (decide (period ≠ target))
  let s := (s.wr F.SCN_TSTAT.SLOTS (slotsPerLine period blank)).wr F.SCN_TSTAT.BLANK_IN_USE blank
  let s := (s.wr F.SCN_LINE_NOW.LINE_NS (period / (512 + blank))).wr F.SCN_PERIOD_NOW.PERIOD_NS period
  { s with scn.period := period, scn.blank := blank
           scn.emission := period - (if s.frame F.SCN_TIMING.SENSE_PAUSE = 1 then 4000 * slotsPerLine period blank * blank else 0) }.setSweeps period

/-! ### The end of a frame -/

/-- What the frame that ends leaves: credit, code current, the cap monitor, stress, donors limited. `samples` and
`saturated` are what the current monitor has sampled in the frame, by quadrant (R369). -/
def State.endFrame (s : State) (samples : List (List Nat)) (saturated : Fin 16) : State :=
  if !s.scn.anyFrame then s
  else
    let s := (s.updateCredit s.scn.period).checkCodeCurrent
    let s := forQ (fun q s => s.judgeCurrent q (nth samples q.val) (saturated.val.testBit q.val)) s
    let s := if s.stressDraws then s.stressUpdate s.finalOf s.glassTemp else s
    let s := s.wr F.CMP_CONCEAL_STAT.LIMITED_LAST (min 0xFFFF s.cmp.limited)
    let s := if s.cmp.limited = 0 then s else s.bump F.CMP_CONCEAL_STAT.FRAMES_LIMITED
    { s with
      cmp.limited := 0, scn.prevBlank := s.scn.blank
      gov.irow := [], gov.irowPrev := s.gov.irow, gov.irowOld := s.gov.irowPrev }

/-! ### Light at a frame start (R316, R323) -/

/-- Milliseconds from step 1 of this start, as SYS_START shows them. -/
def State.startMs (s : State) : Nat := min 0xFFFF ((s.now - s.sys.startAt) / ms 1)

/-- First light of a start into ACTIVE (R445, R327). -/
def State.firstLight (s : State) : State :=
  if s.sys.starting && s.rd F.SYS_START.STEP == 11 then
    { (s.wr F.SYS_START.STEP 12).wr F.SYS_START.FIRST_LIGHT_MS s.startMs with sys.starting := false }
  else s

/-- Driving glass that does not meet R124, or whose registers shift the other way, is a listed undefined case from the moment the
quadrant emits (R144; DEDUCED, notes/assumptions/102.md). -/
def State.judgeGlass (s : State) (q : Quad) : State :=
  let g := nth s.scn.fits q.val
  if g.1 && g.2 == s.rd (F.SCN_QCFG.SCAN_DIR q.val) then s else s.lastingCase

/-- Rows written for a whole frame are followed by emission; a settled quadrant begins its rows. -/
def State.lightFrame (q : Quad) (s : State) : State :=
  match s.lightOf q with
  | .settled =>
    let s := s.setLight q .rows
    if s.sys.starting && s.rd F.SYS_START.STEP == 10 then s.wr F.SYS_START.STEP 11 else s
  | .rows => ({ s.setLight q .lit with flt.resuming := s.flt.resuming.set q.val false }.firstLight).judgeGlass q
  | _ => s

/-- EMIT_Qn falls and the valves open; the first DARK frame, in every quadrant, still writes its rows (R316, R323). -/
def State.emitDrop (s : State) : State :=
  let first := s.pwr.activeFrame
  { s with pwr.light := [.dark, .dark, .dark, .dark], pwr.rows := [first, first, first, first], pwr.activeFrame := false }

/-- A frame in ACTIVE writes its rows but for quadrants whose valves settle (R316, R323). -/
def State.activeRows (s : State) : State :=
  { s with pwr.activeFrame := true, pwr.rows := quads.map (fun q => s.lightOf q != .settling && s.lightOf q != .settled) }

/-- What the frame that starts does with light and rows; before STATE reads ACTIVE only the valves are closed (R325). -/
def State.frameLight (s : State) : State :=
  if !s.lightWanted then s.emitDrop
  else if s.pwr.trans = .none then (forQ State.lightFrame s).activeRows
  else s

/-! ### What the frame shows -/

/-- A buffer becomes FREE. -/
def FrameBuf.free (b : FrameBuf) : FrameBuf := { b with st := .free }

/-- Buffer k enters SHOWING; the frame shown before and READY frames of earlier PT become FREE (R51). -/
def State.showBuffer (s : State) (k : Nat) : State :=
  let pt := (s.buf k).pt
  let s := { s with pix.bufs := s.pix.bufs.map (fun (b : FrameBuf) =>
    if b.st = BufState.showing ∨ (b.st = BufState.ready ∧ timeDiff b.pt pt < 0) then b.free else b) }
  let s := (s.setBuf k { s.buf k with st := .showing }).wr F.PIX_FRAME_NO.SHOWN (s.buf k).no
  { s with pix.presented := true, pix.shownFor := 0, pix.fallback := false, pix.holding := false, pix.holds := 0
           pix.feedLost := false }

/-- Scan-out frames for which the image of the frame before has been shown, when it is shown once more (R114). -/
def State.shownOn (s : State) : Nat := if s.scn.anyFrame then s.pix.shownFor + 1 else 0

/-- The decision takes effect, and the schedule moves to the PT of a frame shown. LOCKED tells a move within the 1.0 µs of R140, not
the free move out of the fallback image (R63, R140; DESIGN CHOICE, notes/assumptions/89.md). -/
def State.present (s : State) : State :=
  let sched := s.scheduled
  let shown := s.shownOn
  let s := { s with scn.start := sched, scn.anyFrame := true }.wr F.SCN_STAT.LOCKED 0
  match s.pix.decision with
  | .show k =>
    let pt := (s.buf k).pt
    { (s.wrB F.SCN_STAT.LOCKED (near pt sched)).showBuffer k with scn.start := pt }
  | .hold => { s with pix.holding := true, pix.shownFor := shown }
  | _ => { s with pix.fallback := true, pix.holding := false, pix.shownFor := shown }

/-- The overlay planes of the frame; each plane asked for that is not shown raises fault 0x46 (R67). -/
def State.framePlanes (s : State) : State :=
  let shown := planesShown s.frameRegs s.pix.fallback
  let s := { s with pix.planes := shown }
  (planesWanted s.frameRegs s.pix.fallback).foldl (fun s n => if shown.contains n then s else s.report 0x46 0 0 0) s

/-- The 20-bit code of rank x of the staircase of quadrant q, in a frame of n steps (R131, R134, R408; PRESUMED,
notes/assumptions/34.md). -/
def rampCode (g : GlassRec) (n x : Nat) : Int :=
  roundDivInt (((2 * n : Nat) * ((g.vthLo : Int) - 300) + ((g.vthHi : Int) - g.vthLo) * (2 * x + 1 : Nat)) * 1048575) (2 * n * 5200)

/-- The code that ramp i = q × 2 + h is sent for the code `c`, by its correction (R408). -/
def State.rampCorrected (s : State) (i : Nat) (c : Int) : Int :=
  let k := s.correction (6336 + i)
  roundDivInt (c * (1048576 + k.gain)) 1048576 + k.offset

/-- What the ramp converters are sent for the ends of the frame's staircase. -/
def State.sendRamps (s : State) : State :=
  let n := 1024 * 2 ^ s.scn.log2S
  { s with scn.rampSent := (List.range 8).map (fun i =>
      let g := nth s.scn.records (i / 2)
      (s.rampCorrected i (rampCode g n 0), s.rampCorrected i (rampCode g n (n - 1)))) }

/-- The frame's own updates: slides, factors, stress group, plan, phase, line counters. The lines fetched in its lead are those of the
frame that starts (R26). -/
def State.frameUpdates (s : State) : State :=
  let s := (s.slideFrame.stepFactors.stressFrame.tuneSlideFrame).sendRamps.framePlanes
  let s := (s.planFrame s.scn.period s.scn.blank).wr F.HYB_STAT.PHASE s.framePhase
  { s with
    scn.line := [1023, 1023, 1023, 1023], scn.fetched := s.scn.ahead, scn.lineBad := s.scn.aheadBad
    scn.ahead := [0, 0, 0, 0], scn.aheadBad := [], pix.decision := .none }

/-- The scan-out stops at a frame boundary, and the panel rails go off (R324, R493). -/
def State.stopScan (s : State) : State :=
  ({ s.emitDrop.applyAll with
    pix.bufs := s.pix.bufs.map FrameBuf.free, pix.decision := .none, pix.holding := false
    scn.running := false, scn.anyFrame := false, pwr.stopped := true, pwr.rows := [false, false, false, false] } : State).settleRequests.railsOff

/-- The scan-out timing runs, showing the fallback image until a frame is presented (R63, R325, R445). -/
def State.startScan (s : State) : State :=
  { s with
    scn.running := true, scn.anyFrame := false, scn.line := [1023, 1023, 1023, 1023]
    pix.fallback := true, pix.presented := false, pix.holds := 0, pix.holding := false, pix.decision := .none
    pix.shownFor := 0, scn.fetched := [0, 0, 0, 0], scn.lineBad := [], scn.ahead := [0, 0, 0, 0], scn.aheadBad := []
    gov.irow := [], gov.irowPrev := [], gov.irowOld := [], gov.eval := none, gov.written := none
    sns.quads := s.sns.quads.map (fun (x : SnsQuad) => { x with adcMiss := [] })
    pwr.stopped := false, pwr.rows := [false, false, false, false], pwr.activeFrame := false }

/-- The start to come is that of the schedule, or the PT of the frame that was decided on. -/
def State.nextStart (s : State) : Nat :=
  match s.pix.decision with
  | .show k => (s.buf k).pt
  | _ => s.scheduled

/-- The frame boundary of the coming start is reached. -/
def State.startDue (s : State) : Bool := s.reached s.nextStart (s.comingLine + us 1)

/-- SCAN_FRAME_START (R140). The command stands ahead of the frame's line 0, whose write interval opens one line period before
the start. During an entry the scan-out stops here instead (R324). -/
def execScanFrameStart (t : Nat) (samples : List (List Nat)) (saturated : Fin 16) (s : State) : Host.Outcome State Fault Refusal :=
  let s := s.advance t
  if !s.scn.running then done s
  else if s.pwr.trans = .entry then
    done (if s.startDue then (s.endFrame samples saturated).stopScan else s)
  else
    let d := if s.pix.decision = .none then s.decideFrame else s
    done (if d.startDue then (d.endFrame samples saturated).applyComing.present.frameLight.frameTiming.frameUpdates else s)

end Sys2Proof.Machine
end

