-- ==== Sys2Proof/Machine/Fmc.lean ====
section
/-! DEFINITION. Sys2Proof/Machine/Fmc.lean: the frame memory controller: address orders, refresh, neighbour refresh, retraining,
read errors and the counters (08_frame_memory.md). -/

namespace Sys2Proof.Machine

/-! ### Requests (R194 to R197) -/

/-- The place of a requester's port in R194's table: SCAN, COMP, CAPTURE, STRESS, CORE, MAINT. -/
def portClass : DramPort → Nat
  | .scan _ _ _ => 0
  | .comp _ _ _ => 1
  | .capture => 2
  | .stress => 3
  | .core => 4
  | .scrub => 5
  | .maint => 5

def reqClass (r : MemReq) : Nat := portClass r.port

/-- SCAN and COMP are the real-time ports. -/
def realTime (r : MemReq) : Bool := Nat.blt (reqClass r) 2

/-- The burst a request names. -/
def reqBurst (r : MemReq) : Nat := r.addr % 2 ^ 31 / 64

/-- Requests a port may have outstanding; SCAN and COMP share their 16 places. -/
def portLimit (c : Nat) : Nat := if c < 2 then 16 else if c = 5 then 4 else 24

/-- A free place exists for a request: the real-time ports have their own 16, the others hold at most 48 together (R195). -/
def hasPlace (q : List MemReq) (r : MemReq) : Bool :=
  if realTime r then Nat.blt (q.countP realTime) 16
  else Nat.blt (q.countP (fun x => !realTime x)) 48 && Nat.blt (q.countP (fun x => reqClass x == reqClass r)) (portLimit (reqClass r))

/-- Requests take their places in order; one that finds none, and every later one of its port, waits at the port (R195). -/
def takePlaces : List MemReq → List MemReq → List MemReq → List MemReq × List MemReq
  | [], q, held => (q, held)
  | r :: rest, q, held =>
    if hasPlace q r && !held.any (fun x => reqClass x == reqClass r) then takePlaces rest (q ++ [r]) held else takePlaces rest q (held ++ [r])

/-- Requests reach the controller; those held back come before them. -/
def State.enqueue (s : State) (l : List MemReq) : State :=
  let (q, held) := takePlaces (s.fmc.held ++ l) s.fmc.queue []
  { s with fmc.queue := q, fmc.held := held }

/-- Requests that may be served now: of those to one burst only the oldest (R196). -/
def servable : List MemReq → List MemReq → List MemReq
  | [], _ => []
  | r :: rest, seen => if seen.any (fun x => reqBurst x == reqBurst r) then servable rest seen else r :: servable rest (r :: seen)

/-- Weight of a port; SCAN and COMP have 8 (R194). -/
def State.portWeight (s : State) (c : Nat) : Nat :=
  if c < 2 then 8
  else if c = 2 then max 4 (s.rd F.FMC_ARB.W_CAPTURE)
  else if c = 3 then max 1 (s.rd F.FMC_ARB.W_STRESS)
  else if c = 4 then max 1 (s.rd F.FMC_ARB.W_CORE)
  else max 1 (s.rd F.FMC_ARB.W_MAINT)

/-- The port whose turn it is among those with a request in `l`, and how often it may be served again in this turn. -/
def State.nextPort (s : State) (l : List MemReq) : Option (Nat × Nat) :=
  if 0 < s.fmc.left ∧ l.any (fun r => reqClass r == s.fmc.turn) then some (s.fmc.turn, s.fmc.left - 1)
  else (([1, 2, 3, 4, 5, 6].map (fun i => (s.fmc.turn + i) % 6)).find? (fun c => l.any (fun r => reqClass r == c))).map
    (fun c => (c, s.portWeight c - 1))

/-- Of one port's requests the first within the window of 16 whose row is open, else the oldest (R196). -/
def State.pickOf (s : State) (c : Nat) (l : List MemReq) : Option MemReq :=
  let mine := l.filter (fun r => reqClass r == c)
  let near := mine.filter (fun r => (s.fmc.queue.take 16).contains r)
  match near.find? (fun r => nth s.fmc.openRow (dramPlace s.dramOrder (r.addr % 2 ^ 31)).1 == some (dramPlace s.dramOrder (r.addr % 2 ^ 31)).2) with
  | some r => some r
  | none => mine.head?

/-- The real-time port to serve under urgency: the one not served last, where both ask (R197). -/
def State.urgentPort (s : State) (l : List MemReq) : Option Nat :=
  let scan := l.any (fun r => reqClass r == 0)
  let comp := l.any (fun r => reqClass r == 1)
  if scan && comp then some (if s.fmc.compLast then 0 else 1) else if scan then some 0 else if comp then some 1 else none

/-- While the queue of neighbour refreshes is full its oldest entry goes before every port (R197, R200). -/
def State.neighbourFirst (s : State) : State :=
  match s.fmc.pnr with
  | e :: rest => if 16 ≤ s.fmc.pnr.length then { s with fmc.pnr := rest }.runNeighbour e else s
  | [] => s

/-- The request served next, and the state after the choice (R196, R197). -/
def State.arbitrate (s : State) : Option (MemReq × State) :=
  let l := servable s.fmc.queue []
  match (if s.anyUrgent then s.urgentPort l else none) with
  | some c => (s.pickOf c l).map (fun r => (r, { s with fmc.compLast := c == 1 }))
  | none =>
    match s.nextPort l with
    | some (c, left) => (s.pickOf c l).map (fun r => (r, { s with fmc.turn := c, fmc.left := left }))
    | none => none

/-- A request is served: it leaves the queue, its row is opened, and a request held back may take its place. -/
def State.serve (s : State) (r : MemReq) : State :=
  ({ s with fmc.queue := s.fmc.queue.erase r }.touchDram (r.addr % 2 ^ 31)).enqueue []

/-- Requests are served until a read returns; at most `n` of them. -/
def State.serveReads : Nat → State → Option MemReq × State
  | 0, s => (none, s)
  | n + 1, s =>
    match s.neighbourFirst.arbitrate with
    | none => (none, s.neighbourFirst)
    | some (r, s) => if r.write then State.serveReads n (s.serve r) else (some r, s.serve r)

/-- Under urgency a real-time request is outstanding (R197). -/
def State.realTimeFirst (s : State) : Bool := s.anyUrgent && s.fmc.queue.any realTime

/-! ### Neighbour refresh (R200) -/

/-- No request to bank b is outstanding. -/
def State.bankIdle (s : State) (b : Nat) : Bool :=
  !s.fmc.queue.any (fun r => (dramPlace s.dramOrder (r.addr % 2 ^ 31)).1 == b)

/-- The entry of the neighbour-refresh queue that may run: of a full queue its oldest, which goes before every port; else the
oldest of bank `b` once the bank is idle and no real-time request of an urgent quadrant waits (R197, R200). -/
def State.neighbourPick (s : State) (b : Nat) : Option (Nat × Nat) :=
  if s.fmc.pnr.length ≥ 16 then s.fmc.pnr.head?
  else if s.bankIdle b && !s.realTimeFirst then s.fmc.pnr.find? (fun e => e.1 == b)
  else none

/-- NEIGHBOUR_REFRESH_RUN (R200). -/
def execNeighbourRefreshRun (bank : Fin 32) (s : State) : Host.Outcome State Fault Refusal :=
  match s.neighbourPick bank.val with
  | none => done s
  | some e => done ({ s with fmc.pnr := s.fmc.pnr.erase e }.runNeighbour e)

/-! ### Refresh (R199) -/

/-- DRAM_REFRESH_DUE (R199): with `busy` ports, or a real-time request of an urgent quadrant waiting (R197), the interval is postponed, up
to eight; at the limit one refresh goes ahead of every port; otherwise every interval owed is refreshed. REFpb closes the bank's row, and an RFMpb owed to the bank goes with it.
In self-refresh the dies refresh themselves (R204). -/
def execDramRefreshDue (bank : Fin 32) (busy : Bool) (s : State) : Host.Outcome State Fault Refusal :=
  let owed := s.fmc.postponed.getD bank.val 0
  let busy := busy || s.realTimeFirst
  if s.fmc.selfRefresh then done s
  else if busy && decide (owed < 8) then done { s with fmc.postponed := s.fmc.postponed.set bank.val (owed + 1) }
  else
    done { s with fmc.postponed := s.fmc.postponed.set bank.val (if busy then 8 else 0)
                  fmc.openRow := s.fmc.openRow.set bank.val none, fmc.rfm := s.fmc.rfm.set bank.val false }

/-- MR4_POLL (R199): the refresh rates called for; a rank that asks for refresh management is owed an RFMpb for
each of its banks, which goes out with the bank's next refresh (R189, R200; DEDUCED, notes/assumptions/83.md). -/
def execMr4Poll (rank0 rank1 : Mr4) (s : State) : Host.Outcome State Fault Refusal :=
  done { s with fmc.mr4 := [rank0.rate.val, rank1.rate.val]
                fmc.rfm := (List.range 32).map (fun b => nth s.fmc.rfm b || nth [rank0.rfm, rank1.rfm] (b / 16)) }

/-- FMC_PD.TIMER in force: memory clock cycles of 1.25 ns (R19), 0 acting as 16. -/
def State.pdTimer (s : State) : Nat := 320 * (if s.rd F.FMC_PD.TIMER = 0 then 16 else s.rd F.FMC_PD.TIMER)

/-- A rank has had no request for FMC_PD.TIMER, and none is outstanding to it (R204). -/
def State.rankIdle (s : State) (r : Nat) : Bool :=
  Nat.ble (nth s.fmc.lastReq r + s.pdTimer) s.now
    && !s.fmc.queue.any (fun x => (dramPlace s.dramOrder (x.addr % 2 ^ 31)).1 / 16 == r)

/-- RANK_POWER_DOWN (R204): a rank idle for FMC_PD.TIMER enters power-down when PD_EN is 1. -/
def execRankPowerDown (rank : At (Fin 2)) (s : State) : Host.Outcome State Fault Refusal :=
  let s := s.advance rank.t
  if s.on F.FMC_PD.PD_EN && s.memClk && s.awake && s.rankIdle rank.it.val then
    done (s.wr F.FMC_PD.IN_PD (insertBits (s.rd F.FMC_PD.IN_PD) rank.it.val 1 1))
  else done s

/-! ### Reads (R196, R197, R206) -/

/-- The line of a scan-out read, if it is one. -/
def portLine : DramPort → Option (Quad × Nat × Bool)
  | .scan q n last => some (q, n, last)
  | .comp q n last => some (q, n, last)
  | _ => none

/-- A read that failed twice (R206). -/
def State.readFailed (s : State) (a : Nat) : State :=
  (((s.bump F.FMC_CNT_ERR.UNCORR).wr F.FMC_ERR_ADDR.ADDR a)).report 0x79 2 0 (a % 2 ^ 24)

/-- A corrected read is delivered and counts (R206). -/
def State.readCorrected (s : State) : State := { s.bump F.FMC_CNT_ERR.CORR with fmc.corrNow := s.fmc.corrNow + 1 }

/-- How the read of the burst at `a` has come back (R206). -/
def State.readCame (s : State) (a : Nat) (res : ReadResult) : State :=
  match res with
  | .good => s
  | .corrected => s.readCorrected
  | .failed => s.readFailed (a / 64 * 64)

/-- Those of `l` that are bursts of the `n` bytes from `a`. -/
def burstsOf (a n : Nat) (l : BurstReads) : BurstReads := l.filter (fun e => Nat.blt e.1 ((a + n + 63) / 64 - a / 64))

def anyFailed (l : BurstReads) : Bool := l.any (fun e => e.2 == .failed)

/-- Bursts of an access from `a` on come back. -/
def State.burstsCame (s : State) (a : Nat) (l : BurstReads) : State := l.foldl (fun s e => s.readCame ((a / 64 + e.1) * 64) e.2) s

/-- The fetch of the coming frame has begun: it runs from 3 line periods ahead of its start (R26). -/
def State.fetchLead (s : State) : Bool := s.scn.running && s.reached s.nextStart (3 * s.comingLine)

/-- A read of line n of quadrant q has come back, for the present frame or, in the lead of the next, for that one. -/
def State.lineRead (s : State) (q : Quad) (n : Nat) (last failed : Bool) : State :=
  let bad := if failed then [q.val * 512 + n % 512] else []
  let upTo := fun (l : List Nat) => if last then l.set q.val (max (l.getD q.val 0) (n % 512 + 1)) else l
  if s.fetchLead then { s with scn.ahead := upTo s.scn.ahead, scn.aheadBad := s.scn.aheadBad ++ bad }
  else { s with scn.fetched := upTo s.scn.fetched, scn.lineBad := s.scn.lineBad ++ bad }

/-- What a returned read brings to its requester (R136, R206). -/
def State.deliver (s : State) (r : MemReq) (res : ReadResult) : State :=
  let s := s.readCame (r.addr % 2 ^ 31) res
  match portLine r.port with
  | none => s
  | some (q, n, last) => (State.judgeUrgency q (s.lineRead q n last (res == .failed))).countUrgency

/-- How a read that came back as `first` comes out: one that failed is retried once (R206). -/
def retried (first again : ReadResult) : ReadResult := if first = .failed then again else first

/-- DRAM_READ_RETURN (R206): after the requests of `arrive` have come in, the read that the arbiter has chosen returns at `t`. No port is
served before the memory island is up, its wipe verified (R205), nor in self-refresh. -/
def execDramReadReturn (t : Nat) (arrive : List MemReq) (first again : ReadResult) (s : State) : Host.Outcome State Fault Refusal :=
  let s := (s.advance t).enqueue arrive
  if !s.memClk then done s
  else match State.serveReads s.fmc.queue.length s with
  | (none, s) => done s
  | (some r, s) => done (s.deliver r (retried first again))

/-- CORR_RATE_CHECK (R206): more than 16 corrected reads in the second raise fault 0x78. -/
def execCorrRateCheck (s : State) : Host.Outcome State Fault Refusal :=
  let s' := { s with fmc.corrNow := 0, fmc.corrOver := decide (16 < s.fmc.corrNow) }
  done (if s.fmc.corrNow > 16 then s'.fault 0x78 1 else s')

/-! ### Retraining (R202, R203) -/

/-- Highest of the four memory-area sensors, 0.1 °C. -/
def State.memoryTemp (s : State) : Int :=
  [17, 18, 19].foldl (fun m i => max m (signed 16 (s.rd (F.THM_T.TEFF i)))) (signed 16 (s.rd (F.THM_T.TEFF 16)))

/-- A retraining is due: after a failed one 60 s later (R203), else by temperature or by time (R202). -/
def State.retrainNeeded (s : State) : Bool :=
  match s.fmc.retryAt with
  | some r => decide (r ≤ s.now)
  | none =>
    decide (10 * max 1 (s.rd F.FMC_TRAIN.DELTA_T) ≤ (s.memoryTemp - signed 16 (s.rd F.FMC_TRAIN_STAT.LAST_T)).natAbs)
      || decide (sec (3600 * max 1 (s.rd F.FMC_TRAIN.INTERVAL)) ≤ s.now - s.fmc.trainAt)

/-- The memory controller asks for the RETRAIN job, which is always forced (R183). -/
def State.askRetrain (s : State) : State := if (s.job jobRetrain).pending || (s.job jobRetrain).running then s
  else (s.jobDue jobRetrain).forceJob jobRetrain

/-- RETRAIN_DUE (R202): a condition that falls due while a retraining runs is judged when it completes. -/
def execRetrainDue (t : Nat) (s : State) : Host.Outcome State Fault Refusal :=
  let s := s.advance t
  if s.retrainNeeded && !s.on F.FMC_TRAIN_STAT.BUSY then done s.askRetrain else done s

/-- A write of FMC_TRAIN.REQ. -/
def State.trainRequest (s : State) : State :=
  if s.on F.FMC_TRAIN_STAT.BUSY then { s with fmc.reqHeld := true } else s.askRetrain

/-- FMC_TRAIN_REQ (R202). -/
def execFmcTrainReq (s : State) : Host.Outcome State Fault Refusal := done s.trainRequest

/-- Every line buffer level is at WATERMARK + 1 or more (R202). -/
def State.buffersAhead (s : State) : Bool := [(0 : Quad), 1, 2, 3].all (fun q => Nat.blt (s.watermark q) (s.bufLevel q))

/-- RETRAIN_STEP (R202): a step is issued only without urgency and with the buffers ahead. -/
def execRetrainStep (s : State) : Host.Outcome State Fault Refusal :=
  if (s.job jobRetrain).running && !s.anyUrgent && s.buffersAhead then
    done { s.wr F.FMC_TRAIN_STAT.BUSY 1 with fmc.steps := s.fmc.steps + 1 }
  else done s

/-- A training is complete and its values are kept. -/
def State.dramTrained (s : State) : State :=
  { (s.wr F.FMC_TRAIN_STAT.FAILED 0).wr F.FMC_TRAIN_STAT.LAST_T (unsigned 16 s.memoryTemp) with
    fmc.trainAt := s.now, fmc.retryAt := none, fmc.steps := 0, fmc.reqHeld := false }

/-- RETRAIN_DONE (R203): the new values pass the margin check (`ok`) or the previous ones stay. -/
def execRetrainDone (t : Nat) (ok : Bool) (s : State) : Host.Outcome State Fault Refusal :=
  if !(s.job jobRetrain).running then done s
  else
    let s := ((s.advance t).jobEnd jobRetrain).wr F.FMC_TRAIN_STAT.BUSY 0
    let again := s.fmc.reqHeld
    let s := if ok then
        s.dramTrained
      else
        { (s.wr F.FMC_TRAIN_STAT.FAILED 1).fault 0x7A 2 with
          fmc.retryAt := some (s.now + sec 60), fmc.steps := 0, fmc.reqHeld := false }
    done (if again || (ok && s.retrainNeeded) then s.askRetrain else s)

/-- WCK_OSC_READ (R202). -/
def execWckOscRead (osc0 osc1 : Fin 65536) (s : State) : Host.Outcome State Fault Refusal :=
  done { s with fmc.osc := [osc0.val, osc1.val] }

/-! ### The stored order (R193) -/

/-- A write of FMC_ORDER. -/
def State.writeFmcOrder (v : Nat) (s : State) : State :=
  ((s.wr F.FMC_ORDER.NEXT (bitsAt v 8 2)).wr F.FMC_ORDER.STORED 0).queueFlash .fmcOrder

/-- FMC_ORDER_WRITE (R193). -/
def execFmcOrderWrite (value : Word) (s : State) : Host.Outcome State Fault Refusal := done (s.writeFmcOrder value.toNat)

end Sys2Proof.Machine
end

