-- ==== Sys2Proof/Machine/Line.lean ====
section
/-! DEFINITION. Sys2Proof/Machine/Line.lean: the interval of a scan line: the latches of line 0, the row write with its line-buffer
rule, make-up for sense slots, and the read-back of sources, gates, ramps and ADCs (02 R73; 04 R121; 05 R125 to R136, R141, R142;
06 R154, R169). -/

namespace Sys2Proof.Machine

/-! ### Line 0 (R73, R180, R181, R368) -/

/-- Tail q latches ceiling and cap for the frame, and returns the cap. -/
def State.latchLine (s : State) (q : Quad) (capLost : Bool) : State :=
  let cap := s.tailCap q
  let s := { s with scn.latched := s.scn.latched.set q.val (s.rd (F.GOV_CEIL.CEIL q.val))
                    scn.latchedCap := s.scn.latchedCap.set q.val cap }
  s.judgeCap q capLost cap s.capInForce

/-! ### Make-up for sense slots (R131, R154) -/

/-- Rank of the i-th step of a frame of 2^l sweeps. -/
def stepRank (l i : Nat) : Nat := i % 1024 * 2 ^ l + bitReverse l (i / 1024)

/-- Ranks, rising, of the steps whose midpoints lie in the slot at position p. Times are in units of 1 ns / (512 + blank), doubled
and multiplied by the number of steps. -/
def blockedBy (period blank l p : Nat) : List Nat :=
  let n := 1024 * 2 ^ l
  let lines := 512 + blank
  let start := 511 * period + slotStart period blank (slotsPerLine period blank) p
  let stop := start + 4000 * lines
  let inside := fun (i : Nat) =>
    let mid := (2 * i + 1) * period * lines
    Nat.ble (2 * n * start) mid && Nat.blt mid (2 * n * stop)
  (((List.range (4000 * n / period + 3)).map (fun j => start * n / (period * lines) + j)).filter inside).map (stepRank l)

/-- The smallest h, at most `top`, with `want` ranks below it outside the blocked ones; else `top`. The blocked ranks rise. -/
def makeUp (top : Nat) (blocked : List Nat) (want : Nat) : Nat :=
  min top (blocked.foldl (fun h r => if r < h then h + 1 else h) want)

/-- The sense slots of the frame that hold the token on scan line n of quadrant q. -/
def State.slotsOnLine (s : State) (q : Quad) (n : Nat) : List Slot :=
  (s.sq q.val).plan.filter (fun x => x.line == n && x.use != .tuning)

/-- A row's codes with H′ for H. -/
def State.makeUpRow (s : State) (q : Quad) (n : Nat) (r : RowCodes) : RowCodes :=
  let slots := s.slotsOnLine q n
  if slots.isEmpty || s.frame F.SCN_TIMING.SENSE_PAUSE == 1 then r
  else
    let l := s.scn.log2S
    let blocked := ((slots.flatMap (fun x => blockedBy s.scn.period s.scn.blank l x.pos)).dedup).mergeSort
    r.map (fun e => (e.1, makeUp (1024 * 2 ^ l) blocked e.2))

/-! ### The row write (R27, R121, R125, R128, R136) -/

/-- The present frame writes the rows of quadrant q; with its source die tripped, GEN_Qn is low and no row changes (R345). -/
def State.writesRows (s : State) (q : Quad) : Bool := nth s.pwr.rows q.val && !nth s.thm.dieTrip q.val

/-- Lines n and n + 1 are in the line buffer. -/
def State.linesReady (s : State) (q : Quad) (n : Nat) : Bool :=
  s.lineComplete q n && (decide (511 ≤ n) || s.lineComplete q (n + 1))

/-- The code-derived current of row n as it shows from now on, zero with the valve open (R163). -/
def State.noteCurrent (s : State) (q : Quad) (n : Nat) (r : RowCodes) : State :=
  { s with gov.irow := Sparse.put (fun _ => 0) s.gov.irow (q.val * 512 + n) (if s.valveOn q then s.rowCurrent s.encoder q r else 0) }

/-- A write is withheld: the row keeps its codes. -/
def State.underrun (s : State) (q : Quad) (n : Nat) : State :=
  let s := (s.bump (F.SCN_UNDERRUN.COUNT q.val)).wr (F.SCN_UNDERRUN.LAST_LINE q.val) n
  ({ s with scn.withheld := s.scn.withheld.set q.val true }.noteCurrent q n (s.shownRow q (s.rowOf q n))).faultQ 0x5A 1 q

/-- The codes of a row that is written; after an uncorrectable ladder read it keeps those it shows. -/
def State.codesFor (s : State) (q : Quad) (n : Nat) (keep : Bool) : RowCodes :=
  if keep then s.shownRow q (s.rowOf q n) else s.encodeRow q (s.rowOf q n)

/-- Ladder reads of the line that met an error (R121). -/
def State.ladderReads (s : State) (q : Quad) (corr uncorr : Nat) : State :=
  let s := (List.range corr).foldl (fun s _ => s.ladderCorr q) s
  (List.range uncorr).foldl (fun s _ => s.ladderErr q) s

/-! ### What the converters are sent (R134, R408) -/

/-- The code output o is driven to in a phase for the row just written, by the voltage maps in use (R134). -/
def State.sourceCode (s : State) (q : Quad) (n : Nat) (phase o : Nat) : Nat :=
  let e := nth (s.shownRow q (s.rowOf q n)) o
  let g := nth s.scn.records q.val
  if phase = 0 then
    let c := (s.outputDrives q o).2.val
    ampCode (nth (nth s.hyb.bank.curves q.val) c) (nth s.hyb.bank.scales (q.val * 3 + c))
      (nth (ladder (nth s.hyb.bank.knees c)) e.1)
  else thresholdCode g.vthLo g.vthHi s.scn.log2S e.2

/-- The code that output o of quadrant q is sent for the code `c` of R134, by its
correction (R408). -/
def State.sourceSent (s : State) (q : Quad) (o : Nat) (c : Nat) : Int :=
  let k := s.correction (192 + q.val * 1536 + o)
  roundDivInt ((c : Int) * (262144 + k.gain)) 262144 + k.offset

/-- The codes the source outputs of quadrant q are sent for row n, in phase A and in phase B. -/
def State.sentCodes (s : State) (q : Quad) (n : Nat) : List (Int × Int) :=
  (List.range 1536).map (fun o => (s.sourceSent q o (s.sourceCode q n 0 o), s.sourceSent q o (s.sourceCode q n 1 o)))

/-- Row n of quadrant q is written, with its code-derived current and its limited donors. -/
def State.writeRow (s : State) (q : Quad) (n corr uncorr : Nat) : State :=
  let keep := decide (0 < uncorr)
  let r := s.codesFor q n keep
  let limited := if keep then 0 else s.limitedIn q (s.rowOf q n)
  let s := ((s.noteCurrent q n r).ladderReads q corr uncorr).setRow q (s.rowOf q n) (if keep then r else s.makeUpRow q n r)
  { s with
    scn.withheld := s.scn.withheld.set q.val false, scn.sent := s.scn.sent.set q.val (s.sentCodes q n)
    cmp.limited := s.cmp.limited + limited }

/-! ### Read-back (R141, R142, R169) -/

/-- The output ADC g reads back in active line n: its 32 outputs in rotation, from one the spec leaves open (R141, DESIGN CHOICE,
notes/assumptions/90.md). -/
def readBackOut (n g : Nat) : Nat := 32 * g + (n + Config.readBackFirst g) % 32

/-- A measurement in 0.1 mV differs from the voltage of a source code by more than `tol` mV. -/
def sourceOff (code tenths tol : Nat) : Bool :=
  decide (10 * tol * 262143 < ((tenths : Int) * 262143 - (3000 * 262143 + code * 52000 : Nat)).natAbs)

/-- An output has failed: it is recorded and fault 0x5C raised. -/
def State.sourceFail (s : State) (q : Quad) (o : Nat) : State :=
  if s.scn.srcFailed.contains (q.val * 1536 + o) then s
  else
    let s := { s with scn.srcFailed := s.scn.srcFailed ++ [q.val * 1536 + o] }
    let s := if s.on (F.SCN_RB_STAT.SRC_FAIL q.val) then s else s.wr (F.SCN_RB_STAT.FAILED_OUT q.val) o
    ((s.wr (F.SCN_RB_STAT.SRC_FAIL q.val) 1).bump (F.SCN_RB_STAT.FAILED_COUNT q.val)).report 0x5C
      (if s.on (F.SCN_RB_CFG.SRC_DARK q.val) then 3 else 2) (2 ^ q.val) 0

/-- What ADC g has converted at the end of a phase, by its correction, is compared with what its output was meant to drive. -/
def State.checkSource (s : State) (q : Quad) (n phase g raw : Nat) : State :=
  let out := readBackOut n g
  let key := q.val * 1536 + out
  let bad := sourceOff (s.sourceCode q n phase out) (corrected (s.adcCorrection q.val g) raw) (s.rd (F.SCN_RB_CFG.TOL q.val))
  let count := if bad then Sparse.get (fun _ => 0) s.scn.srcFails key + 1 else 0
  let s := { s with scn.srcFails := Sparse.put (fun _ => 0) s.scn.srcFails key count }
  if s.failLimit key ≤ count then s.sourceFail q out else s

/-- The reading of ADC g at the end of a phase, where it works and one is given; one that is not given is as intended. -/
def State.readBack (q : Quad) (n : Nat) (l : List SourceRead) (phase : Nat) (s : State) (g : Nat) : State :=
  match s.adcFailed q.val g, l.find? (fun m => m.phase.val == phase && m.adc.val == g) with
  | false, some m => s.checkSource q n phase g m.raw.toNat
  | false, none => { s with scn.srcFails := Sparse.put (fun _ => 0) s.scn.srcFails (q.val * 1536 + readBackOut n g) 0 }
  | true, _ => s

/-- The 48 ADCs read back phase A, then phase B (R141). -/
def State.readBacks (s : State) (q : Quad) (n : Nat) (l : List SourceRead) : State :=
  (List.range 48).foldl (State.readBack q n l 1) ((List.range 48).foldl (State.readBack q n l 0) s)

/-- A pad check of signal i of quadrant q; two failures in a row raise fault 0x5D. -/
def State.checkSignal (q : Quad) (s : State) (i : Nat) (ok : Bool) : State :=
  let key := q.val * 16 + i
  let count := if ok then 0 else Sparse.get (fun _ => 0) s.scn.sigFails key + 1
  let s := { s with scn.sigFails := Sparse.put (fun _ => 0) s.scn.sigFails key count }
  if count = 0 ∨ count % 2 = 1 then s
  else
    let s := (s.wr (F.SCN_RB_STAT.GATE_FAIL q.val) 1).wr (F.SCN_RB_STAT.SIGNAL q.val) i
    ({ s with scn.sigFailed := s.scn.sigFailed.set q.val true }.report 0x5D 3 (2 ^ q.val) 0).settleRequests

/-- The i-th slot position of scan line n, a blanking line, is one in which quadrant q measures a unit by its plan: GEN and SENSE are
high there, and low in a tuning slot (R146, R410). -/
def State.slotRuns (s : State) (q : Quad) (n i : Nat) : Bool :=
  (s.sq q.val).plan.any (fun x => x.pos == (n - 512) * slotsPerLine s.scn.period s.scn.blank + i && !isTuning x)

/-- EMIT_Qn as it is to be: high while the quadrant is lit, but for the slot positions under SENSE_PAUSE (R133, R353). -/
def State.emitLevel (s : State) (q : Quad) (inSlot : Bool) : Bool :=
  s.emitHigh q && !(inSlot && s.frame F.SCN_TIMING.SENSE_PAUSE == 1)

/-- GEN_Qn as it is to be: high through an active line whose row is written, low where the write is withheld, and in blanking high
in the slots that measure a unit only; low while the source die has tripped (R128, R136, R146, R345, R410). -/
def State.genLevel (s : State) (q : Quad) (n : Nat) (slot : Option (Fin 2)) : Bool :=
  if n < 512 then s.writesRows q && !nth s.scn.withheld q.val
  else !nth s.thm.dieTrip q.val && slot.any (fun i => s.slotRuns q n i.val)

/-- The level a signal is to have at a check in scan line n (R142). -/
def State.intended (s : State) (q : Quad) (n : Nat) (m : PadRead) : Bool :=
  if m.signal.val = 5 then s.genLevel q n m.slot
  else if m.signal.val = 7 then s.emitLevel q m.slot.isSome
  else if m.signal.val = 6 then m.slot.elim m.pulse (fun i => s.slotRuns q n i.val)
  else m.pulse

/-- A pad check in scan line n is judged against the level intended. -/
def State.checkPad (q : Quad) (n : Nat) (s : State) (m : PadRead) : State :=
  s.checkSignal q m.signal.val (m.high == s.intended q n m)

/-- A ramp measurement lies outside its tolerance: twice the number of steps times the difference, in 0.1 mV. -/
def State.rampOff (s : State) (q : Quad) (m : RampRead) : Bool :=
  let g := nth s.scn.records q.val
  let n : Nat := 1024 * 2 ^ s.scn.log2S
  let x2 : Nat := 2 * stepRank s.scn.log2S (1024 * m.sweep + (if m.late then 512 else 0)) + 1
  let level : Int := 10 * ((g.vthLo : Int) * (2 * n : Nat) + ((g.vthHi : Int) - g.vthLo) * x2)
  decide (s.rd (F.SCN_RB_CFG.RAMP_TOL q.val) * 2 * n < (level - (m.tenths : Int) * (2 * n : Nat)).natAbs)

def State.checkRamp (q : Quad) (s : State) (m : RampRead) : State :=
  if s.glassValid q.val then s.checkSignal q (8 + m.half.val) (!s.rampOff q m) else s

/-- An ADC's corrected conversion of T3, 1.875 V, is more than 8 LSB of 5,600 mV / 4,096 off (R169, R406, R408; DEDUCED,
notes/assumptions/122.md). -/
def State.tapOff (s : State) (q : Quad) (m : Fin 48 × BitVec 12) : Bool :=
  let c := s.adcCorrection q.val m.1.val
  decide (8 * 56000 * 65536 < ((m.2.toNat : Int) * 56000 * (65536 + c.gain) + (c.offset - 18750) * (4096 * 65536)).natAbs)

/-- ADC g has failed its self-check. -/
def State.failAdc (q : Quad) (s : State) (g : Nat) : State :=
  if s.adcFailed q.val g then s
  else
    let s := if g < 32 then s.wr (F.SNS_ADC_FAIL_LO.FAIL q.val) (s.rd (F.SNS_ADC_FAIL_LO.FAIL q.val) + 2 ^ g)
      else s.wr (F.SNS_ADC_FAIL_HI.FAIL q.val) (s.rd (F.SNS_ADC_FAIL_HI.FAIL q.val) + 2 ^ (g - 32))
    s.report 0x64 2 (2 ^ q.val) 0

/-- The self-check of a frame: an ADC off in it and in the frame before has failed. It is suspended while the reference is invalid
(R169, R419). -/
def State.checkTaps (s : State) (q : Quad) (taps : List (Fin 48 × BitVec 12)) : State :=
  let was := (s.sq q.val).adcMiss
  let now := if s.refValid then (taps.filter (s.tapOff q)).map (fun m => m.1.val) else []
  (now.filter (fun g => was.contains g)).foldl (State.failAdc q) (s.setSq q.val { s.sq q.val with adcMiss := now })

/-! ### The command -/

/-- Line `n` is the next that quadrant q opens. -/
def State.lineNext (s : State) (q : Quad) (n : Nat) : Bool :=
  s.scn.running && s.scn.anyFrame && decide (n = (s.lineOf q + 1) % 1024) && decide (n < 512 + s.scn.blank)

/-- An active line: its row is written or withheld, and what was written is read back; nothing is read back where the write is withheld
(R141, R136; DESIGN CHOICE, notes/assumptions/123.md). -/
def State.activeLine (s : State) (q : Quad) (n : Nat) (inp : LineInput) : State :=
  if !s.writesRows q then s
  else if !s.linesReady q n then s.underrun q n
  else
    let s := s.writeRow q n inp.corr inp.uncorr
    if s.on (F.SCN_RB_CFG.EN q.val) && s.glassValid q.val then s.readBacks q n inp.sources else s

/-- SCAN_LINE_START (R128): quadrant q opens the interval of a scan line. -/
def execScanLineStart (t : Nat) (q : Quad) (line : Fin 768) (inp : LineInput) (s : State) : Host.Outcome State Fault Refusal :=
  let s := s.advance t
  let n := line.val
  if !s.lineNext q n then done s
  else
    let s := if n = 0 ∧ s.firstLine then s.governFrame inp.governor else s
    let s := if n = 0 then s.latchLine q inp.capLost else s
    let s := { s with scn.line := s.scn.line.set q.val n }
    let s := if n < 512 then s.activeLine q n inp else s
    let s := if n = 512 then s.adcSlide q else s
    let s := inp.signals.foldl (State.checkPad q n) s
    let s := inp.ramps.foldl (State.checkRamp q) s
    let s := if n = 512 then s.checkTaps q inp.taps else s
    done (s.judgeUrgency q).countUrgency

end Sys2Proof.Machine
end

