-- ==== Sys2Proof/Machine/Glass.lean ====
section
/-! DEFINITION. Sys2Proof/Machine/Glass.lean: the panel parameter records and the glass identity (05 R126, R127, R494). -/

namespace Sys2Proof.Machine

/-- An amplitude curve falls strictly within 300 to 5,500 mV. -/
def curveFalls (l : List Nat) : Bool :=
  l.all (fun v => Nat.ble 300 v && Nat.ble v 5500) && (l.zip (l.drop 1)).all (fun p => Nat.blt p.2 p.1)

def recordCurves (b : List Byte) : List (List Nat) := (List.range 3).map (fun c => halves b (32 + 66 * c) 33)

def inVolts (v : Nat) : Bool := Nat.ble 300 v && Nat.ble v 5500

/-- The first test of R127 that a record of quadrant q fails, in the order of SCN_EE_STAT.ERR; 0 when it passes. -/
def recordErr (q : Nat) (b : List Byte) : Nat :=
  let lo := fieldLE b 24 2
  let hi := fieldLE b 26 2
  if crc32c (b.take 252) ≠ fieldLE b 252 4 then 2
  else if b.take 4 ≠ [0x41#8, 0x56#8, 0x47#8, 0x4C#8] ∨ fieldLE b 4 2 ≠ 1 then 3
  else if fieldLE b 7 1 ≠ 1 then 4
  else if !(inVolts lo && inVolts hi && lo != hi && (recordCurves b).all curveFalls) then 5
  else if fieldLE b 6 1 ≠ q ∧ fieldLE b 6 1 ≠ 0xFF then 6
  else if fieldLE b 28 4 ≠ 0 ∨ ((b.drop 230).take 22).any (· != 0) then 7
  else 0

/-- A record as the device keeps it. -/
def recordOf (b : List Byte) (valid : Bool) : GlassRec :=
  ⟨valid, fieldLE b 8 8, fieldLE b 16 8, fieldLE b 24 2, fieldLE b 26 2, recordCurves b⟩

/-- The record read for quadrant q, none where the EEPROM did not acknowledge: validity, error, serial, fault 0x5E. -/
def State.takeRecord (recs : List (Option (List Byte))) (q : Quad) (s : State) : State :=
  let r := (nth recs q.val).map (fun b => b ++ List.replicate (256 - b.length) 0#8)
  let err := match r with
    | none => 1
    | some b => recordErr q.val b
  let g := match r with
    | none => ({} : GlassRec)
    | some b => recordOf b (err == 0)
  let s := { s with scn.records := s.scn.records.set q.val g }
  let s := ((s.wr (F.SCN_EE_STAT.ERR q.val) err).wrB (F.SCN_EE_STAT.VALID q.val) (err == 0)).wr (F.SCN_EE_STAT.QUAD q.val)
    ((r.map (fun b => fieldLE b 6 1)).getD 0)
  let s := (s.wr (F.SCN_EE_SERIAL_LO.SERIAL q.val) (g.serial % 2 ^ 32)).wr (F.SCN_EE_SERIAL_HI.SERIAL q.val) (g.serial / 2 ^ 32)
  if err = 0 then s else s.report 0x5E 3 (2 ^ q.val) 0

/-- The glass identity: the TILE_ID that four valid records agree on, else zero. -/
def State.glassIdentity (s : State) : State :=
  let ids := s.scn.records.map (·.tileId)
  let valid := s.scn.records.all (·.valid)
  let id := if valid ∧ ids.all (· == nth ids 0) then nth ids 0 else 0
  let s := (s.wr F.SCN_GLASS_ID_LO.ID (id % 2 ^ 32)).wr F.SCN_GLASS_ID_HI.ID (id / 2 ^ 32)
  if valid ∧ !ids.all (· == nth ids 0) then s.fault 0x5F 0 else s

/-- Four records have been read. -/
def State.takeRecords (s : State) (recs : List (Option (List Byte))) : State :=
  (forQ (State.takeRecord recs) s).glassIdentity

/-- EE_READ written: ignored while a read runs. -/
def State.eeRead (s : State) : State := if s.allQClk && !s.on F.SCN_I2C.BUSY then (s.wr F.SCN_I2C.BUSY 1).takeChannel .eeprom else s

/-- EE_READ (R494). -/
def execEeRead (s : State) : Host.Outcome State Fault Refusal := done s.eeRead

/-- EEPROM_READ_DONE (R494): once a check channel is free (R403) the records take effect and the LED supplies follow the validity of their glass. -/
def execEepromReadDone (recs : List (Option (List Byte))) (s : State) : Host.Outcome State Fault Refusal :=
  if !s.on F.SCN_I2C.BUSY || !s.hasChannel .eeprom then done s
  else
    let was := (List.range 4).map s.glassValid
    let s := ((s.wr F.SCN_I2C.BUSY 0).leaveChannel .eeprom).takeRecords recs
    done (forQ (fun q s => s.ledRail (nth was q.val) q) s).settleRequests

end Sys2Proof.Machine
end

