-- ==== Sys2Proof/Machine/Reset.lean ====
section
/-! DEFINITION. Sys2Proof/Machine/Reset.lean: what each reset and a wake from SLEEP keep of the state, and the start that follows
(13_power_states.md R327, R330; 20_start_up.md R441 to R444). -/

namespace Sys2Proof.Machine

/-- Register addresses kept through every warm reset (R443). -/
def keptWarm (a : Nat) : Bool :=
  a == A.FLT_LATCH || a == A.FLT_LATCH_SRC || a == A.PWR_PAD || a == A.SYS_RESET_CAUSE
    || (List.range 11).any (fun r => a == A.PWR_REFUSE_CNT r)

/-- Register addresses kept through SLEEP, and through a reset with cause WAKE_FAIL or LIFECYCLE: the always-on island too
(R327, R443). -/
def keptAwake (a : Nat) : Bool := keptWarm a || a / 0x10000 == 0x0B || a / 0x10000 == 0x0C

/-- Everything starts from its reset value but the registers of `keep`, the flash and fuses, the clock, the model's own fields, the
levels at the pins and what RL_OUT has sent (R310), the thermal latch and the accounting of R317 and R393. -/
def State.restart (keep : Nat → Bool) (s : State) : State :=
  let x := { State.reset with
    now := s.now, freeNo := s.freeNo, pending := s.pending, gov.scrubAt := s.now
    regs := s.regs.filter (fun e => keep e.1)
    flash := s.flash
    sys := { ({} : SysState) with fuses := s.sys.fuses, supplies := s.sys.supplies, vinSafe := s.sys.vinSafe, resetPin := s.sys.resetPin }
    thm.dieTrip := s.thm.dieTrip
    tun.okAt := s.now, tun.okAwake := nth s.pwr.timeIn 0 + nth s.pwr.timeIn 1
    rln := if keep A.RLN_ID
      then { ({} : RlnState) with
        out := s.rln.out, outSync := s.rln.outSync, identTo := s.rln.identTo, identFlat := s.rln.identFlat, identNext := s.rln.identNext }
      else { ({} : RlnState) with out := s.rln.out, outSync := s.rln.outSync }
    pwr.timeIn := s.pwr.timeIn, pwr.pads := s.pwr.pads, scn.fits := s.scn.fits
    flt.presTicks := s.flt.presTicks, flt.lostQuarterTicks := s.flt.lostQuarterTicks
    zlp.ltOffset := (2 ^ 64 - s.now % 2 ^ 64) % 2 ^ 64 }
  let x := (x.wr F.THM_STAT.SHUT (s.rd F.THM_STAT.SHUT)).wr F.THM_STAT.SHUT_SENSOR (s.rd F.THM_STAT.SHUT_SENSOR)
  ((x.wr F.SYS_PRAIL_STAT.PG (s.rd F.SYS_PRAIL_STAT.PG)).wr F.RLN_STAT.REGEN 0).afterReset s

/-- The start in progress counts as an exit to the state it is to end in (R320). -/
def State.beginStart (s : State) (target : Nat) : State :=
  { (s.wr F.PWR_STATE.BUSY 1).wr F.PWR_STATE.TARGET target with pwr.trans := .start, pwr.startTarget := target }

/-- WAKE_TARGET as it acts. -/
def State.wakeTarget (s : State) : Nat :=
  if s.rd F.PWR_CFG.WAKE_TARGET = 3 then 1 else s.rd F.PWR_CFG.WAKE_TARGET

/-- The always-on cycle of an instant: 1/32,768 s (R19). -/
def alwaysOnCycle (t : Nat) : Nat := t / 7812500

/-- The last reset was in the present always-on cycle. -/
def State.sameCycle (s : State) : Bool := s.sys.resetAt.any (fun a => alwaysOnCycle a == alwaysOnCycle s.now)

/-- A warm reset with its cause and detail; the start begins `delay` later (R442 to R444). -/
def State.resetNow (s : State) (cause detail delay : Nat) : State :=
  let internal := cause == 6 || cause == 7
  let x := s.restart (if internal then keptAwake else keptWarm)
  let x := if internal then x.setReg A.PWR_STATE (resetWord A.PWR_STATE) else x
  let x := (x.wr F.SYS_RESET_CAUSE.CAUSE cause).wr F.SYS_RESET_CAUSE.DETAIL detail
  { x with sys.startAt := s.now + delay, sys.resetAt := some s.now }

/-- A trigger of a warm reset. Of those in one always-on cycle, which make one reset, the lower code is recorded (R442). -/
def State.warmReset (s : State) (cause detail delay : Nat) : State :=
  if !s.sameCycle then (s.bump F.SYS_RESET_CAUSE.WARM_COUNT).resetNow cause detail delay
  else if cause < s.rd F.SYS_RESET_CAUSE.CAUSE then s.resetNow cause detail delay
  else s

/-- A reset with cause COMMAND is to take place, 1 to 2 ms from now, or from the first of several requests (R444). -/
def State.askReset (s : State) : State :=
  if s.sys.dueReset.isSome then s else { s with sys.dueReset := some (3, 0), sys.dueAt := s.now }

/-- A power-on reset (R441, R443): the clock starts anew; only fuses, flash and the levels at the pins are what they were. -/
def State.powerOnReset (s : State) : State :=
  let x := { State.reset with
    pending := s.pending, freeNo := s.freeNo, flash := s.flash, scn.fits := s.scn.fits
    sys := { ({} : SysState) with fuses := s.sys.fuses, supplies := s.sys.supplies, vinSafe := s.sys.vinSafe, resetPin := s.sys.resetPin } }
  { (x.wr F.SYS_RESET_CAUSE.CAUSE 1).wr F.SYS_PRAIL_STAT.PG (s.rd F.SYS_PRAIL_STAT.PG) with sys.resetAt := some 0 }.afterReset s

/-- A wake from SLEEP: the start sequence runs from the image check, and the exit's target stands (R327). -/
def State.wakeStart (s : State) : State :=
  let x := s.restart keptAwake
  let x := { x with
    undef := s.undef, sys.byCase := s.sys.byCase, sys.lasting := s.sys.lasting, sys.startAt := s.now, sys.waking := true
    pwr.pendingWake := s.pwr.pendingWake, pwr.light := s.pwr.light, pwr.enteredAt := s.pwr.enteredAt, pwr.timerDone := s.pwr.timerDone }
  (x.beginStart s.wakeTarget).wr F.PWR_STATE.STATE 3

end Sys2Proof.Machine
end

