-- ==== Sys2Proof/Machine/Power.lean ====
section
/-! DEFINITION. Sys2Proof/Machine/Power.lean: the power-state controller: requests, consent, entries, exits, wake sources and the
pad latches (13_power_states.md). -/

namespace Sys2Proof.Machine

/-! ### Consent (R321) -/

/-- A request as the controller judges it: from the Reed line or a command, and whether LINK_BUSY may refuse it (a unicast command,
or a Reed field that does not address all devices); the enabled wake sources that fire in the same always-on clock cycle, in the bit
order of PWR_WAKE_EN. -/
structure Asking where
  reed : Bool
  single : Bool
  target : Nat
  firing : Nat := 0
  deriving DecidableEq, Repr

/-- A transmitter forwards a valid stream to an ACTIVE port. -/
def State.forwards (s : State) : Bool :=
  ports.any (fun p => s.portActive p && (s.modeOf p == 1 || s.modeOf p == 2))

/-- A flash write is in flight. -/
def State.flashWriting (s : State) : Bool :=
  (s.job jobFlash).running || (s.job jobFlash).pausing || s.flt.copies.any (fun r => Nat.ble 3 r.cls)

/-- A request for SLEEP with an hour of stress unsaved makes a write-back fall due (R93). -/
def State.stressDue (s : State) (target : Nat) : Bool :=
  decide (target = 3) && (Nat.ble (sec 3600) s.cmp.unsaved || s.gov.flash.contains .stress)

/-- An image is checked, loaded, handed over, in trial, falling back or armed (R427). -/
def State.updating (s : State) : Bool := [2, 3, 4, 5, 7, 8].contains (s.rd F.UPD_STAT.STATE)

/-- An entry runs, or is to begin behind the status field of the Reed frame that asked for it (R312, R320). -/
def State.inEntry (s : State) : Bool := decide (s.pwr.trans = .entry) || s.rln.sleepHeld

/-- A transition runs, and its target. -/
def State.inTransition (s : State) : Bool := decide (s.pwr.trans ≠ .none) || s.rln.sleepHeld
def State.transTarget (s : State) : Nat := if s.rln.sleepHeld then 3 else s.rd F.PWR_STATE.TARGET

/-- Refuser `r` holds for a request. -/
def State.refuses (s : State) (a : Asking) (r : Nat) : Bool :=
  let sleep := decide (a.target = 3)
  match r with
  | 1 => decide (Nat.land (Nat.lor s.pwr.pendingWake a.firing) (bitsAt (s.reg A.PWR_WAKE_EN).toNat 0 3) ≠ 0)
  | 2 => sleep && s.on F.PWR_CFG.LINK_GUARD && a.single && s.forwards
  | 3 => s.updating
  | 4 => s.flashWriting || s.stressDue a.target
  | 5 => s.faultActive || !s.flt.copies.isEmpty
  | 6 => sleep && s.latched
  | 7 => s.thermalLatch
  | 8 => s.senseHolds
  | 9 => !s.cmd.places.isEmpty || s.inTransition
  | _ => false

def State.refusers (s : State) (a : Asking) : List Nat := [1, 2, 3, 4, 5, 6, 7, 8, 9].filter (s.refuses a)

/-- A refusal: each holder counts, the lowest is reported, fault 0xA2 (R322). -/
def State.refuse (s : State) (a : Asking) (rs : List Nat) : State :=
  let s := rs.foldl (fun s r => s.bump (F.PWR_REFUSE_CNT.COUNT r)) s
  let s := ((s.wr F.PWR_LAST_REFUSE.REQUESTER (boolNat a.reed)).wr F.PWR_LAST_REFUSE.TARGET a.target).wr F.PWR_LAST_REFUSE.REFUSER
    (rs.headD 0)
  s.report 0xA2 0 0 0

/-! ### Entry and exit (R323 to R327) -/

/-- STATE reads ACTIVE or DARK from now on; an entry into ACTIVE fills the credit (R173), and
so does a start. -/
def State.enterAwake (s : State) (target : Nat) : State :=
  let s := s.wr F.PWR_STATE.STATE target
  if target = 0 || s.sys.starting then s.fillCredit else s

/-- An entry into STANDBY or SLEEP begins; a tuning run in progress fails (R413). From STANDBY nothing is left to stop. -/
def State.beginEntry (s : State) (target : Nat) : State :=
  let s := s.failRun 4
  { (s.wr F.PWR_STATE.BUSY 1).wr F.PWR_STATE.TARGET target with
    pwr.trans := .entry, pwr.stopped := decide (s.power = 2) }

/-- The pixel, memory and quadrant islands run, or stop. -/
def State.setIslands (s : State) (on : Bool) : State :=
  let all := if on then 15 else 0
  (((s.wrB F.SYS_ISLAND_STAT.PIX_CLK on).wrB F.SYS_ISLAND_STAT.MEM_CLK on).wr F.SYS_ISLAND_STAT.QCLK all).wr F.SYS_ISLAND_STAT.QBR_UP all

/-- An exit from STANDBY begins (R325 step 1). -/
def State.beginExit (s : State) (target : Nat) : State :=
  { (s.wr F.PWR_STATE.BUSY 1).wr F.PWR_STATE.TARGET target with pwr.trans := .exit }

/-- Step 5 of the exit: once the rail sequence has run the scan-out timing runs, and capture accepts frame-starts. -/
def State.exitScan (s : State) : State :=
  if s.pwr.trans = .exit ∧ s.sys.railsUp ∧ !s.scn.running then s.startScan else s

/-- Steps 2 to 4 of the exit: islands clocked, DRAM out of self-refresh and retrained (R204), panel rails on in their start order. -/
def State.exitClock (s : State) : State := (({ s with fmc.selfRefresh := false }.setIslands true).dramTrained.railsOn).exitScan

/-- The DRAM goes into self-refresh after REFab: every bank is refreshed and closed (R189, R204). -/
def State.dramSleep (s : State) : State :=
  { s.wr F.FMC_PD.IN_PD 0 with
    fmc.selfRefresh := true, fmc.openRow := List.replicate 32 none, fmc.postponed := List.replicate 32 0 }

/-- The lanes of a port become low-power or return. -/
def State.quietPort (quiet : Bool) (s : State) (p : Port) : State :=
  [(0 : Lane), 1, 2, 3].foldl (fun s k =>
    let s := if bitsAt (s.rd (F.LNK_STAT.TX_USED p.val)) k.val 1 = 1 then s.wrB (F.LNK_LSTAT.TX_STATE p.val k.val) quiet else s
    if bitsAt (s.rd (F.LNK_STAT.RX_USED p.val)) k.val 1 = 1 then s.wrB (F.LNK_LSTAT.RX_STATE p.val k.val) quiet else s) s

/-- Ports without a valid stream go to their low-power states, or leave them (R228, R324). -/
def State.quietPorts (s : State) : State := ((ports.filter s.streamless).foldl (State.quietPort true) s).refreshModes
def State.wakePorts (s : State) : State := ((ports.filter s.streamless).foldl (State.quietPort false) s).refreshModes

/-- The levels that the blocks put on the output pads. -/
def State.drives (s : State) : PadLevels :=
  { valve := quads.map s.valveOn, emit := quads.map s.emitHigh, prailEn := s.rd F.SYS_PRAIL_STAT.EN, glassAtRest := !s.scn.running
    safeOut := [s.outEnergised 0, s.outEnergised 1], safeSup := s.safeClk && s.sys.vinSafe
    faultLow := s.faultNLow && nth s.sys.supplies 0, sdoReleased := s.sys.svcOut.isNone }

/-- The levels at the output pads: those of a latched group are the captured ones, and the Mute logic acts ahead of the latches (R331,
R332). -/
def State.pads (s : State) : PadLevels :=
  let l := s.pwr.pads
  let d := s.drives
  let panel := if s.on F.PWR_PAD.PANEL then l else d
  let safety := if s.on F.PWR_PAD.SAFETY then l else d
  let misc := if s.on F.PWR_PAD.MISC then l else d
  let valve := if s.on F.PWR_PAD.VALVE then l.valve else d.valve
  { valve := quads.map (fun q => nth valve q.val && !s.dark q), emit := quads.map (fun q => nth panel.emit q.val && !s.dark q)
    prailEn := panel.prailEn, glassAtRest := panel.glassAtRest, safeOut := safety.safeOut, safeSup := safety.safeSup
    faultLow := misc.faultLow, sdoReleased := misc.sdoReleased }

/-- Every island but the always-on island is cut off, the pad latches having closed (R326, R331). -/
def State.cutOff (s : State) : State :=
  let s := { s.wr F.SYS_ISLAND_STAT.SAFE_CLK 0 with saf.outOn := false, saf.released := false, sys.svcOut := none }
  let s := { s with pwr.pads := s.drives }
  let s := (((s.wr F.PWR_PAD.VALVE 1).wr F.PWR_PAD.PANEL 1).wr F.PWR_PAD.SAFETY 1).wr F.PWR_PAD.MISC 1
  let s := (s.wr F.SYS_ISLAND_STAT.LNK_CLK 0).wr F.SYS_ISLAND_STAT.CORE_CLK 0
  { s.wr F.RLN_STAT.REGEN 0 with rln.phase := .idle, rln.oscReady := false }

/-! ### Wake events (R328, R329) -/

/-- A wake event's cause is recorded. -/
def State.noteWake (s : State) (code : Nat) : State := s.wr F.PWR_WAKE_STAT.CAUSE code

/-- A wake event of an enabled source: code 1 REED, 2 TIMER, 3 SVC. During an entry it is held. In STANDBY and SLEEP it starts the
exit, and is pending until that has completed; an event that starts none is recorded. While RESET_N is low it is ignored (R467). -/
def State.wakeEvent (s : State) (code : Nat) : State :=
  let pend := { s with pwr.pendingWake := Nat.lor s.pwr.pendingWake (2 ^ (code - 1)) }
  if s.sys.resetPin then s
  else if s.inEntry then { pend with pwr.heldWake := s.pwr.heldWake ++ [code] }
  else if s.asleep then (pend.noteWake code).wakeStart
  else if s.pwr.trans = .none ∧ s.power = 2 ∧ s.wakeTarget ≠ 2 then (pend.noteWake code).beginExit s.wakeTarget
  else s.noteWake code

/-- The events held during an entry are delivered, the first to come first. -/
def State.releaseWakes (s : State) : State :=
  s.pwr.heldWake.foldl State.wakeEvent { s with pwr.heldWake := [], pwr.pendingWake := 0 }

/-- The states a source may wake the device from, or on the way there or back (R328, R329): REED wakes it from SLEEP alone. -/
def State.wakeable (s : State) (code : Nat) : Bool :=
  if code = 1 then s.asleep || (s.inEntry && s.transTarget == 3) || decide (s.pwr.trans = .exit) || decide (s.pwr.trans = .start)
  else s.inTransition || decide (2 ≤ s.power)

/-- The enabled sources of a mask, as codes. SVC is no source in RETIRED. -/
def State.firingCodes (s : State) (mask : Nat) : List Nat :=
  [1, 2, 3].filter (fun c => bitsAt mask (c - 1) 1 == 1 && bitsAt (s.reg A.PWR_WAKE_EN).toNat (c - 1) 1 == 1 && (c != 3 || s.lifecycle != 4))

/-! ### Requests (R318 to R322) -/

/-- A request that passes: the change between ACTIVE and DARK at once, an entry, or an exit from STANDBY. The entry asked for by a
Reed field starts after its status field. -/
def State.grant (s : State) (a : Asking) : State :=
  if a.target ≤ 1 then
    if s.power = 2 then (s.noteWake 4).beginExit a.target
    else s.enterAwake a.target
  else if a.reed then { s with rln.sleepHeld := true }
  else s.beginEntry a.target

/-- A request at the power-state controller: the state after it, and the refuser it is refused with, if any. -/
def State.powerRequest (s : State) (a : Asking) : State × Option Nat :=
  if s.inTransition then
    if a.target = s.transTarget then (s, none)
    else
      let r := if s.inEntry then 9 else 1
      (s.refuse a [r], some r)
  else if a.target = s.power then (s, none)
  else if a.target ≤ 1 then (s.grant a, none)
  else
    match s.refusers a with
    | [] => (s.grant a, none)
    | r :: rs => ((if s.stressDue a.target then s.queueFlash .stress else s).refuse a (r :: rs), some r)

/-- A request with the wake sources that fire in its cycle: they are delivered, also where they are why it is refused (R322). -/
def State.requestWith (s : State) (a : Asking) : State × Option Nat :=
  let (s2, refuser) := s.powerRequest a
  ((s.firingCodes a.firing).foldl (fun x c => if refuser.isSome || x.wakeable c then x.wakeEvent c else x) s2, refuser)

/-- POWER_STATE after the length test. The command is complete when the transition it has begun is (R286, R319). -/
def powerBody (firing : Nat) (r : Request) : State → State × Verdict :=
  withLen 4 r fun s =>
    if 3 < pByte r 0 then answer (.range 16) s
    else withZeros r 1 3 (fun s =>
      let (s2, refuser) := s.requestWith ⟨false, !r.broadcast && !r.group, pByte r 0, firing⟩
      match refuser with
      | none => (s2, .keep (!s.inTransition && s2.inTransition) (.ok []))
      | some n => answer (.busy n) s2) s

/-- POWER_STATE (R319), in the always-on clock cycle `c` (R321). -/
def execPowerState (c : AonCycle) (r : Request) (s : State) : Host.Outcome State Fault Refusal :=
  done (command 0x40 r (powerBody c.firing.val r) (s.advance c.t))

/-! ### Events -/

def State.settleTime (s : State) : Nat := ms (max 1 (s.rd F.PWR_CFG.VALVE_SETTLE))

/-- Quadrant q has settled. -/
def State.valveSettled (q : Quad) (s : State) : State :=
  if s.lightOf q = .settling ∧ nth s.pwr.closedAt q.val + s.settleTime ≤ s.now then s.setLight q .settled else s

/-- VALVE_SETTLE_EXPIRY (R323). -/
def execValveSettleExpiry (t : Nat) (s : State) : Host.Outcome State Fault Refusal :=
  done (forQ State.valveSettled (s.advance t))

/-- The entry is complete: STATE reads the target. -/
def State.entryDone (s : State) (target : Nat) : State :=
  let s := (((s.setIslands false).dramSleep.wr F.PWR_STATE.STATE target).wr F.PWR_STATE.BUSY 0)
  let s := { s with pwr.trans := .none, pwr.enteredAt := s.now, pwr.timerDone := false, pwr.stopped := false }
  let s := s.quietPorts.workDone 0x40
  (if target = 3 then s.cutOff else s).releaseWakes

/-- The reply to a POWER_STATE has not left the up output yet (R319). -/
def State.replyWaits (s : State) : Bool :=
  s.cmd.places.any (fun p => p.op == 0x40 && p.answered && p.req.replyReq) && s.upOutput.any s.portActive

/-- What SLEEP waits for beside the steps of R324: the reply has been sent, and a flash operation in progress has ended (R319, R326). -/
def State.maySleep (s : State) : Bool := !s.replyWaits && !s.flashWriting

/-- POWER_ENTRY_DONE (R324, R326, R329): the scan-out has stopped and the panel rails are off. -/
def execPowerEntryDone (t : Nat) (s : State) : Host.Outcome State Fault Refusal :=
  let s := s.advance t
  let target := s.rd F.PWR_STATE.TARGET
  done (if s.pwr.trans = .entry ∧ s.pwr.stopped ∧ s.sys.rails = .idle ∧ (target = 3 → s.maySleep) then s.entryDone target else s)

/-- The exit from STANDBY is complete. -/
def State.exitDone (s : State) : State :=
  let s := (s.enterAwake (s.rd F.PWR_STATE.TARGET)).wr F.PWR_STATE.BUSY 0
  ({ s with pwr.trans := .none, pwr.pendingWake := 0, pwr.retried := false } : State).wakePorts.workDone 0x40

/-- STANDBY_EXIT_COMPLETE (R325): the exit goes on. Its islands have not been clocked: steps 2 to 4 begin. The scan-out timing runs:
STATE reads the target (DEDUCED, notes/assumptions/92.md). -/
def execStandbyExitComplete (t : Nat) (s : State) : Host.Outcome State Fault Refusal :=
  let s := s.advance t
  done (if s.pwr.trans ≠ .exit then s
    else if !s.pixClk then (if s.pwr.retryAt ≤ s.now then s.exitClock else s)
    else if s.scn.running then s.exitDone else s)

/-- WAKE_TIMER (R328). -/
def execWakeTimer (t : Nat) (s : State) : Host.Outcome State Fault Refusal :=
  let s := s.advance t
  let n := s.rd F.PWR_TIMER.SECONDS
  done (if s.on F.PWR_WAKE_EN.TIMER && decide (n ≠ 0) && decide (2 ≤ s.power) && !s.pwr.timerDone
      && Nat.ble (s.pwr.enteredAt + sec n) s.now
    then ({ s with pwr.timerDone := true } : State).wakeEvent 2 else s)

/-- SVC_WAKE (R328): SVC_CS_N has been low for 10 µs. -/
def execSvcWake (t : Nat) (s : State) : Host.Outcome State Fault Refusal :=
  let s := s.advance t
  done (if s.on F.PWR_WAKE_EN.SVC && decide (s.lifecycle ≠ 4) && s.wakeable 3 then s.wakeEvent 3 else s)

/-- A wake, or an exit from STANDBY, fails for good: the reset with cause WAKE_FAIL, whose start completes the transition; until then its
wake sources stay pending (R328, R330, R443). -/
def State.wakeFail (s : State) : State :=
  let target := s.rd F.PWR_STATE.TARGET
  { (s.bump (F.PWR_REFUSE_CNT.COUNT 10)).warmReset 6 0 (ms 1) with pwr.failedTarget := some target, pwr.pendingWake := s.pwr.pendingWake }

/-- WAKE_RETRY (R330): the regulators, oscillators or islands of a wake have not come up, and nothing of them is switched on. The first
time the wake is tried again after 5 ms; the second time it has failed. -/
def execWakeRetry (t : Nat) (s : State) : Host.Outcome State Fault Refusal :=
  let s := s.advance t
  if !((s.sys.waking && decide (s.rd F.SYS_START.STEP < 4)) || (decide (s.pwr.trans = .exit) && !s.pixClk)) then done s
  else if s.pwr.retried then done s.wakeFail
  else done ({ s.bump F.PWR_WAKE_STAT.RETRIES with pwr.retried := true, pwr.retryAt := s.now + ms 5 }.fault 0xA0 0)

/-- Every latch opens. -/
def State.openPads (s : State) : State :=
  (((s.wr F.PWR_PAD.VALVE 0).wr F.PWR_PAD.PANEL 0).wr F.PWR_PAD.SAFETY 0).wr F.PWR_PAD.MISC 0

/-- PAD_RELEASE (R332). -/
def execPadRelease (s : State) : Host.Outcome State Fault Refusal := done s.openPads

end Sys2Proof.Machine
end

