-- ==== Sys2Proof/Machine/Update.lean ====
section
/-! DEFINITION. Sys2Proof/Machine/Update.lean: firmware images, staging, the check of R428, handover, trial, confirmation and
fallback (19_firmware_update.md). -/

namespace Sys2Proof.Machine

/-! ### Image areas (R421, R424) -/

def areaBytes : Nat := 8388608

/-- A byte of an area; what nothing has programmed reads as erased flash, 0xFF. -/
def ImageArea.byte (a : ImageArea) (i : Nat) : Byte := Sparse.get (fun _ => 0xFF#8) a.bytes i

/-- `n` bytes from offset `o`. -/
def ImageArea.slice (a : ImageArea) (o n : Nat) : List Byte := (List.range n).map (fun i => a.byte (o + i))

def ImageArea.programFrom (a : ImageArea) (o : Nat) : List Byte → ImageArea
  | [] => a
  | b :: bs => ({ a with bytes := Sparse.put (fun _ => 0xFF#8) a.bytes o b } : ImageArea).programFrom (o + 1) bs

/-- A 64 KiB sector is erased; of a delivered image nothing is known any more. -/
def ImageArea.eraseSector (a : ImageArea) (k : Nat) : ImageArea :=
  { bytes := a.bytes.filter (fun e => e.1 / 65536 != k), delivered := none }

/-- The header that 512 bytes spell. -/
def headerOf (b : List Byte) : ImageHeader :=
  { cold := decide (fieldLE b 6 2 % 2 = 1), version := fieldLE b 8 4, length := fieldLE b 12 4, rollback := fieldLE b 16 1
    keySlot := fieldLE b 17 1, stateFmt := fieldLE b 18 1, stateFrom := fieldLE b 19 1, dataFmt := fieldLE b 20 2
    migFrom := fieldLE b 22 2, safeIf := fieldLE b 24 1, safeIfMin := fieldLE b 25 1, safeOff := fieldLE b 36 4
    safeLen := fieldLE b 40 4, safeCrc := fieldLE b 44 4 }

/-- The header of the image in an area. -/
def ImageArea.header (a : ImageArea) : ImageHeader := a.delivered.getD (headerOf (a.slice 0 512))

/-- A part lies wholly between offset 512 and the signature. -/
def partInside (o n len : Nat) : Bool := Nat.ble 512 o && Nat.ble (o + n) (len - 64)

/-- MAGIC, FORMAT, FLAGS, lengths and offsets are valid. -/
def imageHeaderValid (b : List Byte) : Bool :=
  let h := headerOf b
  b.take 4 == [0x41#8, 0x56#8, 0x46#8, 0x57#8] && fieldLE b 4 2 == 1 && Nat.ble (fieldLE b 6 2) 1
    && h.length % 4 == 0 && Nat.ble 4096 h.length && Nat.ble h.length areaBytes
    && partInside (fieldLE b 28 4) (fieldLE b 32 4) h.length && partInside h.safeOff h.safeLen h.length && Nat.ble h.safeLen 262144

def State.area (s : State) (i : Nat) : ImageArea := nth s.flash.areas i

/-- SIG verifies with a key whose hash is that fused for the image's slot, and the safety part has its CRC. -/
def State.signatureGood (s : State) (a : ImageArea) : Bool :=
  let h := a.header
  match a.delivered with
  | some _ => Nat.ble h.keySlot 3
  | none =>
    let key := a.slice 64 64
    Nat.ble h.keySlot 3 && sha256 key == nth s.sys.fuses.keyHashes h.keySlot && !(nth s.sys.fuses.keyHashes h.keySlot).isEmpty
      && signedBy key (a.slice (h.length - 64) 64) (a.slice 0 (h.length - 64))

def ImageArea.safeCrcGood (a : ImageArea) : Bool :=
  a.delivered.isSome || crc32c (a.slice a.header.safeOff a.header.safeLen) == a.header.safeCrc

def State.slotRevoked (s : State) (k : Nat) : Bool := s.sys.fuses.revoked.testBit k

/-- The image of an area is authentic, slot 0 only in FACTORY, and not below the floor (R422, R423). -/
def State.bootable (s : State) (a : ImageArea) : Bool :=
  (a.delivered.isSome || imageHeaderValid (a.slice 0 512)) && s.signatureGood a
    && !(a.header.keySlot == 0 && s.lifecycle != 0) && !s.slotRevoked a.header.keySlot
    && Nat.ble s.sys.fuses.floor a.header.rollback

/-! ### Staging (R426) -/

def State.updState (s : State) : Nat := s.rd F.UPD_STAT.STATE
def State.setUpd (s : State) (st : Nat) : State := s.wr F.UPD_STAT.STATE st
def State.setStagingArea (s : State) (a : ImageArea) : State :=
  { s with flash.areas := s.flash.areas.set s.flash.staging a }

/-- A write of `n` bytes at `o` shares a byte with a range. -/
def touches (o n : Nat) (r : Nat × Nat) : Bool := Nat.blt r.1 (o + n) && Nat.blt o r.2

def stageRange (r : Request) : Nat × Nat := (r.arg.toNat, r.arg.toNat + r.payload.length)

/-- The staging writes not yet done. -/
def State.stageWaiting (s : State) : List Place := s.cmd.places.filter (fun p => p.op == 0x60 && !p.answered)

/-- The write touches bytes written in the session, bytes whose programming failed, or bytes that wait to be written. -/
def State.stageTouches (s : State) (r : Request) : Bool :=
  (s.upd.written ++ s.upd.broken ++ s.stageWaiting.map (fun p => stageRange p.req)).any (touches r.arg.toNat r.payload.length)

/-- A new session: the staging record cleared, every sector stale. -/
def State.stageSession (s : State) : State :=
  { (s.setUpd 1).wr F.UPD_STAGED_VER.VERSION 0 with
    flash.record := none, upd.stale := List.range 128, upd.written := [], upd.broken := [] }

def updateStageBody (r : Request) (s : State) : State × Verdict :=
  let n := r.payload.length
  let o := r.arg.toNat
  if 1 < s.updState then answer (.denied 2) s
  else if n < 4 ∨ 4096 < n ∨ n % 4 ≠ 0 then answer (.range 10) s
  else if o % 4 ≠ 0 ∨ areaBytes < o + n ∨ (o ≠ 0 ∧ s.stageTouches r) then answer (.range 12) s
  else ((if o = 0 then s.stageSession else s).queueFlash .staging, .hold)

/-- UPDATE_STAGE (R426). -/
def execUpdateStage (r : Request) (s : State) : Host.Outcome State Fault Refusal := done (command 0x60 r (updateStageBody r) s)

/-- Stale sectors that bytes from `o` to `e` lie in are erased. -/
def State.eraseStale (s : State) (o e : Nat) : State :=
  let ks := s.upd.stale.filter (fun k => Nat.ble (o / 65536) k && Nat.ble k ((e - 1) / 65536))
  let s := s.setStagingArea (ks.foldl ImageArea.eraseSector (s.area s.flash.staging))
  { s with upd.stale := s.upd.stale.filter (fun k => !ks.contains k) }

/-- The bytes of a staging write are programmed. -/
def State.programStage (s : State) (r : Request) : State :=
  let s := s.eraseStale r.arg.toNat (r.arg.toNat + r.payload.length)
  s.setStagingArea ((s.area s.flash.staging).programFrom r.arg.toNat r.payload)

/-- STAGE_WRITE_DONE (R426): the oldest staging write is programmed and read back. -/
def execStageWriteDone (ok : Bool) (s : State) : Host.Outcome State Fault Refusal :=
  match s.stageWaiting, s.inFlight .staging with
  | [], _ | _, false => done s
  | p :: rest, true =>
    let s := s.programStage p.req
    let s := if rest.isEmpty then s.flashDone else s
    let src := p.req.src.toNat
    let tag := p.req.tag.toNat
    if ok then done ({ s with upd.written := s.upd.written ++ [stageRange p.req] }.complete src tag (.ok []))
    else done (({ s with upd.broken := s.upd.broken ++ [stageRange p.req] }.fault 0xB5 0).complete src tag (.checkFail 2))

/-! ### The check (R428) -/

def updateActivateBody (r : Request) : State → State × Verdict :=
  withLen 0 r fun s =>
    match s.updState with
    | 0 => answer (.notReady 0x12) s
    | 1 => (s.setUpd 2, .hold)
    | 5 | 6 | 8 => (s, .keep false (.ok []))
    | _ => answer (.busy 0) s

/-- UPDATE_ACTIVATE (R428). -/
def execUpdateActivate (r : Request) (s : State) : Host.Outcome State Fault Refusal := done (command 0x61 r (updateActivateBody r) s)

/-- The ranges cover the bytes 0 to n − 1. -/
def covers (ws : List (Nat × Nat)) (n : Nat) : Bool :=
  Nat.ble n ((List.range ws.length).foldl (fun p _ =>
    match ws.find? (fun w => Nat.ble w.1 p && Nat.blt p w.2) with
    | some w => w.2
    | none => p) 0)

/-- The first test of R428 that the staged image fails, as UPD_STAT.ERR; 0 when it passes. In the recovery monitor no image and
no safety part run, so tests 7 and 9 have nothing to compare. -/
def State.stagedErr (s : State) : Nat :=
  let a := s.area s.flash.staging
  let h := a.header
  let run := s.upd.running
  if !covers s.upd.written h.length then 1
  else if !(a.delivered.isSome || imageHeaderValid (a.slice 0 512)) then 2
  else if !(s.signatureGood a && a.safeCrcGood) then 3
  else if h.keySlot = 0 ∧ s.lifecycle ≠ 0 then 4
  else if s.slotRevoked h.keySlot then 5
  else if h.rollback < s.sys.fuses.floor then 6
  else if !h.cold && !s.sys.monitor && (Nat.blt run.stateFmt h.stateFrom || Nat.blt h.stateFmt run.stateFmt) then 7
  else if (if h.cold then Nat.blt s.flash.conf.fmt h.migFrom || Nat.blt h.dataFmt s.flash.conf.fmt
      else h.dataFmt != s.flash.conf.fmt) then 8
  else if !s.sys.monitor && Nat.blt s.upd.safeIf h.safeIfMin then 9
  else 0

def updateReply (err : Nat) : Answer :=
  if err = 0 then .ok [] else if err = 4 then .denied 1 else if err = 5 ∨ err = 6 then .denied 2 else .checkFail 0

/-- The reply to the UPDATE_ACTIVATE that holds a place. -/
def State.answerActivate (s : State) (a : Answer) : State :=
  match s.placeOf 0x61 with
  | some (src, tag) => s.complete src tag a
  | none => s

/-- The staged image takes the name CURRENT, and the device restarts (R448). -/
def State.monitorInstall (s : State) : State :=
  let fmt := (s.area s.flash.staging).header.dataFmt
  { s with
    flash := { s.flash.setBoot s.flash.staging s.flash.previous s.flash.current fmt with record := none } }.askReset

/-- The check has passed: LOADING, or ARMED for a COLD image. -/
def State.checkPassed (s : State) : State :=
  let a := s.area s.flash.staging
  let h := a.header
  let s := { s with flash.record := some ⟨sha256 (a.slice 0 h.length), h.cold, false⟩ }
  if s.sys.monitor then s.monitorInstall.setUpd 1
  else if h.cold then (s.setUpd 8).bump F.UPD_CNT.ACTIVATIONS
  else { s.setUpd 3 with upd.loadAt := s.now, upd.standby := h }

/-- UPDATE_CHECK_DONE (R428). -/
def execUpdateCheckDone (t : Nat) (s : State) : Host.Outcome State Fault Refusal :=
  let s := s.advance t
  if s.updState ≠ 2 then done s
  else
    let err := s.stagedErr
    let s := (s.wr F.UPD_STAT.ERR err).wr F.UPD_STAGED_VER.VERSION (s.area s.flash.staging).header.version
    let s := if err = 0 then s.checkPassed else (s.setUpd 1).fault 0xB0 0
    done (s.answerActivate (updateReply err))

/-! ### Loading and handover (R427, R429, R430) -/

/-- STANDBY_CORE_READY (R429): within 3 s of LOADING. -/
def execStandbyCoreReady (t : Nat) (s : State) : Host.Outcome State Fault Refusal :=
  let s := s.advance t
  done (if s.updState = 3 ∧ s.now ≤ s.upd.loadAt + sec 3 then { s.setUpd 4 with upd.point := none } else s)

/-- A handover point lies right after the governor has written a frame's ceilings: the handover that begins there ends within 1.5 ms
(R429). -/
def State.atPoint (s : State) : Bool := s.upd.point.any (fun a => Nat.ble s.now (a + us 1500))

/-- A load or a handover aborts: the old image stays active. -/
def State.updateAbort (s : State) (err : Nat) : State := ((s.setUpd 1).wr F.UPD_STAT.ERR err).fault 0xB1 0

/-- LOAD_TIMEOUT (R427): 3 s in LOADING. -/
def execLoadTimeout (t : Nat) (s : State) : Host.Outcome State Fault Refusal :=
  let s := s.advance t
  done (if s.updState = 3 ∧ s.upd.loadAt + sec 3 ≤ s.now then s.updateAbort 10 else s)

/-- The cores exchange roles (R429, R433). -/
def State.exchangeCores (s : State) : State :=
  { s.wr F.UPD_STAT.ACTIVE_CORE (1 - s.rd F.UPD_STAT.ACTIVE_CORE) with upd.running := s.upd.standby, upd.standby := s.upd.running }

/-- The image in trial is active. -/
def State.enterTrial (s : State) (cold : Bool) : State :=
  { (s.setUpd 5).wr F.UPD_STAT.SELF_OK 0 with upd.trialAt := s.now, upd.cold := cold, upd.tripped := false }

/-- HANDOVER_POINT (R429): right after the governor has written a frame's ceilings the state is handed over, or it is not. -/
def execHandoverPoint (ok : Bool) (t : Nat) (s : State) : Host.Outcome State Fault Refusal :=
  let s := s.advance t
  if !(s.updState == 4 && s.governing && s.atPoint) then done s
  else if ok then done ((s.exchangeCores.enterTrial false).bump F.UPD_CNT.ACTIVATIONS).takeCheckpoint
  else done (s.updateAbort 11)

/-! ### Fallback (R431, R433 to R435) -/

/-- CONFIRMED is cleared in the staging record. -/
def State.unconfirm (s : State) : State :=
  { s with flash.record := s.flash.record.map (fun (r : StagingRec) => { r with confirmed := false }) }

/-- The old image is active: cause, count, fault 0xB2. -/
def State.fellBack (s : State) (cause : Nat) : State :=
  ((s.wr F.UPD_STAT.CAUSE cause).bump F.UPD_CNT.FALLBACKS).fault 0xB2 2

/-- FALLBACK is entered; from the trial of a cold image it is a warm reset into CURRENT (R435). -/
def State.startFallback (s : State) (cause : Nat) (tripped : Bool) : State :=
  if s.upd.cold then (s.unconfirm.warmReset 8 0 (ms 1)).fellBack cause
  else { s.setUpd 7 with upd.cause := cause, upd.tripped := tripped }

/-- SUPERVISOR_TRIP (R431): 0 no heartbeat for 10 ms, 1 fault 0x71, 2 no answer to the probe. During a fallback handover the trip
ends it from the checkpoint (R437). -/
def execSupervisorTrip (cause : Fin 3) (t : Nat) (s : State) : Host.Outcome State Fault Refusal :=
  let s := s.advance t
  if cause = 1 ∧ !s.on F.GOV_FLAGS.STALLED then done s
  else if s.updState = 5 ∨ s.updState = 6 then done (s.startFallback (cause.val + 1) true)
  else if s.updState = 7 then done { s with upd.tripped := true }
  else done s

/-- CONFIRM_TIMEOUT (R431). -/
def execConfirmTimeout (t : Nat) (s : State) : Host.Outcome State Fault Refusal :=
  let s := s.advance t
  done (if s.updState = 5 ∧ s.upd.trialAt + sec (10 * max 1 (s.rd F.UPD_CFG.CONFIRM_S)) ≤ s.now then s.startFallback 4 false else s)

/-- The commands a checkpoint leaves executing: those it holds that have not ended since. What a command has done stands, its reply since
then is lost (R433). -/
def State.checkpointCmd (s : State) (c : CmdState) : CmdState :=
  { c with
    places := s.cmd.places.filter (fun p => c.places.any (fun q => q.req == p.req && q.op == p.op))
    replies := s.cmd.replies.filter c.replies.contains }

/-- What the checkpoint kept is what the old image goes on with (R433). Hardware goes on meanwhile: the ceilings in the tails and what is
measured of the frames shown, and the collector's own records, of which those made since are still to be copied (DEDUCED,
notes/assumptions/112.md). -/
def State.resumeCheckpoint (s : State) : State :=
  match s.upd.checkpoint with
  | none => s
  | some c =>
    let g := s.gov
    { s with
      regs := Sparse.norm resetWord (s.regs.filter (fun e => !firmwareHeld e.1) ++ c.regs)
      cmd := s.checkpointCmd c.cmd, tun := c.tun
      flt.copies := c.copies ++ s.flt.copies.filter (fun r => !c.copies.contains r), flt.copyFailed := c.copyFailed
      gov := { c.gov with
        eval := g.eval, written := g.written, missed := g.missed, prev := g.prev, shownPower := g.shownPower, shownLed := g.shownLed
        shownVled := g.shownVled, shownCurves := g.shownCurves, irow := g.irow, irowPrev := g.irowPrev, irowOld := g.irowOld } }

/-- FALLBACK_DONE (R433). -/
def execFallbackDone (t : Nat) (s : State) : Host.Outcome State Fault Refusal :=
  let s := s.advance t
  if s.updState ≠ 7 then done s
  else
    let s := if s.upd.tripped then s.resumeCheckpoint else s
    let s := ((s.exchangeCores.setUpd 1).wr F.UPD_STAT.SELF_OK 0).unconfirm.fellBack s.upd.cause
    done (({ s with upd.tripped := false, upd.checkpoint := none } : State).workDone 0x63).startEvaluation

/-- UPDATE_REVERT after the length test (R434). -/
def updateRevertBody (r : Request) : State → State × Verdict :=
  withLen 0 r fun s =>
    match s.updState with
    | 5 | 6 => (s.startFallback 5 false, .keep (!s.upd.cold) (.ok []))
    | 8 => ({ s.setUpd 1 with flash.record := s.flash.record.map (fun (x : StagingRec) => { x with armed := false }) }, .keep false (.ok []))
    | _ => answer (.notReady 0x12) s

/-- UPDATE_REVERT (R434). -/
def execUpdateRevert (r : Request) (s : State) : Host.Outcome State Fault Refusal := done (command 0x63 r (updateRevertBody r) s)

/-! ### Confirmation (R432) -/

/-- The image in trial is confirmed. -/
def State.confirm (s : State) : State :=
  { s.setUpd 6 with flash.record := s.flash.record.map (fun (x : StagingRec) => { x with confirmed := true }) }

def updateConfirmBody (r : Request) : State → State × Verdict :=
  withLen 0 r fun s =>
    if s.updState = 6 then answer (.ok []) s
    else if s.updState = 5 ∧ s.on F.UPD_STAT.SELF_OK then answer (.ok []) s.confirm
    else answer (.notReady 0x12) s

/-- UPDATE_CONFIRM (R432). -/
def execUpdateConfirm (r : Request) (s : State) : Host.Outcome State Fault Refusal := done (command 0x62 r (updateConfirmBody r) s)

/-- TRIAL_TIME_ELAPSED (R432): TRIAL_S without a trip; the new image's own checks have passed, or not. -/
def execTrialTimeElapsed (ok : Bool) (t : Nat) (s : State) : Host.Outcome State Fault Refusal :=
  let s := s.advance t
  if s.updState = 5 ∧ ok ∧ s.upd.trialAt + sec (max 1 (s.rd F.UPD_CFG.TRIAL_S)) ≤ s.now then
    let s := s.wr F.UPD_STAT.SELF_OK 1
    done (if s.on F.UPD_CFG.AUTO_CONFIRM then s.confirm else s)
  else done s

end Sys2Proof.Machine
end

