-- ==== Sys2Proof/Machine/Boot.lean ====
section
/-! DEFINITION. Sys2Proof/Machine/Boot.lean: the boot check, the start sequence, supplies and reset triggers, and the rail events
that let a start go on (19_firmware_update.md R425, R435, R437; 20_start_up.md R439 to R450). -/

namespace Sys2Proof.Machine

/-! ### The boot check (R425, R435, R437) -/

/-- What a start runs. -/
inductive Booted where
  | current | previous | trial | monitor
  deriving DecidableEq, Repr, Inhabited

/-- The boot record is rotated, the floor rises, the staging record is cleared. -/
def State.rotate (s : State) : State :=
  let staged := s.flash.staging
  { s with
    flash := { s.flash.setBoot staged s.flash.current s.flash.previous (s.area staged).header.dataFmt with record := none, confOld := none }
    sys.fuses.floor := max s.sys.fuses.floor (min 63 (s.area staged).header.rollback) }

/-- CURRENT when it may run, else PREVIOUS, else none. Configuration records that a trial wrote are given up for those of before. -/
def State.bootCurrent (s : State) : State × Booted :=
  let s := match s.flash.confOld with
    | some c => { s with flash.conf := c, flash.confOld := none }
    | none => s
  if s.bootable (s.area s.flash.current) then (s, .current)
  else if s.bootable (s.area s.flash.previous) then (s.fault 0xB3 2, .previous)
  else (s, .monitor)

/-- The staging record holds CONFIRMED for an image that may run. -/
def State.rotates (s : State) : Bool := s.lifecycle != 4 && s.flash.record.any (·.confirmed) && s.bootable (s.area s.flash.staging)

/-- The boot check. In RETIRED the monitor always runs. No image that may not run is taken in trial (R423, DEDUCED,
notes/assumptions/112.md). -/
def State.bootCheck (s : State) : State × Booted :=
  if s.lifecycle = 4 then (s, .monitor)
  else match s.flash.record with
    | some r =>
      if s.rotates then s.rotate.bootCurrent
      else if r.armed ∧ !r.confirmed ∧ s.bootable (s.area s.flash.staging) then ({ s with flash.record := some { r with armed := false } }, .trial)
      else s.bootCurrent
    | none => s.bootCurrent

/-- The area that a start runs from. -/
def State.bootedArea (s : State) (b : Booted) : Nat :=
  match b with
  | .previous => s.flash.previous
  | .trial => s.flash.staging
  | _ => s.flash.current

/-- UPD_STAGED_VER of a start that keeps an image which has passed CHECK (R427). -/
def State.stagedVersion (s : State) : State :=
  if s.flash.record.isNone then s else s.wr F.UPD_STAGED_VER.VERSION (s.area s.flash.staging).header.version

/-- The update state a start begins in (R427): a staged image that is not in trial has been written whole. -/
def State.updateAtStart (s : State) (b : Booted) : State :=
  let s := s.stagedVersion
  if b = .trial then s.enterTrial true
  else match s.flash.record with
    | some _ => { s.setUpd 1 with upd.written := [(0, (s.area s.flash.staging).header.length)] }
    | none => s.setUpd 0

/-- Firmware runs: its header, the versions and the boot status; or the monitor runs (R448). -/
def State.runImage (s : State) (b : Booted) : State :=
  let s := s.updateAtStart b
  let s := (s.wrB F.UPD_BOOT.PREV_OK (s.bootable (s.area s.flash.previous))).wrB F.UPD_BOOT.BOOTED_PREV (b == .previous)
  if b = .monitor then
    let s : State := { s with sys.monitor := true }
    if s.lifecycle = 4 then s else s.fault 0x07 2
  else
    let h := (s.area (s.bootedArea b)).header
    { s with sys.monitor := false, upd.running := h, upd.standby := h }

/-! ### Records of another DATA_FMT (R435) -/

/-- The index of the newest calibration copy that the image reads. -/
def State.bestCopy (s : State) : Option Nat :=
  match s.flash.calA.filter (fun c => s.readsFmt c.fmt), s.flash.calB.filter (fun c => s.readsFmt c.fmt) with
  | none, none => none
  | some _, none => some 0
  | none, some _ => some 1
  | some a, some b => some (if b.seq ≤ a.seq then 0 else 1)

/-- The newest stress region that the image reads. -/
def State.bestStress (s : State) : Option (Nat × StressRec) :=
  bestRegion (s.flash.stress.map (fun r => r.filter (fun x => s.readsFmt x.fmt)))

/-- The migration of a cold image in trial: new-format records beside the newest old ones. -/
def State.migrate (s : State) : State :=
  let f := s.upd.running.dataFmt
  let s := match s.bestCopy with
    | none => s
    | some i =>
      match s.calCopy i with
      | some c => if c.fmt = f then s else s.setCalCopy (1 - i) { c with fmt := f, seq := c.seq + 1 }
      | none => s
  let s := match s.bestStress with
    | some (i, r) => if r.fmt = f then s
        else { s with flash.stress := s.flash.stress.set ((i + 1) % 3) (some { r with fmt := f, seq := r.seq + 1 }) }
    | none => s
  if s.flash.conf.fmt = f then s
  else { s with flash.confOld := some s.flash.conf, flash.conf := { s.flash.conf with fmt := f } }

/-! ### The steps -/

def State.setStep (s : State) (n : Nat) : State := s.wr F.SYS_START.STEP n

/-- A fresh nonce (R454). -/
def State.renewNonce (s : State) : State :=
  let (a, s) := s.draw
  let (b, s) := s.draw
  (s.wr F.SYS_LC_NONCE_LO.NONCE a).wr F.SYS_LC_NONCE_HI.NONCE b

/-- Faults of the reset that this start follows (R443, R330, R458). -/
def State.resetFaults (s : State) : State :=
  let cause := s.rd F.SYS_RESET_CAUSE.CAUSE
  if s.sys.waking || cause == 1 then s
  else
    let s := s.report 0x03 0 0 cause
    if cause = 4 then s.fault 0x00 2 else if cause = 5 then s.fault 0x01 2 else if cause = 6 then s.fault 0xA1 2 else s

/-- The state the start is to end in (R318, R327, R330). -/
def State.firstLightTarget (s : State) : Nat :=
  match s.pwr.failedTarget with
  | some t => t
  | none => if s.sys.waking then s.wakeTarget else s.rd F.PWR_CFG.START_DARK

/-- Steps 2 and 3: the Reed line regenerates, a power-on reset opens the pad latches, the start counts as an exit. -/
def State.stepTwo (s : State) : State :=
  let s := { s with rln.oscReady := true }
  let s := if s.rd F.SYS_RESET_CAUSE.CAUSE = 1 ∧ !s.sys.waking then s.openPads else s
  ((s.beginStart s.firstLightTarget).renewNonce.resetFaults).setStep 3

/-- A stored value of the configuration sector, if there is a valid one. -/
def storedValue {α : Type} (v : Option (Option α)) : Option α := v.getD none

/-- The stored port roles apply, and the ports of a role begin their bring-up (R225, R237, R446). -/
def State.startPorts (s : State) : State :=
  let s := match storedValue s.storedConf.zlpRole with
    | some v => s.store A.ZLP_ROLE v
    | none => s
  (ports.foldl (fun s p => if s.role p = 0 then s else s.freshDetect p.val) s).refreshModes

/-- FLT_CFG and SYS_PRAIL_CFG as stored, at every start (R389, R449). -/
def State.loadConf (s : State) : State :=
  let s := match s.storedConf.fltCfg with
    | some (some v) => s.store A.FLT_CFG v
    | some none => s.fault 0x0D 2
    | none => s
  match storedValue s.storedConf.prailCfg with
  | some v => s.store A.SYS_PRAIL_CFG v
  | none => s

/-- Step 4: the image runs, the link island is clocked. -/
def State.stepFour (s : State) (b : Booted) : State :=
  let s := (s.runImage b).wr F.SYS_ISLAND_STAT.LNK_CLK 1
  s.loadConf.startPorts.setStep 4

/-- The address order in use (R193). -/
def State.loadOrder (s : State) : State :=
  match storedValue s.storedConf.fmcOrder with
  | some v => (s.wr F.FMC_ORDER.ORDER v).wr F.FMC_ORDER.NEXT v
  | none => s

/-- The activations of the wipe draw as any do: how many neighbour refreshes have run when it is over is open, and every bank is closed
(R200, R205; DESIGN CHOICE, notes/assumptions/140.md). -/
def State.wipeRows (s : State) : State :=
  let s := { s with fmc.openRow := List.replicate 32 none, fmc.pnr := [] }
  if s.on F.FMC_PNR.EN then
    let (n, s) := s.draw
    s.bumpBy F.FMC_CNT_PNR.RUNS n
  else s

/-- Step 5: DRAM trained and wiped, SRAM wiped (R201, R205, R447). Without training or wipe MEM_CLK stays 0. -/
def State.stepFive (s : State) (i : StartInput) : State :=
  let s := ({ s.loadOrder with mem := [] } : State).setIslands true
  let s := if i.trained then s.dramTrained.wipeRows else (s.wr F.SYS_ISLAND_STAT.MEM_CLK 0).fault 0x7A 4
  let s := if i.trained then (s.wrB F.FMC_WIPE_STAT.RETRIED (i.wipeRetried || !i.wiped)).wr F.FMC_WIPE_STAT.LAST_MS i.wipeMs else s
  let s := if i.trained && !i.wiped then (s.wr F.SYS_ISLAND_STAT.MEM_CLK 0).fault 0x7B 4 else s
  (if i.sram then s else s.fault 0x05 4).setStep 5

/-- The engines' self-test (R404). -/
def State.selfTest (s : State) (scanOk : Bool) (channels : Nat) : State :=
  let s := { s with chk.testAt := s.now }
  let s := if scanOk then s else (s.wr F.CHK_SELFTEST.SCAN_FAIL 1).fault 0xC0 4
  let old := s.rd F.CHK_SELFTEST.CH_FAIL
  if Nat.lor old channels = old then s else ((s.wr F.CHK_SELFTEST.CH_FAIL (Nat.lor old channels)).fault 0xC2 2).moveChannels

/-- Step 6: the safety image is checked, and the core released (R355, R436). -/
def State.stepSix (s : State) (b : Booted) (i : StartInput) : State :=
  let s := s.selfTest i.scanEngine i.channels.val
  let s := if !i.scanEngine then s
    else if !(i.safetyImage && (s.area (s.bootedArea b)).safeCrcGood) then s.fault 0x9A 4
    else ({ s with saf.released := true, saf.imageFrom := s.now, upd.safeIf := s.upd.running.safeIf } : State).loadSafParams
  s.setStep 6

/-- The stress store as loaded from a region (R95); with none, stress starts from zero. -/
def State.loadStress (s : State) : State :=
  match s.bestStress with
  | none => s.fault 0x57 2
  | some (i, r) =>
    let s := (s.touchSpan 0x16000000 0x600000).setRegion 0x16000000 0x16600000 (r.codes.map (fun e => (e.1, BitVec.ofNat 8 e.2)))
    let s := (List.range 12).foldl (fun s i => s.wr (F.CMP_AGE.KAPPA (i / 3) (i % 3)) (unsigned 13 (r.kappa.getD i 0))) s
    let s := { s with cmp.tailDefects := r.defects }.setDefects r.defects
    (s.setRegion 0x17000000 0x17010000 (mirrorCells r.defects)).wr F.CMP_STRESS_STAT.REGION i

/-- The base table and the baselines of the current calibration copy (R83, R84, R160). -/
def State.loadCalibration (s : State) : State :=
  match s.bestCopy with
  | none => { s with cmp.base := {} }.fault 0x51 2
  | some i =>
    match s.calCopy i with
    | none => s
    | some c =>
      let s := ({ s with cmp.base := c.table }.wr F.CMP_TBL_STAT.FLASH_CUR i).wr F.CMP_TBL_ID.TABLE_ID c.table.id
      let s := (List.range 4).foldl (fun s q =>
        let m := nth c.base.meta_ q
        ((s.wrB (F.SNS_BASE_T.VALID q) m.1).wr (F.SNS_BASE_T.ITEST q) m.2.1).wr (F.SNS_BASE_T.TREF q) m.2.2) s
      (s.touchSpan 0x0E800000 0x600000).setRegion 0x0E800000 0x0F000000 (c.base.values.map (fun e => (e.1, BitVec.ofNat 8 e.2)))

/-- The applied table is built into copy A (R84, R91). What copy B then holds the spec does not say: the model reads unity words there
until a build writes it (DESIGN CHOICE, notes/assumptions/91.md). -/
def State.firstBuild (s : State) : State :=
  let rr := s.rrefs s.cmp.base
  let s := (({ s with cmp.rref := rr } : State).ageLimitEntries s.cmp.base rr).touchSpan 0x14000000 0xC00000
  ({ s with cmp.applied := [s.buildTable s.cmp.base, []], cmp.built := true } : State).buildBounds

/-- The reference as the monitor finds it at a start (R407, R419). -/
def State.firstReference (s : State) (i : StartInput) : State :=
  let s := s.wr F.TUN_REF.REF (min 0xFFFF i.refTenths)
  if refInside i.refTenths && i.refAgree then s.wr F.TUN_REF.VALID 1 else s.fault 0xB8 2

/-- Step 7: tables, overlay store, the panel records, and the start tuning run, whose ramp targets rest on them (R68, R84, R126, R415;
DEDUCED, notes/assumptions/121.md). -/
def State.stepSeven (s : State) (i : StartInput) : State :=
  let s := (s.touchSpan 0x0E000000 0x600000).touchSpan 0x0E800000 0x600000
  let s := s.fillArrays.loadStress.loadCalibration.firstBuild.loadOverlay
  (((s.firstReference i).takeRecords i.records).startTune i.measured).setStep 7

/-- The voltage maps in use are those of the records read at panel bring-up (R126, R134). -/
def State.firstLadder (s : State) : State := { s with hyb.bank.curves := s.panelCurves }

/-- A start that does not end in ACTIVE ends at step 9 (R327, R445). -/
def State.endStart (s : State) : State := { s.wr F.SYS_START.FIRST_LIGHT_MS s.startMs with sys.starting := false }

/-- A wake whose target is STANDBY: STATE reads it at step 9 (R327), and what R324 switches off there follows as an entry whose scan-out
never ran (DEDUCED, notes/assumptions/103.md). -/
def State.wakeToStandby (s : State) : State := ((s.endStart.wr F.PWR_STATE.STATE 2).beginEntry 2).railsOff

/-- Step 9: the pads are released, the scan-out timing runs, and the start ends there unless it ends in ACTIVE (R445, R330). -/
def State.stepNine (s : State) : State :=
  let target := s.pwr.startTarget
  let failed := s.pwr.failedTarget.isSome
  let s := { (s.openPads.setStep 9).wr F.PWR_STATE.BUSY 0 with
    thm.monitorFrom := some s.now, pwr.trans := .none, pwr.pendingWake := 0, pwr.retried := false, pwr.failedTarget := none }
  if target = 0 then s.startScan.enterAwake 0
  else if target = 2 ∧ !failed then s.wakeToStandby
  else
    let s := (s.startScan.enterAwake 1).endStart
    if target = 2 then s.beginEntry 2 else s

/-- Step 8 is reached with the rails on, and step 9 follows once the start test of a released safety core is over. -/
def State.tryFinish (s : State) : State :=
  let s := if s.sys.starting && s.rd F.SYS_START.STEP == 7 && s.sys.railsUp then s.setStep 8 else s
  if s.sys.starting && s.rd F.SYS_START.STEP == 8 && (s.safeClk || !s.saf.released) then s.stepNine else s

/-- A migration that fails, always-on cycles after the reset before it, is a warm reset into CURRENT, its fault and its fallback
recorded after it (R435). -/
def State.migrationFailed (s : State) : State :=
  (((s.unconfirm.bump F.SYS_RESET_CAUSE.WARM_COUNT).resetNow 8 0 (ms 1)).fault 0xB4 2).fellBack 6

/-- Steps 5 to 8 with an image running: a failed migration falls back, else the tables are built and the rails switch on. -/
def State.stepsFromFive (s : State) (b : Booted) (i : StartInput) : State :=
  let s := (s.stepFive i).restoreFaults
  if b = .monitor then s
  else if b = .trial ∧ !i.migrated then s.migrationFailed
  else
    let s := if b = .trial then s.migrate else s
    ((s.stepSix b i).stepSeven i).firstLadder.railsOn.tryFinish

/-- The start may run: the reset is over, the supplies are good, and nothing of it has run. -/
def State.mayStart (s : State) : Bool :=
  s.sys.starting && !s.sys.resetPin && s.sys.supplies.all id && Nat.ble s.sys.startAt s.now && Nat.ble s.pwr.retryAt s.now
    && Nat.ble (s.rd F.SYS_START.STEP) 3

/-- A warm reset that was asked for 1 ms ago or more takes place (R444). -/
def State.takeReset (s : State) : State :=
  match s.sys.dueReset with
  | some (cause, detail) => if s.sys.dueAt + ms 1 ≤ s.now then s.warmReset cause detail 0 else s
  | none => s

/-- The last reset was one that a loss of supply made, so that a flash write may have been cut short. -/
def State.supplyReset (s : State) : Bool := s.rd F.SYS_RESET_CAUSE.CAUSE == 1 || s.rd F.SYS_RESET_CAUSE.CAUSE == 4

/-- The start runs as far as it goes without waiting. A life-cycle transition that was cut short goes on at step 3 (R456); a loss of
power in the rotation leaves the boot record before it in force (R424, R437), and one that cut short the writing of the life-cycle record
leaves the record before that (R452). -/
def State.runStart (s : State) (i : StartInput) : State :=
  let s := if s.rd F.SYS_START.STEP = 0 then s.stepTwo else s
  let s := if i.lifeCut && s.supplyReset then { s with flash := s.flash.cutLife } else s
  if s.flash.life.pending then s
  else if i.bootCut && s.rotates then { s with flash := s.flash.cutBoot }
  else
    let (s, b) := s.bootCheck
    (s.stepFour b).stepsFromFive b i

/-- START_SEQUENCE (R445). -/
def execStartSequence (t : Nat) (inp : StartInput) (s : State) : Host.Outcome State Fault Refusal :=
  let s := (s.advance t).takeReset
  done (if s.mayStart then s.runStart inp else s)

/-- SAFETY_START_TEST_DONE (R355). -/
def execSafetyStartTestDone (comparators lockstep paths : Bool) (supA supB : Bool) (t : Nat) (s : State) :
    Host.Outcome State Fault Refusal :=
  done ((s.advance t).startTest comparators lockstep paths supA supB).tryFinish

/-! ### Panel rails (R449, R450) -/

/-- PRAIL_PG_CHANGE (R450). -/
def execPrailPgChange (k : Fin 6) (high : Bool) (t : Nat) (s : State) : Host.Outcome State Fault Refusal :=
  done ((s.advance t).pgChange k high).tryFinish.exitScan

/-- PRAIL_PG_TIMEOUT (R450). -/
def execPrailPgTimeout (k : Fin 6) (t : Nat) (s : State) : Host.Outcome State Fault Refusal :=
  done ((s.advance t).pgTimeout k).tryFinish.exitScan

/-- PRAIL_DELAY_EXPIRY (R449). -/
def execPrailDelayExpiry (t : Nat) (s : State) : Host.Outcome State Fault Refusal := done (s.advance t).delayExpiry.tryFinish.exitScan

/-! ### Supplies and resets (R439 to R444) -/

/-- Bits of SYS_RESET_CAUSE.DETAIL for the supplies that are lost: VIN_CORE, VIN_SER, VIN_SRC, VIN_IO. -/
def lostSupplies (l : List Bool) : Nat := bitsOf [!nth l 1, !nth l 2, !nth l 4, !nth l 3]

/-- The nominal voltage of a supply line, and the highest of its operating conditions, in mV (R476). -/
def nominalSupply : List Nat := [3300, 800, 900, 1800, 6000, 24000]
def maxSupply : List Nat := [3600, 824, 927, 1890, 6300, 28800]

/-- A supply above its operating conditions puts the device under R12 until it returns (R475). -/
def State.judgeRange (s : State) (v : SupplyLevel) : State :=
  let above := s.sys.aboveMax.set v.line.val (decide (nth maxSupply v.line.val < v.mV))
  { s with sys.aboveMax := above, undef := (s.undef && s.sys.byCase) || above.any id }

/-- SUPPLY_GOOD (R439): a supply has risen above 92 % of its nominal voltage, to the level given, or moves within what is good. -/
def execSupplyGood (level : SupplyLevel) (t : Nat) (s : State) : Host.Outcome State Fault Refusal :=
  let s := (s.advance t).judgeRange level
  let k := level.line
  if k = 5 then done { s with sys.vinSafe := true }
  else if nth s.sys.supplies k.val || decide (level.mV * 100 ≤ nth nominalSupply k.val * 92) then done s
  else
    let s := { s with sys.supplies := s.sys.supplies.set k.val true }
    let s := if k = 0 then s.powerOnReset else s
    done (if s.sys.supplies.all id then { s with sys.startAt := max s.sys.startAt s.now } else s)

/-- VIN_SAFE is gone: both safety inputs are off, and both feedback inputs (R439, R358, R490). -/
def State.safeSupplyLost (s : State) : State :=
  let s1 := (({ s with sys.vinSafe := false, saf.raw := [false, false] } : State).wr F.SAF_STAT.IN_A 0).wr F.SAF_STAT.IN_B 0
  let s1 := (s1.wr F.SAF_STAT.FB_A 0).wr F.SAF_STAT.FB_B 0
  State.countDemand s (State.judgeAgreement s s1)

/-- SUPPLY_LOST (R442): without VIN_AON nothing runs; another supply's loss is a warm reset that names it, or is named beside the one
that already holds the device in reset with this cause. -/
def execSupplyLost (k : Fin 6) (t : Nat) (s : State) : Host.Outcome State Fault Refusal :=
  let s := s.advance t
  if k = 5 then done s.safeSupplyLost
  else
    let held := s.sys.supplies.any (fun b => !b)
    let s := { s with sys.supplies := s.sys.supplies.set k.val false }
    if k = 0 then done s.powerOnReset
    else if !nth s.sys.supplies 0 then done s
    else
      let detail := lostSupplies s.sys.supplies
      done (if held && s.rd F.SYS_RESET_CAUSE.CAUSE == 4 then s.wr F.SYS_RESET_CAUSE.DETAIL detail else s.warmReset 4 detail (ms 1))

/-- RESET_PIN (R444, R467): RESET_N has been low for 10 µs, or rises. Low, it resets the device and holds it; in SLEEP it keeps the Reed
line in bypass, and the reset is made at its release. -/
def execResetPin (low : Bool) (t : Nat) (s : State) : Host.Outcome State Fault Refusal :=
  let s := s.advance t
  if low = s.sys.resetPin then done s
  else if low then done (if s.asleep then { s with sys.resetPin := true } else ({ s with sys.resetPin := true } : State).warmReset 2 0 0)
  else
    let s : State := { s with sys.resetPin := false }
    done (if s.asleep then s.warmReset 2 0 0 else { s with sys.startAt := max s.sys.startAt s.now })

/-- SYS_RESET_REQ is written: the key asks for a warm reset. -/
def State.resetRequest (s : State) (key : Nat) : State := if key = 0xA55A then s.askReset else s

/-- RESET_REQUEST (R444): the reset itself is part of the next START_SEQUENCE. -/
def execResetRequest (key : Word) (s : State) : Host.Outcome State Fault Refusal := done (s.resetRequest key.toNat)

/-- WATCHDOG_TIMEOUT (R442): no heartbeat for 100 ms of a core that runs, outside TRIAL and CONFIRMED. -/
def execWatchdogTimeout (t : Nat) (s : State) : Host.Outcome State Fault Refusal :=
  let s := s.advance t
  done (if s.interpreter ∧ s.updState ≠ 5 ∧ s.updState ≠ 6 then s.warmReset 5 0 (ms 1) else s)

end Sys2Proof.Machine
end

