-- ==== Sys2Proof/Machine/Check.lean ====
section
/-! DEFINITION. Sys2Proof/Machine/Check.lean: the scan engine, CHECK_REGION, the write-fed engine's eight channels and the periodic
checks (17_check_values.md R400 to R404). -/

namespace Sys2Proof.Machine

/-! ### Regions of DRAM (R190) -/

/-- The region an address lies in: its first and its last address, and whether it reads RANGE. -/
def dramRegions : List (Nat × Nat × Bool) :=
  [(0x00000000, 0x0FFFFFFF, true), (0x10000000, 0x11FFFFFF, true), (0x12000000, 0x13FFFFFF, false), (0x14000000, 0x157FFFFF, true),
   (0x15800000, 0x15FFFFFF, false), (0x16000000, 0x165FFFFF, true), (0x16600000, 0x16FFFFFF, false), (0x17000000, 0x1700FFFF, true),
   (0x17010000, 0x17FFFFFF, false), (0x18000000, 0x1BFFFFFF, true), (0x1C000000, 0x7FFFFFFF, true)]

/-- `n` bytes from `a` lie in one region, and it may be accessed. -/
def inOneRegion (a n : Nat) : Bool := dramRegions.any (fun r => r.2.2 && Nat.ble r.1 a && Nat.ble (a + n) (r.2.1 + 1))

/-- None of `n` bytes from `a` lies in a region that reads RANGE. -/
def readableSpan (a n : Nat) : Bool :=
  Nat.ble (a + n) 0x80000000 && dramRegions.all (fun r => r.2.2 || Nat.ble (a + n) r.1 || Nat.blt r.2.1 a)

/-- Firmware working memory whose use the spec does not give: outside the result and baseline arrays of R160 and the output
corrections of TUN_SRC_ADDR. What it holds is open. -/
def firmwareByte (a : Nat) : Bool :=
  Nat.blt a 0x10000000 && !(Nat.ble 0x0E000000 a && Nat.blt a 0x0E600000) && !(Nat.ble 0x0E800000 a && Nat.blt a 0x0EE00000)
    && !(Nat.ble 0x0F000000 a && Nat.blt a 0x0F006000)

/-- `n` bytes from `a` as a reader of memory sees them; `free` fills the open ones. -/
def State.seenBytes (s : State) (free a n : Nat) : List Byte :=
  (List.range n).map (fun i => if firmwareByte (a + i) then BitVec.ofNat 8 (free / 256 ^ i) else s.readByte (a + i))

/-- Read `n` bytes from `a`: the bytes, and the state after the draw that open ones take. -/
def State.readOut (s : State) (a n : Nat) : List Byte × State :=
  if a < 0x10000000 then
    let (x, s) := s.draw
    (s.seenBytes x a n, s)
  else (s.readBytes a n, s)

/-! ### The scan engine (R400, R401) -/

/-- The running scan has read up to address `a`: its bytes have entered the CRC with the content they have now. -/
def State.scanTo (s : State) (x : Scan) (a : Nat) : State :=
  let a := max x.next (min a x.stop)
  let (bs, s) := (s.touchSpan x.next (a - x.next)).readOut x.next (a - x.next)
  let v := crcRun crc32cSet x.value bs
  let s := (s.wr F.CHK_SCAN_ADDR.ADDR a).wr F.CHK_SCAN_VALUE.VALUE v
  { s with chk.scan := some { x with next := a, value := v } }

/-- A running scan is somewhere in its range, at a 64-byte boundary: how far it has come by now is free. -/
def State.scanSomewhere (s : State) : State :=
  match s.chk.scan with
  | none => s
  | some x =>
    let (n, s) := s.draw
    s.scanTo x ((x.next / 64 + n) * 64)

/-- CHECK_REGION (R401): the tests of its opcode, then the start of the scan. -/
def checkBody (r : Request) : State → State × Verdict :=
  withLen 4 r fun s =>
    let a := r.arg.toNat
    let n := pWord r 0
    if a % 4 ≠ 0 then answer (.range 12) s
    else if n < 4 ∨ 0x10000000 < n ∨ n % 4 ≠ 0 then answer (.range 16) s
    else if !readableSpan a n then answer (.range 12) s
    else if !s.memClk then answer (.notReady 0xFFFF) s
    else if s.chk.scan.isSome then answer (.busy 0) s
    else
      let s := (s.wr F.CHK_SCAN_STAT.BUSY 1).wr F.CHK_SCAN_STAT.OWNER 3
      let s := (s.wr F.CHK_SCAN_ADDR.ADDR a).wr F.CHK_SCAN_VALUE.VALUE 0xFFFFFFFF
      ({ s with chk.scan := some ⟨r.src.toNat, r.tag.toNat, a + n, a, 0xFFFFFFFF⟩ }, .hold)

def execCheckRegion (r : Request) (s : State) : Host.Outcome State Fault Refusal := done (command 0x12 r (checkBody r) s)

/-- The engine is free again. -/
def State.scanFree (s : State) : State :=
  { (s.wr F.CHK_SCAN_STAT.BUSY 0).wr F.CHK_SCAN_STAT.OWNER 0 with chk.scan := none }

/-- The reads of a scan up to and with the first that fails, which stops it (R401). -/
def upToFailed : BurstReads → BurstReads
  | [] => []
  | e :: rest => if e.2 = .failed then [e] else e :: upToFailed rest

/-- CHECK_REGION_DONE (R401): the scan has read its range, `res` telling how its bursts from here on came back (R206), or a read has
failed and stops it there. -/
def execCheckRegionDone (res : BurstReads) (s : State) : Host.Outcome State Fault Refusal :=
  match s.chk.scan with
  | none => done s
  | some x =>
    let res := upToFailed (burstsOf x.next (x.stop - x.next) res)
    match res.find? (fun e => e.2 == .failed) with
    | some e =>
      let s := (s.scanTo x ((x.next / 64 + e.1) * 64)).burstsCame x.next res
      done (s.scanFree.complete x.src x.tag (.checkFail 2))
    | none =>
      let s := (s.scanTo x x.stop).burstsCame x.next res
      let crc := Nat.xor (s.rd F.CHK_SCAN_VALUE.VALUE) 0xFFFFFFFF
      done ((s.scanFree.wr F.CHK_SCAN_LAST.CRC crc).complete x.src x.tag (.ok (leBytes 4 crc)))

/-- SAFETY_IMAGE_CHECK (R400): the periodic check, due after every 60 s of running time; it preempts a CHECK_REGION scan at the next
64-byte boundary. -/
def execSafetyImageCheck (ok : Bool) (t : Nat) (s : State) : Host.Outcome State Fault Refusal :=
  let s := s.advance t
  if !(s.saf.released && Nat.ble (s.saf.imageFrom + sec 60) s.now) then done s
  else
    let s := { s with saf.imageFrom := s.saf.imageFrom + sec 60 }
    let s := if s.chk.scan.isSome then s.scanSomewhere.bump F.CHK_SCAN_STAT.PREEMPTS else s
    if ok then done s else done ({ s with saf.coreFail := true }.fault 0xC1 4)

/-- ENGINE_SELF_TEST (R404): every 60 s each engine computes the check value of R396 for every set. -/
def execEngineSelfTest (t : Nat) (found : SelfTest) (s : State) : Host.Outcome State Fault Refusal :=
  let s := s.advance t
  if s.interpreter && Nat.ble (s.chk.testAt + sec 60) s.now then done (s.selfTest found.scanOk found.channels.val) else done s

/-! ### The write-fed engine (R402) -/

/-- The set channel c works by. -/
def State.channelSet (s : State) (c : Nat) : CrcSet := crcSetOf (s.rd (F.CHK_CH_CFG.PARAM c))

/-- A channel that has failed is out of use: nothing written to its registers has an effect (R404; DESIGN CHOICE,
notes/assumptions/129.md). -/
def State.onChannel (s : State) (c : Nat) (f : State → State) : State := if s.channelGood c then f s else s

/-- A write of PARAM: VALUE becomes the Init of the set. -/
def State.channelConfig (s : State) (c v : Nat) : State :=
  s.onChannel c (fun s =>
    let s := s.wr (F.CHK_CH_CFG.PARAM c) (bitsAt v 0 2)
    s.wr (F.CHK_CH_VALUE.VALUE c) (s.channelSet c).init)

/-- A write of VALUE: bits above the set's width are ignored. -/
def State.channelValue (s : State) (c v : Nat) : State :=
  s.onChannel c (fun s => s.wr (F.CHK_CH_VALUE.VALUE c) (bitsAt v 0 (s.channelSet c).width))

/-- Bytes a data register takes. -/
def FeedSize.bytes : FeedSize → Nat
  | .byte => 1
  | .half => 2
  | .word => 4

/-- A write to a data register: its bytes enter the running value, least significant first. -/
def State.channelFeed (s : State) (c : Nat) (n v : Nat) : State :=
  s.onChannel c (fun s => s.wr (F.CHK_CH_VALUE.VALUE c) (crcRun (s.channelSet c) (s.rd (F.CHK_CH_VALUE.VALUE c)) (leBytes n v)))

/-- RESULT is the running value XOR the set's Xorout, always. -/
def State.channelResult (s : State) (c : Nat) : Nat := Nat.xor (s.rd (F.CHK_CH_VALUE.VALUE c)) (s.channelSet c).xorout

/-- CRC_CHANNEL_CONFIG (R402): CHK_CH_CFG_c is written. -/
def execCrcChannelConfig (c : Fin 8) (value : Word) (s : State) : Host.Outcome State Fault Refusal :=
  done (s.channelConfig c.val value.toNat)

/-- CRC_CHANNEL_FEED (R402): CHK_CH_DATA_B_c, _H_c or _W_c is written. -/
def execCrcChannelFeed (c : Fin 8) (size : FeedSize) (value : Word) (s : State) : Host.Outcome State Fault Refusal :=
  done (s.channelFeed c.val (FeedSize.bytes size) value.toNat)

end Sys2Proof.Machine
end

