-- ==== Sys2Proof/Machine/Lifecycle.lean ====
section
/-! DEFINITION. Sys2Proof/Machine/Lifecycle.lean: the life-cycle transitions and their authorisation records (20_start_up.md R451
to R456). -/

namespace Sys2Proof.Machine

/-! ### Transitions (R453) -/

/-- A transition of R453: whether it needs a signed record. -/
def transition (source target : Nat) : Option Bool :=
  if 4 ≤ source then none
  else if target = 4 ∨ target = source then some true
  else match source, target with
    | 0, 1 => some true
    | 1, 2 => some false
    | 2, 3 => some true
    | 3, 2 => some false
    | 2, 1 => some true
    | 3, 1 => some true
    | _, _ => none

/-- The authorisation record of a LIFECYCLE payload. -/
def authRecord (r : Request) : List Byte := r.payload.drop 4

def State.serial (s : State) : Nat := s.sys.fuses.serial % 2 ^ 64

/-- The words of the safety parameter set in use. -/
def State.paramWords (s : State) : List Nat := safParamAddrs.map (fun a => (s.reg a).toNat)

/-- The set in use is the one stored. -/
def State.paramsStored (s : State) : Bool := s.flash.conf.safParams == some (some s.paramWords) && !s.gov.flash.contains .safParams

/-- The condition of R453 for a transition. -/
def State.transitionCond (s : State) (target : Nat) (auth : List Byte) : Bool :=
  let source := s.lifecycle
  if target = source then decide (fieldLE auth 28 4 ≠ 0)
  else if source = 0 ∧ target = 1 then (s.area s.flash.current).header.keySlot != 0
  else if target = 2 then fieldLE auth 24 4 == s.paramCrc && s.paramsStored
  else true

/-- A record's key slot is authentic (R422): the hash of its key is fused, the slot not revoked, slot 0 only in FACTORY, and SIG
verifies over bytes 0 to 95. -/
def State.recordAuthentic (s : State) (auth : List Byte) : Bool :=
  let slot := fieldLE auth 5 1
  let key := (auth.drop 32).take 64
  Nat.ble slot 3 && !(nth s.sys.fuses.keyHashes slot).isEmpty && sha256 key == nth s.sys.fuses.keyHashes slot
    && !s.slotRevoked slot && !(slot == 0 && s.lifecycle != 0) && signedBy key ((auth.drop 96).take 64) (auth.take 96)

/-- The first field of a payload outside its checks, as its offset in the packet. -/
def lifecycleRange (r : Request) : Option Nat :=
  let auth := authRecord r
  let unsigned_ := fieldLE auth 5 1 == 0xFF
  if r.payload.length ≠ 164 then some 10
  else if 4 < pByte r 0 then some 16
  else (nonZeroAt r 1 3).or
    (if auth.take 4 ≠ [0x41#8, 0x56#8, 0x4C#8, 0x43#8] then some 20
      else if fieldLE auth 4 1 ≠ pByte r 0 then some 24
      else (nonZeroAt r 10 2).or
        ((if pByte r 0 ≠ 2 then nonZeroAt r 28 4 else none).or
          (if 16 ≤ fieldLE auth 28 4 then some 48
            else if unsigned_ then nonZeroAt r 36 128 else none)))

/-- The answer of R455. -/
def State.judgeLifecycle (s : State) (r : Request) : Answer :=
  let auth := authRecord r
  let target := pByte r 0
  let slot := fieldLE auth 5 1
  match lifecycleRange r with
  | some d => .range d
  | none =>
    match transition s.lifecycle target with
    | none => .denied 1
    | some signed =>
      if 1 < s.updState then .busy 0
      else if fieldLE auth 8 8 ≠ s.serial
          ∨ fieldLE auth 16 8 ≠ s.rd F.SYS_LC_NONCE_LO.NONCE + 2 ^ 32 * s.rd F.SYS_LC_NONCE_HI.NONCE
          ∨ (signed ∧ slot = 0xFF) ∨ (slot ≠ 0xFF ∧ !s.recordAuthentic auth)
          ∨ (slot ≤ 3 ∧ (fieldLE auth 28 4).testBit slot) ∨ !s.transitionCond target auth then .denied 2
      else .ok []

/-! ### Carrying a transition out (R456) -/

/-- The one-time fuses of the transition in the record: FACTORY_DONE, RETIRED_FUSE, or the revoke fuses it names. -/
def State.blowFuses (s : State) (l : LifeRec) : State :=
  let f := s.sys.fuses
  { s with sys.fuses := { f with
      factoryDone := f.factoryDone || (l.source == 0 && l.state == 1)
      retired := f.retired || l.state == 4
      revoked := if l.state = l.source then Nat.lor f.revoked l.revoke else f.revoked } }

/-- The device goes to DARK (R323, R456): at once; from STANDBY, or in an exit or a start, as the state these end in; an entry is given
up, by an exit where its scan-out has stopped (DEDUCED, notes/assumptions/120.md). -/
def State.towardDark (s : State) : State :=
  let s : State := { s with rln.sleepHeld := false }
  match s.pwr.trans with
  | .none => if s.power = 0 then s.enterAwake 1 else if s.power = 2 then s.beginExit 1 else s
  | .exit => s.wr F.PWR_STATE.TARGET 1
  | .start => { s.wr F.PWR_STATE.TARGET 1 with pwr.startTarget := 1 }
  | .entry =>
    if s.pwr.stopped then (s.beginExit 1).railsOn.exitScan
    else ({ (s.enterAwake 1).wr F.PWR_STATE.BUSY 0 with pwr.trans := .none } : State).workDone 0x40

/-- After the OK the device enters DARK, and once no flash write is in flight the life-cycle record names the target, PENDING (R456). -/
def State.beginTransition (s : State) (target : Nat) (auth : List Byte) : State :=
  let s := { s.towardDark with sys.lifeDue := some (target, fieldLE auth 28 4 % 16) }
  if s.flashWriting then s else s.flashIdle

def lifecycleBody (r : Request) (s : State) : State × Verdict :=
  let a := s.judgeLifecycle r
  let s := s.renewNonce
  if a.status = 0 then (s.beginTransition (pByte r 0) (authRecord r), .keep true a) else answer a (s.fault 0x04 0)

/-- LIFECYCLE (R455). -/
def execLifecycle (r : Request) (s : State) : Host.Outcome State Fault Refusal := done (command 0x7A r (lifecycleBody r) s)

/-- Calibration copies and stress regions erased. -/
def eraseTables (f : FlashState) : FlashState := { f with calA := none, calB := none, stress := [none, none, none] }

/-- What a transition erases. Without a boot record the areas have their names of delivery. -/
def eraseFor (source target : Nat) (f : FlashState) (fmt : Nat) : FlashState :=
  if target = 4 then { ({} : FlashState) with areas := [{}, {}, {}], lifeCopies := f.lifeCopies }
  else if source = 0 ∧ target = 1 then
    { eraseTables f with
      log := [], overlay := [], conf := { fmt := fmt }, confOld := none, record := none, boot := [some {}, none] }
  else if target = 1 ∧ (source = 2 ∨ source = 3) then eraseTables f
  else f

/-- LIFECYCLE_ERASE_DONE (R456): the record stands with PENDING; the fuses are blown, the erasures complete, PENDING clears, and the
device restarts. One row ends it all, and the record holds what a start needs to go on after a loss of power (DESIGN CHOICE,
notes/assumptions/142.md). -/
def execLifecycleEraseDone (t : Nat) (s : State) : Host.Outcome State Fault Refusal :=
  let s := s.advance t
  let l := s.flash.life
  if !l.pending || s.flashWriting then done s
  else
    let f := eraseFor l.source l.state s.flash s.flash.conf.fmt
    done (({ s.blowFuses l with flash := f.setLife { state := l.state, source := l.state } } : State).warmReset 7 l.state (ms 1))

end Sys2Proof.Machine
end

