-- ==== Sys2Proof/Machine/Reed.lean ====
section
/-! DEFINITION. Sys2Proof/Machine/Reed.lean: the Reed line: frames with their first field, strip, forward and append, the device ID,
line breaks, bypass and identification (12_reed_line.md). -/

namespace Sys2Proof.Machine

/-! ### Fields (R301 to R304) -/

/-- Bytes 0 to 4 of a field. -/
def fieldHead (op : Nat) (data : BitVec 24) (aux : Byte) : List Byte :=
  BitVec.ofNat 8 op :: (leBytes 3 data.toNat).reverse ++ [aux]

/-- The check byte is right. -/
def fieldGood (op : Nat) (data : BitVec 24) (aux crc : Byte) : Bool := decide (crcOf crc8Set (fieldHead op data aux) = crc.toNat)

/-- Results of R303. -/
def resultDone : Nat := 0
def resultOther : Nat := 1
def resultRefused : Nat := 2
def resultBad : Nat := 3
def resultNone : Nat := 4

/-- The command fields of R302. -/
def reedOps : List Nat := [0x01, 0x02, 0x03, 0x41, 0x42, 0x43, 0x44]

/-- Whether a field is positional is decided from OP. -/
def positional (op : Nat) : Bool := decide (1 ≤ op) && decide (op ≤ 3)

/-- A passing field addresses the device. -/
def State.reedAddressed (s : State) (data : BitVec 24) : Bool :=
  decide (data.toNat = 0xFFFFFF) || (decide (data.toNat ≠ 0) && decide (data.toNat = s.deviceId))

def State.regenerating (s : State) : Bool := s.on F.RLN_STAT.REGEN

/-- The receiver waits for the first field of a frame. -/
def State.reedReady (s : State) : Bool := s.regenerating && decide (s.rln.phase = .synced)

/-- The first field has been taken with its result: it is stripped or repeated, and reported. -/
def State.reedActed (op : Nat) (data : BitVec 24) (aux crc : Byte) (res : Nat) (s : State) : State :=
  let s := (s.wr F.RLN_STAT.LAST_OP op).wr F.RLN_STAT.LAST_RESULT res
  { s with rln.phase := .acted op res
           rln.out := if positional op then [] else [fieldHead op data aux ++ [crc]]
           rln.outSync := !positional op }

/-- In bypass, with VIN_AON present, RL_OUT follows RL_IN (R310). -/
def State.follows (s : State) : Bool := !s.regenerating && nth s.sys.supplies 0 && !s.on F.RLN_STAT.BREAK

/-- A first field with its action; one whose CRC fails is not acted on (R304). In bypass it passes to the output. -/
def State.reedField (op : Nat) (data : BitVec 24) (aux crc : Byte) (act : State → State × Nat) (s : State) : State :=
  if s.follows then { s with rln.out := s.rln.out ++ [fieldHead op data aux ++ [crc]] }
  else if !s.reedReady then s
  else if !fieldGood op data aux crc then
    ((s.bump F.RLN_CNT.BAD_FIELD).fault 0xA9 0).reedActed op data aux crc resultBad
  else
    let (s, res) := act s
    s.reedActed op data aux crc res

/-! ### The commands of R302 -/

/-- REED_NOP (R302). -/
def execReedNop (data : BitVec 24) (aux crc : Byte) (s : State) : Host.Outcome State Fault Refusal :=
  done (s.reedField 0x01 data aux crc (fun s => (s, resultDone)))

/-- The device takes its ID, unless it is 0xFF_FF00 or above (R308). -/
def State.assignId (data : BitVec 24) (s : State) : State × Nat :=
  if 0xFFFF00 ≤ data.toNat then (s, resultRefused) else (s.wr F.RLN_ID.ID data.toNat, resultDone)

/-- REED_ASSIGN (R308). -/
def execReedAssign (data : BitVec 24) (aux crc : Byte) (s : State) : Host.Outcome State Fault Refusal :=
  done (s.reedField 0x02 data aux crc (State.assignId data))

/-- ASSIGN_KEEP leaves a device that has an ID as it is; which result it then gives is open (DESIGN CHOICE, notes/assumptions/2.md). -/
def State.assignKeep (data : BitVec 24) (s : State) : State × Nat :=
  if 0xFFFF00 ≤ data.toNat then (s, resultRefused)
  else if s.deviceId = 0 then s.assignId data
  else
    let (n, s) := s.draw
    (s, n % 3)

/-- REED_ASSIGN_KEEP (R308). -/
def execReedAssignKeep (data : BitVec 24) (aux crc : Byte) (s : State) : Host.Outcome State Fault Refusal :=
  done (s.reedField 0x03 data aux crc (State.assignKeep data))

/-- The result of a passing field without further action. -/
def State.addressResult (s : State) (data : BitVec 24) : Nat := if s.reedAddressed data then resultDone else resultOther

/-- REED_WAKE (R311). -/
def execReedWake (data : BitVec 24) (aux crc : Byte) (s : State) : Host.Outcome State Fault Refusal :=
  done (s.reedField 0x41 data aux crc (fun s => (s, s.addressResult data)))

/-- The device requests SLEEP (R312). -/
def State.reedSleepAct (firing : Nat) (data : BitVec 24) (s : State) : State × Nat :=
  if !s.reedAddressed data then (s, resultOther)
  else if !s.on F.RLN_CFG.SLEEP_EN then (s, resultRefused)
  else
    let (s, refuser) := s.requestWith ⟨true, decide (data.toNat ≠ 0xFFFFFF), 3, firing⟩
    (s, if refuser.isSome then resultRefused else resultDone)

/-- REED_SLEEP (R312), in the always-on clock cycle `c` (R321). -/
def execReedSleep (c : AonCycle) (data : BitVec 24) (aux crc : Byte) (s : State) : Host.Outcome State Fault Refusal :=
  done ((s.advance c.t).reedField 0x42 data aux crc (State.reedSleepAct c.firing.val data))

/-- Identification starts, starts again or ends; which of the two images it begins with is open (R313). -/
def State.identifyFor (seconds : Nat) (s : State) : State :=
  if seconds = 0 then { s with rln.identTo := none, rln.identFlat := false }
  else
    let (n, s) := s.draw
    { s with rln.identTo := some (s.now + sec seconds), rln.identFlat := decide (n % 2 = 1), rln.identNext := s.now + ms 500 }

/-- REED_IDENTIFY (R313). -/
def execReedIdentify (t : Nat) (data : BitVec 24) (aux crc : Byte) (s : State) : Host.Outcome State Fault Refusal :=
  done ((s.advance t).reedField 0x43 data aux crc
    (fun s => if s.reedAddressed data then (s.identifyFor aux.toNat, resultDone) else (s, resultOther)))

/-- REED_STATUS (R302): DATA is 0, and every device that regenerates gives DONE. -/
def execReedStatus (data : BitVec 24) (aux crc : Byte) (s : State) : Host.Outcome State Fault Refusal :=
  done (s.reedField 0x44 data aux crc (fun s => (s, resultDone)))

/-- REED_NO_FIELD (R302): a first field that is no command field. -/
def execReedNoField (op : Byte) (data : BitVec 24) (aux crc : Byte) (s : State) : Host.Outcome State Fault Refusal :=
  if reedOps.contains op.toNat then done s
  else done (s.reedField op.toNat data aux crc (fun s => (s, resultNone)))

/-! ### Frames (R299, R305, R307) -/

/-- A frame is given up: an entry into SLEEP that waited for its end begins. -/
def State.reedEnd (s : State) : State :=
  let s := { s with rln.phase := .idle }
  if s.rln.sleepHeld && decide (s.pwr.trans = .none) then
    { (s.beginEntry 3).wr F.RLN_STAT.REGEN 0 with rln.sleepHeld := false, rln.oscReady := false }
  else s

/-- REED_SYNC_RECEIVE (R307): a frame begins, or is dropped while an earlier one is still being sent. In bypass it passes to the
output, and while BREAK holds RL_OUT high nothing does (R310, R314). -/
def execReedSyncReceive (sending : Bool) (s : State) : Host.Outcome State Fault Refusal :=
  if s.follows then done { s with rln.out := [], rln.outSync := true }
  else if !s.regenerating || s.on F.RLN_STAT.BREAK then done s
  else if sending then done ((s.bump F.RLN_CNT.OVERRUN).fault 0xAA 0).reedEnd
  else done { s.reedEnd with rln.phase := .synced, rln.out := [], rln.outSync := false }

/-- The STATUS byte of R303. -/
def State.reedStatusByte (s : State) : Nat :=
  let sleeping := s.rln.sleepHeld || (decide (s.pwr.trans = .entry) && decide (s.rd F.PWR_STATE.TARGET = 3))
  128 * boolNat s.faultNLow + 64 * boolNat (s.flt.live.any (fun l => s.rd (F.FLT_SRC.CLASS l.src) == 4))
    + 16 * (if sleeping then 3 else s.power) + 8 * boolNat s.latched + 4 * boolNat s.selected
    + 2 * boolNat (decide (s.throttled ≠ 0)) + boolNat (decide (s.rd F.UPD_STAT.STATE = 5))

/-- The status field the device appends. -/
def State.reedStatusField (s : State) (res : Nat) : List Byte :=
  let b := fieldHead (0x80 + res) (BitVec.ofNat 24 s.deviceId) (BitVec.ofNat 8 s.reedStatusByte)
  b ++ [BitVec.ofNat 8 (crcOf crc8Set b)]

def isStatusField (f : List Byte) : Bool := (f.headD 0).getLsbD 7

/-- A frame without any field gives NO_FIELD. -/
def State.reedResult (s : State) : Nat :=
  match s.rln.phase with
  | .acted _ r => r
  | _ => resultNone

/-- The first field of the frame was itself a status field. -/
def State.reedFirstStatus (s : State) : Nat :=
  match s.rln.phase with
  | .acted op _ => boolNat (Nat.ble 0x80 op)
  | _ => 0

/-- REED_FRAME_END (R305): behind its first field the frame held the fields `rest`; they have been repeated, and the device appends
its own status. A SLEEP request that was granted begins its entry (R312). -/
def execReedFrameEnd (t : Nat) (rest : List (List Byte)) (s : State) : Host.Outcome State Fault Refusal :=
  let s := s.advance t
  if s.follows then done { s with rln.out := s.rln.out ++ rest }
  else if !s.regenerating || decide (s.rln.phase = .idle) then done s
  else
    let seen := (rest.filter isStatusField).length + s.reedFirstStatus
    let mine := s.reedStatusField s.reedResult
    let s := s.wr F.RLN_POS.UPSTREAM (min 0xFFFF seen)
    done ({ s with rln.out := s.rln.out ++ rest ++ [mine], rln.outSync := true } : State).reedEnd

/-- REED_FRAME_DISCARD (R299, R307): the frame in progress is cut off at the output. -/
def execReedFrameDiscard (s : State) : Host.Outcome State Fault Refusal :=
  done (if s.regenerating && decide (s.rln.phase ≠ .idle) then s.reedEnd else s)

/-- REED_LINE_BREAK (R314): RL_IN has been low for 100 µs, as the regenerating receiver measures it with its oscillator, in bypass too. -/
def execReedLineBreak (s : State) : Host.Outcome State Fault Refusal :=
  if s.asleep || s.sys.resetPin || !s.rln.oscReady || s.on F.RLN_STAT.BREAK then done s
  else done (((s.wr F.RLN_STAT.BREAK 1).bump F.RLN_CNT.BREAKS).fault 0xA8 2).reedEnd

/-- REED_BREAK_CLEAR (R314). -/
def execReedBreakClear (s : State) : Host.Outcome State Fault Refusal := done (s.wr F.RLN_STAT.BREAK 0)

/-! ### Bypass (R310, R311) -/

/-- REED_BYPASS_EXIT (R310): RL_IN has been idle high for 20 µs. -/
def execReedBypassExit (s : State) : Host.Outcome State Fault Refusal :=
  if s.asleep || s.sys.resetPin || !s.rln.oscReady then done s
  else done { s.wr F.RLN_STAT.REGEN 1 with rln.phase := if s.regenerating then s.rln.phase else .idle }

/-- REED_WAKE_DETECT (R311): the clockless receiver matches the first field of a frame in bypass, which passes to the output (R310). -/
def execReedWakeDetect (t : Nat) (data : BitVec 24) (aux crc : Byte) (s : State) : Host.Outcome State Fault Refusal :=
  let s := s.advance t
  let wakes := !s.regenerating && !s.sys.resetPin && s.on F.RLN_CFG.WAKE_EN && s.on F.PWR_WAKE_EN.REED
    && fieldGood 0x41 data aux crc && s.reedAddressed data && s.wakeable 1
  let s := if s.follows then { s with rln.out := s.rln.out ++ [fieldHead 0x41 data aux ++ [crc]] } else s
  done (if wakes then s.wakeEvent 1 else s)

/-! ### Identification (R313) -/

/-- IDENTIFY_TOGGLE (R313): half a second has passed. -/
def execIdentifyToggle (t : Nat) (s : State) : Host.Outcome State Fault Refusal :=
  let s := s.advance t
  match s.rln.identTo with
  | some d => done (if s.rln.identNext ≤ s.now ∧ s.rln.identNext < d
      then { s with rln.identFlat := !s.rln.identFlat, rln.identNext := s.rln.identNext + ms 500 } else s)
  | none => done s

/-- IDENTIFY_END (R313). -/
def execIdentifyEnd (t : Nat) (s : State) : Host.Outcome State Fault Refusal :=
  let s := s.advance t
  match s.rln.identTo with
  | some d => done (if d ≤ s.now then { s with rln.identTo := none, rln.identFlat := false } else s)
  | none => done s

end Sys2Proof.Machine
end

