-- ==== Sys2Proof/Machine/RegRead.lean ====
section
/-! DEFINITION. Sys2Proof/Machine/RegRead.lean: what a read of a register returns and does (00_scope.md R8, R10; 01_architecture.md
R21, R33). A field that shows something the state holds elsewhere is computed from it at the read: it is listed here, block by
block, as a pair of field and value. -/

namespace Sys2Proof.Machine

/-! ### Computed fields -/

def countOnes (w n : Nat) : Nat := ((List.range n).filter (fun i => bitsAt w i 1 == 1)).length

/-- A count of whole units, saturated at `bits` bits. -/
def satUnits (ticks unit bits : Nat) : Nat := min (2 ^ bits - 1) (ticks / unit)

def State.sysView (s : State) (a : Nat) : List (Fld × Nat) :=
  if a = A.SYS_PART then [(F.SYS_PART.GRADE, s.sys.fuses.grade), (F.SYS_PART.STEPPING, s.sys.fuses.stepping)]
  else if a = A.SYS_LIFECYCLE then
    [(F.SYS_LIFECYCLE.RETIRED_FUSE, boolNat s.sys.fuses.retired), (F.SYS_LIFECYCLE.FACTORY_DONE, boolNat s.sys.fuses.factoryDone),
     (F.SYS_LIFECYCLE.PENDING, boolNat s.flash.life.pending), (F.SYS_LIFECYCLE.STATE, s.lifecycle)]
  else if a = A.SYS_SERIAL_LO then [(F.SYS_SERIAL_LO.SERIAL, s.serial % 2 ^ 32)]
  else if a = A.SYS_SERIAL_HI then [(F.SYS_SERIAL_HI.SERIAL, s.serial / 2 ^ 32)]
  else []

def State.zlpView (s : State) (a : Nat) : List (Fld × Nat) :=
  if a = A.ZLP_TIME_LO then [(F.ZLP_TIME_LO.LT, s.lt % 2 ^ 32)]
  else if a = A.ZLP_TIME_HI then [(F.ZLP_TIME_HI.LT, s.zlp.hiLatch)]
  else []

/-- `own`: the reading command, which holds a place itself (R286). -/
def State.cmdView (s : State) (own a : Nat) : List (Fld × Nat) :=
  if a = A.CMD_STAT then
    [(F.CMD_STAT.SOURCES, s.cmd.cache.length), (F.CMD_STAT.EXECUTING, s.cmd.places.length + own)]
  else if A.CMD_SRC 0 ≤ a ∧ a ≤ A.CMD_SRC 7 then
    let i := (a - A.CMD_SRC 0) / 4
    if i < s.cmd.slots.length then [(F.CMD_SRC.USED i, 1), (F.CMD_SRC.SRC_ID i, nth s.cmd.slots i)] else []
  else []

def BufState.code : BufState → Nat
  | .free => 0
  | .filling => 1
  | .closing => 2
  | .ready => 3
  | .showing => 4

/-- PIX_FB_STAT.BUF. -/
def State.bufCodes (s : State) : Nat := s.pix.bufs.foldr (fun b n => BufState.code b.st + 8 * n) 0

def State.pixView (s : State) (a : Nat) : List (Fld × Nat) :=
  if a = A.PIX_LIN_STAT then
    [(F.PIX_LIN_STAT.INACTIVE_VALID, boolNat (nth s.pix.banks (1 - s.activeBank)).valid), (F.PIX_LIN_STAT.BUSY, boolNat s.linBusy)]
  else if a = A.PIX_FB_STAT then
    [(F.PIX_FB_STAT.CAPTURE_PORT, ((ports.find? s.captures).map (·.val)).getD 15), (F.PIX_FB_STAT.HOLDING, boolNat s.pix.holding),
     (F.PIX_FB_STAT.FALLBACK, boolNat s.pix.fallback), (F.PIX_FB_STAT.BUF, s.bufCodes)]
  else []

def State.cmpView (s : State) (a : Nat) : List (Fld × Nat) :=
  if a = A.CMP_STRESS_STAT then
    [(F.CMP_STRESS_STAT.SAVING, boolNat (s.gov.flash.head? == some .stress && (s.job jobFlash).running)),
     (F.CMP_STRESS_STAT.UNSAVED, satUnits s.cmp.unsaved (sec 60) 16)]
  else []

/-- HYB_KNEE_CODE_c and HYB_LAD_c_a: of the bank in use. -/
def State.hybView (s : State) (a : Nat) : List (Fld × Nat) :=
  if A.HYB_KNEE_CODE 0 ≤ a ∧ a ≤ A.HYB_KNEE_CODE 2 then
    let c := (a - A.HYB_KNEE_CODE 0) / 4
    let kc := nth s.hyb.bank.knees c
    let lad := ladder kc
    [(F.HYB_KNEE_CODE.NMAX c, kneeCode lad kc 7), (F.HYB_KNEE_CODE.N0 c, kneeCode lad kc 0), (F.HYB_KNEE_CODE.NMIN c, kneeCode lad kc (-8))]
  else if A.HYB_LAD 0 0 ≤ a ∧ a ≤ A.HYB_LAD 2 255 then
    let c := (a - A.HYB_LAD 0 0) / 0x400
    let e := (a - A.HYB_LAD 0 0) % 0x400 / 4
    [(F.HYB_LAD.LIGHT c e, ladderEntry (nth s.hyb.bank.knees c) e)]
  else []

def State.snsView (s : State) (a : Nat) : List (Fld × Nat) :=
  if A.SNS_QSTAT 0 ≤ a ∧ a ≤ A.SNS_QSTAT 3 then
    let n := (a - A.SNS_QSTAT 0) / 4
    [(F.SNS_QSTAT.OFF n, boolNat (!s.sensing (quadOf n))),
     (F.SNS_QSTAT.ADC_FAILED n, countOnes (s.rd (F.SNS_ADC_FAIL_LO.FAIL n)) 32 + countOnes (s.rd (F.SNS_ADC_FAIL_HI.FAIL n)) 32)]
  else if a = A.SNS_REQ then [(F.SNS_REQ.QUEUED, s.sns.requests.length)]
  else []

def State.govView (s : State) (a : Nat) : List (Fld × Nat) :=
  if A.GOV_JOB_STAT 0 ≤ a ∧ a ≤ A.GOV_JOB_STAT 5 then
    let j := (a - A.GOV_JOB_STAT 0) / 8
    let x := s.job j
    [(F.GOV_JOB_STAT.RUNNING j, boolNat x.running), (F.GOV_JOB_STAT.PENDING j, boolNat (x.pending || (decide (j = jobFlash) && Nat.blt 1 s.gov.flash.length))), (F.GOV_JOB_STAT.PAUSED j, boolNat x.paused)]
  else []

/-- FMC_STAT: urgency, and the requests outstanding (R195). -/
def State.fmcView (s : State) (a : Nat) : List (Fld × Nat) :=
  if a = A.FMC_STAT then [(F.FMC_STAT.URGENT, boolNat s.anyUrgent), (F.FMC_STAT.OUTSTANDING, s.fmc.queue.length)] else []

def State.pwrView (s : State) (a : Nat) : List (Fld × Nat) :=
  if a = A.PWR_WAKE_STAT then [(F.PWR_WAKE_STAT.PENDING, s.pwr.pendingWake)]
  else if A.PWR_TIME 0 ≤ a ∧ a ≤ A.PWR_TIME 3 then
    let i := (a - A.PWR_TIME 0) / 4
    [(F.PWR_TIME.SECONDS i, satUnits (nth s.pwr.timeIn i) (sec 1) 32)]
  else []

def State.rlnView (s : State) (a : Nat) : List (Fld × Nat) :=
  if a = A.RLN_STAT then
    [(F.RLN_STAT.IDENT, match s.rln.identTo with
      | some t => min 255 ((t - s.now + (sec 1 - 1)) / sec 1)
      | none => 0)]
  else []

/-- The unlock sequence is complete and has not timed out (R377). -/
def State.unlocked (s : State) : Bool :=
  match s.saf.unlock with
  | .opened _ a => decide (s.now ≤ a + ms 10)
  | _ => false

def State.safView (s : State) (a : Nat) : List (Fld × Nat) :=
  if a = A.SAF_STAT then
    [(F.SAF_STAT.BC_DEMAND, boolNat (!s.saf.bcRun || s.saf.bcLost)), (F.SAF_STAT.OUT_ON, boolNat (s.saf.outOn && !s.saf.outTripped.any id)),
     (F.SAF_STAT.UNLOCKED, boolNat s.unlocked), (F.SAF_STAT.MUTE_Q, bitsOf [s.muteQ 0, s.muteQ 1, s.muteQ 2, s.muteQ 3]),
     (F.SAF_STAT.CAP, s.capInForce)]
  else if a = A.SAF_PARAM_CRC then [(F.SAF_PARAM_CRC.CRC, s.paramCrc)]
  else []

def State.fltView (s : State) (a : Nat) : List (Fld × Nat) :=
  if a = A.FLT_STAT then
    [(F.FLT_STAT.FAULT_N_LOW, boolNat s.faultNLow), (F.FLT_STAT.FLASH_PENDING, boolNat (!s.flt.copies.isEmpty)),
     (F.FLT_STAT.HIGHEST, s.highestClass), (F.FLT_STAT.UNACKED, min 255 (s.flt.live.filter (fun l => s.srcState l.src == 1)).length),
     (F.FLT_STAT.LAST_SEQ, ((s.flt.log.getLast?).map (·.seq)).getD 0)]
  else if a = A.FLT_AVAIL_PRES then [(F.FLT_AVAIL_PRES.TIME, satUnits s.flt.presTicks (sec 1) 32)]
  else if a = A.FLT_AVAIL_LOST then [(F.FLT_AVAIL_LOST.TIME, satUnits s.flt.lostQuarterTicks (4 * ms 1) 32)]
  else []

/-- A register of channels 0 to 5, which the firmware works with (R403). -/
def ownedChannel (a : Nat) : Bool := Nat.ble (A.CHK_CH_CFG 0) a && Nat.ble a (A.CHK_CH_RESULT 5)

/-- VALUE and RESULT of a channel: RESULT is VALUE XOR the set's Xorout, always. While work of the firmware runs on a channel, VALUE is
open (`free`), by the set of that work (R402; DESIGN CHOICE, notes/assumptions/110.md). -/
def State.chkView (s : State) (free a : Nat) : List (Fld × Nat) :=
  if A.CHK_CH_CFG 0 ≤ a ∧ a ≤ A.CHK_CH_RESULT 7 then
    let c := (a - A.CHK_CH_CFG 0) / 0x20
    let works := (nth s.chk.chans c).isSome
    if a = A.CHK_CH_CFG c then if works then [(F.CHK_CH_CFG.PARAM c, 3)] else []
    else if a = A.CHK_CH_VALUE c then if works then [(F.CHK_CH_VALUE.VALUE c, free)] else []
    else if a = A.CHK_CH_RESULT c then [(F.CHK_CH_RESULT.RESULT c, if works then free else s.channelResult c)]
    else []
  else []

/-- The phase of a run by the slot positions it has been given: its parts follow one another, and the quadrants run in parallel
(R410, R411). -/
def State.tunePhase (s : State) (r : TuneRun) : Nat :=
  let n := ((quads.filter s.sensing).map (fun q => nth r.slots q.val)).foldl min (tuneSlots r.parts)
  if n < tuneSlots (r.parts % 2) then 1
  else if n < tuneSlots (r.parts % 4) ∨ r.parts < 4 ∧ 2 ≤ r.parts then 2
  else if r.parts < 2 then 1 else 3

def State.tunView (s : State) (a : Nat) : List (Fld × Nat) :=
  if a = A.TUN_STAT then
    [(F.TUN_STAT.BUSY, boolNat (s.tun.run.isSome || s.tun.slide.isSome)),
     (F.TUN_STAT.PHASE, (s.tun.run.map s.tunePhase).getD (if s.tun.slide.isSome then 4 else 0)),
     (F.TUN_STAT.PENDING, s.tun.waiting.getD 0), (F.TUN_STAT.AGE, satUnits (s.now - s.tun.okAt) (sec 60) 16)]
  else []

/-- Seconds to the confirm deadline in TRIAL. -/
def State.trialLeft (s : State) : Nat :=
  if s.updState = 5 then
    min 0xFFFF ((s.upd.trialAt + sec (10 * max 1 (s.rd F.UPD_CFG.CONFIRM_S)) - s.now + (sec 1 - 1)) / sec 1)
  else 0

def State.updView (s : State) (a : Nat) : List (Fld × Nat) :=
  if a = A.UPD_STAT then [(F.UPD_STAT.TRIAL_S_LEFT, s.trialLeft)]
  else if a = A.UPD_RUN_VER then [(F.UPD_RUN_VER.VERSION, s.upd.running.version)]
  else if a = A.UPD_BOOT then
    [(F.UPD_BOOT.FLOOR, s.sys.fuses.floor), (F.UPD_BOOT.REVOKED, s.sys.fuses.revoked), (F.UPD_BOOT.STAGING, s.flash.staging),
     (F.UPD_BOOT.PREVIOUS, s.flash.previous), (F.UPD_BOOT.CURRENT, s.flash.current)]
  else if a = A.UPD_DATA_FMT then
    [(F.UPD_DATA_FMT.STORED, s.flash.conf.fmt), (F.UPD_DATA_FMT.RUNNING, s.upd.running.dataFmt)]
  else []

/-- TXCLK's offset moves while it drifts toward REFCLK (R215). -/
def State.lnkView (s : State) (a : Nat) : List (Fld × Nat) :=
  if a = A.LNK_TXCLK then [(F.LNK_TXCLK.OFFSET, unsigned 16 s.txOffset)] else []

/-- The computed fields of the register at address `a`. -/
def State.viewFields (s : State) (own free a : Nat) : List (Fld × Nat) :=
  match a / 0x10000 with
  | 0 => s.sysView a
  | 1 => s.lnkView a
  | 2 => s.zlpView a
  | 3 => s.cmdView own a
  | 4 => s.pixView a
  | 5 => s.cmpView a
  | 6 => s.hybView a
  | 8 => s.snsView a
  | 9 => s.govView a
  | 10 => s.fmcView a
  | 11 => s.pwrView a
  | 12 => s.rlnView a
  | 14 => s.safView a
  | 15 => s.fltView a
  | 16 => s.chkView free a
  | 17 => s.tunView a
  | 18 => s.updView a
  | _ => []

/-- The word a read of address `a` returns. -/
def State.view (s : State) (own free a : Nat) : Nat :=
  (s.viewFields own free a).foldl (fun w e => insertBits w e.1.lo e.1.len (bitsAt e.2 0 e.1.len)) (s.reg a).toNat

/-! ### Reads (R8) -/

/-- The RC fields of a word, cleared. -/
def clearRc (w : Nat) (f : Fld) : Nat := if f.acc = .rc then insertBits w f.lo f.len 0 else w

def State.clearFields (s : State) (a : Nat) : State :=
  s.setReg a (BitVec.ofNat 32 ((fieldsAt a).foldl clearRc (s.reg a).toNat))

/-- What is settled before a register is read: where a running scan stands, and the upper half of LT (R259, R400). -/
def State.beforeRead (s : State) (a : Nat) : State :=
  if a = A.CHK_SCAN_ADDR ∨ a = A.CHK_SCAN_VALUE then s.scanSomewhere
  else if a = A.ZLP_TIME_LO then s.latchTime
  else s

/-- A register with a computed field that the spec leaves open at an instant. -/
def openField (a : Nat) : Bool := a == A.TUN_STAT || ownedChannel a

/-- A read of address `a`: the word, then RC fields cleared. -/
def State.readReg (s : State) (own a : Nat) : Nat × State :=
  let s := s.beforeRead a
  if openField a then
    let (x, s) := s.draw
    (s.view own x a, s.clearFields a)
  else (s.view own 0 a, s.clearFields a)

/-- `n` consecutive registers from address `a`. -/
def State.readRegs (own : Nat) : Nat → Nat → State → List Nat × State
  | 0, _, s => ([], s)
  | n + 1, a, s =>
    let (v, s) := s.readReg own a
    let (vs, s) := State.readRegs own n (a + 4) s
    (v :: vs, s)

/-! ### Clocked blocks (R21, R33, R316) -/

/-- The island of the block at address `a` is clocked: the memory island runs with the pixel island, also where the DRAM has not been
trained; the safety, core and always-on islands run wherever commands are taken (R316). -/
def State.clocked (s : State) (a : Nat) : Bool :=
  match a / 0x10000 with
  | 1 | 2 => s.lnkClk
  | 4 => s.pixClk
  | 5 => s.pixClk && s.allQClk
  | 6 | 8 => s.allQClk
  | 7 => if a % 0x10000 < 0x4000 then s.qClk (quadOf (a % 0x10000 / 0x1000)) else s.allQClk
  | 10 => s.pixClk
  | _ => true

/-- The addresses of `n` registers from `a`. -/
def addrs (a n : Nat) : List Nat := (List.range n).map (fun i => a + 4 * i)

/-- Base bits [23:16] of the first block among `l` that is not clocked. -/
def State.unclocked (s : State) (l : List Nat) : Option Nat := (l.find? (fun a => !s.clocked a)).map (· / 0x10000)

/-- REGISTER_READ_CLEAR (R8): a read of one register. -/
def execRegisterReadClear (a : Word) (s : State) : Host.Outcome State Fault Refusal :=
  if a.toNat % 4 = 0 ∧ s.clocked a.toNat then done (s.readReg 0 a.toNat).2 else done s

end Sys2Proof.Machine
end

