-- ==== Sys2Proof/Machine/RegWrite.lean ====
section
/-! DEFINITION. Sys2Proof/Machine/RegWrite.lean: what a write to a register does (00_scope.md R8 to R10): its fields by access type,
or the behaviour its chapter gives it. -/

namespace Sys2Proof.Machine

/-- Who writes: a source ID, or none for the service port and the firmware; whether as a unicast command; whether safety
parameters are open to it (R377). -/
structure Writer where
  src : Option Nat
  unicast : Bool
  opened : Bool
  deriving DecidableEq, Repr

/-- A write sets the one-bit field `f`. -/
def sets (v : Nat) (f : Fld) : Bool := bitsAt v f.lo f.len == 1

/-- A write changes the field `f`. -/
def State.changes (s : State) (v : Nat) (f : Fld) : Bool := bitsAt v f.lo f.len != s.rd f

/-- Do `k` if the write sets `f`. -/
def onSet (v : Nat) (f : Fld) (k : State → State) (s : State) : State := if sets v f then k s else s

/-- Of two command bits written in one word the first one named is carried out, and the other ignored where both are set. -/
def firstSet (v : Nat) (f : Fld) (k : State → State) (g : Fld) (l : State → State) (s : State) : State :=
  if sets v f then k s else onSet v g l s

/-- An RWI field that changes while its block is not idle is an undefined case (R9, R296). -/
def State.guardIdle (s : State) (idle : Bool) (v : Nat) (fs : List Fld) : State :=
  if !idle && fs.any (s.changes v) then s.undefCase else s

def State.writeSys (s : State) (a v : Nat) : State :=
  if a = A.SYS_RESET_REQ then s.resetRequest v
  else if a = A.SYS_PRAIL_CFG then s.writePrailCfg v
  else s.store a v

/-- Port n at +n × 0x1000 (R33). -/
def State.writeLnk (s : State) (a v : Nat) : State :=
  let o := a % 0x1000
  if h : a / 0x1000 - 0x10 < 4 then
    let p : Port := ⟨a / 0x1000 - 0x10, h⟩
    if o = 0 then onSet v (F.LNK_CFG.RETRAIN p.val) (fun s => s.retrain p) (s.store a v)
    else if o = 0x20 then s.writeLp p v
    else if o = 0x30 then s.writePatCfg p v
    else if 0x100 ≤ o ∧ o < 0x180 ∧ o % 0x20 = 8 then s.writeEye p.val ((o - 0x100) / 0x20) v
    else s.store a v
  else s.store a v

/-- CMD_GROUP_7 has no member 255 (R279). -/
def State.writeCmd (s : State) (a v : Nat) : State := if a = A.CMD_GROUP 7 then s.store a (v % 2 ^ 31) else s.store a v

/-- A write to a PIX_ register. With both bits of PIX_OVL_SAVE set SAVE runs and RESTORE is ignored, as the spec says of the bits of
PIX_LIN_CMD (R45) but not of these (DESIGN CHOICE, notes/assumptions/84.md). -/
def State.writePix (s : State) (a v : Nat) : State :=
  if a = A.PIX_LIN_SRC then (s.guardIdle (!s.linBusy) v [F.PIX_LIN_SRC.ADDR]).store a v
  else if a = A.PIX_LIN_CMD then firstSet v F.PIX_LIN_CMD.BUILD State.linBuild F.PIX_LIN_CMD.LOAD State.linLoad s
  else if a = A.PIX_OVL_SAVE then
    firstSet v F.PIX_OVL_SAVE.SAVE (fun s => s.queueOverlay .overlaySave)
      F.PIX_OVL_SAVE.RESTORE (fun s => s.queueOverlay .overlayRestore) s
  else s.store a v

def State.writeCmp (s : State) (a v : Nat) : State :=
  if a = A.CMP_TBL_SRC then (s.guardIdle (s.tblState == 0) v [F.CMP_TBL_SRC.ADDR]).store a v
  else if a = A.CMP_TBL_CMD then firstSet v F.CMP_TBL_CMD.ACTIVATE State.activateFromSrc F.CMP_TBL_CMD.REVERT State.revertTable s
  else if a = A.CMP_STRESS_STAT then onSet v F.CMP_STRESS_STAT.FORCE_SAVE (fun s => s.queueFlash .stress) s
  else s.store a v

def State.writeHyb (s : State) (a v : Nat) : State :=
  if A.HYB_KNEE 0 ≤ a ∧ a ≤ A.HYB_KNEE 2 then (s.store a v).kneeWritten ((a - A.HYB_KNEE 0) / 4) (bitsAt v 0 20) else s.store a v

def State.writeScn (s : State) (a v : Nat) : State :=
  if a % 0x10000 < 0x4000 ∧ a % 0x1000 = 0 then
    let q := a % 0x10000 / 0x1000
    (s.guardIdle (s.power == 1) v [F.SCN_QCFG.SUBPX_ORDER q, F.SCN_QCFG.COL_MIRROR q, F.SCN_QCFG.SCAN_DIR q]).store a v
  else if a % 0x10000 < 0x4000 ∧ a % 0x1000 = 0x20 then
    ((s.store a v).judgeUrgency (quadOf (a % 0x10000 / 0x1000))).countUrgency
  else if a = A.SCN_I2C then onSet v F.SCN_I2C.EE_READ State.eeRead (s.store a v)
  else s.store a v

def State.writeFmc (s : State) (a v : Nat) : State :=
  if a = A.FMC_ORDER then s.writeFmcOrder v
  else if a = A.FMC_TRAIN then onSet v F.FMC_TRAIN.REQ State.trainRequest (s.store a v)
  else s.store a v

/-- A write to a channel's register (R402). -/
def State.writeChk (s : State) (a v : Nat) : State :=
  if A.CHK_CH_CFG 0 ≤ a ∧ a ≤ A.CHK_CH_RESULT 7 then
    let c := (a - A.CHK_CH_CFG 0) / 0x20
    if a = A.CHK_CH_CFG c then s.channelConfig c v
    else if a = A.CHK_CH_VALUE c then s.channelValue c v
    else if a = A.CHK_CH_DATA_B c then s.channelFeed c 1 v
    else if a = A.CHK_CH_DATA_H c then s.channelFeed c 2 v
    else if a = A.CHK_CH_DATA_W c then s.channelFeed c 4 v
    else s.store a v
  else s.store a v

/-- A write to a register outside the safety parameters and the unlock key. -/
def State.writePlain (s : State) (a v : Nat) : State :=
  match a / 0x10000 with
  | 0 => s.writeSys a v
  | 1 => s.writeLnk a v
  | 2 => if a = A.ZLP_ROLE then s.writeRoles v else s.store a v
  | 3 => s.writeCmd a v
  | 4 => s.writePix a v
  | 5 => s.writeCmp a v
  | 6 => s.writeHyb a v
  | 7 => s.writeScn a v
  | 10 => s.writeFmc a v
  | 11 => if a = A.PWR_PAD then onSet v F.PWR_PAD.RELEASE State.openPads s else s.store a v
  | 13 => if a = A.THM_CFG then s.writeThmCfg v else s.store a v
  | 15 => if a = A.FLT_CFG then s.writeFltCfg v else s.store a v
  | 16 => s.writeChk a v
  | _ => s.store a v

/-- A write of `v` to address `a`. -/
def State.writeReg (w : Writer) (s : State) (a v : Nat) : State :=
  if a = A.SAF_UNLOCK then (if w.unicast then s.unlockKey w.src v else s)
  else if safParamAddrs.contains a then (if w.opened then s.writeSafParam a v else s)
  else s.writePlain a v

/-- Writes in order: pairs of address and value. -/
def State.writeRegs (w : Writer) (s : State) (l : List (Nat × Nat)) : State := l.foldl (fun s e => s.writeReg w e.1 e.2) s

/-- The four registers that take a demand frame. -/
def bcRxAddrs : List Nat := (List.range 4).map A.SAF_BC_RX

/-- One write command's values: a demand frame goes to the safety core as a whole (R371), everything else register by register. -/
def State.writeAll (w : Writer) (s : State) (l : List (Nat × Nat)) : State :=
  if l.map (·.1) = bcRxAddrs then s.bcFrame (l.flatMap (fun e => leBytes 4 e.2)) else s.writeRegs w l

/-! ### Refusals of a write (R284 tests 6 and 7) -/

/-- A register of the write-fed channels 0 to 5 (R403). -/
def firmwareChannel (a : Nat) : Bool := Nat.ble (A.CHK_CH_CFG 0) a && Nat.ble a (A.CHK_CH_RESULT 5) && (descAt a).isSome

/-- A write the lock refuses with DENIED, DETAIL 2 (R377, R389, R403). -/
def State.writeLocked (s : State) (src : Option Nat) (e : Nat × Nat) : Bool :=
  (safParamAddrs.contains e.1 && !s.unlockedFor src)
    || (s.lifecycle == 2 && e.1 == A.FLT_CFG && s.changes e.2 F.FLT_CFG.C3_EXIT)
    || firmwareChannel e.1

/-- Some write touches SAF_BC_RX, and they are not exactly its four values (R371). -/
def bcMisuse (l : List (Nat × Nat)) : Bool := l.any (fun e => bcRxAddrs.contains e.1) && decide (l.map (·.1) ≠ bcRxAddrs)

/-- REGISTER_WRITE (R8): a write by the device's firmware to one register. -/
def execRegisterWrite (a value : Word) (s : State) : Host.Outcome State Fault Refusal :=
  if a.toNat % 4 = 0 ∧ s.clocked a.toNat then done (s.writeReg ⟨none, false, false⟩ a.toNat value.toNat) else done s

end Sys2Proof.Machine
end

