-- ==== Sys2Proof/Machine/Access.lean ====
section
/-! DEFINITION. Sys2Proof/Machine/Access.lean: READ_REG, WRITE_REG, MODIFY_REG and the service port
(11_command_packets.md R284 to R287; 20_start_up.md R457). The tests of R284 come first, over the whole range. -/

namespace Sys2Proof.Machine

/-- The last register address. -/
def lastReg : Nat := 0x12FFFC

/-- What test of R284 an access to registers fails: a lock, the range named by the packet offset, a block without clock. -/
def State.accessTest (s : State) (locked : Bool) (range : Option Nat) (l : List Nat) : Option Answer :=
  if locked then some (.denied 2)
  else match range with
  | some d => some (.range d)
  | none => (s.unclocked l).map Answer.notReady

/-- Run `k` if no test fails. -/
def tested (t : Option Answer) (k : State → State × Verdict) (s : State) : State × Verdict :=
  match t with
  | some a => answer a s
  | none => k s

/-- ARG as a register address is misaligned or past the last register. -/
def badReg (a : Nat) : Bool := a % 4 != 0 || Nat.blt lastReg a

/-! ### READ_REG -/

def readRange (r : Request) : Option Nat :=
  let a := r.arg.toNat
  let n := pWord r 0
  if r.payload.length ≠ 4 then some 10
  else if badReg a then some 12
  else if n < 1 ∨ 1024 < n then some 16
  else if lastReg < a + 4 * (n - 1) then some 12
  else none

/-- The values of `n` registers, ascending. -/
def readRegBody (n : Nat) (r : Request) (s : State) : State × Verdict :=
  tested (s.accessTest false (readRange r) (addrs r.arg.toNat n)) (fun s =>
    let (vs, s) := State.readRegs 1 n r.arg.toNat s
    answer (.ok (vs.flatMap (leBytes 4))) s) s

def execReadReg (t : Nat) (r : Request) (s : State) : Host.Outcome State Fault Refusal :=
  done (command 0x02 r (readRegBody (pWord r 0) r) (s.advance t))

/-! ### WRITE_REG -/

/-- The writes of a WRITE_REG: address and value. -/
def writeList (r : Request) : List (Nat × Nat) :=
  (addrs r.arg.toNat (r.payload.length / 4)).zip ((wordsLE r.payload).map (·.toNat))

def writeRange (r : Request) : Option Nat :=
  let n := r.payload.length
  if n = 0 ∨ n % 4 ≠ 0 ∨ 4096 < n then some 10
  else if badReg r.arg.toNat then some 12
  else if lastReg < r.arg.toNat + (n - 4) ∨ bcMisuse (writeList r) then some 12
  else none

/-- The writer of a command as R377 sees it. -/
def State.writerOf (s : State) (r : Request) : Writer :=
  ⟨some r.src.toNat, !r.broadcast && !r.group, s.unlockedFor (some r.src.toNat)⟩

/-- The tests of a WRITE_REG; the unlock of its source ends with it (R377). -/
def writeTested (r : Request) (k : Writer → State → State × Verdict) (s : State) : State × Verdict :=
  let l := writeList r
  let w := s.writerOf r
  tested (s.accessTest (l.any (s.writeLocked w.src)) (writeRange r) (l.map (·.1))) (k w) (s.unlockUsed w.src)

def writeRegBody (r : Request) : State → State × Verdict :=
  writeTested r fun w s => answer (.ok []) (s.writeAll w (writeList r))

def execWriteReg (t : Nat) (r : Request) (s : State) : Host.Outcome State Fault Refusal :=
  done (command 0x03 r (writeRegBody r) (s.advance t))

/-! ### MODIFY_REG -/

/-- Whether the register at `a` has a field of type RC, W1C or WO. -/
def unmodifiable (a : Nat) : Bool := (fieldsAt a).any (fun f => f.acc == .rc || f.acc == .w1c || f.acc == .wo)

def modifyRange (r : Request) : Option Nat :=
  if r.payload.length ≠ 8 then some 10
  else if badReg r.arg.toNat || unmodifiable r.arg.toNat then some 12
  else none

/-- (old AND NOT MASK) OR (VALUE AND MASK). -/
def modified (old mask value : Nat) : Nat := Nat.lor (Nat.land old (Nat.xor (2 ^ 32 - 1) mask)) (Nat.land value mask)

/-- The value a MODIFY_REG writes over `old`. -/
def modifyValue (r : Request) (old : Nat) : Nat := modified old (pWord r 0) (pWord r 4)

/-- The tests of a MODIFY_REG. -/
def modifyTested (r : Request) (k : Writer → State → State × Verdict) (s : State) : State × Verdict :=
  let a := r.arg.toNat
  let w := s.writerOf r
  let locked := r.payload.length == 8 && s.writeLocked w.src (a, modifyValue r (s.view 1 0 a))
  tested (s.accessTest locked (modifyRange r) [a]) (k w) (s.unlockUsed w.src)

def modifyRegBody (r : Request) : State → State × Verdict :=
  modifyTested r fun w s =>
    let (old, s) := s.readReg 1 r.arg.toNat
    answer (.ok (leBytes 4 old)) (s.writeReg w r.arg.toNat (modifyValue r old))

def execModifyReg (t : Nat) (r : Request) (s : State) : Host.Outcome State Fault Refusal :=
  done (command 0x04 r (modifyRegBody r) (s.advance t))

/-! ### The service port (R457) -/

/-- A transaction is carried out: not in RETIRED, not in SLEEP. -/
def State.svcServed (s : State) : Bool := s.interpreter && s.lifecycle != 4

/-- What SVC_SDO returned: a status, and for a read four data bytes; those of a refused read are open. -/
def State.svcReply (s : State) (status : Nat) (data : Word) : State := { s with sys.svcOut := some (status, data) }

def State.svcRefuseRead (s : State) (status : Nat) : State :=
  let (x, s) := s.draw
  s.svcReply status (BitVec.ofNat 32 x)

/-- Test 4 of R284 holds. -/
def State.allPlaces (s : State) : Bool := Nat.ble 32 s.cmd.places.length

def State.countFull (s : State) : State := (s.bump F.CMD_CNT_REF.BUSY).fault 0x39 0

def svcRange (a : Nat) : Option Nat := if badReg a then some 12 else none

/-- A read transaction: the tests of R284, then `k`. -/
def State.svcReadTested (a : Nat) (k : State → State) (s : State) : State :=
  if !s.svcServed then { s with sys.svcOut := none }
  else if s.allPlaces then s.countFull.svcRefuseRead 1
  else match s.accessTest false (svcRange a) [a] with
    | some x => s.svcRefuseRead x.status
    | none => k s

/-- A write transaction: DENIED in FIELD; the recovery monitor writes no register. -/
def State.svcWriteTested (a v : Nat) (k : Writer → State → State) (s : State) : State :=
  if !s.svcServed then { s with sys.svcOut := none }
  else if s.allPlaces then s.countFull.svcReply 1 0
  else if s.lifecycle = 2 then s.svcReply 4 0
  else if s.sys.monitor then s.svcReply 3 0
  else
    let w : Writer := ⟨none, true, s.unlockedFor none⟩
    let range := if badReg a || bcMisuse [(a, v)] then some 12 else none
    match s.accessTest (s.writeLocked none (a, v)) range [a] with
    | some x => (s.unlockUsed none).svcReply x.status 0
    | none => k w (s.unlockUsed none)

/-- SVC_READ. -/
def execSvcRead (t : Nat) (a : Word) (s : State) : Host.Outcome State Fault Refusal :=
  done ((s.advance t).svcReadTested a.toNat (fun s =>
    let (v, s) := s.readReg 0 a.toNat
    s.svcReply 0 (BitVec.ofNat 32 v)))

/-- SVC_WRITE. -/
def execSvcWrite (t : Nat) (a value : Word) (s : State) : Host.Outcome State Fault Refusal :=
  done ((s.advance t).svcWriteTested a.toNat value.toNat (fun w s => (s.writeReg w a.toNat value.toNat).svcReply 0 0))

end Sys2Proof.Machine
end

