-- ==== Sys2Proof/Machine/Bridge.lean ====
section
/-! DEFINITION. Sys2Proof/Machine/Bridge.lean: the quadrant bridges (01_architecture.md R17, R18). What a flit carries is the business of
the commands that send it. -/

namespace Sys2Proof.Machine

/-- RETRY_Qq of SYS_QBR_ERR. -/
def retryField (q : Quad) : Fld :=
  match q with
  | 0 => F.SYS_QBR_ERR.RETRY_Q0
  | 1 => F.SYS_QBR_ERR.RETRY_Q1
  | 2 => F.SYS_QBR_ERR.RETRY_Q2
  | 3 => F.SYS_QBR_ERR.RETRY_Q3

def State.bridgeEnd (s : State) (q : Quad) (toDie : Bool) : BridgeEnd := nth (if toDie then s.br.toDie else s.br.toCtrl) q.val

def State.setBridgeEnd (s : State) (q : Quad) (toDie : Bool) (e : BridgeEnd) : State :=
  if toDie then { s with br.toDie := s.br.toDie.set q.val e } else { s with br.toCtrl := s.br.toCtrl.set q.val e }

/-- The bridge of quadrant q is trained and carries flits. -/
def State.bridgeUp (s : State) (q : Quad) : Bool := bitsAt (s.rd F.SYS_ISLAND_STAT.QBR_UP) q.val 1 == 1

/-- The code and the sequence number of a flit are what the receiving end expects. -/
def flitGood (e : BridgeEnd) (seq : Nat) (bits : BitVec 128) (code : BitVec 8) : Bool :=
  seq == e.expected && code == Config.flitCode seq bits.toNat

/-- BRIDGE_FLIT_RECEIVE (R17, R18): a wrong flit is discarded, counted and asked for again; the eighth failure in a row raises the
bridge's fault. -/
def execBridgeFlitReceive (q : Quad) (toDie : Bool) (seq : Nat) (bits : BitVec 128) (code : BitVec 8) (s : State) :
    Host.Outcome State Fault Refusal :=
  let e := s.bridgeEnd q toDie
  if !s.bridgeUp q then done s
  else if flitGood e seq bits code then done (s.setBridgeEnd q toDie ⟨Config.nextFlit seq, 0⟩)
  else
    let s := (s.bump (retryField q)).setBridgeEnd q toDie { e with fails := e.fails + 1 }
    done (if e.fails + 1 = 8 then s.faultQ (0x08 + q.val) 3 q else s)

end Sys2Proof.Machine
end

