-- ==== Sys2Proof/Machine/Command.lean ====
section
/-! DEFINITION. Sys2Proof/Machine/Command.lean: PING, IDENTIFY, COMMIT, OVERLAY_SET, MEM_READ, MEM_WRITE and unknown opcodes
(11_command_packets.md R285 to R293; 05_quadrant_scan.md R137; 08_frame_memory.md R190). -/

namespace Sys2Proof.Machine

/-- PING returns the request payload. -/
def execPing (r : Request) (s : State) : Host.Outcome State Fault Refusal :=
  done (command 0x01 r (fun s => answer (.ok r.payload) s) s)

/-- The 24 bytes of R293. -/
def State.identity (s : State) : List Byte :=
  leBytes 4 (s.view 0 0 A.SYS_PART) ++ leBytes 3 s.deviceId ++ leBytes 1 s.lifecycle ++ leBytes 8 s.serial
    ++ leBytes 4 s.upd.running.version ++ leBytes 4 (s.rd F.SCN_GLASS_ID_LO.ID)

/-- IDENTIFY (R293). -/
def execIdentify (r : Request) (s : State) : Host.Outcome State Fault Refusal :=
  done (command 0x7F r (withLen 0 r fun s => answer (.ok s.identity) s) s)

/-- BAD_OPCODE (R284): an opcode that R285 does not list. -/
def execBadOpcode (op : Byte) (r : Request) (s : State) : Host.Outcome State Fault Refusal :=
  if opcodes.contains op.toNat then done s else done (command op.toNat r (fun s => answer .badOpcode s) s)

/-! ### COMMIT (R69, R119, R137, R175) -/

/-- A register with an RWS field. -/
def isShadowed (a : Nat) : Bool := (fieldsAt a).any (fun f => f.acc == .rws)

/-- The shadowed registers whose last written value, value in force or waiting value is not the reset value. -/
def State.commitAddrs (s : State) : List Nat :=
  let waiting := s.scn.due.flatMap (fun d => match d.ev with
    | .commit vs => vs.map (·.1)
    | _ => [])
  ((s.regs.map (·.1) ++ s.frameRegs.map (·.1) ++ s.capRegs.map (·.1) ++ waiting
    ++ s.pix.capDue.flatMap (fun c => c.2.map (·.1))).filter isShadowed).dedup

/-- The values last written. -/
def State.lastWritten (s : State) (l : List Nat) : List (Nat × Word) := l.map (fun a => (a, s.reg a))

/-- CAPTURE_EN takes effect at the commit itself (R69). -/
def State.takeCaptureEn (s : State) : State :=
  let w := insertBits (Sparse.get resetWord s.capRegs A.PIX_CANVAS).toNat 31 1 (s.rd F.PIX_CANVAS.CAPTURE_EN)
  { s with capRegs := Sparse.put resetWord s.capRegs A.PIX_CANVAS (BitVec.ofNat 32 w) }

/-- A commit of every shadowed value. Every commit counts as one of the capture-side fields too, whether or not one of them has been
written (DESIGN CHOICE, notes/assumptions/85.md). -/
def State.commitAll (s : State) : State :=
  let l := s.commitAddrs
  let late := s.windowClosed
  let ladder := (kneeAddrs ++ ampAddrs).any (fun a => s.reg a != s.committed a)
  let s := { s with pix.capDue := s.pix.capDue ++ [(s.now, s.lastWritten (l.filter captureAddrs.contains))] }.takeCaptureEn
  let s := s.schedule (.commit (s.lastWritten (l.filter (fun a => !captureAddrs.contains a))))
  let s := if late then (s.wr F.SCN_STAT.COMMIT_LATE 1).fault 0x5B 0 else s
  let s := s.commitCurves s.reg
  if ladder then s.startLadder (ladderSet s.reg s.panelCurves) else s

def execCommit (t : Nat) (r : Request) (s : State) : Host.Outcome State Fault Refusal :=
  done (command 0x05 r (withLen 0 r fun s => answer (.ok []) s.commitAll) (s.advance t))

/-! ### OVERLAY_SET (R289) -/

def overlayLen (what pal : Nat) : Nat := 8 + 16 * bitsAt what 0 1 + 12 * pal

/-- The offset of the first field of the payload that fails its check. -/
def overlayRange (r : Request) : Option Nat :=
  let what := pByte r 1
  let pal := pHalf r 2
  if r.payload.length ≠ overlayLen what pal then some 10
  else if 7 < pByte r 0 then some 16
  else if 4 ≤ what then some 17
  else if 256 < pal then some 18
  else if 256 < pByte r 4 + pal then some 20
  else nonZeroAt r 5 3

/-- The register writes of the payload. -/
def overlayWrites (r : Request) : List (Nat × Nat) :=
  let n := pByte r 0
  let regs := bitsAt (pByte r 1) 0 1
  let plane := if regs = 1 then [A.PIX_OVL_CTRL n, A.PIX_OVL_ADDR n, A.PIX_OVL_POS n, A.PIX_OVL_SIZE n] else []
  let pal := (List.range (pHalf r 2)).flatMap (fun i =>
    let e := pByte r 4 + i
    [A.PIX_PAL_A n e, A.PIX_PAL_G n e, A.PIX_PAL_B n e])
  (plane ++ pal).zip ((wordsLE (r.payload.drop 8)).map (·.toNat))

def overlaySetBody (r : Request) (s : State) : State × Verdict :=
  tested (s.accessTest false (overlayRange r) [A.PIX_OVL_CTRL 0]) (fun s =>
    let s := (overlayWrites r).foldl (fun s e => s.store e.1 e.2) s
    answer (.ok []) (if bitsAt (pByte r 1) 1 1 = 1 then s.commitAll else s)) s

def execOverlaySet (t : Nat) (r : Request) (s : State) : Host.Outcome State Fault Refusal :=
  done (command 0x30 r (overlaySetBody r) (s.advance t))

/-! ### MEM_WRITE and MEM_READ (R190, R206) -/

def memRange (a n lenAt : Nat) : Option Nat :=
  if a % 4 ≠ 0 then some 12
  else if n < 4 ∨ 4096 < n ∨ n % 4 ≠ 0 then some lenAt
  else if !inOneRegion a n then some 12
  else none

def memWriteRange (r : Request) : Option Nat :=
  if r.payload.length < 4 ∨ 4096 < r.payload.length ∨ r.payload.length % 4 ≠ 0 then some 10
  else memRange r.arg.toNat r.payload.length 10

/-- The file a table check reads is changed (R105). -/
def State.tableChanged (s : State) (a : Nat) (bs : List Byte) : Bool :=
  match s.cmp.checking with
  | some (f, _) => Nat.blt f (a + bs.length) && Nat.blt a (f + 12583940) && decide (s.readBytes a bs.length ≠ bs)
  | none => false

/-- A MEM_WRITE that is a listed undefined case (R71, R105, R171, R208, R296). -/
def State.memUndefined (s : State) (a : Nat) (bs : List Byte) : Bool :=
  Nat.blt a 0x10000000 || (s.pixClk && Nat.blt a 0x18000000) || s.tableChanged a bs

/-- Bytes go to DRAM. A running scan over them stands somewhere before they do (R401). -/
def State.memStore (s : State) (a : Nat) (bs : List Byte) : State :=
  let s := match s.chk.scan with
    | some x => if x.next < a + bs.length ∧ a < x.stop then s.scanSomewhere else s
    | none => s
  let s := if s.memUndefined a bs then s.undefCase else s
  (s.touchSpan a bs.length).writeBytes a bs

def memReady (s : State) : Option Answer := if s.memClk then none else some (.notReady 0xFFFF)

def memTest (range : Option Nat) (s : State) : Option Answer :=
  match range with
  | some d => some (.range d)
  | none => memReady s

def memWriteBody (r : Request) (s : State) : State × Verdict :=
  tested (memTest (memWriteRange r) s) (fun s => answer (.ok []) (s.memStore r.arg.toNat r.payload)) s

def execMemWrite (r : Request) (s : State) : Host.Outcome State Fault Refusal := done (command 0x10 r (memWriteBody r) s)

def memReadRange (r : Request) : Option Nat :=
  if r.payload.length ≠ 4 then some 10 else memRange r.arg.toNat (pWord r 0) 16

/-- The bytes read, or CHECK_FAIL when a read has failed after its retry (R206). -/
def memReadBody (r : Request) (res : BurstReads) (s : State) : State × Verdict :=
  tested (memTest (memReadRange r) s) (fun s =>
    let a := r.arg.toNat
    let res := burstsOf a (pWord r 0) res
    let (bs, s) := (s.touchSpan a (pWord r 0)).readOut a (pWord r 0)
    let s := s.burstsCame a res
    answer (if anyFailed res then .checkFail 2 else .ok bs) s) s

/-- MEM_READ (R190): `res` is how its reads come back. -/
def execMemRead (r : Request) (res : BurstReads) (s : State) : Host.Outcome State Fault Refusal :=
  done (command 0x11 r (memReadBody r res) s)

end Sys2Proof.Machine
end

