-- ==== Sys2Proof/Machine/Clear.lean ====
section
/-! DEFINITION. Sys2Proof/Machine/Clear.lean: FAULT_CLEAR and the conditions that keep a source uncleared (16_fault_handling.md R388). -/

namespace Sys2Proof.Machine

/-- A panel rail that raised fault 0x02 is on with its PG low (R450). -/
def State.railBad (s : State) : Bool :=
  (List.range 6).any (fun k => bitsAt (s.rd F.SYS_PRAIL_STAT.FAILED) k 1 == 1 && s.railOn k && !s.railPg k)

/-- Quadrant q has more STUCK_ON entries than STUCK_LIMIT allows (R101). -/
def State.stuckOver (s : State) (q : Nat) : Bool :=
  let limit := s.rd F.CMP_DEF_CFG.STUCK_LIMIT
  limit != 0 && Nat.blt limit (s.cmp.defects.filter (fun e => entryKind e == 2 && subQuad (entryK e) == quadOf q)).length

/-- Four valid records disagree on TILE_ID (R127). -/
def State.glassSplit (s : State) : Bool :=
  (List.range 4).all s.glassValid && s.scn.records.any (fun r => r.tileId != (nth s.scn.records 0).tileId)

/-- The cap check or the cap monitor still finds quadrant q wrong (R368, R369). -/
def State.capWrong (s : State) (q : Nat) : Bool := Nat.ble 2 (nth s.saf.capBad q) || Nat.ble 2 (nth s.saf.capOver q)

/-- The condition that raised `src` holds still. A source raised by an event has no lasting cause, and 0x90 and 0x91 clear whether or not
DISC and IN_TEST_FAIL have, in any order with them (R357). -/
def State.causeHolds (s : State) (src : Nat) : Bool :=
  match src with
  | 0x02 => s.railBad
  | 0x07 => s.sys.monitor
  | 0x08 | 0x09 | 0x0A | 0x0B => Nat.ble 8 (nth s.br.toDie (src - 8)).fails || Nat.ble 8 (nth s.br.toCtrl (src - 8)).fails
  | 0x2C => !s.on F.LNK_TXCLK.REFCLK_OK
  | 0x31 => s.selState == 3
  | 0x32 => ports.any s.quarantined
  | 0x42 => s.pix.feedLost
  | 0x55 => (List.range 4).any s.stuckOver
  | 0x59 => s.hyb.eccBad.any id
  | 0x5C => s.scn.srcFails.any (fun e => Nat.ble (s.failLimit e.1) e.2)
  | 0x5D => s.scn.sigFails.any (fun e => Nat.ble 2 e.2)
  | 0x5E => (List.range 4).any (fun q => s.rd (F.SCN_EE_STAT.ERR q) != 0)
  | 0x5F => s.glassSplit
  | 0x61 => s.sns.quads.any (·.overdue)
  | 0x63 => s.sns.quads.any (·.blocked)
  | 0x64 => (List.range 4).any (fun q => s.rd (F.SNS_ADC_FAIL_LO.FAIL q) != 0 || s.rd (F.SNS_ADC_FAIL_HI.FAIL q) != 0)
  | 0x71 => s.on F.GOV_FLAGS.STALLED
  | 0x74 => s.gov.overDrawn
  | 0x78 => s.fmc.corrOver
  | 0x81 | 0x82 | 0x83 | 0x84 => s.thermalCause src
  | 0x94 => s.bcEn && s.saf.bcLost
  | 0x95 => (List.range 4).any s.capWrong
  | 0xA8 => s.on F.RLN_STAT.BREAK
  | 0xB8 => !s.refValid
  | 0xBC => s.tuneStale
  | _ => false

/-- FAULT_CLEAR may clear a source of this class. -/
def State.clearable (s : State) (src : Nat) : Bool :=
  let c := s.rd (F.FLT_SRC.CLASS src)
  s.uncleared src && !s.causeHolds src && (decide (c ≤ 2) || (decide (c = 3) && s.on F.FLT_CFG.C3_EXIT))

/-- What ends with a source: the rails it names as failed, the demand of SF-CAP (R357), the substitution of a sensor (R339). -/
def State.afterClear (s : State) (src : Nat) : State :=
  if src = 0x02 then s.wr F.SYS_PRAIL_STAT.FAILED 0
  else if src = 0x81 then s.sensorsCleared
  else if src = 0x95 then { s with saf.capDemand := [false, false, false, false] }
  else s

/-- FAULT_CLEAR on one source: it goes to CLEAR, and latches it alone held open (R382, R385, R388). -/
def State.clearSource (s : State) (src : Nat) : State :=
  if s.clearable src then
    let s := ((s.wr (F.FLT_SRC.STATE src) 0).wr (F.FLT_SRC.REAL src) 0).wr (F.FLT_SRC.CLASS src) 0
    let s := { s with flt.live := s.flt.live.filter (fun (l : Live) => l.src != src) }
    ((forQ State.relatchQuad s).rearmFirst).afterClear src
  else s

def clearBody (r : Request) : State → State × Verdict :=
  withLen 4 r fun s =>
    match namedSources r with
    | .error d => answer (.range d) s
    | .ok l => withZeros r 2 2 (fun s => answer (.ok []) (l.foldl State.clearSource s)) s

def execFaultClear (r : Request) (s : State) : Host.Outcome State Fault Refusal := done (command 0x52 r (clearBody r) s)

end Sys2Proof.Machine
end

