-- ==== Sys2Proof/Machine/Store.lean ====
section
/-! DEFINITION. Sys2Proof/Machine/Store.lean: the device configuration sector (08 R193, 10 R237, 15 R376, 16 R389, 18 R418, 20 R449). -/

namespace Sys2Proof.Machine

/-- A job that writes the configuration sector. -/
def FlashJob.isConf : FlashJob → Bool
  | .fmcOrder | .zlpRole | .fltCfg | .safParams | .prailCfg | .tuning => true
  | _ => false

/-- The records after job `w` has stored the present values. -/
def State.confWith (s : State) (w : FlashJob) : ConfRec :=
  let c := { s.flash.conf with fmt := s.upd.running.dataFmt }
  match w with
  | .fmcOrder => { c with fmcOrder := some (some (s.rd F.FMC_ORDER.NEXT)) }
  | .zlpRole => { c with zlpRole := some (some (bitsAt (s.reg A.ZLP_ROLE).toNat 0 8)) }
  | .fltCfg => { c with fltCfg := some (some (s.reg A.FLT_CFG).toNat) }
  | .safParams => { c with safParams := some (some s.paramWords) }
  | .prailCfg => { c with prailCfg := some (some (s.reg A.SYS_PRAIL_CFG).toNat) }
  | .tuning => { c with tuning := some s.corrections }
  | _ => c

/-- STORED of the register job `w` has stored; the last tuning record's instant. -/
def State.markStored (s : State) (w : FlashJob) : State :=
  match w with
  | .fmcOrder => s.wr F.FMC_ORDER.STORED 1
  | .zlpRole => s.wr F.ZLP_ROLE.STORED 1
  | .fltCfg => s.wr F.FLT_CFG.STORED 1
  | .prailCfg => s.wr F.SYS_PRAIL_CFG.STORED 1
  | .tuning => { s with tun.storedAt := some s.now }
  | _ => s

/-- CONFIG_STORE_DONE: the write-back in flight has stored its values in the configuration sector. -/
def execConfigStoreDone (s : State) : Host.Outcome State Fault Refusal :=
  match s.gov.flash.head? with
  | some w => if w.isConf && s.inFlight w && !s.noChannel then done (({ s.checkRecord with flash.conf := s.confWith w }.markStored w).flashDone) else done s
  | none => done s

end Sys2Proof.Machine
end

