-- ==== Sys2Proof/Machine/Timeout.lean ====
section
/-! DEFINITION. Sys2Proof/Machine/Timeout.lean: a register access that gets no answer within REG_TO (11_command_packets.md R287). -/

namespace Sys2Proof.Machine

/-- The register accesses of a command, in order: PATTERN_TEST sets LNK_PAT_CFG, and at its end reads the counts and writes MODE 0;
EYE_SCAN starts each point and reads its count (R291, R292). -/
def accesses (op : RegOp) (r : Request) : List Nat :=
  match op with
  | .read => addrs r.arg.toNat (min 1024 (pWord r 0))
  | .write => (writeList r).map (·.1)
  | .overlay => (overlayWrites r).map (·.1)
  | .modify | .svcRead | .svcWrite => [r.arg.toNat]
  | .pattern =>
    [A.LNK_PAT_CFG (pByte r 0)]
      ++ (lanes.filter (fun k => bitsAt (pByte r 4) k.val 1 == 1)).map (fun k => A.LNK_PAT_ERR (pByte r 0) k.val) ++ [A.LNK_PAT_CFG (pByte r 0)]
  | .eye => (eyeGrid r).flatMap (fun _ => [A.LNK_EYE_CFG (pByte r 0) (pByte r 1), A.LNK_EYE_CNT (pByte r 0) (pByte r 1)])

/-- The access to address `a` gets no answer. -/
def timedOut (a : Nat) (s : State) : State × Verdict := answer (.timeout a) (s.fault 0x3B 0)

/-- The command of which access `i`, to address `a`, gets no answer: what it did before stays done. -/
def timeoutBody (op : RegOp) (r : Request) (i a : Nat) (s : State) : State × Verdict :=
  match op with
  | .read =>
    tested (s.accessTest false (readRange r) (addrs r.arg.toNat (pWord r 0)))
      (fun s => timedOut a (State.readRegs 1 i r.arg.toNat s).2) s
  | .write =>
    writeTested r (fun w s =>
      timedOut a (if (writeList r).map (·.1) = bcRxAddrs then s else s.writeRegs w ((writeList r).take i))) s
  | .overlay =>
    tested (s.accessTest false (overlayRange r) [A.PIX_OVL_CTRL 0])
      (fun s => timedOut a (((overlayWrites r).take i).foldl (fun s e => s.store e.1 e.2) s)) s
  | .pattern => if (patternBody r s).2 = .hold then timedOut a s else patternBody r s
  | .eye => if (eyeScanBody r s).2 = .hold then timedOut a s else eyeScanBody r s
  | _ => modifyTested r (fun _ s => timedOut a s) s

/-- A command at work ends with TIMEOUT. -/
def State.workTimedOut (s : State) (r : Request) (a : Nat) : State := (s.fault 0x3B 0).complete r.src.toNat r.tag.toNat (.timeout a)

/-- The PATTERN_TEST at work whose accesses at the end of DURATION get no answer: MODE stays as it is. -/
def State.patternTimedOut (s : State) (r : Request) (at_ a : Nat) : State :=
  if s.cmd.places.any (fun x => x.op == 0x79 && !x.answered && x.req == r) && Nat.ble ((s.lport (pByte r 0)).patAt + ms (pWord r 8)) at_
  then s.workTimedOut r a else s

/-- The EYE_SCAN at work whose access `i`, of the point it has come to, gets no answer: the lane goes on with the next. -/
def State.eyeTimedOut (s : State) (r : Request) (i a : Nat) : State :=
  match s.lnk.eyes.find? (fun e => e.src == r.src.toNat && e.tag == r.tag.toNat && e.counts.length == i / 2) with
  | none => s
  | some e =>
    let s := { s with lnk.eyes := s.lnk.eyes.erase e }
    let s := if e.started then (s.wr (F.LNK_EYE_CFG.BUSY e.port e.lane) 0).eyeOver e.port e.lane else s
    let s := s.workTimedOut r a
    if s.on (F.LNK_EYE_CFG.BUSY e.port e.lane) then s else s.eyePoint e.port e.lane

def regOpcode : RegOp → Nat
  | .read => 0x02
  | .write => 0x03
  | .overlay => 0x30
  | .pattern => 0x79
  | .eye => 0x78
  | _ => 0x04

/-- The command, or the transaction of the service port, that ends with TIMEOUT. -/
def State.endTimedOut (s : State) (op : RegOp) (r : Request) (i at_ a : Nat) : State :=
  match op with
  | .svcRead => s.svcReadTested a (fun s => (s.fault 0x3B 0).svcRefuseRead 6)
  | .svcWrite => s.svcWriteTested a (pWord r 0) (fun _ s => (s.fault 0x3B 0).svcReply 6 0)
  | .pattern => if i = 0 then command 0x79 r (timeoutBody op r i a) s else s.patternTimedOut r at_ a
  | .eye => if i = 0 ∧ s.lnk.eyes.all (fun e => !(e.src == r.src.toNat && e.tag == r.tag.toNat)) then command 0x78 r (timeoutBody op r i a) s
    else s.eyeTimedOut r i a
  | op => command (regOpcode op) r (timeoutBody op r i a) s

/-- REG_TO in force. -/
def State.regTimeout (s : State) : Nat := us (max 1 (s.rd F.CMD_CFG.REG_TO))

/-- REG_ACCESS_TIMEOUT (R287): the numbered access of the command, made at its instant, has had no answer for REG_TO. -/
def execRegAccessTimeout (t : Nat) (op : RegOp) (r : Request) (access : At Nat) (s : State) : Host.Outcome State Fault Refusal :=
  let s := s.advance t
  match (accesses op r)[access.it]? with
  | some a => done (if access.t + s.regTimeout ≤ s.now then s.endTimedOut op r access.it access.t a else s)
  | none => done s

end Sys2Proof.Machine
end

