-- ==== Sys2Proof/Machine/Dispatch.lean ====
section
/-! DEFINITION. Sys2Proof/Machine/Dispatch.lean: one arm per command, each one direct call of its meaning. -/

namespace Sys2Proof.Machine

def exec (i : Instr) (s : State) : Host.Outcome State Fault Refusal :=
  match i with
  | .bridgeFlitReceive q toDie seq bits code => Sys2Proof.Machine.execBridgeFlitReceive q toDie seq bits code s
  | .segmentCapture p b room => Sys2Proof.Machine.execSegmentCapture p b room s
  | .frameStartReceive t p b => Sys2Proof.Machine.execFrameStartReceive t p b s
  | .outsideWritesDone k t => Sys2Proof.Machine.execOutsideWritesDone k t s
  | .frameEndReceive p b => Sys2Proof.Machine.execFrameEndReceive p b s
  | .closingDeadline t => Sys2Proof.Machine.execClosingDeadline t s
  | .frameFillDone k t => Sys2Proof.Machine.execFrameFillDone k t s
  | .decisionInstant t => Sys2Proof.Machine.execDecisionInstant t s
  | .scanFrameStart t means saturated => Sys2Proof.Machine.execScanFrameStart t means saturated s
  | .linBuild => Sys2Proof.Machine.execLinBuild s
  | .linLoad => Sys2Proof.Machine.execLinLoad s
  | .linOpDone => Sys2Proof.Machine.execLinOpDone s
  | .overlaySave => Sys2Proof.Machine.execOverlaySave s
  | .overlayRestore => Sys2Proof.Machine.execOverlayRestore s
  | .overlaySaveDone => Sys2Proof.Machine.execOverlaySaveDone s
  | .overlayRestoreDone => Sys2Proof.Machine.execOverlayRestoreDone s
  | .tableActivate r => Sys2Proof.Machine.execTableActivate r s
  | .cmpTblActivate => Sys2Proof.Machine.execCmpTblActivate s
  | .tableRevert => Sys2Proof.Machine.execTableRevert s
  | .tableCheckDone => Sys2Proof.Machine.execTableCheckDone s
  | .tableBuildDone => Sys2Proof.Machine.execTableBuildDone s
  | .tableFlashSaved => Sys2Proof.Machine.execTableFlashSaved s
  | .ageFactorTick t => Sys2Proof.Machine.execAgeFactorTick t s
  | .stressWritebackDue t => Sys2Proof.Machine.execStressWritebackDue t s
  | .forceSave => Sys2Proof.Machine.execForceSave s
  | .stressWritebackDone ok => Sys2Proof.Machine.execStressWritebackDone ok s
  | .defectEdit r => Sys2Proof.Machine.execDefectEdit r s
  | .defectEditComplete => Sys2Proof.Machine.execDefectEditComplete s
  | .ladderBuildDone => Sys2Proof.Machine.execLadderBuildDone s
  | .ladderRewriteDone q => Sys2Proof.Machine.execLadderRewriteDone q s
  | .scanLineStart t q line inp => Sys2Proof.Machine.execScanLineStart t q line inp s
  | .eeRead => Sys2Proof.Machine.execEeRead s
  | .eepromReadDone recs => Sys2Proof.Machine.execEepromReadDone recs s
  | .senseSlot t q raw1 raw2 => Sys2Proof.Machine.execSenseSlot t q raw1 raw2 s
  | .senseResult t => Sys2Proof.Machine.execSenseResult t s
  | .sweepDeadline q => Sys2Proof.Machine.execSweepDeadline q s
  | .isnsCompareDone q nV saturated => Sys2Proof.Machine.execIsnsCompareDone q nV saturated s
  | .senseRequest r => Sys2Proof.Machine.execSenseRequest r s
  | .govEvaluationDone t => Sys2Proof.Machine.execGovEvaluationDone t s
  | .govStall => Sys2Proof.Machine.execGovStall s
  | .jobForceTimeout t j => Sys2Proof.Machine.execJobForceTimeout t j s
  | .jobPausePoint j => Sys2Proof.Machine.execJobPausePoint j s
  | .scrubPassDone t => Sys2Proof.Machine.execScrubPassDone t s
  | .dramRefreshDue bank busy => Sys2Proof.Machine.execDramRefreshDue bank busy s
  | .mr4Poll rank0 rank1 => Sys2Proof.Machine.execMr4Poll rank0 rank1 s
  | .neighbourRefreshRun bank => Sys2Proof.Machine.execNeighbourRefreshRun bank s
  | .retrainDue t => Sys2Proof.Machine.execRetrainDue t s
  | .fmcTrainReq => Sys2Proof.Machine.execFmcTrainReq s
  | .retrainStep => Sys2Proof.Machine.execRetrainStep s
  | .retrainDone t ok => Sys2Proof.Machine.execRetrainDone t ok s
  | .wckOscRead osc0 osc1 => Sys2Proof.Machine.execWckOscRead osc0 osc1 s
  | .dramReadReturn t arrive first again => Sys2Proof.Machine.execDramReadReturn t arrive first again s
  | .corrRateCheck => Sys2Proof.Machine.execCorrRateCheck s
  | .fmcOrderWrite value => Sys2Proof.Machine.execFmcOrderWrite value s
  | .configStoreDone => Sys2Proof.Machine.execConfigStoreDone s
  | .detectPulse p found => Sys2Proof.Machine.execDetectPulse p found s
  | .trainingSetReceive t p k symbols offset => Sys2Proof.Machine.execTrainingSetReceive t p k symbols offset s
  | .ctleStep p k height => Sys2Proof.Machine.execCtleStep p k height s
  | .readyStable p => Sys2Proof.Machine.execReadyStable p s
  | .laneSyncTimeout p k => Sys2Proof.Machine.execLaneSyncTimeout p k s
  | .portStageTimeout p => Sys2Proof.Machine.execPortStageTimeout p s
  | .laneSyncLost p heard => Sys2Proof.Machine.execLaneSyncLost p heard s
  | .laneIdleDetect p k => Sys2Proof.Machine.execLaneIdleDetect p k s
  | .deskewMismatch p => Sys2Proof.Machine.execDeskewMismatch p s
  | .laneErrorWindow t p k symbols => Sys2Proof.Machine.execLaneErrorWindow t p k symbols s
  | .portRetrain p => Sys2Proof.Machine.execPortRetrain p s
  | .txPowerRequest p value => Sys2Proof.Machine.execTxPowerRequest p value s
  | .eyeStart p k value => Sys2Proof.Machine.execEyeStart p k value s
  | .eyeScanDone p k count => Sys2Proof.Machine.execEyeScanDone p k count s
  | .patternModeWrite p value => Sys2Proof.Machine.execPatternModeWrite p value s
  | .injectOne p => Sys2Proof.Machine.execInjectOne p s
  | .patternTest r => Sys2Proof.Machine.execPatternTest r s
  | .patternTestEnd port => Sys2Proof.Machine.execPatternTestEnd port s
  | .refclkLost => Sys2Proof.Machine.execRefclkLost s
  | .refclkRestored => Sys2Proof.Machine.execRefclkRestored s
  | .txclkHoldoverExpiry => Sys2Proof.Machine.execTxclkHoldoverExpiry s
  | .txclkLocked offset => Sys2Proof.Machine.execTxclkLocked offset s
  | .frameForward t p cols => Sys2Proof.Machine.execFrameForward t p cols s
  | .convertedFrameSend t p => Sys2Proof.Machine.execConvertedFrameSend t p s
  | .upstreamFrameReceive p b => Sys2Proof.Machine.execUpstreamFrameReceive p b s
  | .mergeFrameSend => Sys2Proof.Machine.execMergeFrameSend s
  | .localTimeFrameSend t p => Sys2Proof.Machine.execLocalTimeFrameSend t p s
  | .timeFrameReceive t p f residence => Sys2Proof.Machine.execTimeFrameReceive t p f residence s
  | .streamLossTimeout t p => Sys2Proof.Machine.execStreamLossTimeout t p s
  | .recentre p shorten run => Sys2Proof.Machine.execRecentre p shorten run s
  | .portRoleWrite value => Sys2Proof.Machine.execPortRoleWrite value s
  | .roleSave => Sys2Proof.Machine.execRoleSave s
  | .ping r => Sys2Proof.Machine.execPing r s
  | .readReg t r => Sys2Proof.Machine.execReadReg t r s
  | .writeReg t r => Sys2Proof.Machine.execWriteReg t r s
  | .modifyReg t r => Sys2Proof.Machine.execModifyReg t r s
  | .commit t r => Sys2Proof.Machine.execCommit t r s
  | .memWrite r => Sys2Proof.Machine.execMemWrite r s
  | .memRead r res => Sys2Proof.Machine.execMemRead r res s
  | .checkRegion r => Sys2Proof.Machine.execCheckRegion r s
  | .checkRegionDone res => Sys2Proof.Machine.execCheckRegionDone res s
  | .overlaySet t r => Sys2Proof.Machine.execOverlaySet t r s
  | .powerState c r => Sys2Proof.Machine.execPowerState c r s
  | .faultRead r => Sys2Proof.Machine.execFaultRead r s
  | .faultAck r => Sys2Proof.Machine.execFaultAck r s
  | .faultClear r => Sys2Proof.Machine.execFaultClear r s
  | .faultInject r => Sys2Proof.Machine.execFaultInject r s
  | .updateStage r => Sys2Proof.Machine.execUpdateStage r s
  | .stageWriteDone ok => Sys2Proof.Machine.execStageWriteDone ok s
  | .updateActivate r => Sys2Proof.Machine.execUpdateActivate r s
  | .updateConfirm r => Sys2Proof.Machine.execUpdateConfirm r s
  | .updateRevert r => Sys2Proof.Machine.execUpdateRevert r s
  | .tuneRun r => Sys2Proof.Machine.execTuneRun r s
  | .eyeScan r => Sys2Proof.Machine.execEyeScan r s
  | .lifecycle r => Sys2Proof.Machine.execLifecycle r s
  | .identify r => Sys2Proof.Machine.execIdentify r s
  | .regAccessTimeout t op r access => Sys2Proof.Machine.execRegAccessTimeout t op r access s
  | .registerWrite a value => Sys2Proof.Machine.execRegisterWrite a value s
  | .registerReadClear a => Sys2Proof.Machine.execRegisterReadClear a s
  | .timeLoRead => Sys2Proof.Machine.execTimeLoRead s
  | .reedSyncReceive sending => Sys2Proof.Machine.execReedSyncReceive sending s
  | .reedNop data aux crc => Sys2Proof.Machine.execReedNop data aux crc s
  | .reedAssign data aux crc => Sys2Proof.Machine.execReedAssign data aux crc s
  | .reedAssignKeep data aux crc => Sys2Proof.Machine.execReedAssignKeep data aux crc s
  | .reedWake data aux crc => Sys2Proof.Machine.execReedWake data aux crc s
  | .reedSleep c data aux crc => Sys2Proof.Machine.execReedSleep c data aux crc s
  | .reedIdentify t data aux crc => Sys2Proof.Machine.execReedIdentify t data aux crc s
  | .reedStatus data aux crc => Sys2Proof.Machine.execReedStatus data aux crc s
  | .reedFrameEnd t rest => Sys2Proof.Machine.execReedFrameEnd t rest s
  | .reedLineBreak => Sys2Proof.Machine.execReedLineBreak s
  | .reedBreakClear => Sys2Proof.Machine.execReedBreakClear s
  | .reedBypassExit => Sys2Proof.Machine.execReedBypassExit s
  | .reedWakeDetect t data aux crc => Sys2Proof.Machine.execReedWakeDetect t data aux crc s
  | .identifyToggle t => Sys2Proof.Machine.execIdentifyToggle t s
  | .identifyEnd t => Sys2Proof.Machine.execIdentifyEnd t s
  | .valveSettleExpiry t => Sys2Proof.Machine.execValveSettleExpiry t s
  | .powerEntryDone t => Sys2Proof.Machine.execPowerEntryDone t s
  | .wakeTimer t => Sys2Proof.Machine.execWakeTimer t s
  | .svcWake t => Sys2Proof.Machine.execSvcWake t s
  | .wakeRetry t => Sys2Proof.Machine.execWakeRetry t s
  | .padRelease => Sys2Proof.Machine.execPadRelease s
  | .sensorConversion t n c => Sys2Proof.Machine.execSensorConversion t n c s
  | .sensorStall n => Sys2Proof.Machine.execSensorStall n s
  | .substituteFloorEnd n => Sys2Proof.Machine.execSubstituteFloorEnd n s
  | .sensorRecovery t n => Sys2Proof.Machine.execSensorRecovery t n s
  | .throttleTick => Sys2Proof.Machine.execThrottleTick s
  | .rateTick t => Sys2Proof.Machine.execRateTick t s
  | .rateTestEnable => Sys2Proof.Machine.execRateTestEnable s
  | .thmCfgWrite value => Sys2Proof.Machine.execThmCfgWrite value s
  | .hardLimitTrip level => Sys2Proof.Machine.execHardLimitTrip level s
  | .safeInputChange ch on t => Sys2Proof.Machine.execSafeInputChange ch on t s
  | .discrepancyTimeout t => Sys2Proof.Machine.execDiscrepancyTimeout t s
  | .supplyTestPulse t ch own other => Sys2Proof.Machine.execSupplyTestPulse t ch own other s
  | .outputTestPulse t ch pulse outside vin => Sys2Proof.Machine.execOutputTestPulse t ch pulse outside vin s
  | .feedbackInputChange ch on t => Sys2Proof.Machine.execFeedbackInputChange ch on t s
  | .feedbackTimeout t => Sys2Proof.Machine.execFeedbackTimeout t s
  | .restartEdge ev rawA rawB t => Sys2Proof.Machine.execRestartEdge ev rawA rawB t s
  | .bcDemandFrame w0 w1 w2 w3 t => Sys2Proof.Machine.execBcDemandFrame w0 w1 w2 w3 t s
  | .bcLossTimeout t => Sys2Proof.Machine.execBcLossTimeout t s
  | .bcStatusRefresh t => Sys2Proof.Machine.execBcStatusRefresh t s
  | .heartbeatTimeout => Sys2Proof.Machine.execHeartbeatTimeout s
  | .lockstepMismatch => Sys2Proof.Machine.execLockstepMismatch s
  | .mutePathCheck valves emits path1 path2 outA filters => Sys2Proof.Machine.execMutePathCheck valves emits path1 path2 outA filters s
  | .capWordSend valid t => Sys2Proof.Machine.execCapWordSend valid t s
  | .capWordTimeout q t => Sys2Proof.Machine.execCapWordTimeout q t s
  | .safetyStartTestDone comparators lockstep paths supA supB t => Sys2Proof.Machine.execSafetyStartTestDone comparators lockstep paths supA supB t s
  | .safetyUnlockKey src key t => Sys2Proof.Machine.execSafetyUnlockKey src key t s
  | .unlockTimeout t => Sys2Proof.Machine.execUnlockTimeout t s
  | .safetyParamWrite p value src t => Sys2Proof.Machine.execSafetyParamWrite p value src t s
  | .safeOutOvercurrent ch => Sys2Proof.Machine.execSafeOutOvercurrent ch s
  | .faultRecord => Sys2Proof.Machine.execFaultRecord s
  | .faultLogCopyDone ok => Sys2Proof.Machine.execFaultLogCopyDone ok s
  | .fltCfgWrite value => Sys2Proof.Machine.execFltCfgWrite value s
  | .safetyImageCheck ok t => Sys2Proof.Machine.execSafetyImageCheck ok t s
  | .engineSelfTest t found => Sys2Proof.Machine.execEngineSelfTest t found s
  | .crcChannelConfig c value => Sys2Proof.Machine.execCrcChannelConfig c value s
  | .crcChannelFeed c size value => Sys2Proof.Machine.execCrcChannelFeed c size value s
  | .refMonitorTick t tenths agree => Sys2Proof.Machine.execRefMonitorTick t tenths agree s
  | .tuneRunDue t => Sys2Proof.Machine.execTuneRunDue t s
  | .tuneRunDone t m => Sys2Proof.Machine.execTuneRunDone t m s
  | .tuneStaleTimeout t => Sys2Proof.Machine.execTuneStaleTimeout t s
  | .updateCheckDone t => Sys2Proof.Machine.execUpdateCheckDone t s
  | .standbyCoreReady t => Sys2Proof.Machine.execStandbyCoreReady t s
  | .loadTimeout t => Sys2Proof.Machine.execLoadTimeout t s
  | .handoverPoint ok t => Sys2Proof.Machine.execHandoverPoint ok t s
  | .supervisorTrip cause t => Sys2Proof.Machine.execSupervisorTrip cause t s
  | .confirmTimeout t => Sys2Proof.Machine.execConfirmTimeout t s
  | .trialTimeElapsed ok t => Sys2Proof.Machine.execTrialTimeElapsed ok t s
  | .fallbackDone t => Sys2Proof.Machine.execFallbackDone t s
  | .supplyGood k t => Sys2Proof.Machine.execSupplyGood k t s
  | .supplyLost k t => Sys2Proof.Machine.execSupplyLost k t s
  | .resetPin low t => Sys2Proof.Machine.execResetPin low t s
  | .resetRequest key => Sys2Proof.Machine.execResetRequest key s
  | .watchdogTimeout t => Sys2Proof.Machine.execWatchdogTimeout t s
  | .startSequence t inp => Sys2Proof.Machine.execStartSequence t inp s
  | .lifecycleEraseDone t => Sys2Proof.Machine.execLifecycleEraseDone t s
  | .prailPgChange k high t => Sys2Proof.Machine.execPrailPgChange k high t s
  | .prailPgTimeout k t => Sys2Proof.Machine.execPrailPgTimeout k t s
  | .prailDelayExpiry t => Sys2Proof.Machine.execPrailDelayExpiry t s
  | .prailCfgWrite value => Sys2Proof.Machine.execPrailCfgWrite value s
  | .svcRead t a => Sys2Proof.Machine.execSvcRead t a s
  | .svcWrite t a value => Sys2Proof.Machine.execSvcWrite t a value s
  | .badOpcode op r => Sys2Proof.Machine.execBadOpcode op r s
  | .standbyExitComplete t => Sys2Proof.Machine.execStandbyExitComplete t s
  | .rankPowerDown rank => Sys2Proof.Machine.execRankPowerDown rank s
  | .patternCheckerSync t p k bits => Sys2Proof.Machine.execPatternCheckerSync t p k bits s
  | .reedNoField op data aux crc => Sys2Proof.Machine.execReedNoField op data aux crc s
  | .reedFrameDiscard => Sys2Proof.Machine.execReedFrameDiscard s

end Sys2Proof.Machine
end

