-- ==== Sys2Proof/Safety.lean ====
section
/-! DEFINITION. Sys2Proof/Safety.lean: what a safe state is, in the terms statements use (15_safety_functions.md R349, R353, R357). -/

namespace Sys2Proof.Machine

/-- Every quadrant with a Mute demand or a fault latch has its valve off and its EMIT_Qn low (R353, R379). -/
def State.DarkHeld (s : State) : Prop := ∀ q : Quad, s.dark q = true → s.lightOf q = .dark

/-- A demand of SF-DARK stands with the safety latch set (R357). -/
def State.LatchHeld (s : State) : Prop := s.sfDark = true → s.latched = true

/-- The safety outputs are energised exactly without a demand, with VIN_SAFE present and their pad latches open (R331, R353). -/
def State.OutputsFollow (s : State) : Prop := s.saf.outOn = (!s.demandBesideWait && s.sys.vinSafe && !s.on F.PWR_PAD.SAFETY)

/-- What holds after every step. -/
structure State.Safe (s : State) : Prop where
  dark : s.DarkHeld
  latch : s.LatchHeld
  outputs : s.OutputsFollow

/-- No quadrant shows light. -/
def State.AllDark (s : State) : Prop := ∀ q : Quad, s.lightOf q = .dark

/-- The register file and DRAM are in canonical form. -/
def State.Canonical (s : State) : Prop := Sparse.wf resetWord s.regs = true ∧ s.memWf = true

/-- Lists with one entry for each of a fixed number of things keep that number: supplies, image areas, copies of the boot and of the
life-cycle record, safety channels, tails, sensors, dies, jobs, DRAM banks, table copies, frame buffers, check channels, ports,
quadrants, and a checkpoint's jobs. -/
structure State.Shape (s : State) : Prop where
  supplies : s.sys.supplies.length = 5 ∧ s.sys.aboveMax.length = 6
  areas : s.flash.areas.length = 3
  boots : s.flash.boot.length = 2 ∧ s.flash.lifeCopies.length = 2
  channels : s.saf.supFails.length = 2 ∧ s.saf.supPasses.length = 2 ∧ s.saf.supAt.length = 2 ∧ s.saf.outAt.length = 2
  tails : s.saf.tailCap.length = 4 ∧ s.saf.tailValid.length = 4
  sensors : s.thm.sensors.length = 24 ∧ s.thm.dieTrip.length = 4
  others : s.gov.jobs.length = 6 ∧ s.fmc.openRow.length = 32 ∧ s.fmc.lastReq.length = 2 ∧ s.cmp.applied.length = 2 ∧
    s.pix.bufs.length = 4 ∧ s.chk.chans.length = 6 ∧ s.zlp.ports.length = 4 ∧ s.pwr.light.length = 4 ∧ ∀ c, s.upd.checkpoint = some c → c.gov.jobs.length = 6

/-! ### Frames: what a command leaves alone -/

/-- The parts of State beside the register file; `mem` is what every byte of DRAM reads as. -/
inductive Part where
  | now | undef | freeNo | pending | frameRegs | capRegs | mem | flash | br | pix | cmp | hyb | scn | sns | gov | fmc | lnk
  | zlp | cmd | rln | pwr | thm | saf | flt | chk | tun | upd | sys
  deriving DecidableEq, Repr

/-- A part is as it was, but for the wires: the light of the quadrants, and the safety outputs with the instants they keep
(R353, R323, R356, R363, R366), which follow the demands after every command. -/
def State.Same (s t : State) : Part → Prop
  | .now => t.now = s.now
  | .undef => t.undef = s.undef
  | .freeNo => t.freeNo = s.freeNo
  | .pending => t.pending = s.pending
  | .frameRegs => t.frameRegs = s.frameRegs
  | .capRegs => t.capRegs = s.capRegs
  | .mem => ∀ a, t.readByte a = s.readByte a
  | .flash => t.flash = s.flash
  | .br => t.br = s.br
  | .pix => t.pix = s.pix
  | .cmp => t.cmp = s.cmp
  | .hyb => t.hyb = s.hyb
  | .scn => t.scn = s.scn
  | .sns => t.sns = s.sns
  | .gov => t.gov = s.gov
  | .fmc => t.fmc = s.fmc
  | .lnk => t.lnk = s.lnk
  | .zlp => t.zlp = s.zlp
  | .cmd => t.cmd = s.cmd
  | .rln => t.rln = s.rln
  | .pwr => t.pwr = { s.pwr with light := t.pwr.light, closedAt := t.pwr.closedAt }
  | .thm => t.thm = s.thm
  | .saf => t.saf = { s.saf with firstClear := t.saf.firstClear, fbWait := t.saf.fbWait, outOn := t.saf.outOn
                                 outSince := t.saf.outSince, fbWindow := t.saf.fbWindow }
  | .flt => t.flt = s.flt
  | .chk => t.chk = s.chk
  | .tun => t.tun = s.tun
  | .upd => t.upd = s.upd
  | .sys => t.sys = s.sys

/-- The bits of register `a` that no wire drives: all but SAF_STAT.LATCH and SYS_START.STEP (R356, R357, R445). -/
def wireMask (a : Nat) : Word := if a = A.SAF_STAT then 0x7FFFFFFF#32 else if a = A.SYS_START then 0x0FFFFFFF#32 else 0xFFFFFFFF#32

/-- Between `s` and `t` only the registers in `regs` and the parts in `parts` may differ, the wires apart. -/
structure State.Frame (s t : State) (regs : List Nat) (parts : List Part) : Prop where
  regs : ∀ a, a ∉ regs → t.reg a &&& wireMask a = s.reg a &&& wireMask a
  parts : ∀ p, p ∉ parts → s.Same t p

/-- What requests to the DRAM may touch beside its bytes: rows open and close, ranks leave power-down, and activations draw neighbour
refreshes and run those a full queue makes room with (R200, R204). -/
def dramRegs : List Nat := [A.FMC_PD, A.FMC_CNT_PNR]
def dramParts : List Part := [.fmc, .freeNo]

/-- What a check of the firmware on a free channel leaves in the channels (R402, R403): it is open. -/
def channelRegs : List Nat := (List.range 6).flatMap (fun c => [A.CHK_CH_CFG c, A.CHK_CH_VALUE c])
def channelParts : List Part := [.chk, .freeNo]

/-- What settling the sense requests may touch (R161, R167): a BASELINE that completes writes the baseline array and queues its save. -/
def requestRegs : List Nat := [A.SNS_REQ, A.SNS_CNT] ++ (List.range 4).map A.SNS_BASE_T ++ dramRegs
def requestParts : List Part := [.sns, .mem, .gov] ++ dramParts

/-- The registers of the governor's output (07_budget_governor.md). -/
def govShown : List Nat := [A.GOV_STAT, A.GOV_FLAGS, A.GOV_CNT] ++ (List.range 4).map A.GOV_CEIL ++ (List.range 4).map A.GOV_IPRED

/-- The registers a scan-out frame start moves (R137 to R140, R62, R81, R90, R156, R408, R445). -/
def frameStartRegs : List Nat :=
  [A.GOV_STAT, A.CMP_CONCEAL_STAT, A.CMP_TBL_STAT, A.CMP_TBL_ID, A.HYB_STAT, A.SCN_STAT, A.SCN_TSTAT, A.SCN_LINE_NOW, A.SCN_PERIOD_NOW,
    A.PIX_FRAME_NO, A.PIX_CNT_FRAME, A.SYS_START, A.SNS_CNT] ++ (List.range 4).map A.GOV_IPRED ++ (List.range 4).map A.SNS_QSTAT ++
    (List.range 4).flatMap (fun q => (List.range 3).map (A.CMP_AGE q) ++ (List.range 48).map (A.TUN_ADC q) ++ [A.TUN_RAMP q 0, A.TUN_RAMP q 1]) ++
    dramRegs

/-- The registers that a read of the panel records may touch (R126, R127, R494). -/
def recordRegs : List Nat :=
  [A.SCN_I2C, A.SCN_GLASS_ID_LO, A.SCN_GLASS_ID_HI, A.SYS_PRAIL_STAT] ++
    (List.range 4).flatMap (fun q => [A.SCN_EE_STAT q, A.SCN_EE_SERIAL_LO q, A.SCN_EE_SERIAL_HI q])

/-- The registers that the interval of a scan line of quadrant q may touch (R121, R135, R136, R141, R142, R169, R178, R414). -/
def lineRegs (q : Nat) : List Nat :=
  [A.SCN_UNDERRUN q, A.SCN_LBUF q, A.SCN_RB_STAT q, A.SNS_ADC_FAIL_LO q, A.SNS_ADC_FAIL_HI q, A.HYB_ECC, A.FMC_URG] ++
    (List.range 48).map (A.TUN_ADC q) ++ govShown ++ requestRegs

/-- The registers that show the ports, their lanes, the streams and TXCLK (09_serial_lanes.md; 10_zhelan_link.md): what a port that
comes up or goes down may touch. -/
def linkRegs : List Nat :=
  [A.ZLP_SEL_STAT, A.ZLP_CNT_SEL, A.ZLP_TIME_STAT, A.ZLP_TIME_ERR, A.ZLP_PATH, A.LNK_TXCLK] ++
    [0, 1, 2, 3].flatMap (fun p => [A.LNK_STAT p, A.LNK_CNT p, A.LNK_PARTNER p, A.ZLP_PORT_STAT p] ++
      [0, 1, 2, 3].flatMap (fun k => [A.LNK_LSTAT p k, A.LNK_EYE_CFG p k]))

/-- The registers of port p and its lanes that its bring-up moves. -/
def bringUpRegs (p : Nat) : List Nat := [A.LNK_STAT p, A.LNK_CNT p, A.LNK_PARTNER p] ++ [0, 1, 2, 3].map (A.LNK_LSTAT p)

/-- Between `s` and `t` port p left ACTIVE for DETECT with a cause (R226): causes 1 to 3 count and raise the port's fault. -/
structure State.PortDown (s t : State) (p : Port) (c : Nat) : Prop where
  detect : t.portState p.val = 1
  cause : t.rd (F.LNK_STAT.DOWN_CAUSE p.val) = c
  counted : t.rd (F.LNK_CNT.DOWNS p.val)
    = (if 1 ≤ c ∧ c ≤ 3 then min 0xFFFF (s.rd (F.LNK_CNT.DOWNS p.val) + 1) else s.rd (F.LNK_CNT.DOWNS p.val))
  fault : 1 ≤ c → c ≤ 3 → ⟨0x20 + p.val, 2, 0, 0, false, s.now⟩ ∈ t.flt.inbox
  stream : t.streamValid p = false
  others : ∀ r, r ≠ p → t.reg (A.LNK_STAT r.val) = s.reg (A.LNK_STAT r.val)
  frame : s.Frame t linkRegs [.lnk, .zlp, .flt, .gov, .cmd]

/-- The registers that show sensor readings and their judgement (14_thermal.md). -/
def sensorRegs : List Nat := [A.THM_FAIL, A.THM_STAT] ++ (List.range 24).map A.THM_T

/-- Effective temperatures and holds are what the readings and failures give (R338, R342): a valid sensor's reading; for a failed one
5 °C above its highest valid neighbour, without any such neighbour the END of its group or 5 °C above the highest valid sensor, and
in the first 10 s at least its last valid reading. -/
structure State.SensorsJudged (t : State) : Prop where
  valid : ∀ j < 24, t.sensorFailed j = false → t.teff j = t.reading j
  replaced : ∀ j < 24, t.sensorFailed j = true → t.validNeighbours j ≠ [] → (∀ k ∈ t.validNeighbours j, t.reading k ≤ 1500) →
    (∀ v, (t.sensor j).lastValid = some v → -32768 ≤ v ∧ v ≤ 32767) →
    ∃ k ∈ t.validNeighbours j, (∀ m ∈ t.validNeighbours j, t.reading m ≤ t.reading k) ∧
      ((t.sensor j).floor = false ∨ (t.sensor j).lastValid = none → t.teff j = t.reading k + 50) ∧
      ∀ v, (t.sensor j).floor = true → (t.sensor j).lastValid = some v → t.teff j = max v (t.reading k + 50)
  blind : ∀ j < 24, t.sensorFailed j = true → t.validNeighbours j = [] → (∀ k < 24, t.reading k ≤ 1500) →
    (∀ v, (t.sensor j).lastValid = some v → -32768 ≤ v ∧ v ≤ 32767) →
    10 * (t.endOf j : Int) ≤ t.teff j ∧
      (∀ k < 24, t.sensorFailed k = false → (t.sensor k).has = true → t.reading k + 50 ≤ t.teff j) ∧
      ∀ v, (t.sensor j).floor = true → (t.sensor j).lastValid = some v → v ≤ t.teff j
  hold : ∀ q : Quad, bitsAt (t.rd F.THM_STAT.HOLD) q.val 1 = if t.failedGoverning q then 1 else 0

/-! ### The staged image (R428) -/

/-- The staged image passes the test of R428 whose failure is ERR `k`. In the recovery monitor no image and no safety part run, so
tests 7 and 9 compare nothing there. -/
def State.StagedPasses (s : State) (k : Nat) : Prop :=
  let a := s.area s.flash.staging
  let h := a.header
  match k with
  | 1 => ∀ j, j < h.length → ∃ w ∈ s.upd.written, w.1 ≤ j ∧ j < w.2
  | 2 => a.delivered = none → imageHeaderValid (a.slice 0 512) = true
  | 3 => s.signatureGood a = true ∧ a.safeCrcGood = true
  | 4 => h.keySlot = 0 → s.lifecycle = 0
  | 5 => s.sys.fuses.revoked.testBit h.keySlot = false
  | 6 => s.sys.fuses.floor ≤ h.rollback
  | 7 => h.cold = false → s.sys.monitor = false → h.stateFrom ≤ s.upd.running.stateFmt ∧ s.upd.running.stateFmt ≤ h.stateFmt
  | 8 => if h.cold then h.migFrom ≤ s.flash.conf.fmt ∧ s.flash.conf.fmt ≤ h.dataFmt else h.dataFmt = s.flash.conf.fmt
  | 9 => s.sys.monitor = false → h.safeIfMin ≤ s.upd.safeIf
  | _ => True

/-! ### Resets (R441 to R445) -/

/-- The parts that a warm reset puts back to their reset values whole. -/
def resetParts : List Part := [.undef, .frameRegs, .capRegs, .mem, .br, .pix, .cmp, .hyb, .sns, .fmc, .lnk, .cmd, .chk, .upd]

/-- The freedom of R12 outlasts a reset: that of a case whose condition the reset has yet to end, or of a supply above its maximum
(R12, R475). -/
def State.StaysFree (s : State) : Bool := s.undef && (s.sys.lasting || s.sys.aboveMax.any id)

/-- A trigger with cause `c` resets the device: no reset has taken place in the present always-on cycle, or one with a higher code
(R442). -/
def State.Resets (s : State) (c : Nat) : Prop := s.sameCycle = false ∨ c < s.rd F.SYS_RESET_CAUSE.CAUSE

/-- Between `s` and `t` the device made a warm reset with a cause and its detail (R442, R443): the registers `kept` keeps, the flash,
the fuses, the levels at the pins, the thermal latch, the clock and the accounting are what they were, the reset is counted once in
its always-on cycle and recorded, everything else has its reset value, no quadrant shows light, and the start begins at `start`. The facts of the attached
glass and of its supplies stay, and the ages of scrubbing and tuning count from now (R183, R408). -/
structure State.Restarted (s t : State) (kept : Nat → Bool) (cause detail start : Nat) : Prop where
  cause : t.rd F.SYS_RESET_CAUSE.CAUSE = cause
  detail : t.rd F.SYS_RESET_CAUSE.DETAIL = detail
  counted : t.rd F.SYS_RESET_CAUSE.WARM_COUNT
    = (if s.sameCycle then s.rd F.SYS_RESET_CAUSE.WARM_COUNT else min 0xFFFF (s.rd F.SYS_RESET_CAUSE.WARM_COUNT + 1))
  keeps : ∀ a, kept a = true → a ∉ [A.SYS_RESET_CAUSE, A.PWR_STATE, A.THM_STAT, A.RLN_STAT] → t.reg a = s.reg a
  reset : ∀ a, kept a = false → a ∉ [A.SYS_RESET_CAUSE, A.THM_STAT, A.SYS_PRAIL_STAT, A.RLN_STAT] →
    t.reg a &&& wireMask a = resetWord a &&& wireMask a
  levels : t.rd F.SYS_PRAIL_STAT.PG = s.rd F.SYS_PRAIL_STAT.PG
  thermal : t.rd F.THM_STAT.SHUT = s.rd F.THM_STAT.SHUT ∧ t.thm.dieTrip = s.thm.dieTrip
  flash : t.flash = s.flash
  sys : t.sys = { ({} : SysState) with
    fuses := s.sys.fuses, supplies := s.sys.supplies, vinSafe := s.sys.vinSafe, resetPin := s.sys.resetPin, startAt := start
    resetAt := some s.now, byCase := s.sys.lasting, aboveMax := s.sys.aboveMax }
  ages : t.scn = { ({} : ScnState) with fits := s.scn.fits } ∧ t.gov = { State.reset.gov with scrubAt := s.now } ∧
    t.tun = { State.reset.tun with okAt := s.now, okAwake := nth s.pwr.timeIn 0 + nth s.pwr.timeIn 1 }
  pads : t.pwr.pads = s.pwr.pads
  clock : t.now = s.now ∧ t.pwr.timeIn = s.pwr.timeIn ∧ t.pending = s.pending ∧ t.freeNo = s.freeNo
  inbox : t.flt.inbox = []
  others : ∀ p ∈ resetParts, State.reset.Same t p
  dark : t.AllDark

/-- Between `s` and `t` VIN_AON came or went (R441, R443): flash, fuses and the levels at the pins are what they were, with the supplies
now `supplies`; everything else has its reset value, the cause is POWER_ON, and the clock starts anew. -/
structure State.PoweredOn (s t : State) (supplies : List Bool) : Prop where
  cause : t.rd F.SYS_RESET_CAUSE.CAUSE = 1 ∧ t.rd F.SYS_RESET_CAUSE.WARM_COUNT = 0
  regs : ∀ a, a ∉ [A.SYS_RESET_CAUSE, A.SYS_PRAIL_STAT] → t.reg a &&& wireMask a = resetWord a &&& wireMask a
  flash : t.flash = s.flash
  sys : t.sys = { ({} : SysState) with
    fuses := s.sys.fuses, supplies := supplies, vinSafe := s.sys.vinSafe, resetPin := s.sys.resetPin, startAt := 0
    resetAt := some 0, byCase := s.sys.lasting, aboveMax := s.sys.aboveMax }
  glass : t.scn = { ({} : ScnState) with fits := s.scn.fits }
  now : t.now = 0
  others : ∀ p ∈ resetParts ++ [.gov, .tun, .zlp, .rln, .thm, .flt], State.reset.Same t p
  dark : t.AllDark

/-- Between `s` and `t` the rail sequencer took its step at `now` (R449): `next` is the first rail from where it stood that USED and the
glass allow. It is switched on and its PG awaited, or with PG there DELAY; with no rail left the sequence has run. -/
def State.RailStep (s t : State) (now : Nat) (next : Option Nat) : Prop :=
  match next with
  | none => t.sys.rails = .idle ∧ t.sys.railsUp = true ∧ t.rd F.SYS_PRAIL_STAT.EN = s.rd F.SYS_PRAIL_STAT.EN
  | some j => bitsAt (t.rd F.SYS_PRAIL_STAT.EN) j 1 = 1 ∧
    (s.railPg j = false → t.sys.rails = .waitPg j ∧ (j, now) ∈ t.sys.pgWait ∧ t.sys.railsUp = s.sys.railsUp ∧
      ∀ k < 6, k ≠ j → bitsAt (t.rd F.SYS_PRAIL_STAT.EN) k 1 = bitsAt (s.rd F.SYS_PRAIL_STAT.EN) k 1) ∧
    (s.railPg j = true → s.rd F.SYS_PRAIL_CFG.DELAY ≠ 0 → t.sys.rails = .waitDelay j ∧ t.sys.railAt = now)

/-! ### What an accepted packet leaves (R280, R286) -/

/-- Between `s` and `t` request `r` of opcode `op` was answered with `a`: one reply more, if the request asked for one. -/
def State.Answered (s t : State) (op : Nat) (r : Request) (a : Answer) : Prop :=
  t.cmd.replies = s.cmd.replies ++ (if r.replyReq then [s.replyOf op r a] else [])

/-- Between `s` and `t` request `r` of opcode `op` took a place, to be answered later. -/
def State.Held (s t : State) (op : Nat) (r : Request) : Prop :=
  t.cmd.places = s.cmd.places ++ [⟨op, r, s.deviceId, false⟩] ∧ t.cmd.replies = s.cmd.replies

end Sys2Proof.Machine
end

