-- ==== Sys2Proof/Certificates/Slice0/Obligations.lean ====
section
/-! DEFINITION. Sys2Proof/Certificates/Slice0/Obligations.lean: the statements for the provers. In every one of them
`s.Frame t regs parts` says that the command leaves every register but those in `regs`, and every part of State but those in
`parts`, as it was; the wires apart, which `EveryStepIsSafe` speaks of. -/

section

open Sys2Proof Sys2Proof.Machine

/-- With the bridge of quadrant q up: a flit with the expected sequence number and code clears the run of failures and moves the
expected number on. Any other flit is counted in SYS_QBR_ERR of that quadrant (saturating), the run of failures grows, and
exactly the eighth failure in a row raises the bridge's fault, class 3, for that quadrant. Nothing else changes. That the ninth
raises none, and the sequence and code by which a flit is good, are the model's choice (log entry 53). (01_architecture.md R17,
01_architecture.md R18) -/
def Obligations.BridgeFlits : Prop :=
  ∀ (s : State) (q : Quad) (toDie : Bool) (seq : Nat) (bits : BitVec 128) (code : BitVec 8), s.undef = false → s.bridgeUp q = true →
    ∃ t, exec (.bridgeFlitReceive q toDie seq bits code) s = .next t ∧
      (flitGood (s.bridgeEnd q toDie) seq bits code = true →
        t.br = (s.setBridgeEnd q toDie ⟨Config.nextFlit seq, 0⟩).br ∧ s.Frame t [] [.br]) ∧
      (flitGood (s.bridgeEnd q toDie) seq bits code = false →
        t.rd (retryField q) = min 255 (s.rd (retryField q) + 1) ∧
        t.br = (s.setBridgeEnd q toDie { s.bridgeEnd q toDie with fails := (s.bridgeEnd q toDie).fails + 1 }).br ∧
        t.flt.inbox = s.flt.inbox ++ (if (s.bridgeEnd q toDie).fails + 1 = 8 then [⟨8 + q.val, 3, 2 ^ q.val, 0, false, s.now⟩] else []) ∧
        s.Frame t [A.SYS_QBR_ERR] [.br, .flt])

/-- While an operation runs, BUILD and LOAD only set ERR 3. Otherwise a BUILD with a known depth, TF at most 3 and PEAK from 100
to 10,000, and a LOAD from an aligned source in the free region, invalidate the inactive bank and start; with other settings
they set ERR 4 or ERR 2 and leave the bank invalid. At the end of a BUILD the bank is valid and holds the built-in table; at the
end of a LOAD the table read is taken if its CRC-32C agrees, else ERR is 1 and no bank changes. A LOAD takes a check channel
that is free, or waits for one, and without one it waits at its end. That an end in place of ERR 3 shows its result, that ERR 2
leaves the bank invalid, and what a check leaves in its channel are the model's choice (log entries 130, 131, 110). OVERLAY_SAVE
outside RETIRED and OVERLAY_RESTORE, with BUSY at 0, set BUSY and put their job in the flash queue unless it stands there. When
the save in flight is done the flash store holds the DRAM store's bytes; when the restore in flight is done the DRAM store holds
those of flash and the DRAM outside it is as it was; both clear BUSY and take their job off the head of the queue. Nothing else
changes but the flash job's state and what reading the DRAM touches. (02_canvas_and_presentation.md R45,
02_canvas_and_presentation.md R46, 02_canvas_and_presentation.md R47, 02_canvas_and_presentation.md R68, 17_check_values.md
R403) -/
def Obligations.LinearisationAndOverlay : Prop :=
  (∀ s : State, s.undef = false →
      (s.linBusy = true → ∃ t u, exec .linBuild s = .next t ∧ exec .linLoad s = .next u ∧
        t.rd F.PIX_LIN_STAT.ERR = 3 ∧ u.rd F.PIX_LIN_STAT.ERR = 3 ∧ s.Frame t [A.PIX_LIN_STAT] [] ∧ s.Frame u [A.PIX_LIN_STAT] []) ∧
      (s.linBusy = false → ∀ d, depthOf (s.rd F.PIX_CANVAS.FMT) = some d → s.rd F.PIX_LIN_BUILD.TF ≤ 3 →
        100 ≤ s.rd F.PIX_LIN_BUILD.PEAK → s.rd F.PIX_LIN_BUILD.PEAK ≤ 10000 →
        ∃ t, exec .linBuild s = .next t ∧
          t.pix = { s.pix with
            banks := s.pix.banks.set (1 - s.rd F.PIX_LIN_STAT.ACTIVE_BANK) {}
            linOp := some (.build (s.rd F.PIX_LIN_BUILD.TF) (s.rd F.PIX_LIN_BUILD.RANGE) (s.rd F.PIX_LIN_BUILD.PEAK) d) } ∧
          s.Frame t [] [.pix]) ∧
      (s.linBusy = false → depthOf (s.rd F.PIX_CANVAS.FMT) = none ∨ 3 < s.rd F.PIX_LIN_BUILD.TF ∨
          s.rd F.PIX_LIN_BUILD.PEAK < 100 ∨ 10000 < s.rd F.PIX_LIN_BUILD.PEAK →
        ∃ t, exec .linBuild s = .next t ∧ t.rd F.PIX_LIN_STAT.ERR = 4 ∧
          t.pix = { s.pix with banks := s.pix.banks.set (1 - s.rd F.PIX_LIN_STAT.ACTIVE_BANK) {}, linOp := none } ∧
          s.Frame t (A.PIX_LIN_STAT :: channelRegs) (.pix :: channelParts)) ∧
      (s.linBusy = false → ∃ t, exec .linLoad s = .next t ∧
        (linSrcOk (s.rd F.PIX_LIN_SRC.ADDR) = true →
          t.pix = { s.pix with banks := s.pix.banks.set (1 - s.rd F.PIX_LIN_STAT.ACTIVE_BANK) {}
                               linOp := some (.load (s.rd F.PIX_LIN_SRC.ADDR)) } ∧ s.Frame t [] [.pix, .chk] ∧
          (s.noChannel = false → s.chk.waits = [] → s.chk.chans.length = 6 → t.hasChannel .linear = true)) ∧
        (linSrcOk (s.rd F.PIX_LIN_SRC.ADDR) = false → t.rd F.PIX_LIN_STAT.ERR = 2 ∧
          t.pix = { s.pix with banks := s.pix.banks.set (1 - s.rd F.PIX_LIN_STAT.ACTIVE_BANK) {}, linOp := none } ∧
          s.Frame t (A.PIX_LIN_STAT :: channelRegs) (.pix :: channelParts))) ∧
      (∀ tf range peak d, s.pix.linOp = some (.build tf range peak d) → ∃ t, exec .linOpDone s = .next t ∧
        t.rd F.PIX_LIN_STAT.ERR = 0 ∧ t.rd F.PIX_LIN_STAT.DONE = 1 ∧
        t.pix = { s.pix with banks := s.pix.banks.set (1 - s.rd F.PIX_LIN_STAT.ACTIVE_BANK) ⟨true, .builtin tf range peak d⟩
                             linOp := none } ∧ s.Frame t (A.PIX_LIN_STAT :: channelRegs) (.pix :: channelParts)) ∧
      (∀ a, s.pix.linOp = some (.load a) → s.hasChannel .linear = false →
        ∃ t, exec .linOpDone s = .next t ∧ s.Frame t dramRegs dramParts) ∧
      (∀ a, s.pix.linOp = some (.load a) → s.hasChannel .linear = true →
        ∃ t, exec .linOpDone s = .next t ∧ s.Frame t (A.PIX_LIN_STAT :: (dramRegs ++ channelRegs)) (.pix :: .chk :: dramParts) ∧
        (crc32c (s.readBytes a 49152) = s.readLE (a + 49152) 4 → t.rd F.PIX_LIN_STAT.ERR = 0 ∧ t.rd F.PIX_LIN_STAT.DONE = 1 ∧
          t.pix = { s.pix with
            banks := s.pix.banks.set (1 - s.rd F.PIX_LIN_STAT.ACTIVE_BANK)
              ⟨true, .user ((wordsLE (s.readBytes a 49152)).map (fun w => bitsAt w.toNat 0 20))⟩
            linOp := none }) ∧
        (crc32c (s.readBytes a 49152) ≠ s.readLE (a + 49152) 4 →
          t.rd F.PIX_LIN_STAT.ERR = 1 ∧ t.pix = { s.pix with linOp := none }))) ∧
  (∀ s : State, s.undef = false →
      (s.lifecycle ≠ 4 → s.overlayBusy = false → ∃ t, exec .overlaySave s = .next t ∧ t.overlayBusy = true ∧
        t.gov.flash = (if s.gov.flash.contains .overlaySave then s.gov.flash else s.gov.flash ++ [.overlaySave]) ∧
        s.Frame t [A.PIX_OVL_SAVE] [.gov]) ∧
      (s.lifecycle = 4 → ∃ t, exec .overlaySave s = .next t ∧ s.Frame t [] []) ∧
      (s.overlayBusy = false → ∃ t, exec .overlayRestore s = .next t ∧ t.overlayBusy = true ∧
        t.gov.flash = (if s.gov.flash.contains .overlayRestore then s.gov.flash else s.gov.flash ++ [.overlayRestore]) ∧
        s.Frame t [A.PIX_OVL_SAVE] [.gov]) ∧
      (s.overlayBusy = true → ∃ t u, exec .overlaySave s = .next t ∧ exec .overlayRestore s = .next u ∧
        s.Frame t [] [] ∧ s.Frame u [] []) ∧
      (s.inFlight .overlaySave = true → ∃ t, exec .overlaySaveDone s = .next t ∧
        t.flash = { s.flash with overlay := s.mem.filter (fun c => decide (0x18000000 ≤ c.1) && decide (c.1 < 0x1C000000)) } ∧
        t.gov.flash = s.gov.flash.drop 1 ∧ t.overlayBusy = false ∧
        s.Frame t (A.PIX_OVL_SAVE :: dramRegs) (.gov :: .flash :: dramParts)) ∧
      (s.inFlight .overlayRestore = true → ∃ t, exec .overlayRestoreDone s = .next t ∧
        (∀ a, a < 0x18000000 ∨ 0x1C000000 ≤ a → t.readByte a = s.readByte a) ∧
        (∀ a, 0x18000000 ≤ a → a < 0x1C000000 →
          t.readByte a = Sparse.get s.unlisted (Sparse.norm s.unlisted
            (s.flash.overlay.filter (fun c => decide (0x18000000 ≤ c.1) && decide (c.1 < 0x1C000000)))) a) ∧
        t.gov.flash = s.gov.flash.drop 1 ∧ t.overlayBusy = false ∧
        s.Frame t (A.PIX_OVL_SAVE :: dramRegs) (.gov :: .mem :: dramParts)))

/-- A marker that fails its check on the captured port only counts BAD there. A frame-end of the filling frame, and the closing
deadline, move the filling buffer to CLOSING and change nothing else but the note of the alternate stream. A frame-start on a
captured port other than PRIMARY_UP, of a frame that is not filling, closes the filling buffer; if it is accepted into buffer k,
that buffer is FILLING with the frame's number and time and PIX_FRAME_NO.FILLING holds the number, and if not it counts REJECTED
and raises fault 0x43. (02_canvas_and_presentation.md R51, 02_canvas_and_presentation.md R52, 02_canvas_and_presentation.md R53) -/
def Obligations.CanvasFrameMarkers : Prop :=
  ∀ (s : State) (p : Port) (b : List Byte), s.undef = false →
    (s.receives p = true → s.captures p = true → markerCheck b 12 = false → ∃ t, exec (.frameEndReceive p b) s = .next t ∧
      t.rd (F.ZLP_PORT_CNT.BAD p.val) = min 0xFFFF (s.rd (F.ZLP_PORT_CNT.BAD p.val) + 1) ∧ s.Frame t [A.ZLP_PORT_CNT p.val] []) ∧
    (∀ n, (s.advance n).receives p = true → (s.advance n).captures p = true → markerCheck b 20 = false →
      ∃ t, exec (.frameStartReceive n p b) s = .next t ∧
        t.rd (F.ZLP_PORT_CNT.BAD p.val) = min 0xFFFF (s.rd (F.ZLP_PORT_CNT.BAD p.val) + 1) ∧
        (s.advance n).Frame t [A.ZLP_PORT_CNT p.val] []) ∧
    (∀ k, s.receives p = true → markerCheck b 12 = true → s.capturing = true → s.captures p = true →
      s.bufIn .filling = some k → (s.buf k).no = fieldLE b 2 2 → ∃ t, exec (.frameEndReceive p b) s = .next t ∧
        t.pix = { s.pix with bufs := s.pix.bufs.set k { s.buf k with st := .closing } } ∧
        t.zlp = (if s.role p = 2 then { s.zlp with altEnded := true } else s.zlp) ∧ s.Frame t [] [.pix, .zlp]) ∧
    (∀ n k, s.bufIn .filling = some k → (s.advance n).reached (s.buf k).pt ((s.advance n).closingLead (s.buf k).pt) = true →
      ∃ t, exec (.closingDeadline n) s = .next t ∧
        t.pix = { s.pix with bufs := s.pix.bufs.set k { s.buf k with st := .closing } } ∧ (s.advance n).Frame t [] [.pix]) ∧
    (∀ n s1, (s.advance n).receives p = true → markerCheck b 20 = true →
      s1 = (if s.role p = 1 then (s.advance n).tryRevert (s.bufIn .filling).isSome else s.advance n) →
      s1.capturing = true → s1.captures p = true → (s.bufIn .filling).filter (fun k => (s.buf k).no == fieldLE b 2 2) = none →
      ∃ t, exec (.frameStartReceive n p b) s = .next t ∧
        (∀ k, s1.closeFilling.acceptsStart (fieldLE b 8 8) = some k →
          (t.buf k).st = .filling ∧ (t.buf k).no = fieldLE b 2 2 ∧ (t.buf k).pt = fieldLE b 8 8 ∧
          t.rd F.PIX_FRAME_NO.FILLING = fieldLE b 2 2 ∧ (∀ j, j ≠ k → t.buf j = s.closeFilling.buf j) ∧
          s1.Frame t [A.PIX_FRAME_NO, A.PIX_COMMIT_FRAME, A.PIX_LIN_STAT] [.pix, .zlp, .flt, .capRegs, .freeNo]) ∧
        (s1.closeFilling.acceptsStart (fieldLE b 8 8) = none →
          t.rd F.PIX_CNT_FRAME.REJECTED = min 0xFF (s.rd F.PIX_CNT_FRAME.REJECTED + 1) ∧ t.pix = s.closeFilling.pix ∧
          t.flt.inbox = s1.flt.inbox ++ [⟨0x43, 0, 0, 0, false, s1.now⟩] ∧ s1.Frame t [A.PIX_CNT_FRAME] [.pix, .zlp, .flt]))

/-- On the captured stream, a segment that fails its check counts SEG_BAD and the port's BAD and changes nothing else; one that
does not fit the canvas counts SEG_BAD only. One of the filling frame in buffer k leaves every DRAM byte outside that buffer,
every other buffer and every other part alone, but for the overflow of the write buffer, whose count and fault 0x7C it may
raise; what was covered stays covered, the frame's statistics take the pixels in, and with room for all its pixels every window
pixel it brings is covered after it, with no overflow. An uncovered window pixel with room for its device pixels overflows
nothing, and every device pixel it covers then reads as the linearised and matrixed word of the pixel. (That a segment with
non-zero bits above the FMT code does not fit the canvas is the model's choice, log entry 137.) (02_canvas_and_presentation.md
R38, 02_canvas_and_presentation.md R39, 02_canvas_and_presentation.md R44, 02_canvas_and_presentation.md R49,
02_canvas_and_presentation.md R50) -/
def Obligations.SegmentCapture : Prop :=
  (∀ (s : State) (k : Fin 4) (fmt depth : Nat) (px : List Byte) (q : Quad) (dx dy i room : Nat),
    dx < windowSide (s.buf k.val).geom q → dy < windowSide (s.buf k.val).geom q → isCovered (s.buf k.val) q dx dy = false →
    scaleOf (s.buf k.val).geom q * scaleOf (s.buf k.val).geom q ≤ room →
    (State.capturePixels k.val fmt depth px [(q, dx, dy, i)] room s).1 = false ∧
    ∀ x y, x < scaleOf (s.buf k.val).geom q → y < scaleOf (s.buf k.val).geom q →
      (State.capturePixels k.val fmt depth px [(q, dx, dy, i)] room s).2.readLE
          (pixelAddr k.val q (dx * scaleOf (s.buf k.val).geom q + x) (dy * scaleOf (s.buf k.val).geom q + y)) 8 =
        matrixWord (s.buf k.val).geom q
          (linearise (nth s.pix.banks s.activeBank).table depth 0 (pixelCodes fmt px i).1)
          (linearise (nth s.pix.banks s.activeBank).table depth 1 (pixelCodes fmt px i).2.1)
          (linearise (nth s.pix.banks s.activeBank).table depth 2 (pixelCodes fmt px i).2.2)) ∧
  ∀ (s : State) (p : Port) (b : List Byte) (room : Nat), s.undef = false → s.capturing = true → s.captures p = true →
    (segmentCheck b = false → ∃ t, exec (.segmentCapture p b room) s = .next t ∧
      t.rd F.PIX_CNT_SEG.SEG_BAD = min 0xFFFF (s.rd F.PIX_CNT_SEG.SEG_BAD + 1) ∧
      t.rd (F.ZLP_PORT_CNT.BAD p.val) = min 0xFFFF (s.rd (F.ZLP_PORT_CNT.BAD p.val) + 1) ∧
      s.Frame t [A.PIX_CNT_SEG, A.ZLP_PORT_CNT p.val] []) ∧
    (segmentCheck b = true → s.segmentFits b = false → ∃ t, exec (.segmentCapture p b room) s = .next t ∧
      t.rd F.PIX_CNT_SEG.SEG_BAD = min 0xFFFF (s.rd F.PIX_CNT_SEG.SEG_BAD + 1) ∧ s.Frame t [A.PIX_CNT_SEG] []) ∧
    (∀ k, segmentCheck b = true → s.segmentFits b = true → s.bufIn .filling = some k → (s.buf k).no = fieldLE b 2 2 →
      ∃ t, exec (.segmentCapture p b room) s = .next t ∧ s.Frame t (A.FMC_CNT_CAP :: dramRegs) (.mem :: .pix :: .flt :: dramParts) ∧
        (∀ a, a < bufBase k ∨ bufBase k + 0x800000 ≤ a → t.readByte a = s.readByte a) ∧
        t.pix = { s.pix with bufs := s.pix.bufs.set k { s.buf k with covered := (t.buf k).covered, bins := (t.buf k).bins } } ∧
        (∀ q dx dy, isCovered (s.buf k) q dx dy = true → isCovered (t.buf k) q dx dy = true) ∧
        (4 * 64 * fieldLE b 8 2 ≤ room →
          t.rd F.FMC_CNT_CAP.OVF = s.rd F.FMC_CNT_CAP.OVF ∧ t.flt = s.flt ∧
          ∀ q, ∀ x ∈ segmentPixels (s.buf k).geom (fieldLE b 4 2) (fieldLE b 6 2) (fieldLE b 8 2) q,
            isCovered (t.buf k) x.1 x.2.1 x.2.2.1 = true))

/-- The coverage map has a bit of its own for each pixel of each quadrant window. When a frame-start takes a buffer into
FILLING, the bit of every canvas pixel in it is clear. When a segment is captured into the buffer that is filling, a pixel whose
bit is set before reads, in every device pixel it covers, as it read before; and one whose bit is still clear after it has not
been written either, so that a pixel that has been written has its bit set. Where the segment finds room every pixel it brings
has its bit set after it. (02_canvas_and_presentation.md R39) -/
def Obligations.CapturedPixelReadsBack : Prop :=
  (∀ (q q' : Quad) (dx dy dx' dy' : Nat), dx < 512 → dx' < 512 → dy < 512 → dy' < 512 → coverKey q dx dy = coverKey q' dx' dy' →
    q = q' ∧ dx = dx' ∧ dy = dy') ∧
  (∀ (s : State) (n : Nat) (p : Port) (b : List Byte), s.undef = false → ∃ t, exec (.frameStartReceive n p b) s = .next t ∧
    ∀ k, (s.buf k).st ≠ .filling → (t.buf k).st = .filling → ∀ (q : Quad) (dx dy : Nat),
      isOutside (t.buf k).geom ((originOf (t.buf k).geom q).1 + dx) ((originOf (t.buf k).geom q).2 + dy) = false →
      isCovered (t.buf k) q dx dy = false) ∧
  (∀ (s : State) (p : Port) (b : List Byte) (room k : Nat), s.undef = false → s.capturing = true → s.captures p = true →
    segmentCheck b = true → s.segmentFits b = true → s.bufIn .filling = some k → (s.buf k).no = fieldLE b 2 2 →
    ∃ t, exec (.segmentCapture p b room) s = .next t ∧
      (∀ (q : Quad) (dx dy x y : Nat), dx < windowSide (s.buf k).geom q → dy < windowSide (s.buf k).geom q →
        x < scaleOf (s.buf k).geom q → y < scaleOf (s.buf k).geom q →
        isCovered (s.buf k) q dx dy = true ∨ isCovered (t.buf k) q dx dy = false →
        t.readLE (pixelAddr k q (dx * scaleOf (s.buf k).geom q + x) (dy * scaleOf (s.buf k).geom q + y)) 8 =
          s.readLE (pixelAddr k q (dx * scaleOf (s.buf k).geom q + x) (dy * scaleOf (s.buf k).geom q + y)) 8) ∧
      (4 * 64 * fieldLE b 8 2 ≤ room → ∀ q, ∀ x ∈ segmentPixels (s.buf k).geom (fieldLE b 4 2) (fieldLE b 6 2) (fieldLE b 8 2) q,
        isCovered (t.buf k) x.1 x.2.1 x.2.2.1 = true))

/-- An activation, by TABLE_ACTIVATE or by CMP_TBL_CMD, is refused in RETIRED with ERR 0 (REVERT then does nothing), outside
IDLE (ERR 3) and for a file outside the free region or misaligned (ERR 2); otherwise STATE is CHECK with the file noted, the
command holds its place, and the check takes a channel that is free. A command of another length, or without the memory clock,
is answered so and changes no register of the table engine. A REVERT in IDLE with a second flash copy starts its build (STATE 2,
SAVED 0, ERR 0); without one ERR is 6, outside IDLE 3. Nothing else changes. (03_compensation_and_concealment.md R79,
03_compensation_and_concealment.md R83, 03_compensation_and_concealment.md R85, 17_check_values.md R403) -/
def Obligations.TableActivation : Prop :=
  ∀ s : State, s.undef = false →
    (∀ r : Request, s.gate 0x20 r = .run → r.payload = [] → s.memClk = true → ∃ t, exec (.tableActivate r) s = .next t ∧
      s.Frame t [A.CMD_CNT_RX, A.CMD_CNT_REF, A.CMP_TBL_STAT] [.cmd, .flt, .cmp, .chk] ∧
      (s.tblState = 0 → tableSrcOk r.arg.toNat = true → t.tblState = 1 ∧ s.Held t 0x20 r ∧
        t.cmp = { s.cmp with checking := some (r.arg.toNat, some (r.src.toNat, r.tag.toNat)) } ∧
        (s.noChannel = false → s.chk.waits = [] → s.chk.chans.length = 6 → t.hasChannel .table = true)) ∧
      (s.tblState ≠ 0 → t.rd F.CMP_TBL_STAT.ERR = 3 ∧ t.cmp = s.cmp ∧ s.Answered t 0x20 r (.busy 0)) ∧
      (s.tblState = 0 → tableSrcOk r.arg.toNat = false →
        t.rd F.CMP_TBL_STAT.ERR = 2 ∧ t.cmp = s.cmp ∧ s.Answered t 0x20 r (.range 12))) ∧
    (∀ r : Request, s.gate 0x20 r = .run → r.payload ≠ [] → ∃ t, exec (.tableActivate r) s = .next t ∧
      s.Answered t 0x20 r (.range 10) ∧ s.Frame t [A.CMD_CNT_RX, A.CMD_CNT_REF] [.cmd, .flt]) ∧
    (∀ r : Request, s.gate 0x20 r = .run → r.payload = [] → s.memClk = false → ∃ t, exec (.tableActivate r) s = .next t ∧
      s.Answered t 0x20 r (.notReady 0xFFFF) ∧ s.Frame t [A.CMD_CNT_RX, A.CMD_CNT_REF] [.cmd, .flt]) ∧
    (∀ r : Request, s.gate 0x20 r = .denied → ∃ t, exec (.tableActivate r) s = .next t ∧ t.rd F.CMP_TBL_STAT.ERR = 0 ∧
      s.Answered t 0x20 r (.denied 1) ∧ s.Frame t [A.CMD_CNT_RX, A.CMD_CNT_REF, A.CMP_TBL_STAT] [.cmd, .flt]) ∧
    (s.lifecycle = 4 → ∃ t u, exec .cmpTblActivate s = .next t ∧ exec .tableRevert s = .next u ∧ t.rd F.CMP_TBL_STAT.ERR = 0 ∧
      s.Frame t [A.CMP_TBL_STAT] [] ∧ s.Frame u [] []) ∧
    (s.lifecycle ≠ 4 → s.tblState = 0 → tableSrcOk (s.rd F.CMP_TBL_SRC.ADDR) = true → ∃ t, exec .cmpTblActivate s = .next t ∧
      t.tblState = 1 ∧ t.cmp = { s.cmp with checking := some (s.rd F.CMP_TBL_SRC.ADDR, none) } ∧ s.Frame t [A.CMP_TBL_STAT] [.cmp, .chk]) ∧
    (s.lifecycle ≠ 4 → s.tblState = 0 → tableSrcOk (s.rd F.CMP_TBL_SRC.ADDR) = false → ∃ t, exec .cmpTblActivate s = .next t ∧
      t.rd F.CMP_TBL_STAT.ERR = 2 ∧ s.Frame t [A.CMP_TBL_STAT] []) ∧
    (s.lifecycle ≠ 4 → s.tblState ≠ 0 → ∃ t u, exec .cmpTblActivate s = .next t ∧ exec .tableRevert s = .next u ∧
      t.rd F.CMP_TBL_STAT.ERR = 3 ∧ u.rd F.CMP_TBL_STAT.ERR = 3 ∧ s.Frame t [A.CMP_TBL_STAT] [] ∧ s.Frame u [A.CMP_TBL_STAT] []) ∧
    (s.lifecycle ≠ 4 → s.tblState = 0 → ∃ t, exec .tableRevert s = .next t ∧ s.Frame t [A.CMP_TBL_STAT] [.cmp] ∧
      (∀ c, s.calCopy (1 - s.rd F.CMP_TBL_STAT.FLASH_CUR) = some c →
        t.tblState = 2 ∧ t.rd F.CMP_TBL_STAT.SAVED = 0 ∧ t.rd F.CMP_TBL_STAT.ERR = 0 ∧
        t.cmp = { s.cmp with next := c.table, kind := .revert }) ∧
      (s.calCopy (1 - s.rd F.CMP_TBL_STAT.FLASH_CUR) = none → t.rd F.CMP_TBL_STAT.ERR = 6 ∧ t.cmp = s.cmp))

/-- The end of a check without a command writes its result to ERR; a file that passes starts a build of its table (STATE 2,
SAVED 0), one that fails returns to IDLE with fault 0x50, from where an ageing rebuild that waits starts at once. A check that
has no channel of the engine waits; what it leaves in its channel is open (log entry 110). The end of a build in STATE 2 enters
the subpixels whose gain the table limits, writes its applied table into the inactive copy, rebuilds the statistics' bounds and
schedules the slide, unless it waits already. The end of the flash save in flight waits for a channel that is free, and then
turns FLASH_CUR to the other copy, unless that is one of the old format in the trial of a cold image, with a sequence number
above both: after an activation it holds the base table in use and its baselines, after a REVERT what it held. SAVED is 1 once a
save of a new table ends with no newer one on its way. Which copy a REVERT finds after an earlier activation's late save is the
model's choice (log entry 136). Nothing else changes but what reading and writing the DRAM touches.
(03_compensation_and_concealment.md R79, 03_compensation_and_concealment.md R80, 03_compensation_and_concealment.md R83,
17_check_values.md R403, 19_firmware_update.md R435) -/
def Obligations.TableEngine : Prop :=
  ∀ s : State, s.undef = false →
    (∀ a, s.cmp.checking = some (a, none) → s.hasChannel .table = false → ∃ t, exec .tableCheckDone s = .next t ∧ s.Frame t [] []) ∧
    (∀ a, s.cmp.checking = some (a, none) → s.hasChannel .table = true → ∃ t, exec .tableCheckDone s = .next t ∧
      t.rd F.CMP_TBL_STAT.ERR = s.checkTable a ∧ s.Frame t (A.CMP_TBL_STAT :: (dramRegs ++ channelRegs)) (.cmp :: .flt :: .chk :: dramParts) ∧
      (s.checkTable a = 0 → t.tblState = 2 ∧ t.rd F.CMP_TBL_STAT.SAVED = 0 ∧ t.flt = s.flt ∧
        t.cmp = { s.cmp with checking := none, next := s.readTable a, kind := .activation }) ∧
      (s.checkTable a ≠ 0 → t.flt.inbox = s.flt.inbox ++ [⟨0x50, 0, 0, 0, false, s.now⟩] ∧
        (s.cmp.rebuildDue = false → t.tblState = 0 ∧ t.cmp = { s.cmp with checking := none }) ∧
        (s.cmp.rebuildDue = true → t.tblState = 2 ∧
          t.cmp = { s.cmp with checking := none, rebuildDue := false, next := s.cmp.base, kind := .ageing }))) ∧
    (∀ u, s.tblState = 2 → s.scn.due.any (fun d => d.ev == .slide) = false → u = s.ageLimitEntries s.cmp.next s.cmp.rref →
      ∃ t, exec .tableBuildDone s = .next t ∧
      t.cmp = { u.cmp with applied := u.cmp.applied.set (1 - s.activeCopy) (u.buildTable s.cmp.next) } ∧
      t.gov = { s.gov with bounds := t.gov.bounds } ∧
      t.scn = { s.scn with due := s.scn.due ++ [⟨s.windowClosed, .slide⟩] } ∧
      s.Frame t (A.CMP_DEF_STAT :: dramRegs) ([.cmp, .scn, .mem, .gov, .flt] ++ dramParts) ∧
      (∀ a, inTables a = false → t.readByte a = s.readByte a)) ∧
    (s.inFlight .calibration = true → s.noChannel = true → ∃ t, exec .tableFlashSaved s = .next t ∧ s.Frame t [] []) ∧
    (s.inFlight .calibration = true → s.noChannel = false → ∃ t c, exec .tableFlashSaved s = .next t ∧
      t.rd F.CMP_TBL_STAT.FLASH_CUR = s.saveTo ∧ (s.coldTrial = false → s.saveTo = 1 - s.rd F.CMP_TBL_STAT.FLASH_CUR) ∧
      t.calCopy s.saveTo = some c ∧
      c.seq = max ((s.flash.calA.map (·.seq)).getD 0) ((s.flash.calB.map (·.seq)).getD 0) + 1 ∧
      (s.cmp.saveDue ≠ some .revert → c.table = s.cmp.base ∧ c.base = s.baselinesNow) ∧
      (∀ o, s.cmp.saveDue = some .revert → s.calCopy (1 - s.rd F.CMP_TBL_STAT.FLASH_CUR) = some o →
        c.table = o.table ∧ c.base = o.base) ∧
      t.calCopy (1 - s.saveTo) = s.calCopy (1 - s.saveTo) ∧
      t.rd F.CMP_TBL_STAT.SAVED = (if s.cmp.saveDue.isSome = true ∧ s.newTable = false then 1 else s.rd F.CMP_TBL_STAT.SAVED) ∧
      t.cmp = { s.cmp with saveDue := none } ∧ t.gov.flash = s.gov.flash.drop 1 ∧
      s.Frame t (A.CMP_TBL_STAT :: channelRegs) ([.flash, .cmp, .gov, .sys] ++ channelParts))

/-- An ageing tick after 60 s in ACTIVE or DARK takes the new r_ref and the targets 2^30 / r_ref, at most 0xFFFF, a quotient
that does not come out being cut off (log entry 86, the model's choice), and starts the next 60 s. A write-back that is due
after four hours, and a forced save, stand in the flash queue. The write-back in flight, when it is done and a check channel is
free, leaves the queue: one that failed its verification loses its region and raises fault 0x57; one that passed stores a record
with the next sequence number in its region, which CMP_STRESS_STAT.REGION names and which is the next in turn but for the newest
of the old format in the trial of a cold image, and no time is unsaved. A life-cycle transition that waited for the flash then
writes its record. Nothing else changes but the defect entries, the rebuild and the DRAM activations that the new record brings.
(03_compensation_and_concealment.md R90, 03_compensation_and_concealment.md R93, 17_check_values.md R403, 19_firmware_update.md
R435, 20_start_up.md R456) -/
def Obligations.AgeingAndStress : Prop :=
  ∀ s : State, s.undef = false →
    (∀ n, (s.advance n).awake = true → sec 60 ≤ (s.advance n).cmp.ageTicks → ∃ t, exec (.ageFactorTick n) s = .next t ∧
      (s.advance n).Frame t dramRegs (.cmp :: dramParts) ∧
      t.cmp = { (s.advance n).cmp with
        ageTicks := (s.advance n).cmp.ageTicks - sec 60, rref := s.rrefs s.cmp.base
        targets := (s.rrefs s.cmp.base).map (fun r => if r = 0 then 0xFFFF else min (2 ^ 30 / r) 0xFFFF) }) ∧
    (∀ n, (s.advance n).awake = true → sec 14400 ≤ (s.advance n).cmp.unsaved → ∃ t, exec (.stressWritebackDue n) s = .next t ∧
      t.gov.flash = (if s.gov.flash.contains .stress then s.gov.flash else s.gov.flash ++ [.stress]) ∧ (s.advance n).Frame t [] [.gov]) ∧
    (∃ t, exec .forceSave s = .next t ∧
      t.gov.flash = (if s.gov.flash.contains .stress then s.gov.flash else s.gov.flash ++ [.stress]) ∧ s.Frame t [] [.gov]) ∧
    (s.inFlight .stress = true → s.noChannel = true → ∃ t u, exec (.stressWritebackDone true) s = .next t ∧
      exec (.stressWritebackDone false) s = .next u ∧ s.Frame t [] [] ∧ s.Frame u [] []) ∧
    (s.coldTrial = false → s.nextRegion = (if (nth s.flash.stress (s.rd F.CMP_STRESS_STAT.REGION)).isSome
      then (s.rd F.CMP_STRESS_STAT.REGION + 1) % 3 else s.rd F.CMP_STRESS_STAT.REGION)) ∧
    (∀ next, s.inFlight .stress = true → s.noChannel = false → next = s.nextRegion →
      (∃ t, exec (.stressWritebackDone false) s = .next t ∧ t.flash = { s.flashDone.flash with stress := s.flash.stress.set next none } ∧
        t.gov.flash = s.gov.flash.drop 1 ∧ t.flt.inbox = s.flt.inbox ++ [⟨0x57, 2, 0, 0, false, s.now⟩] ∧
        s.Frame t (dramRegs ++ channelRegs) ([.flash, .gov, .flt, .chk, .sys] ++ dramParts)) ∧
      (∃ t, exec (.stressWritebackDone true) s = .next t ∧ t.rd F.CMP_STRESS_STAT.REGION = next % 4 ∧ t.cmp.unsaved = 0 ∧
        (∃ rec, t.flash = { s.flashDone.flash with stress := s.flash.stress.set next (some rec) } ∧
          rec.seq = ((nth s.flash.stress (s.rd F.CMP_STRESS_STAT.REGION)).map (fun r => r.seq + 1)).getD 1 ∧
          rec.defects = s.cmp.defects) ∧
        t.gov.flash = s.gov.flash.drop 1 ∧
        s.Frame t ([A.CMP_STRESS_STAT, A.CMP_DEF_STAT, A.CMP_TBL_STAT] ++ dramRegs ++ channelRegs)
          ([.flash, .gov, .flt, .cmp, .chk, .sys] ++ dramParts)) ∧
      (s.sys.lifeDue = none → s.flashDone.flash = s.flash))

/-- A DEFECT_EDIT whose operations all pass on the table that the edits before it make waits behind them and holds its place;
one whose operations do not pass is answered RANGE and changes no entry. When what waits is complete, the oldest edit applies to
the table as it then stands: CMP_DEF_STAT.COUNT shows the new length, each STUCK_ON entry it newly makes raises fault 0x53,
class 2, and the edit is answered with the length; one that has no room any more is answered RANGE and changes no entry. In each
case, and without any edit, the mirror in DRAM then holds the table, word by word, and the table waits for its applying frame. A
finished ladder build writes the inactive bank and waits once for its applying frame. A rewrite of a tail's ladder clears its
errors. Nothing else changes but the applied words of subpixels now concealed and what writing the DRAM touches.
(03_compensation_and_concealment.md R98, 03_compensation_and_concealment.md R99, 04_hybrid_encoding.md R119,
04_hybrid_encoding.md R121) -/
def Obligations.DefectsAndLadders : Prop :=
  ∀ s : State, s.undef = false →
    (∀ r : Request, s.gate 0x21 r = .run → r.payload.length % 8 = 0 → r.payload ≠ [] → r.payload.length ≤ 4096 →
      (∀ d, editTable r (editedBy s.cmp.edits s.cmp.defects) = .ok d → s.memClk = true → ∃ t, exec (.defectEdit r) s = .next t ∧
        t.cmp = { s.cmp with edits := s.cmp.edits ++ [r] } ∧ s.Held t 0x21 r ∧
        s.Frame t [A.CMD_CNT_RX, A.CMD_CNT_REF] [.cmd, .flt, .cmp]) ∧
      (∀ o, editTable r (editedBy s.cmp.edits s.cmp.defects) = .error o → ∃ t, exec (.defectEdit r) s = .next t ∧
        s.Answered t 0x21 r (.range o) ∧ s.Frame t [A.CMD_CNT_RX, A.CMD_CNT_REF] [.cmd, .flt])) ∧
    (∀ d, (s.cmp.edits = [] ∧ d = s.cmp.defects ∨
          ∃ r rest, s.cmp.edits = r :: rest ∧ (editTable r s.cmp.defects = .ok d ∨
            (∃ o, editTable r s.cmp.defects = .error o) ∧ d = s.cmp.defects)) →
      ∃ t, exec .defectEditComplete s = .next t ∧ t.cmp.defects = d ∧ t.cmp.edits = s.cmp.edits.drop 1 ∧
        t.cmp = { s.cmp with defects := d, edits := s.cmp.edits.drop 1, applied := t.cmp.applied } ∧
        t.scn = { s.scn with due := s.scn.due ++ [⟨s.windowClosed, .defects d⟩] } ∧
        (∀ i e, d[i]? = some e → i < 16384 → t.readLE (0x17000000 + 4 * i) 4 = e % 2 ^ 32) ∧
        (∀ a, a < 0x17000000 ∨ 0x17010000 ≤ a → inTables a = false → t.readByte a = s.readByte a) ∧
        (s.cmp.edits = [] → t.cmd = s.cmd ∧ t.flt = s.flt) ∧
        (∀ r rest, s.cmp.edits = r :: rest → editTable r s.cmp.defects = .ok d →
          t.rd F.CMP_DEF_STAT.COUNT = d.length % 2 ^ 15 ∧
          t.cmd = (s.complete r.src.toNat r.tag.toNat (.ok (leBytes 4 d.length))).cmd ∧
          ∀ e ∈ d, entryKind e = 2 → entryFor s.cmp.defects (entryKey e) = none →
            ⟨0x53, 2, 2 ^ (subQuad (entryK e)).val, 0, false, s.now⟩ ∈ t.flt.inbox) ∧
        (∀ r rest o, s.cmp.edits = r :: rest → editTable r s.cmp.defects = .error o →
          t.cmd = (s.complete r.src.toNat r.tag.toNat (.range o)).cmd ∧ t.flt = s.flt) ∧
        s.Frame t (A.CMP_DEF_STAT :: dramRegs) ([.scn, .mem, .cmp, .cmd, .flt] ++ dramParts)) ∧
    (∀ b, s.hyb.building = some b → s.scn.due.any (fun d => d.ev == .ladder) = false → ∃ t, exec .ladderBuildDone s = .next t ∧
      t.hyb = { s.hyb with building := some { b with curves := s.panelCurves } } ∧
      t.scn = { s.scn with due := s.scn.due ++ [⟨s.windowClosed, .ladder⟩] } ∧ s.Frame t [] [.scn, .hyb]) ∧
    (s.hyb.building = none ∨ s.scn.due.any (fun d => d.ev == .ladder) = true → ∃ t, exec .ladderBuildDone s = .next t ∧
      s.Frame t [] []) ∧
    (∀ q, ∃ t, exec (.ladderRewriteDone q) s = .next t ∧
      t.hyb = { s.hyb with eccBad := s.hyb.eccBad.set q.val false, eccWarn := s.hyb.eccWarn.set q.val false } ∧ s.Frame t [] [.hyb])

/-- A closing buffer with more missing pixels than MAX_HELD becomes FREE, and neither counts nor raises a fault (DESIGN CHOICE,
log entry 138). Otherwise it is filled and its statistics take the filled pixels in: with pixels missing FRAMES_FILLED counts
and fault 0x40 is raised, and without outside writes to come it is READY and the fill source, unless its decision instant has
passed (then FREE and LATE counts). PIX_HELD_PIXELS shows the missing pixels (more than 20 bits hold read as 0xF_FFFF: DESIGN
CHOICE, notes/assumptions/81.md). Outside writes clear the flag that waited for them. A buffer that becomes READY may start the
governor's evaluation. DRAM outside that buffer stays as it was, and so does everything else but what writing the DRAM touches.
(02_canvas_and_presentation.md R43, 02_canvas_and_presentation.md R54, 02_canvas_and_presentation.md R56,
02_canvas_and_presentation.md R57) -/
def Obligations.FrameFill : Prop :=
  ∀ (s : State) (n : Nat) (k : Fin 4), s.undef = false →
    ((s.buf k.val).st = .closing → (s.buf k.val).filled = false → ∃ t, exec (.frameFillDone k n) s = .next t ∧
      t.rd F.PIX_HELD_PIXELS.LAST = min 0xFFFFF (missingCount (s.buf k.val)) ∧
      (∀ a, a < bufBase k.val ∨ bufBase k.val + 0x800000 ≤ a → t.readByte a = s.readByte a) ∧
      (s.maxHeld < missingCount (s.buf k.val) →
        t.pix = { s.pix with bufs := s.pix.bufs.set k.val { s.buf k.val with st := .free } } ∧
        (s.advance n).Frame t [A.PIX_HELD_PIXELS] [.pix]) ∧
      (missingCount (s.buf k.val) ≤ s.maxHeld →
        (s.advance n).Frame t ([A.PIX_HELD_PIXELS, A.PIX_CNT_SEG, A.PIX_CNT_FRAME, A.GOV_STAT, A.GOV_FLAGS] ++ dramRegs)
          ([.pix, .mem, .flt, .gov] ++ dramParts) ∧
        t.flt.inbox = s.flt.inbox ++ (if missingCount (s.buf k.val) = 0 then [] else [⟨0x40, 1, 0, 0, false, (s.advance n).now⟩]) ∧
        t.rd F.PIX_CNT_SEG.FRAMES_FILLED = (if missingCount (s.buf k.val) = 0 then s.rd F.PIX_CNT_SEG.FRAMES_FILLED
          else min 0xFFFF (s.rd F.PIX_CNT_SEG.FRAMES_FILLED + 1)) ∧
        ((s.buf k.val).outside = true → t.gov = s.gov ∧
          t.pix = { s.pix with bufs := s.pix.bufs.set k.val { s.buf k.val with filled := true, bins := (t.buf k.val).bins } }) ∧
        ((s.buf k.val).outside = false → t.pix.fillSrc = some k.val ∧
          ((s.advance n).tooLate (s.buf k.val).pt = false → (t.buf k.val).st = .ready) ∧
          ((s.advance n).tooLate (s.buf k.val).pt = true → (t.buf k.val).st = .free ∧ t.gov = s.gov ∧
            t.rd F.PIX_CNT_FRAME.LATE = min 0xFF (s.rd F.PIX_CNT_FRAME.LATE + 1))))) ∧
    ((s.buf k.val).st ≠ .closing ∨ (s.buf k.val).filled = true → ∃ t, exec (.frameFillDone k n) s = .next t ∧
      (s.advance n).Frame t [] []) ∧
    ((s.buf k.val).outside = true → (s.buf k.val).st = .filling ∨ (s.buf k.val).st = .closing →
      ∃ t, exec (.outsideWritesDone k n) s = .next t ∧ (t.buf k.val).outside = false ∧
        (∀ a, a < bufBase k.val ∨ bufBase k.val + 0x800000 ≤ a → t.readByte a = s.readByte a) ∧
        ((s.buf k.val).st = .filling →
          t.pix = { s.pix with bufs := s.pix.bufs.set k.val { s.buf k.val with outside := false, bins := (t.buf k.val).bins } }) ∧
        (s.advance n).Frame t ([A.PIX_CNT_FRAME, A.GOV_STAT, A.GOV_FLAGS] ++ dramRegs) ([.pix, .mem, .gov] ++ dramParts))

/-- With the scan-out running, no decision open yet (or, in the fallback image, the fallback decided on) and its instant
reached: outside the fallback image the READY frame of earliest PT near the scheduled start is decided on; with none, after
MAX_FRAMES holds and in fallback mode 0 the fallback image is decided on, counted, and fault 0x42 raised, and otherwise one more
hold is decided on, counted, and fault 0x41 raised. In the fallback image the READY frame of earliest PT whose own decision
instant is reached is decided on, and with none the fallback image. Lines fetched ahead for another image count no longer;
nothing else changes. In every other state the command changes nothing. (02_canvas_and_presentation.md R54,
02_canvas_and_presentation.md R62) -/
def Obligations.ScanDecision : Prop :=
  ∀ (s : State) (n : Nat), s.undef = false →
    (s.mayDecide = true → (s.advance n).decisionDue = true → ∃ t, exec (.decisionInstant n) s = .next t ∧
      (∀ k, (s.advance n).firstReady (if s.pix.fallback then (s.advance n).followable else fun pt => near pt (s.advance n).scheduled)
          = some k → s.pix.decision ≠ .show k →
        t.pix = { s.pix with decision := .show k } ∧ t.scn = { s.scn with ahead := [0, 0, 0, 0], aheadBad := [] } ∧
        (s.advance n).Frame t [] [.pix, .scn]) ∧
      (s.pix.fallback = true → (s.advance n).firstReady (s.advance n).followable = none →
        t.pix = { s.pix with decision := .fallback } ∧ (s.advance n).Frame t [] [.pix]) ∧
      (s.pix.fallback = false → (s.advance n).firstReady (fun pt => near pt (s.advance n).scheduled) = none →
        (s.advance n).Frame t [A.PIX_CNT_FRAME] [.pix, .flt] ∧
        (inWords s.comingRegs F.PIX_FALLBACK.MODE = 0 ∧ s.maxHolds ≤ s.pix.holds →
          t.pix = { s.pix with decision := .fallback, feedLost := true } ∧
          t.rd F.PIX_CNT_FRAME.FALLBACK_ENTRIES = min 0xFF (s.rd F.PIX_CNT_FRAME.FALLBACK_ENTRIES + 1) ∧
          t.flt.inbox = s.flt.inbox ++ [⟨0x42, 2, 0, 0, false, (s.advance n).now⟩]) ∧
        (¬(inWords s.comingRegs F.PIX_FALLBACK.MODE = 0 ∧ s.maxHolds ≤ s.pix.holds) →
          t.pix = { s.pix with decision := .hold, holds := s.pix.holds + 1 } ∧
          t.rd F.PIX_CNT_FRAME.HELD = min 0xFF (s.rd F.PIX_CNT_FRAME.HELD + 1) ∧
          t.flt.inbox = s.flt.inbox ++ [⟨0x41, 1, 0, 0, false, (s.advance n).now⟩]))) ∧
    (s.mayDecide = false ∨ (s.advance n).decisionDue = false → ∃ t, exec (.decisionInstant n) s = .next t ∧ (s.advance n).Frame t [] [])

/-- A decision not made yet is made first. When the start it gives is due and no entry runs, the events of the coming frame take
effect and the late ones wait for the next, the lines fetched ahead are those of the frame, every quadrant waits for line 0 and
the next decision is open. A decided frame is SHOWING, the one shown before is FREE, its number stands in PIX_FRAME_NO.SHOWN,
LOCKED tells whether its PT lies within 1.0 us of the scheduled start, and the schedule moves to its PT; a hold keeps the
buffers and shows the frame once more at the scheduled start; so does the fallback image, which is entered without a hold. In an
entry to STANDBY or SLEEP the scan-out stops instead: every buffer is FREE, everything waiting takes effect, requests for
sensing end and no quadrant shows light. Before the start is due nothing of this happens. That LOCKED is judged so also in the
move out of the fallback image is the model's choice (log entry 89). The glass is the one the configuration names (R144).
Registers, DRAM and parts not named stay as they were. (02_canvas_and_presentation.md R51, 02_canvas_and_presentation.md R63,
05_quadrant_scan.md R140, 13_power_states.md R324) -/
def Obligations.ScanFrameStarts : Prop :=
  ∀ (s d : State) (n : Nat) (samples : List (List Nat)) (sat : Fin 16), s.undef = false → s.scn.running = true →
    (∀ q : Quad, nth s.scn.fits q.val = (true, s.rd (F.SCN_QCFG.SCAN_DIR q.val))) →
    d = (if s.pwr.trans ≠ .entry ∧ s.pix.decision = .none then (s.advance n).decideFrame else s.advance n) →
    (d.startDue = false → ∃ t, exec (.scanFrameStart n samples sat) s = .next t ∧ (s.advance n).Frame t [] []) ∧
    (d.startDue = true → s.pwr.trans ≠ .entry → ∃ t, exec (.scanFrameStart n samples sat) s = .next t ∧
      t.pix.decision = .none ∧ t.scn.line = [1023, 1023, 1023, 1023] ∧ t.scn.anyFrame = true ∧
      t.scn.fetched = d.scn.ahead ∧ t.scn.lineBad = d.scn.aheadBad ∧ t.scn.ahead = [0, 0, 0, 0] ∧
      t.scn.due = (s.scn.due.filter (·.late)).map (fun e => { e with late := false }) ∧ t.frameRegs = s.comingRegs ∧
      (∀ k, d.pix.decision = .show k → t.pix.fallback = false ∧ t.pix.holding = false ∧ t.pix.holds = 0 ∧ t.pix.shownFor = 0 ∧
        t.scn.start = (s.buf k).pt ∧ t.rd F.PIX_FRAME_NO.SHOWN = (s.buf k).no % 65536 ∧
        t.rd F.SCN_STAT.LOCKED = (if near (s.buf k).pt d.scheduled then 1 else 0) ∧
        (k < s.pix.bufs.length → (t.buf k).st = .showing) ∧ ∀ j, j ≠ k → (t.buf j).st ≠ .showing) ∧
      (d.pix.decision = .hold → t.pix.holding = true ∧ t.pix.bufs = s.pix.bufs ∧ t.pix.shownFor = d.shownOn ∧
        t.scn.start = d.scheduled) ∧
      (d.pix.decision = .fallback → t.pix.fallback = true ∧ t.pix.holding = false ∧ t.pix.bufs = s.pix.bufs ∧
        t.pix.shownFor = d.shownOn ∧ t.scn.start = d.scheduled) ∧
      (∀ a, inTables a = false → a < 0x0F000000 ∨ 0x0F006000 ≤ a → a < 0x16000000 ∨ 0x16600000 ≤ a → t.readByte a = s.readByte a) ∧
      (s.advance n).Frame t frameStartRegs
        ([.frameRegs, .mem, .pix, .cmp, .hyb, .scn, .sns, .gov, .pwr, .saf, .flt, .tun, .sys] ++ dramParts)) ∧
    (d.startDue = true → s.pwr.trans = .entry → ∃ t, exec (.scanFrameStart n samples sat) s = .next t ∧
      t.scn.running = false ∧ t.pwr.stopped = true ∧ t.scn.due = [] ∧ (∀ b ∈ t.pix.bufs, b.st = .free) ∧ t.sns.requests = [] ∧
      t.frameRegs = s.regsAfter (fun _ => true) ∧ t.AllDark ∧
      (s.advance n).Frame t (frameStartRegs ++ [A.SNS_REQ, A.SYS_PRAIL_STAT])
        ([.frameRegs, .mem, .pix, .cmp, .hyb, .scn, .sns, .gov, .pwr, .saf, .flt, .sys] ++ dramParts))

/-- The line that is next in a quadrant becomes its line; no other line does anything. At line 0 of the first quadrant the
governor has its ceilings ready or makes up for them; line 0 latches the quadrant's ceiling of GOV_CEIL and the tail's safety
cap for the frame. An active line whose own or next line is not in the line buffer writes no row: the glass keeps what it shows,
SCN_UNDERRUN counts it, names it and fault 0x5A is raised; one whose lines are there puts on the glass the codes its row encodes
to, with the make-up for sense slots, or after an uncorrectable ladder read keeps the row it shows. A frame that writes no rows,
and the blanking lines, leave the glass as it is. The other quadrants' lines and latched values, and every register and part but
those named, stay as they were. (05_quadrant_scan.md R128, 05_quadrant_scan.md R136, 03_compensation_and_concealment.md R73,
15_safety_functions.md R368) -/
def Obligations.ScanLines : Prop :=
  ∀ (s u v : State) (n : Nat) (q : Quad) (l : Fin 768) (inp : LineInput), s.undef = false →
    ((s.advance n).lineNext q l.val = false → ∃ t, exec (.scanLineStart n q l inp) s = .next t ∧ (s.advance n).Frame t [] []) ∧
    ((s.advance n).lineNext q l.val = true →
      u = (if l.val = 0 ∧ s.firstLine = true then (s.advance n).governFrame inp.governor else s.advance n) →
      v = (if l.val = 0 then u.latchLine q inp.capLost else u) →
      ∃ t, exec (.scanLineStart n q l inp) s = .next t ∧ t.scn.line = s.scn.line.set q.val l.val ∧
        (l.val ≠ 0 → t.scn.latched = s.scn.latched ∧ t.scn.latchedCap = s.scn.latchedCap) ∧
        (l.val = 0 → t.scn.latched = s.scn.latched.set q.val (u.rd (F.GOV_CEIL.CEIL q.val)) ∧
          t.scn.latchedCap = s.scn.latchedCap.set q.val (s.tailCap q)) ∧
        (l.val < 512 → s.writesRows q = true → s.linesReady q l.val = false →
          t.scn.glass = s.scn.glass ∧ t.rd (F.SCN_UNDERRUN.LAST_LINE q.val) = l.val ∧
          t.rd (F.SCN_UNDERRUN.COUNT q.val) = min 0xFFFF (s.rd (F.SCN_UNDERRUN.COUNT q.val) + 1) ∧
          t.scn.withheld = s.scn.withheld.set q.val true ∧ ⟨0x5A, 1, 2 ^ q.val, 0, false, (s.advance n).now⟩ ∈ t.flt.inbox) ∧
        (l.val < 512 → s.writesRows q = true → s.linesReady q l.val = true → inp.uncorr = 0 →
          t.shownRow q (s.rowOf q l.val) = v.makeUpRow q l.val (v.encodeRow q (s.rowOf q l.val)) ∧
          t.scn.withheld = s.scn.withheld.set q.val false) ∧
        (l.val < 512 → s.writesRows q = true → s.linesReady q l.val = true → 0 < inp.uncorr →
          t.shownRow q (s.rowOf q l.val) = s.shownRow q (s.rowOf q l.val) ∧
          ⟨0x59, 2, 2 ^ q.val, 0, false, (s.advance n).now⟩ ∈ t.flt.inbox) ∧
        (512 ≤ l.val ∨ s.writesRows q = false → t.scn.glass = s.scn.glass) ∧
        (s.advance n).Frame t (lineRegs q.val)
          ([.scn, .cmp, .gov, .hyb, .sns, .flt, .mem, .tun, .saf, .upd] ++ dramParts))

/-- EE_READ with all quadrant islands clocked and no read under way sets SCN_I2C.BUSY and takes a check channel that is free, or
waits for one, and changes nothing else; otherwise it does nothing. When a read that has its channel ends, BUSY clears, the
channel is free again (what the check leaves in it is open, log entry 110), and each quadrant shows whether its record is valid,
the first test it failed (1 where the EEPROM did not acknowledge) and its serial, a record that is not valid raising fault 0x5E;
four valid records of one TILE_ID give the glass identity, anything else identity zero. With no read under way, or no channel,
nothing changes. Sense requests that end with a quadrant's glass do what they do when they end; without any, no part but the
records, channels, faults and rails changes. (05_quadrant_scan.md R126, 05_quadrant_scan.md R127, 05_quadrant_scan.md R494,
17_check_values.md R403) -/
def Obligations.PanelRecords : Prop :=
  ∀ s : State, s.undef = false →
    (s.allQClk = true → s.on F.SCN_I2C.BUSY = false → ∃ t, exec .eeRead s = .next t ∧ t.rd F.SCN_I2C.BUSY = 1 ∧
      (s.noChannel = false → s.chk.waits = [] → s.chk.chans.length = 6 → t.hasChannel .eeprom = true) ∧ s.Frame t [A.SCN_I2C] [.chk]) ∧
    (s.allQClk = false ∨ s.on F.SCN_I2C.BUSY = true → ∃ t, exec .eeRead s = .next t ∧ s.Frame t [] []) ∧
    (∀ recs, s.on F.SCN_I2C.BUSY = false ∨ s.hasChannel .eeprom = false → ∃ t, exec (.eepromReadDone recs) s = .next t ∧ s.Frame t [] []) ∧
    (∀ recs : List (Option (List Byte)), s.on F.SCN_I2C.BUSY = true → s.hasChannel .eeprom = true → recs.length = 4 → s.scn.records.length = 4 →
      (∀ b, some b ∈ recs → b.length = 256) →
      ∃ t, exec (.eepromReadDone recs) s = .next t ∧ t.rd F.SCN_I2C.BUSY = 0 ∧
        (∀ q : Quad, nth recs q.val = none → t.glassValid q.val = false ∧ t.rd (F.SCN_EE_STAT.ERR q.val) = 1 ∧
          t.rd (F.SCN_EE_SERIAL_LO.SERIAL q.val) = 0 ∧ t.rd (F.SCN_EE_SERIAL_HI.SERIAL q.val) = 0 ∧
          ⟨0x5E, 3, 2 ^ q.val, 0, false, s.now⟩ ∈ t.flt.inbox) ∧
        (∀ (q : Quad) (b : List Byte), nth recs q.val = some b → t.rd (F.SCN_EE_STAT.ERR q.val) = recordErr q.val b ∧
          t.glassValid q.val = decide (recordErr q.val b = 0) ∧
          t.rd (F.SCN_EE_SERIAL_LO.SERIAL q.val) + 2 ^ 32 * t.rd (F.SCN_EE_SERIAL_HI.SERIAL q.val) = fieldLE b 16 8 ∧
          (recordErr q.val b ≠ 0 → ⟨0x5E, 3, 2 ^ q.val, 0, false, s.now⟩ ∈ t.flt.inbox)) ∧
        (∀ id, (∀ q : Quad, t.glassValid q.val = true ∧ (nth t.scn.records q.val).tileId = id) →
          t.rd F.SCN_GLASS_ID_LO.ID + 2 ^ 32 * t.rd F.SCN_GLASS_ID_HI.ID = id) ∧
        ((∃ q : Quad, t.glassValid q.val = false) → t.rd F.SCN_GLASS_ID_LO.ID = 0 ∧ t.rd F.SCN_GLASS_ID_HI.ID = 0) ∧
        (s.sns.requests = [] → s.Frame t (recordRegs ++ channelRegs) ([.scn, .flt, .sys] ++ channelParts)) ∧
        s.Frame t (recordRegs ++ channelRegs ++ requestRegs) ([.scn, .flt, .sys, .chk] ++ requestParts))

/-- A slot takes the next unit from its quadrant's plan. A unit given to tuning counts for the run; any other is measured: every
output was precharged to 0.3 V in a zero-current slot, otherwise to its last reading, its baseline or 2,500 mV, the 12-bit
conversions are corrected by their ADC's gain and offset, and the result is on its way. A unit of the regular sweep advances
SWEEP_POS; the last of them ends the sweep, shows its time in LAST and MAX and starts the next at unit 0. With sensing stopped,
or nothing planned, nothing changes. A sensing quadrant whose sweep has run 60 s is marked once and raises fault 0x61 in class
3. A comparison shows the shunt current in 0.01 mA and the residual; while both thresholds are reached fault 0x62 is raised and
the run of triggers grows, and otherwise the run ends and PERSIST frames without a trigger clear the block; a burst over the
bands in the order of the missing or excess current starts only on a trigger with none running and none blocked, and fault 0x63
blocks bursts after PERSIST triggers or more behind an unproductive one. Nothing else changes but what reading the DRAM touches;
without a comparison, nothing at all. (06_subpixel_sensing.md R146, 06_subpixel_sensing.md R147, 06_subpixel_sensing.md R148,
06_subpixel_sensing.md R151, 06_subpixel_sensing.md R152, 06_subpixel_sensing.md R153, 06_subpixel_sensing.md R163,
06_subpixel_sensing.md R164, 06_subpixel_sensing.md R165) -/
def Obligations.SenseSlotsAndSupply : Prop :=
  ∀ s : State, s.undef = false →
    (∀ (n : Nat) (q : Quad) (raw1 raw2 : List (BitVec 12)), s.sensing q = false ∨ (s.sq q.val).plan = [] →
      ∃ t, exec (.senseSlot n q raw1 raw2) s = .next t ∧ (s.advance n).Frame t [] []) ∧
    (∀ (n : Nat) (q : Quad) (raw1 raw2 : List (BitVec 12)) (slot : Slot) (rest : List Slot) (u : State), u = s.advance n →
      s.sensing q = true → (u.sq q.val).plan = slot :: rest →
      (slot.use = .tuning → ∃ t, exec (.senseSlot n q raw1 raw2) s = .next t ∧ u.Frame t [] [.sns, .tun] ∧
        t.sns = { u.sns with quads := u.sns.quads.set q.val { u.sq q.val with plan := rest } } ∧
        t.tun = { s.tun with run := s.tun.run.map (fun r => { r with slots := modAt r.slots q.val (· + 1) }) }) ∧
      (slot.use ≠ .tuning → ∃ t r, exec (.senseSlot n q raw1 raw2) s = .next t ∧ t.sns.inflight = s.sns.inflight ++ [r] ∧
        r.quad = q.val ∧ r.slot = slot ∧ r.age = 0 ∧
        (∀ g < 48, nth r.pre g = if slot.zero then 3000 else
          ((s.lastReading (s.measured q slot.line slot.mux g).1).or (s.baseline (s.measured q slot.line slot.mux g).1)).getD 25000) ∧
        (∀ g < 48, nth r.v1 g = corrected (s.adcCorrection q.val g) (nth raw1 g).toNat ∧
          nth r.v2 g = corrected (s.adcCorrection q.val g) (nth raw2 g).toNat) ∧
        u.Frame t ((if slot.use = .sweep then [A.SNS_QSTAT q.val, A.SNS_SWEEP] else []) ++ dramRegs) (.sns :: dramParts) ∧
        (slot.use ≠ .sweep → t.sns.quads = u.sns.quads.set q.val { u.sq q.val with plan := rest }) ∧
        (slot.use = .sweep → s.rd (F.SNS_QSTAT.SWEEP_POS q.val) + 1 < 16384 →
          t.sns.quads = u.sns.quads.set q.val { u.sq q.val with plan := rest } ∧ t.rd F.SNS_SWEEP.LAST = s.rd F.SNS_SWEEP.LAST ∧
          t.rd (F.SNS_QSTAT.SWEEP_POS q.val) = s.rd (F.SNS_QSTAT.SWEEP_POS q.val) + 1) ∧
        (slot.use = .sweep → 16384 ≤ s.rd (F.SNS_QSTAT.SWEEP_POS q.val) + 1 → q.val < s.sns.quads.length →
          t.rd (F.SNS_QSTAT.SWEEP_POS q.val) = 0 ∧ t.rd F.SNS_SWEEP.LAST = min 0xFFFF ((u.sq q.val).sweepRun / ms 10) ∧
          t.rd F.SNS_SWEEP.MAX = max (s.rd F.SNS_SWEEP.MAX) (min 0xFFFF ((u.sq q.val).sweepRun / ms 10)) ∧
          (t.sq q.val).sweepRun = 0 ∧ (t.sq q.val).sweepNext = 0 ∧ (t.sq q.val).overdue = false ∧ (t.sq q.val).plan = rest ∧
          (t.sq q.val).sweepTail = (t.sns.inflight.filter (fun x => x.quad == q.val && isSweep x.slot)).length))) ∧
    (∀ q : Quad, s.sensing q = true → (s.sq q.val).overdue = false → 15360000000000 ≤ s.sweepAge q → ∃ t, exec (.sweepDeadline q) s = .next t ∧
      t.sns = { s.sns with quads := s.sns.quads.set q.val { s.sq q.val with overdue := true } } ∧
      t.flt.inbox = s.flt.inbox ++ [⟨0x61, 3, 2 ^ q.val, 0, false, s.now⟩] ∧ s.Frame t [] [.sns, .flt]) ∧
    (∀ q : Quad, s.sensing q = false ∨ (s.sq q.val).overdue = true ∨ s.sweepAge q < 15360000000000 →
      ∃ t, exec (.sweepDeadline q) s = .next t ∧ s.Frame t [] []) ∧
    (∀ (q : Quad) (nV : Nat) (sat : Bool), s.on F.SNS_ISNS_CFG.EN = false ∨ s.scn.running = false →
      ∃ t, exec (.isnsCompareDone q nV sat) s = .next t ∧ s.Frame t [] []) ∧
    (∀ (q : Quad) (nV : Nat) (sat : Bool) (shunt persist k : Nat) (e : Int), s.on F.SNS_ISNS_CFG.EN = true → s.scn.running = true →
      shunt = max 1 (s.rd F.SNS_ISNS_SHUNT.SHUNT) → persist = max 1 (s.rd F.SNS_ISNS_CFG.PERSIST) →
      k = (512 + s.scn.prevBlank) * 10 ^ 4 * 65536 * 65536 → e = ((nV * k : Nat) : Int) - (s.ipredFrame q.val * shunt : Nat) →
      ∃ t, exec (.isnsCompareDone q nV sat) s = .next t ∧ s.Frame t [A.SNS_ISNS_Q q.val] [.sns, .flt] ∧
        t.rd (F.SNS_ISNS_Q.MEAS q.val) = (if sat then 0xFFFF else min 0xFFFF (nV / (10 * shunt))) ∧
        signed 16 (t.rd (F.SNS_ISNS_Q.RESID q.val)) = clampInt (-32768) 32767 (roundDivInt e (shunt * k)) ∧
        (¬(s.rd F.SNS_ISNS_CFG.ABS * shunt * k ≤ e.natAbs ∧ s.rd F.SNS_ISNS_CFG.REL * s.ipredFrame q.val * shunt ≤ 1000 * e.natAbs) →
          t.flt = s.flt ∧ t.sns = { s.sns with quads := s.sns.quads.set q.val { s.sq q.val with
            trigRun := 0, clearRun := (s.sq q.val).clearRun + 1
            blocked := (s.sq q.val).blocked && decide ((s.sq q.val).clearRun + 1 < persist)
            unproductive := (s.sq q.val).unproductive && decide ((s.sq q.val).clearRun + 1 < persist) } }) ∧
        (s.rd F.SNS_ISNS_CFG.ABS * shunt * k ≤ e.natAbs → s.rd F.SNS_ISNS_CFG.REL * s.ipredFrame q.val * shunt ≤ 1000 * e.natAbs →
          ∃ b r, t.sns = { s.sns with quads := s.sns.quads.set q.val { s.sq q.val with
              trigRun := (s.sq q.val).trigRun + 1, clearRun := 0, blocked := b, burst := r } } ∧
            r = (if (s.sq q.val).burst = none ∧ b = false then some ⟨s.burstBands q.val (decide (e < 0)), 0, false⟩ else (s.sq q.val).burst) ∧
            b = ((s.sq q.val).blocked || ((s.sq q.val).unproductive && decide (persist ≤ (s.sq q.val).trigRun + 1))) ∧
            t.flt.inbox = s.flt.inbox ++ [⟨0x62, 0, 2 ^ q.val, 0, false, s.now⟩] ++
              (if b && !(s.sq q.val).blocked then [⟨0x63, 2, 2 ^ q.val, 0, false, s.now⟩] else [])))

/-- The oldest measured unit leaves the queue; with none, nothing changes. Unless it is a zero-current confirmation, each ADC
that has not failed leaves its V2, at most 0xFFFE, in the result array at the subpixel it measured. A reading of a burst for
which a reference exists is classified by the tests in their order, and one other than NORMAL makes its subpixel a candidate
while the quadrant has room. A zero-current slot writes no result: where its STUCK_ON candidate still stands, STUCK_V0 or more
confirms it (counted, fault 0x60, and entered only with AUTO on), less drops and counts it (that it counts is the model's
choice, log entry 125), and the candidate is gone; where it stands no more, neither counts. Bytes of DRAM outside the result,
baseline and table arrays stay, and only the registers and parts named change: a result may be the last of a sweep, a burst or a
request, which end with it. (06_subpixel_sensing.md R145, 06_subpixel_sensing.md R148, 06_subpixel_sensing.md R156,
06_subpixel_sensing.md R157, 06_subpixel_sensing.md R158, 06_subpixel_sensing.md R159, 06_subpixel_sensing.md R160) -/
def Obligations.SenseReadings : Prop :=
  ∀ (s : State) (n : Nat), s.undef = false →
    (s.sns.inflight = [] → ∃ t, exec (.senseResult n) s = .next t ∧ (s.advance n).Frame t [] []) ∧
    (∀ (r : SlotResult) (rest : List SlotResult) (q : Quad), s.sns.inflight = r :: rest → q = quadOf r.quad →
      r.slot.line < 512 → r.slot.mux < 32 → (∀ e ∈ s.sns.baseNew, e.1 < 3145728) →
      ∃ t, exec (.senseResult n) s = .next t ∧ t.sns.inflight = rest ∧
        (s.advance n).Frame t ([A.SNS_CNT, A.CMP_DEF_STAT, A.SNS_QSTAT q.val] ++ (List.range 3).map (A.CMP_AGE q.val) ++ requestRegs)
          ([.cmp, .flt] ++ requestParts) ∧
        (∀ a, a < 0x0E000000 ∨ (0x0E600000 ≤ a ∧ a < 0x0E800000) ∨ (0x0EE00000 ≤ a ∧ inTables a = false) → t.readByte a = s.readByte a) ∧
        (r.slot.zero = false ∨ isConfirm r.slot = false → ∀ g, g < 48 → s.adcFailed q.val g = false →
          t.readLE (resultAddr (s.measured q r.slot.line r.slot.mux g).1) 2 = min 0xFFFE (nth r.v2 g)) ∧
        (r.slot.use = .burst → s.sns.requests = [] → q.val < s.sns.quads.length → ∀ (g k : Nat) (ref : Int), g < 48 →
          s.adcFailed q.val g = false → k = (s.measured q r.slot.line r.slot.mux g).1 → s.refOf k = some ref →
          Sparse.get (fun _ => 6) t.sns.kinds k = s.classify k (nth r.v1 g) (nth r.v2 g) (s.tempCorrected k (nth r.v2 g) (s.glassTemp q)) ref ∧
          (Sparse.get (fun _ => 6) t.sns.kinds k ≠ 6 → (s.sq q.val).cands.length ≤ 16 → ∃ c ∈ (t.sq q.val).cands, c.k = k)) ∧
        (∀ k was, r.slot.use = .confirm k was → r.slot.zero = true →
          (s.sns.requests = [] → ∀ a, 0x0E000000 ≤ a → a < 0x0E600000 → t.readByte a = s.readByte a) ∧
          (s.sns.requests = [] → s.stands k 2 = false → t.flt = (s.advance n).flt ∧ t.reg A.SNS_CNT = s.reg A.SNS_CNT ∧ t.cmp = (s.advance n).cmp) ∧
          (s.sns.requests = [] → s.stands k 2 = true → ∀ g, g < 48 → s.adcFailed q.val g = false →
            (s.measured q r.slot.line r.slot.mux g).1 = k →
            (∀ c ∈ (t.sq (subQuad k).val).cands, c.k ≠ k) ∧
            (s.rd F.SNS_THR_S.STUCK_V0 * 10 ≤ nth r.v2 g →
              t.rd F.SNS_CNT.CONFIRMED = min 0xFFFF (s.rd F.SNS_CNT.CONFIRMED + 1) ∧ t.rd F.SNS_CNT.DROPPED = s.rd F.SNS_CNT.DROPPED ∧
              ⟨0x60, 0, 2 ^ (subQuad k).val, 0, false, (s.advance n).now⟩ ∈ t.flt.inbox ∧
              (s.on F.CMP_DEF_CFG.AUTO = false → t.cmp = (s.advance n).cmp)) ∧
            (nth r.v2 g < s.rd F.SNS_THR_S.STUCK_V0 * 10 → t.rd F.SNS_CNT.CONFIRMED = s.rd F.SNS_CNT.CONFIRMED ∧
              t.rd F.SNS_CNT.DROPPED = min 0xFFFF (s.rd F.SNS_CNT.DROPPED + 1) ∧ t.flt = (s.advance n).flt ∧ t.cmp = (s.advance n).cmp))))

/-- An accepted SENSE_REQUEST is appended with the next sequence number, modulo 65,536, and answered with that number. Where no
waiting request ends with it the queue is what it was with the new one behind, and the new one holds the units of its rectangle,
or all of the quadrant. For a quadrant in which sensing is off it measures nothing: in an empty queue it completes at once and
SNS_REQ.DONE_SEQ is its number. BASELINE in FIELD is DENIED before anything else is tested; then a LEN other than 12 and the
first bad field are RANGE with their offset, and a 257th request is BUSY; each leaves the queue as it was. Nothing else changes.
(06_subpixel_sensing.md R166, 06_subpixel_sensing.md R167, 11_command_packets.md R284, 11_command_packets.md R290) -/
def Obligations.SenseRequests : Prop :=
  ∀ (s : State) (r : Request), s.undef = false → s.gate 0x48 r = .run →
    (pByte r 1 = 2 → s.lifecycle = 2 → ∃ t, exec (.senseRequest r) s = .next t ∧ s.Answered t 0x48 r (.denied 1) ∧
      s.Frame t [A.CMD_CNT_RX, A.CMD_CNT_REF] [.cmd, .flt]) ∧
    (¬(pByte r 1 = 2 ∧ s.lifecycle = 2) →
      (∀ d, (if r.payload.length ≠ 12 then some 10 else if 3 < pByte r 0 then some 16 else if 2 < pByte r 1 then some 17
          else if 1 < pByte r 2 then some 18 else if pByte r 3 ≠ 0 then some 19
          else if 511 < pHalf r 4 then some 20 else if 511 < pHalf r 6 then some 22
          else if 511 < pHalf r 8 ∨ pHalf r 8 < pHalf r 4 then some 24
          else if 511 < pHalf r 10 ∨ pHalf r 10 < pHalf r 6 then some 26 else none) = some d →
        ∃ t, exec (.senseRequest r) s = .next t ∧ s.Answered t 0x48 r (.range d) ∧ s.Frame t [A.CMD_CNT_RX, A.CMD_CNT_REF] [.cmd, .flt]) ∧
      (r.payload.length = 12 → pByte r 0 ≤ 3 → pByte r 1 ≤ 2 → pByte r 2 ≤ 1 → pByte r 3 = 0 → pHalf r 4 ≤ pHalf r 8 → pHalf r 8 ≤ 511 →
        pHalf r 6 ≤ pHalf r 10 → pHalf r 10 ≤ 511 →
        (256 ≤ s.sns.requests.length → ∃ t, exec (.senseRequest r) s = .next t ∧ s.Answered t 0x48 r (.busy 0) ∧
          s.Frame t [A.CMD_CNT_RX, A.CMD_CNT_REF] [.cmd, .flt]) ∧
        (s.sns.requests.length < 256 → ∃ t, exec (.senseRequest r) s = .next t ∧ t.sns.nextSeq = (s.sns.nextSeq + 1) % 65536 ∧
          s.Answered t 0x48 r (.ok (leBytes 4 s.sns.nextSeq)) ∧
          s.Frame t ([A.CMD_CNT_RX, A.CMD_CNT_REF] ++ requestRegs) ([.cmd, .flt] ++ requestParts) ∧
          (s.sensing (quadOf (pByte r 0)) = true → (∀ x ∈ s.sns.requests, s.sensing (quadOf x.quad) = true) →
            (s.sns.requests = [] ∧ (pByte r 1 = 0 → s.rectUnits (quadOf (pByte r 0)) (pHalf r 4) (pHalf r 6) (pHalf r 8) (pHalf r 10) ≠ []) ∨
              (∃ h tl, s.sns.requests = h :: tl ∧ h.dropped = false ∧ h.todo ≠ [])) →
            s.Frame t [A.CMD_CNT_RX, A.CMD_CNT_REF] [.cmd, .flt, .sns] ∧
            t.sns = { s.sns with
              nextSeq := (s.sns.nextSeq + 1) % 65536
              requests := s.sns.requests ++ [⟨s.sns.nextSeq, pByte r 0, pByte r 1, pHalf r 4, pHalf r 6, pHalf r 8, pHalf r 10,
                pByte r 2 == 1, if pByte r 1 = 0 then s.rectUnits (quadOf (pByte r 0)) (pHalf r 4) (pHalf r 6) (pHalf r 8) (pHalf r 10)
                  else allUnits, 0, false⟩] }) ∧
          (s.sns.requests = [] → s.sensing (quadOf (pByte r 0)) = false → t.sns.requests = [] ∧
            t.rd F.SNS_REQ.DONE_SEQ = s.sns.nextSeq % 65536 ∧
            s.Frame t [A.CMD_CNT_RX, A.CMD_CNT_REF, A.SNS_REQ] [.cmd, .flt, .sns]))))

/-- An evaluation of a frame that is READY, or shown with no quadrant's line 0 open yet, writes every quadrant's ceiling: the
least of its thermal, user, current and rise limits and of the budget's; no ceiling is above a limit. Where a budget acts,
either its ceiling is 0, and with it all four, or the power predicted with the ceilings is at most what the frame may draw; and
where power rises with the ceiling no larger one would do. The ceilings then stand for that frame, STALLED and LATE_LAST are 0,
a forced job runs, one without EN that is neither forced nor RETRAIN does not, FLASH stays as it is while a forced copy of the
fault log is due, and nothing but the governor's registers and state, the handover point, and in TRIAL and CONFIRMED the
checkpoint, changes. An evaluation whose ceilings come too late for its frame writes none. What the checkpoint holds is the
model's reading (log entry 112). While the governor does not run, or without an evaluation in progress, nothing changes.
(07_budget_governor.md R173, 07_budget_governor.md R177, 07_budget_governor.md R178, 07_budget_governor.md R180,
07_budget_governor.md R181, 07_budget_governor.md R184, 07_budget_governor.md R187, 16_fault_handling.md R391,
19_firmware_update.md R433) -/
def Obligations.GovernorEvaluation : Prop :=
  ∀ (s : State) (n : Nat), s.undef = false →
    ((s.advance n).governing = false ∨ s.gov.eval = none → ∃ t, exec (.govEvaluationDone n) s = .next t ∧ (s.advance n).Frame t [] []) ∧
    (∀ k, (s.advance n).governing = true → s.gov.eval = some k → (s.advance n).inTime k = false → ∃ t, exec (.govEvaluationDone n) s = .next t ∧
      (s.advance n).Frame t [A.GOV_FLAGS, A.GOV_STAT] [.gov] ∧ t.gov.written = s.gov.written ∧ (s.pix.decision ≠ .show k → t.gov.eval ≠ some k) ∧
      t.gov.missed = s.gov.missed ∧ t.gov.jobs = s.gov.jobs) ∧
    (∀ k, (s.advance n).governing = true → s.gov.eval = some k → (s.advance n).inTime k = true → ∃ t, exec (.govEvaluationDone n) s = .next t ∧
      (s.advance n).Frame t ([A.GOV_FLAGS, A.GOV_CNT, A.GOV_STAT] ++ [0, 1, 2, 3].flatMap (fun q => [A.GOV_CEIL q, A.GOV_IPRED q]))
        [.gov, .upd] ∧
      (s.rd F.UPD_STAT.STATE ≠ 5 → s.rd F.UPD_STAT.STATE ≠ 6 → t.upd = { s.upd with point := some (s.advance n).now }) ∧
      (s.rd F.UPD_STAT.STATE = 5 ∨ s.rd F.UPD_STAT.STATE = 6 → ∃ c,
        t.upd = { s.upd with point := some (s.advance n).now, checkpoint := some c } ∧ c.cmd = s.cmd ∧ c.tun = s.tun ∧
        c.copies = s.flt.copies ∧ c.copyFailed = s.flt.copyFailed ∧ c.gov.flash = s.gov.flash ∧ c.gov.jobs = t.gov.jobs ∧
        c.gov.missed = 0 ∧ c.gov.bounds = s.gov.bounds ∧
        ∀ a, firmwareHeld a = true → a ≠ A.GOV_FLAGS → a ≠ A.GOV_STAT → Sparse.get resetWord c.regs a = t.reg a) ∧
      t.gov.written = some k ∧ t.gov.missed = 0 ∧ t.on F.GOV_FLAGS.STALLED = false ∧ t.on F.GOV_FLAGS.LATE_LAST = false ∧
      (s.gov.jobs.length = 6 → ∀ j < 6, (j = jobFlash → s.forcedCopy = false) → ((s.job j).forced = true → (t.job j).running = true) ∧
        (j ≠ jobRetrain → (s.job j).forced = false → s.gv (F.GOV_JOB_CFG.EN j) = 0 → (t.job j).running = false)) ∧
      (s.forcedCopy = true → t.job jobFlash = s.job jobFlash) ∧
      (∀ (u : State) (mds : List QuadModel) (lim : Nat → Nat) (bud : Nat), u = s.advance n → mds = u.models (u.sceneOf k) →
        (∀ q, lim q = u.limOf mds q) → bud = u.budgetCeil mds ((List.range 4).map lim) →
        (∀ q : Quad, t.rd (F.GOV_CEIL.CEIL q.val) = min bud (lim q.val) ∧
          lim q.val = min (min (min (min 0xFFFF (s.ceilTherm q)) (s.gv F.GOV_LIMIT.USER)) (s.imaxCeil (nth mds q.val)))
            (min 0xFFFF (nth s.gov.prev q.val + max 1 (s.rd F.GOV_CFG.RISE)))) ∧
        (u.budgetActs = false → bud = 0xFFFF) ∧
        (∀ p, u.budgetActs = true → u.pallow = some p →
          (bud = 0 ∧ (∀ q : Quad, t.rd (F.GOV_CEIL.CEIL q.val) = 0) ∨
            u.pdev + u.pfix + u.ledPower mds u.marginF ((List.range 4).map (fun q => t.rd (F.GOV_CEIL.CEIL q))) ≤ p) ∧
          ((∀ a b, a ≤ b → u.pdev + u.pfix + u.ledPower mds u.marginF ((List.range 4).map (fun q => min b (lim q))) ≤ p →
              u.pdev + u.pfix + u.ledPower mds u.marginF ((List.range 4).map (fun q => min a (lim q))) ≤ p) →
            ∀ c ≤ 0xFFFF, u.pdev + u.pfix + u.ledPower mds u.marginF ((List.range 4).map (fun q => min c (lim q))) ≤ p → c ≤ bud))))

/-- After four frames without a ceiling STALLED is set and fault 0x71 raised, once. An evaluation at line 0 of a frame without
ceilings, by a governor that runs (the model's reading, log entries 21 and 22), clears STALLED and the count of missed frames. A
job that waits at its forcing time (FLASH 30 min, TUNE 10 min and EYE 10 s after it fell due, SCRUB 24 h after the last pass)
and is not forced yet is forced: counted in GOV_JOB_STAT with fault 0x73; before that time, when forced already, and for RETRAIN
and SENSE nothing changes. A job told to pause is paused and pending at its pause point, where a life-cycle transition that
waited for the flash write in flight writes its record. A completed pass ends the SCRUB job and its 24 hours start anew. Nothing
else changes. (07_budget_governor.md R182, 07_budget_governor.md R183, 07_budget_governor.md R184, 20_start_up.md R456) -/
def Obligations.JobsAndStall : Prop :=
  ∀ s : State, s.undef = false →
    (∀ (n : Nat) (q : Quad) (inp : LineInput), (s.advance n).lineNext q 0 = true → s.firstLine = true → inp.governor = true →
      (s.advance n).governing = true → s.ceilingsStand = false →
      ∃ t, exec (.scanLineStart n q 0 inp) s = .next t ∧ t.gov.missed = 0 ∧ t.rd F.GOV_FLAGS.STALLED = 0) ∧
    (4 ≤ s.gov.missed → s.on F.GOV_FLAGS.STALLED = false → ∃ t, exec .govStall s = .next t ∧ t.on F.GOV_FLAGS.STALLED = true ∧
      t.flt.inbox = s.flt.inbox ++ [⟨0x71, 2, 0, 0, false, s.now⟩] ∧ s.Frame t [A.GOV_FLAGS] [.flt]) ∧
    (s.gov.missed < 4 ∨ s.on F.GOV_FLAGS.STALLED = true → ∃ t, exec .govStall s = .next t ∧ s.Frame t [] []) ∧
    (∀ (n : Nat) (j : Fin 6), j.val = jobRetrain ∨ j.val = jobSense → ∃ t, exec (.jobForceTimeout n j) s = .next t ∧
      (s.advance n).Frame t [] []) ∧
    (∀ (n : Nat) (j : Fin 6) (d : Nat),
      (j.val = jobFlash ∧ d = (s.job 1).dueAt + 460800000000000) ∨ (j.val = jobTune ∧ d = (s.job 2).dueAt + 153600000000000) ∨
        (j.val = jobScrub ∧ d = s.gov.scrubAt + 22118400000000000) ∨ (j.val = jobEye ∧ d = (s.job 5).dueAt + 2560000000000) →
      (d ≤ (s.advance n).now → (s.job j.val).forced = false →
        ((s.job j.val).pending || (s.job j.val).running || (s.job j.val).paused || (s.job j.val).pausing) = true ∨ j.val = jobScrub →
        ∃ t, exec (.jobForceTimeout n j) s = .next t ∧ (s.advance n).Frame t [A.GOV_JOB_STAT j.val] [.gov, .flt] ∧
          t.gov = { s.gov with jobs := s.gov.jobs.set j.val { s.job j.val with forced := true } } ∧
          t.rd (F.GOV_JOB_STAT.FORCED j.val) = min 0xFFFF (s.rd (F.GOV_JOB_STAT.FORCED j.val) + 1) ∧
          t.flt.inbox = s.flt.inbox ++ [⟨0x73, 0, 0, 0, false, (s.advance n).now⟩]) ∧
      ((s.advance n).now < d ∨ (s.job j.val).forced = true ∨
          (j.val ≠ jobScrub ∧ ((s.job j.val).pending || (s.job j.val).running || (s.job j.val).paused || (s.job j.val).pausing) = false) →
        ∃ t, exec (.jobForceTimeout n j) s = .next t ∧ (s.advance n).Frame t [] [])) ∧
    (∀ j : Fin 6, ((s.job j.val).pausing = true → ∃ t, exec (.jobPausePoint j) s = .next t ∧
        s.Frame t [] (if j.val = jobFlash then [.gov, .flash, .sys] else [.gov]) ∧ (s.sys.lifeDue = none → t.flash = s.flash) ∧
        (∀ l r, j.val = jobFlash → s.sys.lifeDue = some (l, r) → t.sys.lifeDue = none ∧
          t.flash = s.flash.setLife { state := l, pending := true, source := s.lifecycle, revoke := r }) ∧
        t.gov = { s.gov with jobs := s.gov.jobs.set j.val { s.job j.val with pausing := false, paused := true, pending := true } }) ∧
      ((s.job j.val).pausing = false → ∃ t, exec (.jobPausePoint j) s = .next t ∧ s.Frame t [] [])) ∧
    (∀ n, ((s.job jobScrub).running = true → ∃ t, exec (.scrubPassDone n) s = .next t ∧ (s.advance n).Frame t [] [.gov] ∧
        t.gov = { s.gov with scrubAt := (s.advance n).now, jobs := s.gov.jobs.set jobScrub {} }) ∧
      ((s.job jobScrub).running = false → ∃ t, exec (.scrubPassDone n) s = .next t ∧ (s.advance n).Frame t [] []))

/-- A refresh due while ports are busy, or a real-time request of an urgent quadrant waits, is postponed up to eight intervals;
otherwise it runs, closes the bank's row, takes an RFMpb owed to the bank with it and nothing is owed, or eight still are at the
limit; in self-refresh nothing is due. The oldest neighbour refresh of a bank without outstanding requests, unless a real-time
request of an urgent quadrant waits, or the oldest of a full queue, runs: it leaves the queue, counts, and opens the rows at
distance 1, and 2 with DIST2, inside the bank; otherwise none runs. MR4 and the oscillators keep what was read, and a rank that
asks for refresh management is owed an RFMpb in each bank, which goes out with the bank's next refresh (the model's reading, log
entry 83). A rank that has had no request for TIMER memory clocks (0 acts as 16) and has none outstanding enters power-down with
PD_EN in ACTIVE or DARK while the memory island is clocked; otherwise it does not. More than 16 corrected reads in a second
raise fault 0x78. Nothing else changes. (08_frame_memory.md R189, 08_frame_memory.md R197, 08_frame_memory.md R199,
08_frame_memory.md R200, 08_frame_memory.md R202, 08_frame_memory.md R204, 08_frame_memory.md R206) -/
def Obligations.DramUpkeep : Prop :=
  ∀ s : State, s.undef = false →
    (∀ (b : Fin 32) (busy : Bool), s.fmc.selfRefresh = false → ∃ t, exec (.dramRefreshDue b busy) s = .next t ∧ s.Frame t [] [.fmc] ∧
      t.fmc = (if (busy || s.realTimeFirst) = true ∧ s.fmc.postponed.getD b.val 0 < 8
        then { s.fmc with postponed := s.fmc.postponed.set b.val (s.fmc.postponed.getD b.val 0 + 1) }
        else { s.fmc with postponed := s.fmc.postponed.set b.val (if busy || s.realTimeFirst then 8 else 0), openRow := s.fmc.openRow.set b.val none,
                          rfm := s.fmc.rfm.set b.val false })) ∧
    (∀ (b : Fin 32) (busy : Bool), s.fmc.selfRefresh = true → ∃ t, exec (.dramRefreshDue b busy) s = .next t ∧ s.Frame t [] []) ∧
    (∀ (b : Fin 32) (e : Nat × Nat),
      (16 ≤ s.fmc.pnr.length ∧ s.fmc.pnr.head? = some e) ∨
        (s.fmc.pnr.length < 16 ∧ s.fmc.pnr.find? (fun x => x.1 == b.val) = some e ∧
          (∀ r ∈ s.fmc.queue, (dramPlace s.dramOrder (r.addr % 2 ^ 31)).1 ≠ b.val) ∧
          ((∀ q : Quad, s.urgent q = false) ∨ ∀ r ∈ s.fmc.queue, portLine r.port = none)) →
      ∃ t, exec (.neighbourRefreshRun b) s = .next t ∧ s.Frame t [A.FMC_CNT_PNR] [.fmc] ∧
        t.rd F.FMC_CNT_PNR.RUNS = min (2 ^ F.FMC_CNT_PNR.RUNS.len - 1) (s.rd F.FMC_CNT_PNR.RUNS + 1) ∧
        (∃ rows, t.fmc = { s.fmc with pnr := s.fmc.pnr.erase e, pnrRows := rows, openRow := s.fmc.openRow.set e.1 none } ∧
          ∀ x, e.2 < 16384 → (x ∈ rows ↔ x < 16384 ∧ (x + 1 = e.2 ∨ x = e.2 + 1 ∨
            (s.on F.FMC_PNR.DIST2 = true ∧ (x + 2 = e.2 ∨ x = e.2 + 2)))))) ∧
    (∀ b : Fin 32, s.fmc.pnr.length < 16 → s.fmc.pnr.find? (fun x => x.1 == b.val) = none ∨
        (∃ r ∈ s.fmc.queue, (dramPlace s.dramOrder (r.addr % 2 ^ 31)).1 = b.val) ∨
        ((∃ q : Quad, s.urgent q = true) ∧ ∃ r ∈ s.fmc.queue, portLine r.port ≠ none) →
      ∃ t, exec (.neighbourRefreshRun b) s = .next t ∧ s.Frame t [] []) ∧
    (∀ r0 r1 : Mr4, ∃ t, exec (.mr4Poll r0 r1) s = .next t ∧ s.Frame t [] [.fmc] ∧
      (∃ owed, t.fmc = { s.fmc with mr4 := [r0.rate.val, r1.rate.val], rfm := owed }) ∧
      ∀ b < 32, nth t.fmc.rfm b = (nth s.fmc.rfm b || if b < 16 then r0.rfm else r1.rfm)) ∧
    (∀ o0 o1 : Fin 65536, ∃ t, exec (.wckOscRead o0 o1) s = .next t ∧ s.Frame t [] [.fmc] ∧
      t.fmc = { s.fmc with osc := [o0.val, o1.val] }) ∧
    (∀ (n : Nat) (k : Fin 2) (timer : Nat) (idle : Prop), timer = s.rd F.FMC_PD.TIMER →
      (idle ↔ nth s.fmc.lastReq k.val + 320 * (if timer = 0 then 16 else timer) ≤ (s.advance n).now ∧
        ∀ r ∈ s.fmc.queue, (dramPlace s.dramOrder (r.addr % 2 ^ 31)).1 / 16 ≠ k.val) →
      ∃ t, exec (.rankPowerDown ⟨n, k⟩) s = .next t ∧ (s.advance n).Frame t [A.FMC_PD] [] ∧
        (s.on F.FMC_PD.PD_EN = true → s.memClk = true → s.awake = true → idle → bitsAt (t.rd F.FMC_PD.IN_PD) k.val 1 = 1 ∧
          bitsAt (t.rd F.FMC_PD.IN_PD) (1 - k.val) 1 = bitsAt (s.rd F.FMC_PD.IN_PD) (1 - k.val) 1) ∧
        (s.on F.FMC_PD.PD_EN = false ∨ s.memClk = false ∨ s.awake = false ∨ ¬idle → (s.advance n).Frame t [] [])) ∧
    (∃ t, exec .corrRateCheck s = .next t ∧ t.fmc = { s.fmc with corrNow := 0, corrOver := decide (16 < s.fmc.corrNow) } ∧ s.Frame t [] [.fmc, .flt] ∧
      t.flt.inbox = s.flt.inbox ++ (if 16 < s.fmc.corrNow then [⟨0x78, 1, 0, 0, false, s.now⟩] else []))

/-- A retraining falls due when the memory temperature has moved by DELTA_T or INTERVAL hours have passed since the last one, or
after a failed one 60 s later. When due, or requested, with none running and the job idle, it makes the RETRAIN job pending and
forced with fault 0x73; a job that waits or runs already stays as it is, and a request while a retraining runs is held. A step
sets BUSY and counts only while the job runs, no quadrant is urgent and every buffer holds more lines than its watermark. At the
end the job is over and BUSY clears. A pass clears FAILED, takes LAST_T and the instant; a failure sets FAILED, raises fault
0x7A, and the next falls due after 60 s. A held request asks anew. Nothing else changes; an end that no job awaits changes
nothing. (08_frame_memory.md R202, 08_frame_memory.md R203, 07_budget_governor.md R183) -/
def Obligations.Retraining : Prop :=
  ∀ s : State, s.undef = false →
    (∀ (n : Nat) (need : Prop), (need ↔ (∃ r, s.fmc.retryAt = some r ∧ r ≤ (s.advance n).now) ∨
        (s.fmc.retryAt = none ∧ (10 * max 1 (s.rd F.FMC_TRAIN.DELTA_T) ≤ (s.memoryTemp - signed 16 (s.rd F.FMC_TRAIN_STAT.LAST_T)).natAbs ∨
          921600000000000 * max 1 (s.rd F.FMC_TRAIN.INTERVAL) ≤ (s.advance n).now - s.fmc.trainAt))) →
      (∀ d, need → s.on F.FMC_TRAIN_STAT.BUSY = false → s.job jobRetrain = { dueAt := d } → s.gov.jobs.length = 6 →
        ∃ t, exec (.retrainDue n) s = .next t ∧ (s.advance n).Frame t [A.GOV_JOB_STAT 0] [.gov, .flt] ∧
          t.gov = { s.gov with jobs := s.gov.jobs.set jobRetrain { pending := true, forced := true, dueAt := (s.advance n).now } } ∧
          t.flt.inbox = s.flt.inbox ++ [⟨0x73, 0, 0, 0, false, (s.advance n).now⟩]) ∧
      (¬need ∨ s.on F.FMC_TRAIN_STAT.BUSY = true ∨ (s.job jobRetrain).pending = true ∨ (s.job jobRetrain).running = true →
        ∃ t, exec (.retrainDue n) s = .next t ∧ (s.advance n).Frame t [] [])) ∧
    (s.on F.FMC_TRAIN_STAT.BUSY = true → ∃ t, exec .fmcTrainReq s = .next t ∧ s.Frame t [] [.fmc] ∧
      t.fmc = { s.fmc with reqHeld := true }) ∧
    (∀ d, s.on F.FMC_TRAIN_STAT.BUSY = false → s.job jobRetrain = { dueAt := d } → s.gov.jobs.length = 6 →
      ∃ t, exec .fmcTrainReq s = .next t ∧ s.Frame t [A.GOV_JOB_STAT 0] [.gov, .flt] ∧
        t.gov = { s.gov with jobs := s.gov.jobs.set jobRetrain { pending := true, forced := true, dueAt := s.now } } ∧
        t.flt.inbox = s.flt.inbox ++ [⟨0x73, 0, 0, 0, false, s.now⟩]) ∧
    (s.on F.FMC_TRAIN_STAT.BUSY = false → (s.job jobRetrain).pending = true ∨ (s.job jobRetrain).running = true →
      ∃ t, exec .fmcTrainReq s = .next t ∧ s.Frame t [] []) ∧
    ((s.job jobRetrain).running = true → (∀ q : Quad, s.urgent q = false ∧ s.watermark q < s.bufLevel q) →
      ∃ t, exec .retrainStep s = .next t ∧
      t.on F.FMC_TRAIN_STAT.BUSY = true ∧ t.fmc = { s.fmc with steps := s.fmc.steps + 1 } ∧ s.Frame t [A.FMC_TRAIN_STAT] [.fmc]) ∧
    ((s.job jobRetrain).running = false ∨ (∃ q : Quad, s.urgent q = true ∨ s.bufLevel q ≤ s.watermark q) →
      ∃ t, exec .retrainStep s = .next t ∧ s.Frame t [] []) ∧
    (∀ n ok, (s.job jobRetrain).running = false → ∃ t, exec (.retrainDone n ok) s = .next t ∧ s.Frame t [] []) ∧
    (∀ n, (s.job jobRetrain).running = true → s.gov.jobs.length = 6 →
      (∃ t, exec (.retrainDone n true) s = .next t ∧ t.on F.FMC_TRAIN_STAT.BUSY = false ∧ t.on F.FMC_TRAIN_STAT.FAILED = false ∧
        signed 16 (t.rd F.FMC_TRAIN_STAT.LAST_T) = s.memoryTemp ∧
        t.fmc = { s.fmc with trainAt := (s.advance n).now, retryAt := none, steps := 0, reqHeld := false } ∧
        (s.advance n).Frame t [A.FMC_TRAIN_STAT, A.GOV_JOB_STAT 0] [.gov, .fmc, .flt] ∧
        t.gov = { s.gov with jobs := (s.gov.jobs.set jobRetrain
          (if s.fmc.reqHeld then { pending := true, forced := true, dueAt := (s.advance n).now } else {})) } ∧
        t.flt.inbox = s.flt.inbox ++ (if s.fmc.reqHeld then [⟨0x73, 0, 0, 0, false, (s.advance n).now⟩] else [])) ∧
      (∃ t, exec (.retrainDone n false) s = .next t ∧ t.on F.FMC_TRAIN_STAT.BUSY = false ∧ t.on F.FMC_TRAIN_STAT.FAILED = true ∧
        t.rd F.FMC_TRAIN_STAT.LAST_T = s.rd F.FMC_TRAIN_STAT.LAST_T ∧ ⟨0x7A, 2, 0, 0, false, (s.advance n).now⟩ ∈ t.flt.inbox ∧
        t.fmc = { s.fmc with retryAt := some ((s.advance n).now + 15360000000000), steps := 0, reqHeld := false } ∧
        (s.advance n).Frame t [A.FMC_TRAIN_STAT, A.GOV_JOB_STAT 0] [.gov, .fmc, .flt] ∧
        t.gov = { s.gov with jobs := (s.gov.jobs.set jobRetrain
          (if s.fmc.reqHeld then { pending := true, forced := true, dueAt := (s.advance n).now } else {})) }))

/-- Requests take the 16 real-time and 48 other places, of which none is ever exceeded. Of those to one burst the oldest is
served first, and while a quadrant is urgent a SCAN or COMP request that may be served goes before every other; the oldest entry
of a full queue of neighbour refreshes runs before either. Without the memory island's clock requests arrive and none is served.
A read that returns alone brings its rank out of power-down and opens its row. One that fails is retried once. A corrected one
counts in CORR; one that failed again counts in UNCORR, leaves its address in FMC_ERR_ADDR and raises fault 0x79; a failed read
of a scan line marks that line bad, the last read of a line makes the fetch reach it, of the present frame or in the fetch lead
of the coming one, and the buffer level and urgency follow. MEM_READ of a span inside one region, with the memory island
clocked, answers the bytes that stand there (what firmware keeps in its own memory is open, log entry 42), or CHECK_FAIL 2 when
one of its bursts failed (which one does is an operand, log entry 41; that a command's bursts pass the arbiter at the command,
entry 132), whose address FMC_ERR_ADDR keeps, and RANGE or NOT_READY otherwise. No byte of DRAM changes, and nothing else but
the counters, urgency and open rows. (05_quadrant_scan.md R135, 08_frame_memory.md R190, 08_frame_memory.md R195,
08_frame_memory.md R196, 08_frame_memory.md R197, 08_frame_memory.md R200, 08_frame_memory.md R204, 08_frame_memory.md R206) -/
def Obligations.DramReads : Prop :=
  ∀ s : State, s.undef = false →
    (∀ (n : Nat) (arrive : List MemReq) (first again : ReadResult), s.memClk = false →
      ∃ t, exec (.dramReadReturn n arrive first again) s = .next t ∧ t.fmc = ((s.advance n).enqueue arrive).fmc ∧
        (s.advance n).Frame t [] [.fmc]) ∧
    (∀ e rest, s.fmc.pnr = e :: rest → 16 ≤ s.fmc.pnr.length →
      s.neighbourFirst.fmc.pnr = rest ∧ s.neighbourFirst.fmc.openRow = s.fmc.openRow.set e.1 none ∧
      s.neighbourFirst.fmc.queue = s.fmc.queue ∧
      s.neighbourFirst.rd F.FMC_CNT_PNR.RUNS = min (2 ^ F.FMC_CNT_PNR.RUNS.len - 1) (s.rd F.FMC_CNT_PNR.RUNS + 1)) ∧
    (∀ (n : Nat) (arrive : List MemReq) (first again res : ReadResult) (v : State), s.memClk = true → v = (s.advance n).enqueue arrive →
      res = (if first = .failed then again else first) →
      ∃ t, exec (.dramReadReturn n arrive first again) s = .next t ∧
        (s.advance n).Frame t ([A.FMC_CNT_ERR, A.FMC_ERR_ADDR, A.FMC_URG] ++ dramRegs ++ [0, 1, 2, 3].map A.SCN_LBUF)
          ([.flt, .scn] ++ dramParts) ∧
        (s.fmc.queue.countP realTime ≤ 16 → s.fmc.queue.countP (fun r => !realTime r) ≤ 48 →
          t.fmc.queue.countP realTime ≤ 16 ∧ t.fmc.queue.countP (fun r => !realTime r) ≤ 48) ∧
        (∀ u, State.serveReads v.fmc.queue.length v = (none, u) →
          (s.advance n).Frame t dramRegs dramParts ∧ (v.fmc.held = [] → ∀ r ∈ v.fmc.queue, r.write = true)) ∧
        (∀ r u, State.serveReads v.fmc.queue.length v = (some r, u) → r.write = false ∧
          ((∀ x ∈ v.fmc.queue, x.write = false) → ∃ a b, v.fmc.queue = a ++ r :: b ∧ ∀ x ∈ a, reqBurst x ≠ reqBurst r) ∧
          ((∀ x ∈ v.fmc.queue, realTime x = true → x.write = false) → s.anyUrgent = true →
            (∃ x ∈ servable v.fmc.queue [], realTime x = true) → realTime r = true) ∧
          (res = .good → t.rd F.FMC_CNT_ERR.CORR = s.rd F.FMC_CNT_ERR.CORR ∧ t.rd F.FMC_CNT_ERR.UNCORR = s.rd F.FMC_CNT_ERR.UNCORR ∧
            t.flt = (s.advance n).flt) ∧
          (res = .corrected → t.rd F.FMC_CNT_ERR.CORR = min 0xFFFF (s.rd F.FMC_CNT_ERR.CORR + 1) ∧ t.fmc.corrNow = s.fmc.corrNow + 1 ∧
            t.flt = (s.advance n).flt) ∧
          (res = .failed → t.rd F.FMC_CNT_ERR.UNCORR = min 0xFFFF (s.rd F.FMC_CNT_ERR.UNCORR + 1) ∧
            t.rd F.FMC_ERR_ADDR.ADDR = r.addr % 2 ^ 31 / 64 * 64 ∧
            t.flt.inbox = s.flt.inbox ++ [⟨0x79, 2, 0, r.addr % 2 ^ 31 / 64 * 64 % 2 ^ 24, false, (s.advance n).now⟩]) ∧
          (portLine r.port = none → t.scn = s.scn) ∧
          (∀ q l last, portLine r.port = some (q, l, last) →
            t.rd (F.SCN_LBUF.LEVEL q.val) = t.bufLevel q ∧
            ((s.advance n).fetchLead = false → t.scn = { s.scn with
              lineBad := s.scn.lineBad ++ (if res = .failed then [q.val * 512 + l % 512] else [])
              fetched := if last then s.scn.fetched.set q.val (max (s.scn.fetched.getD q.val 0) (l % 512 + 1)) else s.scn.fetched }) ∧
            ((s.advance n).fetchLead = true → t.scn = { s.scn with
              aheadBad := s.scn.aheadBad ++ (if res = .failed then [q.val * 512 + l % 512] else [])
              ahead := if last then s.scn.ahead.set q.val (max (s.scn.ahead.getD q.val 0) (l % 512 + 1)) else s.scn.ahead })))) ∧
    (∀ (n : Nat) (r : MemReq) (first again : ReadResult), s.memClk = true → s.fmc.queue = [] → s.fmc.held = [] → r.write = false → s.fmc.openRow.length = 32 →
      s.fmc.pnr.length < 16 → ∃ t, exec (.dramReadReturn n [r] first again) s = .next t ∧ t.fmc.queue = [] ∧
        nth t.fmc.openRow (dramPlace s.dramOrder (r.addr % 2 ^ 31)).1 = some (dramPlace s.dramOrder (r.addr % 2 ^ 31)).2 ∧
        bitsAt (t.rd F.FMC_PD.IN_PD) ((dramPlace s.dramOrder (r.addr % 2 ^ 31)).1 / 16) 1 = 0) ∧
    (∀ (r : Request) (res : BurstReads), s.gate 0x11 r = .run → ∃ t, exec (.memRead r res) s = .next t ∧
      (∀ d, memReadRange r = some d → s.Answered t 0x11 r (.range d) ∧ s.Frame t [A.CMD_CNT_RX, A.CMD_CNT_REF] [.cmd, .flt]) ∧
      (memReadRange r = none → s.memClk = false → s.Answered t 0x11 r (.notReady 0xFFFF) ∧
        s.Frame t [A.CMD_CNT_RX, A.CMD_CNT_REF] [.cmd, .flt]) ∧
      (∀ l : BurstReads, memReadRange r = none → s.memClk = true → l = burstsOf r.arg.toNat (pWord r 0) res →
        s.Frame t ([A.CMD_CNT_RX, A.CMD_CNT_REF, A.FMC_CNT_ERR, A.FMC_ERR_ADDR] ++ dramRegs) ([.cmd, .flt] ++ dramParts) ∧
        t.rd F.FMC_CNT_ERR.CORR = min 0xFFFF (s.rd F.FMC_CNT_ERR.CORR + l.countP (fun e => e.2 == .corrected)) ∧
        t.rd F.FMC_CNT_ERR.UNCORR = min 0xFFFF (s.rd F.FMC_CNT_ERR.UNCORR + l.countP (fun e => e.2 == .failed)) ∧
        ((∀ e ∈ l, e.2 ≠ .failed) → ∃ b, b.length = pWord r 0 ∧ s.Answered t 0x11 r (.ok b) ∧
          ∀ i, i < pWord r 0 → firmwareByte (r.arg.toNat + i) = false → nth b i = s.readByte (r.arg.toNat + i)) ∧
        (∀ i, (l.filter (fun e => e.2 == .failed)).getLast? = some (i, .failed) → s.Answered t 0x11 r (.checkFail 2) ∧
          t.rd F.FMC_ERR_ADDR.ADDR = (r.arg.toNat / 64 + i) * 64)))

/-- A MEM_WRITE of a span inside one region, with the memory island clocked, that is no listed undefined case stores its payload
at ARG and answers OK: the bytes written read back, every other byte reads as before, and only the command state, what a request
to the DRAM touches, and a scan over those bytes change beside. A bad length or address is RANGE and an unclocked island
NOT_READY, with DRAM as it was. A listed undefined case marks the device undefined; flash, fuses, pins and thermal state, the
safety and thermal registers, the safety caps the tails apply and the reports the safety functions act by stay as they were, the
wires apart, the glass attached is what it was, and the state is safe. That flash, fuses, pins and glass keep what they hold is
the model's reading (log entry 8). (08_frame_memory.md R190, 08_frame_memory.md R204, 11_command_packets.md R284, 00_scope.md
R12) -/
def Obligations.DramWrites : Prop :=
  ∀ (s : State) (r : Request), s.undef = false → s.gate 0x10 r = .run → ∃ t, exec (.memWrite r) s = .next t ∧
    (∀ d, memWriteRange r = some d → s.Answered t 0x10 r (.range d) ∧ s.Frame t [A.CMD_CNT_RX, A.CMD_CNT_REF] [.cmd, .flt]) ∧
    (memWriteRange r = none → s.memClk = false →
      s.Answered t 0x10 r (.notReady 0xFFFF) ∧ s.Frame t [A.CMD_CNT_RX, A.CMD_CNT_REF] [.cmd, .flt]) ∧
    (memWriteRange r = none → s.memClk = true → s.memUndefined r.arg.toNat r.payload = false → s.cmp.applied.length = 2 →
      s.Answered t 0x10 r (.ok []) ∧
      s.Frame t ([A.CMD_CNT_RX, A.CMD_CNT_REF] ++ dramRegs) ([.cmd, .flt, .mem, .chk, .cmp] ++ dramParts) ∧
      (∀ i, i < r.payload.length → t.readByte (r.arg.toNat + i) = nth r.payload i) ∧
      (∀ a, a < r.arg.toNat ∨ r.arg.toNat + r.payload.length ≤ a → t.readByte a = s.readByte a) ∧
      (s.chk.scan = none → t.chk = s.chk) ∧ (s.cmp.built = false → t.cmp = s.cmp)) ∧
    (memWriteRange r = none → s.memClk = true → s.memUndefined r.arg.toNat r.payload = true → s.Canonical →
      t.undef = true ∧ t.flash = s.flash ∧ t.sys = { s.sys with svcOut := t.sys.svcOut, byCase := true } ∧ t.scn.latchedCap = s.scn.latchedCap ∧ t.scn.fits = s.scn.fits ∧
      (∀ r ∈ s.flt.inbox, r.safety = true → r ∈ t.flt.inbox) ∧ t.thm = s.thm ∧ t.pending = s.pending ∧ t.now = s.now ∧
      s.Same t .saf ∧ t.Safe ∧ (∀ a, keptInUndef a = true → t.reg a &&& wireMask a = s.reg a &&& wireMask a))

/-- Pulses in DETECT with REFCLK mark the lanes found and begin TRAIN on any enabled one, whose transmitters go ON. An equaliser
step keeps the best height, the lower setting among equals, and sets the winner after the sixteenth. A stable READY with every
lane adapted and W of at least 1 leads to LOCK; a lane out of sync in time is excluded. A stage that runs out fails the attempt
with its cause, back to DETECT, and the third failure changes the rate; so does a MAX_RATE of 0, and the attempts begin anew.
Out of sync, the third comma in a row at one position gives sync; a lane in sync never realigns, judges the set at its running
disparity and, with four of 16 symbols in error, loses sync and, in use, takes its port down. A set that differs from the last
is only noted, and one with an error breaks the row; four TS3 received, and as many sent (log entry 99, the model's reading), in
EXCHANGE lead to ACTIVE if width, lanes and version agree, with the partner recorded, and fail the attempt otherwise; a skew of
two symbols or more on an operating port is a listed undefined case (R211, R296; log entry 76, the model's reading). In other
states nothing changes. Only the registers and parts named change. (09_serial_lanes.md R212, 09_serial_lanes.md R213,
09_serial_lanes.md R217, 09_serial_lanes.md R220, 09_serial_lanes.md R221, 09_serial_lanes.md R222, 09_serial_lanes.md R223,
09_serial_lanes.md R224, 09_serial_lanes.md R234, 09_serial_lanes.md R211, 11_command_packets.md R296) -/
def Obligations.PortBringUp : Prop :=
  ∀ (s : State) (p : Port), s.undef = false →
    (∀ found : Fin 16, s.portState p.val = 1 → s.refclkOk = true → ∃ t, exec (.detectPulse p found) s = .next t ∧
      s.Frame t (bringUpRegs p.val) [.lnk] ∧
      (∀ k : Lane, t.rd (F.LNK_LSTAT.DETECTED p.val k.val) = bitsAt (Nat.land found.val (s.lport p.val).laneEn) k.val 1) ∧
      t.portState p.val = (if Nat.land found.val (s.lport p.val).laneEn = 0 then 1 else 2) ∧
      (Nat.land found.val (s.lport p.val).laneEn ≠ 0 → ∀ k : Lane,
        (bitsAt (Nat.land found.val (s.lport p.val).laneEn) k.val 1 = 1 → t.rd (F.LNK_LSTAT.TX_STATE p.val k.val) = 0) ∧
        t.rd (F.LNK_LSTAT.CTLE_IN_USE p.val k.val) = (if s.on (F.LNK_RX.CTLE_MODE p.val) then s.rd (F.LNK_RX.CTLE_FIXED p.val) else 0))) ∧
    (∀ found : Fin 16, s.portState p.val ≠ 1 ∨ s.refclkOk = false → ∃ t, exec (.detectPulse p found) s = .next t ∧ s.Frame t [] []) ∧
    (∀ (k : Lane) (h : Nat), s.portState p.val = 2 → s.syncLane p.val k.val = true → s.on (F.LNK_RX.CTLE_MODE p.val) = false →
      (s.lane p.val k.val).ctleNext < 16 →
      ∃ t, exec (.ctleStep p k h) s = .next t ∧ s.Frame t (bringUpRegs p.val) [.lnk] ∧
        ((s.lane p.val k.val).ctleNext < 15 → t.portState p.val = 2 ∧
          t.rd (F.LNK_LSTAT.CTLE_IN_USE p.val k.val) = (s.lane p.val k.val).ctleNext + 1 ∧
          t.lnk = (s.setLane p.val k.val { s.lane p.val k.val with
            ctleNext := (s.lane p.val k.val).ctleNext + 1,
            ctleBest := if (s.lane p.val k.val).ctleNext = 0 ∨ (s.lane p.val k.val).ctleBest < h then h else (s.lane p.val k.val).ctleBest,
            ctlePeak := if (s.lane p.val k.val).ctleNext = 0 ∨ (s.lane p.val k.val).ctleBest < h then (s.lane p.val k.val).ctleNext else
              (s.lane p.val k.val).ctlePeak }).lnk) ∧
        ((s.lane p.val k.val).ctleNext = 15 → t.rd (F.LNK_LSTAT.CTLE_IN_USE p.val k.val)
          = (if (s.lane p.val k.val).ctleBest < h then 15 else (s.lane p.val k.val).ctlePeak) % 16)) ∧
    (∀ (k : Lane) (h : Nat), s.portState p.val ≠ 2 ∨ s.syncLane p.val k.val = false ∨ s.on (F.LNK_RX.CTLE_MODE p.val) = true ∨
        16 ≤ (s.lane p.val k.val).ctleNext → ∃ t, exec (.ctleStep p k h) s = .next t ∧ s.Frame t [] []) ∧
    (s.portState p.val = 2 → s.lnk.ports.length = 4 → ∃ t, exec (.readyStable p) s = .next t ∧ s.Frame t (bringUpRegs p.val) [.lnk] ∧
      (s.allAdapted p.val = true → 1 ≤ s.widthNow p.val → t.portState p.val = 3 ∧
        t.rd (F.LNK_STAT.TX_USED p.val) = lowestBits (s.lport p.val).ready (s.widthNow p.val) % 16) ∧
      (s.allAdapted p.val = false ∨ s.widthNow p.val = 0 → t.portState p.val = 2 ∧
        t.lnk = { s.lnk with ports := s.lnk.ports.set p.val { s.lport p.val with stable := true } })) ∧
    (s.portState p.val ≠ 2 → ∃ t, exec (.readyStable p) s = .next t ∧ s.Frame t [] []) ∧
    (∀ k : Lane, (s.portState p.val = 2 → s.on (F.LNK_LSTAT.SYNC p.val k.val) = false → ∃ t, exec (.laneSyncTimeout p k) s = .next t ∧
        t.on (F.LNK_LSTAT.EXCLUDED p.val k.val) = true ∧ s.Frame t (bringUpRegs p.val) [.lnk]) ∧
      (s.portState p.val ≠ 2 ∨ s.on (F.LNK_LSTAT.SYNC p.val k.val) = true → ∃ t, exec (.laneSyncTimeout p k) s = .next t ∧ s.Frame t [] [])) ∧
    (s.portState p.val < 2 ∨ 4 < s.portState p.val → ∃ t, exec (.portStageTimeout p) s = .next t ∧ s.Frame t [] []) ∧
    (2 ≤ s.portState p.val → s.portState p.val ≤ 4 → ∃ t, exec (.portStageTimeout p) s = .next t ∧
      s.Frame t (bringUpRegs p.val) [.lnk] ∧ t.portState p.val = 1 ∧
      t.rd (F.LNK_STAT.LAST_FAIL p.val) = (if s.portState p.val = 2 then
          (if s.widthNow p.val = 0 ∧ s.readyMask p.val ≠ 0 then 5 else 1) else s.portState p.val - 1) ∧
      ((s.lport p.val).maxRate = 1 → 2 ≤ s.rd (F.LNK_STAT.ATTEMPTS p.val) → t.rd (F.LNK_STAT.ATTEMPTS p.val) = 0 ∧
        (s.rd (F.LNK_CFG.MAX_RATE p.val) = 1 → t.rd (F.LNK_STAT.RATE p.val) = 1 - s.rd (F.LNK_STAT.RATE p.val)) ∧
        (s.rd (F.LNK_CFG.MAX_RATE p.val) = 0 → t.rd (F.LNK_STAT.RATE p.val) = 0) ∧
        t.rd (F.LNK_CNT.FALLBACKS p.val) = (if s.rd (F.LNK_STAT.RATE p.val) = 1 then
          min 0xFFFF (s.rd (F.LNK_CNT.FALLBACKS p.val) + 1) else s.rd (F.LNK_CNT.FALLBACKS p.val))) ∧
      ((s.lport p.val).maxRate ≠ 1 ∨ s.rd (F.LNK_STAT.ATTEMPTS p.val) < 2 →
        t.rd (F.LNK_STAT.ATTEMPTS p.val) = if s.rd (F.LNK_CFG.MAX_RATE p.val) = 0 ∧ s.rd (F.LNK_STAT.RATE p.val) = 1 then 0
          else min 15 (s.rd (F.LNK_STAT.ATTEMPTS p.val) + 1))) ∧
    (∀ (n : Nat) (v : State) (k : Lane) (w : List Symbol) (off : Nat), v = s.advance n → v.listens p k = false → ∃ t, exec (.trainingSetReceive n p k w off) s = .next t ∧ v.Frame t [] []) ∧
    (∀ (n : Nat) (v : State) (k : Lane) (w : List Symbol) (off : Nat), v = s.advance n → v.listens p k = true → v.setHeard p.val k.val w = none →
      ∃ t, exec (.trainingSetReceive n p k w off) s = .next t ∧ v.Frame t linkRegs [.lnk, .zlp, .flt, .gov, .cmd] ∧
        t.lnk = ((v.hear p k.val w).breakRow p.val k.val).lnk ∧
        (v.hears p.val k.val = false → v.Frame t [] [.lnk] ∧
          t.lnk = (v.setLane p.val k.val { v.lane p.val k.val with last := none, same := 0, run := 0, commas := 0 }).lnk)) ∧
    (∀ (n : Nat) (v : State) (k : Lane) (w : List Symbol) (off : Nat) (x : TSet) (inv : Bool) (u : State), v = s.advance n → v.listens p k = true →
      v.setHeard p.val k.val w = some (x, inv) →
      (v.hear p k.val w).on (F.LNK_LSTAT.SYNC p.val k.val) = v.on (F.LNK_LSTAT.SYNC p.val k.val) →
      u = (v.hear p k.val w).noteSet p.val k.val inv off w x → ∃ t, exec (.trainingSetReceive n p k w off) s = .next t ∧
        (t.undef = false → v.Frame t linkRegs [.lnk, .zlp, .flt, .gov, .cmd]) ∧
        ((v.lane p.val k.val).last ≠ some x → v.Frame t [A.LNK_LSTAT p.val k.val] [.lnk] ∧ t.lnk = u.lnk ∧
          (v.on (F.LNK_LSTAT.SYNC p.val k.val) = false → (v.lane p.val k.val).offset = off → 2 ≤ (v.lane p.val k.val).commas →
            t.on (F.LNK_LSTAT.SYNC p.val k.val) = true ∧ t.on (F.LNK_LSTAT.INVERTED p.val k.val) = inv) ∧
          (v.on (F.LNK_LSTAT.SYNC p.val k.val) = true ∨ (v.lane p.val k.val).offset ≠ off ∨ (v.lane p.val k.val).commas < 2 →
            t.reg (A.LNK_LSTAT p.val k.val) = v.reg (A.LNK_LSTAT p.val k.val))) ∧
        ((v.lane p.val k.val).last = some x → x.ty = 0xB3#8 → v.portState p.val = 4 →
          u.allRx p.val (fun j => decide (5 ≤ (u.lane p.val j).same)) = true →
          (x.width.toNat = (v.lport p.val).width ∧ x.txUsed.toNat % 16 = u.ts3Lanes p.val ∧ x.version = 0x01#8 →
            (2 ≤ v.rd (F.LNK_STAT.SKEW p.val) → t.undef = true) ∧
            (v.rd (F.LNK_STAT.SKEW p.val) < 2 → t.undef = false ∧
              t.portState p.val = 5 ∧ t.rd (F.LNK_STAT.WIDTH p.val) = (v.lport p.val).width % 8 ∧ t.rd (F.LNK_STAT.ATTEMPTS p.val) = 0 ∧
              ((∀ j : Lane, bitsAt (v.rd (F.LNK_STAT.RX_USED p.val)) j.val 1 = 1 →
                  ∃ y, (u.lane p.val j.val).last = some y ∧ y.ty = 0xB3#8 ∧ y.role = x.role ∧ y.devId = x.devId) →
                t.rd (F.LNK_PARTNER.ROLE p.val) = x.role.toNat ∧ t.rd (F.LNK_PARTNER.DEV_ID p.val) = x.devId.toNat))) ∧
          (x.width.toNat ≠ (v.lport p.val).width ∨ x.txUsed.toNat % 16 ≠ u.ts3Lanes p.val ∨ x.version ≠ 0x01#8 →
            t.portState p.val = 1 ∧ t.rd (F.LNK_STAT.LAST_FAIL p.val) = 4)))

/-- Lost sync, four of 16 symbols in a row in error, those heard before among them (1), and idle that no received IDLE set has
announced, or on a lane of the displayed stream (2), of a lane in use, a deskew mismatch (3) and a written RETRAIN (4) take an
ACTIVE port down with that cause. RETRAIN fails the attempt of a training port, with the code of its stage (log entry 98), and
begins DETECT anew; a lane not in use only loses its sync, and symbols with fewer errors lose nothing; a lane out of sync, off
or on STANDBY judges none. The loss of REFCLK raises fault 0x2C, stops TXCLK's move where it is, and sends every training port
back to DETECT with the cause of its stage, while ACTIVE ports stay; its return sets REFCLK_OK. An unclocked link island sees
neither. Ten ms of holdover let TXCLK move toward a good REFCLK; a lock shows its source and offset and ends the move. Nothing
else changes. (09_serial_lanes.md R215, 09_serial_lanes.md R216, 09_serial_lanes.md R219, 09_serial_lanes.md R221,
09_serial_lanes.md R226) -/
def Obligations.PortsAndClocks : Prop :=
  ∀ s : State, s.undef = false →
    (∀ (p : Port) (k : Lane) (w : List Symbol) (x : LaneState) (errs : List Bool), x = s.lane p.val k.val →
      errs = x.recent ++ (receiveAll x.rd (s.upright p.val k.val w)).map isError →
      (s.listens p k = true → s.hears p.val k.val = true → losesSync errs = true → s.rxInUse p.val k.val = true →
        ∃ t, exec (.laneSyncLost p ⟨k, w⟩) s = .next t ∧ s.PortDown t p 1) ∧
      (s.listens p k = true → s.hears p.val k.val = true → losesSync errs = true → s.rxInUse p.val k.val = false →
        ∃ t, exec (.laneSyncLost p ⟨k, w⟩) s = .next t ∧ t.on (F.LNK_LSTAT.SYNC p.val k.val) = false ∧
          t.lnk = (s.setLane p.val k.val { x with last := none, same := 0, run := 0, commas := 0, recent := [] }).lnk ∧
          s.Frame t [A.LNK_LSTAT p.val k.val] [.lnk]) ∧
      (s.listens p k = true → s.hears p.val k.val = true → losesSync errs = false → ∃ t, exec (.laneSyncLost p ⟨k, w⟩) s = .next t ∧
        s.Frame t [] [.lnk] ∧ t.lnk = (s.setLane p.val k.val { x with
          rd := disparityEnd x.rd (s.upright p.val k.val w), recent := errs.drop (errs.length - 15) }).lnk) ∧
      (s.listens p k = false ∨ s.hears p.val k.val = false → ∃ t, exec (.laneSyncLost p ⟨k, w⟩) s = .next t ∧ s.Frame t [] [])) ∧
    (∀ (p : Port) (k : Lane) (warned : Prop), (warned ↔ (∃ x, (s.lane p.val k.val).last = some x ∧ x.ty = 0xB4#8) ∧
        2 ≤ (s.lane p.val k.val).same ∧ ¬(s.selPort = some p ∧ s.selected = true)) →
      (s.rxInUse p.val k.val = true → s.rd (F.LNK_LSTAT.RX_STATE p.val k.val) = 0 → ¬warned →
        ∃ t, exec (.laneIdleDetect p k) s = .next t ∧ s.PortDown t p 2) ∧
      (s.rxInUse p.val k.val = false ∨ s.rd (F.LNK_LSTAT.RX_STATE p.val k.val) ≠ 0 ∨ warned →
        ∃ t, exec (.laneIdleDetect p k) s = .next t ∧ s.Frame t [] [])) ∧
    (∀ p : Port,
      (s.portState p.val = 5 → ∃ t u, exec (.deskewMismatch p) s = .next t ∧ exec (.portRetrain p) s = .next u ∧
        s.PortDown t p 3 ∧ s.PortDown u p 4) ∧
      (s.portState p.val ≠ 5 → ∃ t, exec (.deskewMismatch p) s = .next t ∧ s.Frame t [] []) ∧
      (2 ≤ s.portState p.val → s.portState p.val ≤ 4 → ∃ u, exec (.portRetrain p) s = .next u ∧ u.portState p.val = 1 ∧
        u.rd (F.LNK_STAT.LAST_FAIL p.val) = s.portState p.val - 1 ∧ s.Frame u (bringUpRegs p.val) [.lnk]) ∧
      (s.portState p.val = 1 → ∃ u, exec (.portRetrain p) s = .next u ∧ u.portState p.val = 1 ∧
        u.rd (F.LNK_STAT.ATTEMPTS p.val) = s.rd (F.LNK_STAT.ATTEMPTS p.val) ∧ s.Frame u (bringUpRegs p.val) [.lnk]) ∧
      (s.portState p.val = 0 ∨ 6 ≤ s.portState p.val → ∃ u, exec (.portRetrain p) s = .next u ∧ s.Frame u [] [])) ∧
    (s.refclkOk = true → s.lnkClk = true → ∃ t, exec .refclkLost s = .next t ∧ t.refclkOk = false ∧
      t.flt.inbox = s.flt.inbox ++ [⟨0x2C, 2, 0, 0, false, s.now⟩] ∧ t.lnk.driftAt = none ∧ t.txOffset = s.txOffset ∧
      s.Frame t (A.LNK_TXCLK :: [0, 1, 2, 3].flatMap bringUpRegs) [.lnk, .flt] ∧
      (∀ p : Port, 2 ≤ s.portState p.val → s.portState p.val ≤ 4 →
        t.portState p.val = 1 ∧ t.rd (F.LNK_STAT.LAST_FAIL p.val) = s.portState p.val - 1) ∧
      (∀ p : Port, s.portState p.val < 2 ∨ 5 ≤ s.portState p.val → t.reg (A.LNK_STAT p.val) = s.reg (A.LNK_STAT p.val))) ∧
    (s.refclkOk = false ∨ s.lnkClk = false → ∃ t, exec .refclkLost s = .next t ∧ s.Frame t [] []) ∧
    (s.lnkClk = false → ∃ t, exec .refclkRestored s = .next t ∧ s.Frame t [] []) ∧
    (s.lnkClk = true → ∃ t, exec .refclkRestored s = .next t ∧ t.refclkOk = true ∧ s.Frame t [A.LNK_TXCLK] [.lnk] ∧
      t.lnk = { s.lnk with driftAt := if s.on F.LNK_TXCLK.HOLDOVER = true ∧ s.lnk.holdExpired = true ∧ s.lnk.driftAt = none then some s.now
        else s.lnk.driftAt } ∧
      ∀ f ∈ [F.LNK_TXCLK.LOCKED, F.LNK_TXCLK.HOLDOVER, F.LNK_TXCLK.SOURCE, F.LNK_TXCLK.OFFSET], t.rd f = s.rd f) ∧
    (s.on F.LNK_TXCLK.HOLDOVER = true → ∃ t, exec .txclkHoldoverExpiry s = .next t ∧ s.Frame t [] [.lnk] ∧
      t.lnk = { s.lnk with holdExpired := true, driftAt := if s.refclkOk = true ∧ s.lnk.driftAt = none then some s.now else s.lnk.driftAt }) ∧
    (s.on F.LNK_TXCLK.HOLDOVER = false → ∃ t, exec .txclkHoldoverExpiry s = .next t ∧ s.Frame t [] []) ∧
    (∀ off : Int, s.lnk.txTarget ≠ none ∨ s.refclkOk = true → ∃ t, exec (.txclkLocked off) s = .next t ∧
      t.on F.LNK_TXCLK.LOCKED = true ∧ t.on F.LNK_TXCLK.HOLDOVER = false ∧ t.refclkOk = s.refclkOk ∧
      t.rd F.LNK_TXCLK.SOURCE = s.lnk.txTarget.getD 15 % 16 ∧ t.lnk = { s.lnk with driftAt := none, holdExpired := false } ∧
      signed 16 (t.rd F.LNK_TXCLK.OFFSET) = max (-32768) (min 32767 off) ∧ s.Frame t [A.LNK_TXCLK] [.lnk]) ∧
    (∀ off : Int, s.lnk.txTarget = none → s.refclkOk = false → ∃ t, exec (.txclkLocked off) s = .next t ∧ s.Frame t [] [])

/-- A window of symbols on a lane in sync adds the code and disparity errors in it to the lane's counters and raises its fault
above ERR_LIM; the symbols are heard, and four of 16 in error take the lane out of sync and its port down. A power request
stands in TX_REQ; each lane's is refused, and its state kept, when it would idle a forwarding lane or switch off a used one, and
else takes effect, 4 IDLE sets before it idles and 16 TS2 as it wakes; IDLE waits while a port that is not ACTIVE sends, and a
quiet port of STANDBY stays idle. A pattern mode is refused on a port whose role is not OFF; on an OFF or TEST port modes 1 to 4
enter TEST and mode 0, or 5 to 7, leaves it; another pattern starts generators and checkers anew. INJ_ONE asks one bit of each
generating lane. A checker takes the bits received, or looped back as many of its own transmitter, gains and loses sync by them
and counts its errors. PATTERN_TEST is DENIED on such a port, else holds its place from its start; at the end of DURATION, and
not before, the counts are answered and cleared and TEST is left. Nothing else changes. (09_serial_lanes.md R226,
09_serial_lanes.md R229, 09_serial_lanes.md R231, 09_serial_lanes.md R232, 11_command_packets.md R292) -/
def Obligations.LaneTests : Prop :=
  ∀ (s : State) (p : Port), s.undef = false →
    (∀ (n : Nat) (v : State) (k : Lane) (w : List Symbol), v = s.advance n → v.listens p k = false ∨ v.hears p.val k.val = false →
      ∃ t, exec (.laneErrorWindow n p k w) s = .next t ∧ v.Frame t [] []) ∧
    (∀ (n : Nat) (v : State) (k : Lane) (w : List Symbol) (code disp : Nat), v = s.advance n → v.listens p k = true → v.hears p.val k.val = true →
      code = (receiveAll (v.lane p.val k.val).rd (v.upright p.val k.val w)).countP (· == .code) →
      disp = (receiveAll (v.lane p.val k.val).rd (v.upright p.val k.val w)).countP (· == .disp) → ∃ t, exec (.laneErrorWindow n p k w) s = .next t ∧
      t.rd (F.LNK_LERR.CODE p.val k.val) = min 0xFFFF (v.rd (F.LNK_LERR.CODE p.val k.val) + code) ∧
      t.rd (F.LNK_LERR.DISP p.val k.val) = min 0xFFFF (v.rd (F.LNK_LERR.DISP p.val k.val) + disp) ∧
      t.lnk = (v.hear p k.val w).lnk ∧
      (v.rd (F.LNK_CFG.ERR_LIM p.val) < code + disp → ⟨0x10 + 4 * p.val + k.val, 1, 0, 4 * p.val + k.val, false, v.now⟩ ∈ t.flt.inbox) ∧
      v.Frame t (A.LNK_LERR p.val k.val :: linkRegs) [.lnk, .zlp, .flt, .gov, .cmd] ∧
      ((v.hear p k.val w).on (F.LNK_LSTAT.SYNC p.val k.val) = true → v.Frame t [A.LNK_LERR p.val k.val] [.flt, .lnk] ∧
        t.flt.inbox = v.flt.inbox ++ (if v.rd (F.LNK_CFG.ERR_LIM p.val) < code + disp
          then [⟨0x10 + 4 * p.val + k.val, 1, 0, 4 * p.val + k.val, false, v.now⟩] else [])) ∧
      ((v.hear p k.val w).on (F.LNK_LSTAT.SYNC p.val k.val) = false → t.on (F.LNK_LSTAT.SYNC p.val k.val) = false ∧
        (v.rxInUse p.val k.val = true → t.portState p.val = 1 ∧ t.rd (F.LNK_STAT.DOWN_CAUSE p.val) = 1))) ∧
    (∀ v : Word, ∃ t, exec (.txPowerRequest p v) s = .next t ∧ t.rd (F.LNK_LP.TX_REQ p.val) = v.toNat % 256 ∧
      s.Frame t (A.LNK_LP p.val :: [0, 1, 2, 3].map (A.LNK_LSTAT p.val)) [.lnk] ∧
      ∀ (k : Lane) (req now : Nat) (used fwd : Bool), req = bitsAt v.toNat (2 * k.val) 2 → now = s.rd (F.LNK_LSTAT.TX_STATE p.val k.val) →
        used = (bitsAt (s.rd (F.LNK_STAT.TX_USED p.val)) k.val 1 == 1 && s.portState p.val == 5) →
        fwd = (used && (s.rd (F.ZLP_PORT_STAT.TX_MODE p.val) == 1 || s.rd (F.ZLP_PORT_STAT.TX_MODE p.val) == 2)) →
        bitsAt (t.rd (F.LNK_LP.REFUSED p.val)) k.val 1 = boolNat ((req == 1 && fwd) || (req == 2 && used)) ∧
        t.rd (F.LNK_LSTAT.TX_STATE p.val k.val) = (if ((req == 1 && fwd) || (req == 2 && used)) = true then now
          else if req = 2 ∨ now = 2 then 2
          else if (req = 1 ∧ s.portState p.val = 5) ∨ s.quiet p = true then 1 else 0) ∧
        (s.lnk.ports.length = 4 → (s.lport p.val).lanes.length = 4 →
          (t.lane p.val k.val).burst = (if now = 0 ∧ t.rd (F.LNK_LSTAT.TX_STATE p.val k.val) = 1 then some (0xB4#8, 4)
            else if now = 1 ∧ t.rd (F.LNK_LSTAT.TX_STATE p.val k.val) = 0 then some (0xB2#8, 16)
            else (s.lane p.val k.val).burst))) ∧
    (∀ v : Word, ∃ t, exec (.patternModeWrite p v) s = .next t ∧
      s.Frame t ([A.LNK_PAT_CFG p.val, A.LNK_STAT p.val] ++ [0, 1, 2, 3].flatMap (fun k => [A.LNK_LSTAT p.val k, A.LNK_PAT_ERR p.val k]))
        [.lnk] ∧
      t.rd (F.LNK_PAT_CFG.PATTERN p.val) = bitsAt v.toNat 4 3 ∧ t.rd (F.LNK_PAT_CFG.LANES p.val) = bitsAt v.toNat 16 4 ∧
      t.rd (F.LNK_PAT_CFG.RATE p.val) = bitsAt v.toNat 8 1 ∧ t.rd (F.LNK_PAT_CFG.INJ_RATE p.val) = bitsAt v.toNat 24 4 ∧
      (bitsAt v.toNat 4 3 ≠ s.rd (F.LNK_PAT_CFG.PATTERN p.val) → ∀ k : Lane, t.on (F.LNK_PAT_ERR.PSYNC p.val k.val) = false) ∧
      (∀ m, m = bitsAt v.toNat 0 3 →
        (s.role p ≠ 0 → 1 ≤ m → m ≤ 4 → t.on (F.LNK_PAT_CFG.REFUSED p.val) = true ∧ t.portState p.val = s.portState p.val ∧
          t.rd (F.LNK_PAT_CFG.MODE p.val) = s.rd (F.LNK_PAT_CFG.MODE p.val)) ∧
        (s.role p = 0 → 1 ≤ m → m ≤ 4 → t.on (F.LNK_PAT_CFG.REFUSED p.val) = false ∧ t.rd (F.LNK_PAT_CFG.MODE p.val) = m ∧
          (s.lnkClk = true → s.portState p.val = 0 ∨ s.portState p.val = 6 → t.portState p.val = 6)) ∧
        (m = 0 ∨ 5 ≤ m → t.rd (F.LNK_PAT_CFG.MODE p.val) = m ∧ (s.portState p.val = 6 → t.portState p.val = 0 ∧
          ∀ k : Lane, t.on (F.LNK_PAT_ERR.PSYNC p.val k.val) = false)))) ∧
    (∃ t, exec (.injectOne p) s = .next t ∧ s.Frame t [] [.lnk] ∧
      ∀ (k : Lane) (gen : Prop), s.lnk.ports.length = 4 → (s.lport p.val).lanes.length = 4 →
        (gen ↔ s.portState p.val = 6 ∧ s.rd (F.LNK_PAT_CFG.MODE p.val) ∈ [1, 3, 4] ∧ bitsAt (s.rd (F.LNK_PAT_CFG.LANES p.val)) k.val 1 = 1) →
        (gen → t.lane p.val k.val = { s.lane p.val k.val with inject := (s.lane p.val k.val).inject + 1 }) ∧
        (¬gen → t.lane p.val k.val = s.lane p.val k.val)) ∧
    (∀ (n : Nat) (v : State) (k : Lane) (bits : List Bool), v = s.advance n → (v.portState p.val ≠ 6 ∨ 1 > v.rd (F.LNK_PAT_CFG.MODE p.val) ∨ 4 < v.rd (F.LNK_PAT_CFG.MODE p.val) ∨
        bitsAt (v.rd (F.LNK_PAT_CFG.LANES p.val)) k.val 1 = 0) →
      ∃ t, exec (.patternCheckerSync n p k bits) s = .next t ∧ v.Frame t [] []) ∧
    (∀ (n : Nat) (v : State) (k : Lane) (bits : List Bool) (mode pat rate : Nat), v = s.advance n → mode = v.rd (F.LNK_PAT_CFG.MODE p.val) → pat = v.rd (F.LNK_PAT_CFG.PATTERN p.val) →
      rate = v.rd (F.LNK_PAT_CFG.INJ_RATE p.val) → v.portState p.val = 6 → bitsAt (v.rd (F.LNK_PAT_CFG.LANES p.val)) k.val 1 = 1 →
      v.lnk.ports.length = 4 → (v.lport p.val).lanes.length = 4 →
      (mode = 1 → ∃ t, exec (.patternCheckerSync n p k bits) s = .next t ∧ v.Frame t [] [.lnk] ∧
        t.lane p.val k.val = (genBits pat rate bits.length (v.lane p.val k.val)).2) ∧
      (2 ≤ mode → mode ≤ 4 → ∀ (g : List Bool × LaneState) (c : LaneState × Bool × Nat),
        g = (if mode = 2 then ([], v.lane p.val k.val) else genBits pat rate bits.length (v.lane p.val k.val)) →
        c = (if mode = 4 then g.1 else bits).foldl (checkBit pat) (g.2, v.on (F.LNK_PAT_ERR.PSYNC p.val k.val), 0) →
        ∃ t, exec (.patternCheckerSync n p k bits) s = .next t ∧ v.Frame t [A.LNK_PAT_ERR p.val k.val] [.lnk] ∧
          t.lane p.val k.val = c.1 ∧ t.on (F.LNK_PAT_ERR.PSYNC p.val k.val) = c.2.1 ∧
          t.rd (F.LNK_PAT_ERR.BITERR p.val k.val) = min 0x7FFFFFFF (v.rd (F.LNK_PAT_ERR.BITERR p.val k.val) + c.2.2))) ∧
    (∀ r : Request, s.gate 0x79 r = .run → r.payload.length = 12 → patternRange r = none → quadOf (pByte r 0) = p →
      ∃ t, exec (.patternTest r) s = .next t ∧ s.Frame t ([A.CMD_CNT_RX, A.CMD_CNT_REF, A.LNK_PAT_CFG p.val, A.LNK_STAT p.val] ++
          [0, 1, 2, 3].flatMap (fun k => [A.LNK_LSTAT p.val k, A.LNK_PAT_ERR p.val k])) [.cmd, .flt, .lnk] ∧
        (s.role p ≠ 0 → s.Answered t 0x79 r (.denied 0) ∧ t.lnk = s.lnk) ∧
        (s.role p = 0 → s.Held t 0x79 r ∧ t.rd (F.LNK_PAT_CFG.MODE p.val) = pByte r 1 ∧
          (s.lnk.ports.length = 4 → (t.lport p.val).patAt = s.now))) ∧
    (∀ (r : Request) (d : Nat), s.gate 0x79 r = .run → (r.payload.length ≠ 12 ∧ d = 10) ∨ (r.payload.length = 12 ∧ patternRange r = some d) →
      ∃ t, exec (.patternTest r) s = .next t ∧ s.Answered t 0x79 r (.range d) ∧ s.Frame t [A.CMD_CNT_RX, A.CMD_CNT_REF] [.cmd, .flt]) ∧
    (∀ (n : Nat) (v : State) (x : Place) (rest : List Place), v = s.advance n → s.cmd.places = x :: rest → x.op = 0x79 → x.answered = false →
      pByte x.req 0 = p.val →
      ((v.lport p.val).patAt + 256000000 * pWord x.req 8 ≤ v.now → ∃ t, exec (.patternTestEnd ⟨n, p⟩) s = .next t ∧
        v.Frame t ([A.LNK_PAT_CFG p.val, A.LNK_STAT p.val] ++
          [0, 1, 2, 3].flatMap (fun k => [A.LNK_LSTAT p.val k, A.LNK_PAT_ERR p.val k])) [.cmd, .lnk] ∧
        t.rd (F.LNK_PAT_CFG.MODE p.val) = 0 ∧ (s.portState p.val = 6 → t.portState p.val = 0) ∧
        (∀ k : Lane, bitsAt (s.rd (F.LNK_PAT_CFG.LANES p.val)) k.val 1 = 1 → t.rd (F.LNK_PAT_ERR.BITERR p.val k.val) = 0) ∧
        t.cmd = (s.complete x.req.src.toNat x.req.tag.toNat (.ok (s.patternCounts p))).cmd) ∧
      (v.now < (v.lport p.val).patAt + 256000000 * pWord x.req 8 → ∃ t, exec (.patternTestEnd ⟨n, p⟩) s = .next t ∧ v.Frame t [] [])) ∧
    (∀ (n : Nat) (v : State), v = s.advance n → (∀ x ∈ s.cmd.places, x.op ≠ 0x79 ∨ x.answered = true ∨ pByte x.req 0 ≠ p.val) →
      ∃ t, exec (.patternTestEnd ⟨n, p⟩) s = .next t ∧ v.Frame t [] [])

/-- A write of LNK_EYE_CFG_k outside a measurement takes its fields; with START it begins one (BUSY, the request with its
instant, the EYE job due) on a lane in use and shows ABORTED on another. While BUSY an equal write does nothing and a different
one is a listed undefined case, in which flash keeps what it holds (R12; log entry 8, the model's reading). While the EYE job
runs, the end of a measurement shows its count and clears BUSY, and the job ends with the last one; an EYE_SCAN goes on to its
next point, or after its last answers all its counts, oldest first, and the next EYE_SCAN of the lane starts. Without BUSY, or
while the job is not admitted, nothing ends. EYE_SCAN is refused for its length or a field, or not at all: an empty grid answers
OK at once, its place held until the reply is sent, and any other holds its place, its first point started where the lane is
free. Nothing else changes. (09_serial_lanes.md R230, 09_serial_lanes.md R234, 11_command_packets.md R291, 00_scope.md R9,
00_scope.md R12) -/
def Obligations.EyeScans : Prop :=
  ∀ (s : State) (p : Port) (k : Lane), s.undef = false →
    (∀ v : Word, s.on (F.LNK_EYE_CFG.BUSY p.val k.val) = false → ∃ t, exec (.eyeStart p k v) s = .next t ∧
      t.rd (F.LNK_EYE_CFG.BITS p.val k.val) = bitsAt v.toNat 24 5 ∧ t.rd (F.LNK_EYE_CFG.VOFF p.val k.val) = bitsAt v.toNat 16 8 ∧
      t.rd (F.LNK_EYE_CFG.PHASE p.val k.val) = bitsAt v.toNat 0 7 ∧
      (v.getLsbD 31 = false → t.on (F.LNK_EYE_CFG.BUSY p.val k.val) = false ∧ s.Frame t [A.LNK_EYE_CFG p.val k.val] []) ∧
      (v.getLsbD 31 = true → s.rxInUse p.val k.val = false → t.on (F.LNK_EYE_CFG.BUSY p.val k.val) = false ∧
        t.on (F.LNK_EYE_CFG.ABORTED p.val k.val) = true ∧ s.Frame t [A.LNK_EYE_CFG p.val k.val] []) ∧
      (v.getLsbD 31 = true → s.rxInUse p.val k.val = true → t.on (F.LNK_EYE_CFG.BUSY p.val k.val) = true ∧
        t.on (F.LNK_EYE_CFG.ABORTED p.val k.val) = false ∧ s.Frame t [A.LNK_EYE_CFG p.val k.val] [.gov, .lnk] ∧
        t.lnk = { s.lnk with eyeDue := s.lnk.eyeDue ++ [(p.val * 4 + k.val, s.now)] } ∧
        (∀ d, s.job jobEye = { dueAt := d } → s.gov.jobs.length = 6 → t.job jobEye = { pending := true, dueAt := s.now }) ∧
        (∀ j, j ≠ jobEye → t.job j = s.job j))) ∧
    (∀ v : Word, s.on (F.LNK_EYE_CFG.BUSY p.val k.val) = true → ∃ t, exec (.eyeStart p k v) s = .next t ∧
      (bitsAt v.toNat 24 5 = s.rd (F.LNK_EYE_CFG.BITS p.val k.val) ∧ bitsAt v.toNat 16 8 = s.rd (F.LNK_EYE_CFG.VOFF p.val k.val) ∧
        bitsAt v.toNat 0 7 = s.rd (F.LNK_EYE_CFG.PHASE p.val k.val) → s.Frame t [] []) ∧
      (bitsAt v.toNat 24 5 ≠ s.rd (F.LNK_EYE_CFG.BITS p.val k.val) ∨ bitsAt v.toNat 16 8 ≠ s.rd (F.LNK_EYE_CFG.VOFF p.val k.val) ∨
        bitsAt v.toNat 0 7 ≠ s.rd (F.LNK_EYE_CFG.PHASE p.val k.val) → t.undef = true ∧ t.flash = s.flash ∧ t.Safe)) ∧
    (∀ n : Nat, s.on (F.LNK_EYE_CFG.BUSY p.val k.val) = false ∨ ((s.job jobEye).running = false ∧ (s.job jobEye).pausing = false) →
      ∃ t, exec (.eyeScanDone p k n) s = .next t ∧ s.Frame t [] []) ∧
    (∀ (n : Nat) (due : List (Nat × Nat)), s.on (F.LNK_EYE_CFG.BUSY p.val k.val) = true → (s.job jobEye).running = true ∨ (s.job jobEye).pausing = true →
      due = s.lnk.eyeDue.filter (fun e => e.1 != p.val * 4 + k.val) →
      (s.lnk.eyes.any (fun e => e.port == p.val && e.lane == k.val) = false → ∃ t, exec (.eyeScanDone p k n) s = .next t ∧
        t.on (F.LNK_EYE_CFG.BUSY p.val k.val) = false ∧ t.rd (F.LNK_EYE_CNT.ERRORS p.val k.val) = min 0xFFFFFFFF n ∧
        s.Frame t [A.LNK_EYE_CFG p.val k.val, A.LNK_EYE_CNT p.val k.val] [.gov, .lnk] ∧ t.lnk = { s.lnk with eyeDue := due } ∧
        (due = [] → t.gov = { s.gov with jobs := s.gov.jobs.set jobEye {} })) ∧
      (∀ e, e.port = p.val → e.lane = k.val → e.started = true →
        (s.lnk.eyes = [e] → e.points.length = 1 → ∃ t, exec (.eyeScanDone p k n) s = .next t ∧ t.lnk = { s.lnk with eyes := [], eyeDue := due } ∧
          t.cmd = (s.complete e.src e.tag (.ok ((e.counts ++ [min 0xFFFFFFFF n]).flatMap (leBytes 4)))).cmd ∧
          s.Frame t [A.LNK_EYE_CFG p.val k.val, A.LNK_EYE_CNT p.val k.val] [.gov, .lnk, .cmd]) ∧
        (∀ e2 b l, s.lnk.eyes = [e, e2] → e2.port = p.val → e2.lane = k.val → e2.points = b :: l → e2.started = false → e.points.length = 1 →
          s.rxInUse p.val k.val = true → ∃ t, exec (.eyeScanDone p k n) s = .next t ∧
          t.lnk = { s.lnk with eyes := [{ e2 with started := true }], eyeDue := due ++ [(p.val * 4 + k.val, s.now)] } ∧
          t.cmd = (s.complete e.src e.tag (.ok ((e.counts ++ [min 0xFFFFFFFF n]).flatMap (leBytes 4)))).cmd ∧
          t.on (F.LNK_EYE_CFG.BUSY p.val k.val) = true ∧ t.rd (F.LNK_EYE_CFG.PHASE p.val k.val) = b.1 % 128 ∧
          s.Frame t [A.LNK_EYE_CFG p.val k.val, A.LNK_EYE_CNT p.val k.val] [.gov, .lnk, .cmd]) ∧
        (∀ a b l, s.lnk.eyes = [e] → e.points = a :: b :: l → s.rxInUse p.val k.val = true → ∃ t, exec (.eyeScanDone p k n) s = .next t ∧
          t.lnk = { s.lnk with
            eyes := [{ e with points := b :: l, counts := e.counts ++ [min 0xFFFFFFFF n] }], eyeDue := due ++ [(p.val * 4 + k.val, s.now)] } ∧
          t.on (F.LNK_EYE_CFG.BUSY p.val k.val) = true ∧ t.rd (F.LNK_EYE_CFG.PHASE p.val k.val) = b.1 % 128 ∧
          t.rd (F.LNK_EYE_CFG.VOFF p.val k.val) = b.2 % 256 ∧ t.cmd = s.cmd ∧
          s.Frame t [A.LNK_EYE_CFG p.val k.val, A.LNK_EYE_CNT p.val k.val] [.gov, .lnk]))) ∧
    (∀ r : Request, s.gate 0x78 r = .run → ∃ t, exec (.eyeScan r) s = .next t ∧
      (∀ d, (r.payload.length ≠ 12 ∧ d = 10) ∨ (r.payload.length = 12 ∧ s.eyeScanRange r = some d) → s.Answered t 0x78 r (.range d) ∧
        s.Frame t [A.CMD_CNT_RX, A.CMD_CNT_REF] [.cmd, .flt]) ∧
      (r.payload.length = 12 → s.eyeScanRange r = none → eyeGrid r = [] → s.Answered t 0x78 r (.ok []) ∧
        t.cmd.places = s.cmd.places ++ (if r.replyReq then [⟨0x78, r, s.deviceId, true⟩] else []) ∧
        s.Frame t [A.CMD_CNT_RX, A.CMD_CNT_REF] [.cmd, .flt]) ∧
      (r.payload.length = 12 → s.eyeScanRange r = none → eyeGrid r ≠ [] → pByte r 0 = p.val → pByte r 1 = k.val →
        s.Held t 0x78 r ∧ s.Frame t [A.CMD_CNT_RX, A.CMD_CNT_REF, A.LNK_EYE_CFG p.val k.val] [.cmd, .flt, .lnk, .gov] ∧
        t.on (F.LNK_EYE_CFG.BUSY p.val k.val) = true ∧
        (s.on (F.LNK_EYE_CFG.BUSY p.val k.val) = true → t.gov = s.gov ∧ t.lnk = { s.lnk with
          eyes := s.lnk.eyes ++ [⟨r.src.toNat, r.tag.toNat, p.val, k.val, pByte r 2 % 32, eyeGrid r, [], false⟩] }) ∧
        (s.on (F.LNK_EYE_CFG.BUSY p.val k.val) = false → s.lnk.eyes = [] → t.lnk = { s.lnk with
          eyes := [⟨r.src.toNat, r.tag.toNat, p.val, k.val, pByte r 2 % 32, eyeGrid r, [], true⟩]
          eyeDue := s.lnk.eyeDue ++ [(p.val * 4 + k.val, s.now)] })))

/-- A write of FMC_ORDER takes NEXT and leaves ORDER; FLT_CFG takes its fields, but in FIELD no change of C3_EXIT; SYS_PRAIL_CFG
takes its fields. Each clears its STORED bit and queues its save once. A write of ZLP_ROLE takes the four roles: a port whose
role changes goes to OFF, or to DETECT while the lanes are clocked, with DOWN_CAUSE 6 and not counted, in DETECT after a failed
attempt of its stage if it trained (log entry 98), every other port keeps its state, and only SAVE queues the roles. The end of
the write-back in flight, if it is one of the configuration, at the head of the queue, and a check channel is free, stores its
values, sets its STORED bit and lets the next go on (log entry 54, the model's reading), or a life-cycle transition that waited;
otherwise nothing is stored. Nothing else changes. (08_frame_memory.md R193, 10_zhelan_link.md R235, 10_zhelan_link.md R237,
09_serial_lanes.md R222, 16_fault_handling.md R389, 17_check_values.md R403, 20_start_up.md R449, 20_start_up.md R456) -/
def Obligations.RolesAndStoredConfiguration : Prop :=
  ∀ s : State, s.undef = false →
    (∀ v : Word, ∃ t, exec (.fmcOrderWrite v) s = .next t ∧ t.rd F.FMC_ORDER.NEXT = bitsAt v.toNat 8 2 ∧
      t.rd F.FMC_ORDER.ORDER = s.rd F.FMC_ORDER.ORDER ∧ t.on F.FMC_ORDER.STORED = false ∧ s.Frame t [A.FMC_ORDER] [.gov] ∧
      t.gov.flash = (if s.gov.flash.contains .fmcOrder then s.gov.flash else s.gov.flash ++ [.fmcOrder])) ∧
    (∀ v : Word, ∃ t, exec (.prailCfgWrite v) s = .next t ∧ t.rd F.SYS_PRAIL_CFG.USED = bitsAt v.toNat 0 6 ∧
      t.rd F.SYS_PRAIL_CFG.DELAY = bitsAt v.toNat 16 8 ∧ t.rd F.SYS_PRAIL_CFG.PG_TO = bitsAt v.toNat 24 7 ∧
      t.on F.SYS_PRAIL_CFG.STORED = false ∧ s.Frame t [A.SYS_PRAIL_CFG] [.gov] ∧
      t.gov.flash = (if s.gov.flash.contains .prailCfg then s.gov.flash else s.gov.flash ++ [.prailCfg])) ∧
    (∀ v : Word, ∃ t, exec (.fltCfgWrite v) s = .next t ∧
      (s.lifecycle = 2 ∧ bitsAt v.toNat 4 1 ≠ s.rd F.FLT_CFG.C3_EXIT → s.Frame t [] []) ∧
      (s.lifecycle ≠ 2 ∨ bitsAt v.toNat 4 1 = s.rd F.FLT_CFG.C3_EXIT → t.rd F.FLT_CFG.PIN_CLASS = bitsAt v.toNat 0 3 ∧
        t.rd F.FLT_CFG.C3_EXIT = bitsAt v.toNat 4 1 ∧ t.rd F.FLT_CFG.LOG_ALL = bitsAt v.toNat 8 1 ∧ t.on F.FLT_CFG.STORED = false ∧
        s.Frame t [A.FLT_CFG] [.gov] ∧
        t.gov.flash = (if s.gov.flash.contains .fltCfg then s.gov.flash else s.gov.flash ++ [.fltCfg]))) ∧
    (∃ t, exec .roleSave s = .next t ∧ t.on F.ZLP_ROLE.STORED = false ∧ s.Frame t [A.ZLP_ROLE] [.gov] ∧ (∀ p, t.role p = s.role p) ∧
      t.gov.flash = (if s.gov.flash.contains .zlpRole then s.gov.flash else s.gov.flash ++ [.zlpRole])) ∧
    (∀ v : Word, ∃ t, exec (.portRoleWrite v) s = .next t ∧ (∀ p : Port, t.role p = bitsAt v.toNat (2 * p.val) 2) ∧
      s.Frame t ([A.ZLP_ROLE] ++ linkRegs ++ [0, 1, 2, 3].map A.LNK_PAT_CFG) [.lnk, .zlp, .flt, .gov, .cmd] ∧
      (∀ p : Port, s.role p = bitsAt v.toNat (2 * p.val) 2 → t.reg (A.LNK_STAT p.val) = s.reg (A.LNK_STAT p.val)) ∧
      (∀ p : Port, s.role p ≠ bitsAt v.toNat (2 * p.val) 2 → t.rd (F.LNK_STAT.DOWN_CAUSE p.val) = 6 ∧
        t.rd (F.LNK_CNT.DOWNS p.val) = s.rd (F.LNK_CNT.DOWNS p.val) ∧
        (bitsAt v.toNat (2 * p.val) 2 ≠ 0 → s.lnkClk = true → s.lnk.ports.length = 4 → 2 ≤ s.portState p.val → s.portState p.val ≤ 4 →
          t.rd (F.LNK_STAT.LAST_FAIL p.val) = s.portState p.val - 1) ∧
        (bitsAt v.toNat (2 * p.val) 2 = 0 → t.portState p.val = 0) ∧
        (bitsAt v.toNat (2 * p.val) 2 ≠ 0 → s.lnkClk = true → t.portState p.val = 1)) ∧
      (v.getLsbD 8 = true → t.on F.ZLP_ROLE.STORED = false ∧ t.gov.flash.contains .zlpRole = true) ∧
      (v.getLsbD 8 = false → t.on F.ZLP_ROLE.STORED = s.on F.ZLP_ROLE.STORED ∧ t.gov.flash = s.gov.flash)) ∧
    (∀ (w : FlashJob) (rest : List FlashJob), s.gov.flash = w :: rest → w.isConf = true → s.inFlight w = true →
      s.noChannel = false → ∃ t, exec .configStoreDone s = .next t ∧
      t.flash = { s.flashDone.flash with conf := s.confWith w } ∧ (s.sys.lifeDue = none → s.flashDone.flash = s.flash) ∧ t.gov.flash = rest ∧ t.gov.flashDue = s.gov.flashDue.drop 1 ∧
      (s.gov.flashDue.length ≤ 1 → t.gov.jobs = s.gov.jobs.set jobFlash {}) ∧
      s.Frame t ([A.FMC_ORDER, A.ZLP_ROLE, A.FLT_CFG, A.SYS_PRAIL_CFG] ++ channelRegs) ([.flash, .gov, .tun, .sys] ++ channelParts) ∧
      (w = .fmcOrder → t.on F.FMC_ORDER.STORED = true ∧ t.rd F.FMC_ORDER.ORDER = s.rd F.FMC_ORDER.ORDER ∧
        t.flash.conf.fmcOrder = some (some (s.rd F.FMC_ORDER.NEXT))) ∧
      (w = .fltCfg → t.on F.FLT_CFG.STORED = true ∧ t.flash.conf.fltCfg = some (some (s.reg A.FLT_CFG).toNat)) ∧
      (w = .zlpRole → t.on F.ZLP_ROLE.STORED = true) ∧ (w = .prailCfg → t.on F.SYS_PRAIL_CFG.STORED = true) ∧
      (w = .tuning → t.tun = { s.tun with storedAt := some s.now })) ∧
    ((∀ w, s.gov.flash.head? = some w → w.isConf = false ∨ s.inFlight w = false ∨ s.noChannel = true) → ∃ t, exec .configStoreDone s = .next t ∧ s.Frame t [] [])

/-- A frame that a port receives in columns goes out on every transmitter it feeds: at equal rate and width its bytes in its
columns, skip pairs and all (an empty container on the up output with the oldest upstream frame), with a comma column behind a
frame cut short, and a stripped frame as comma columns alone; else whole, unless stripped, into the 64 KiB buffer, which drops
it with fault 0x35 when full. A stripped frame counts, and a cut one counts as BAD where the device takes it; whole TIME frames
are no matter of this row. A converted transmitter sends its oldest frame, a TIME frame with its residence, and an empty
container on the up output with the oldest upstream frame that fits. (That an upstream frame in a container cut short goes with
it is the model's choice, log entry 100.) An upstream frame joins the merge buffer of 16, or is dropped. The merging up output
sends the next queue's frame while it has credit. A local TIME frame carries its time, its sender and a sequence number that
rises by one. An idle run loses a column where two remain, or gains one. Nothing else changes. (10_zhelan_link.md R238,
10_zhelan_link.md R239, 10_zhelan_link.md R245, 10_zhelan_link.md R246, 10_zhelan_link.md R247, 10_zhelan_link.md R249,
10_zhelan_link.md R251, 10_zhelan_link.md R252, 10_zhelan_link.md R254, 10_zhelan_link.md R255, 10_zhelan_link.md R256,
09_serial_lanes.md R218) -/
def Obligations.FramesForwarded : Prop :=
  ∀ s : State, s.undef = false → s.zlp.ports.length = 4 →
    (∀ (n : Nat) (v : State) (p : Port) (cols : List Column), v = s.advance n → v.portActive p = false ∨ v.quarantined p = true ∨ parseColumns cols = [] →
      ∃ t, exec (.frameForward n p cols) s = .next t ∧ v.Frame t [] []) ∧
    (∀ (n : Nat) (v : State) (p : Port) (cols : List Column) (f : RxFrame), v = s.advance n → v.portActive p = true → v.quarantined p = false → parseColumns cols = [f] →
      frameType f.bytes = 0x40 → f.whole = true → ∃ t, exec (.frameForward n p cols) s = .next t ∧ v.Frame t [] []) ∧
    (∀ (n : Nat) (v : State) (p : Port) (cols : List Column) (f : RxFrame) (strip : Bool) (cut : List Column), v = s.advance n → v.portActive p = true → v.quarantined p = false →
      parseColumns cols = [f] → ¬(frameType f.bytes = 0x40 ∧ f.whole = true) → strip = v.strips p f.bytes →
      cut = (if f.whole then [] else [Column.comma]) →
      ∃ t, exec (.frameForward n p cols) s = .next t ∧
        v.Frame t (A.ZLP_CNT :: [0, 1, 2, 3].flatMap (fun o => [A.ZLP_PORT_STAT o, A.ZLP_PORT_CNT o] ++
          [0, 1, 2, 3].map (A.LNK_LSTAT o))) [.zlp, .flt, .cmd, .lnk] ∧
        (frameType f.bytes ≠ 0x50 → t.cmd = v.cmd) ∧
        t.rd F.ZLP_CNT.STRIPPED = (if strip then min 0xFFFF (v.rd F.ZLP_CNT.STRIPPED + 1) else v.rd F.ZLP_CNT.STRIPPED) ∧
        t.rd (F.ZLP_PORT_CNT.BAD p.val) = (if f.whole = false ∧ v.takesFrame p f.bytes = true
          then min 0xFFFF (v.rd (F.ZLP_PORT_CNT.BAD p.val) + 1) else v.rd (F.ZLP_PORT_CNT.BAD p.val)) ∧
        ∀ o : Port,
          (frameType f.bytes ≠ 0x50 → v.sourceOf o ≠ some p ∨ v.portActive o = false ∨ v.quarantined o = true →
            t.zport o.val = v.zport o.val) ∧
          (v.sourceOf o = some p → v.portActive o = true → v.quarantined o = false →
            (v.sameSpeed o p = true → strip = true → (t.zport o.val).tx = stripColumns f.cols ++ cut) ∧
            (v.sameSpeed o p = true → strip = false → frameType f.bytes ≠ 0x50 → (t.zport o.val).tx = refill f.cols f.bytes ++ cut) ∧
            (v.sameSpeed o p = true → frameType f.bytes = 0x50 → v.upOutput = some o → v.zlp.turn = 0 →
              ∀ r rest, v.cmd.replies = r :: rest → (replyFrame r).length ≤ 4128 →
                (t.zport o.val).tx = refill f.cols (fillContainer (replyFrame r)) ++ cut ∧ t.cmd = v.replySent.cmd) ∧
            (v.sameSpeed o p = false → strip = true ∨ (f.whole = false ∧ storedBytes (v.zport o.val).conv ≤ 59376) →
              (t.zport o.val).conv = (v.zport o.val).conv) ∧
            (v.sameSpeed o p = false → strip = false → f.whole = true → storedBytes (v.zport o.val).conv ≤ 59376 →
              (t.zport o.val).conv = (v.zport o.val).conv ++ [⟨f.bytes, p.val, v.lt⟩]) ∧
            (v.sameSpeed o p = false → strip = false → 59376 < storedBytes (v.zport o.val).conv →
              (t.zport o.val).conv = (v.zport o.val).conv ∧ ⟨0x35, 0, 0, 0, false, v.now⟩ ∈ t.flt.inbox ∧
              t.rd (F.ZLP_PORT_CNT.DROPS o.val) = min 0xFFFF (v.rd (F.ZLP_PORT_CNT.DROPS o.val) + 1)))) ∧
    (∀ (n : Nat) (p : Port), s.rd (F.ZLP_PORT_STAT.TX_MODE p.val) ≠ 2 ∨ (s.zport p.val).conv = [] →
      ∃ t, exec (.convertedFrameSend n p) s = .next t ∧ (s.advance n).Frame t [] []) ∧
    (∀ (n : Nat) (p : Port) (x : Stored) (rest : List Stored) (w : Nat), s.rd (F.ZLP_PORT_STAT.TX_MODE p.val) = 2 →
      (s.zport p.val).conv = x :: rest → w = s.rd (F.LNK_STAT.WIDTH p.val) →
      frameType x.bytes ≠ 0x50 ∨ s.on (F.ZLP_PORT_STAT.UP_OUT p.val) = false → ∃ t, exec (.convertedFrameSend n p) s = .next t ∧
        (t.zport p.val).conv = rest ∧ (frameType x.bytes ≠ 0x40 → (t.zport p.val).tx = sendColumns w x.bytes) ∧
        (frameType x.bytes = 0x40 → (t.zport p.val).tx = sendColumns w (timeBytes ((s.advance n).rewriteTime (quadOf x.source) p x.at_
          (s.advance n).lt (timeOf x.bytes)))) ∧ (s.advance n).Frame t [] [.zlp]) ∧
    (∀ (n : Nat) (p : Port) (x : Stored) (rest : List Stored) (w : Nat) (v : State), v = s.advance n → s.rd (F.ZLP_PORT_STAT.TX_MODE p.val) = 2 →
      (s.zport p.val).conv = x :: rest → w = s.rd (F.LNK_STAT.WIDTH p.val) →
      frameType x.bytes = 0x50 → s.on (F.ZLP_PORT_STAT.UP_OUT p.val) = true → ∃ t, exec (.convertedFrameSend n p) s = .next t ∧
        (t.zport p.val).conv = rest ∧ v.Frame t [] [.zlp, .cmd] ∧
        (v.upQueues.find? (fun e => decide (e.2.length ≤ 4128)) = none →
          (t.zport p.val).tx = sendColumns w x.bytes ∧ t.cmd = v.cmd ∧ t.zlp.turn = v.zlp.turn) ∧
        (∀ i inner, v.upQueues.find? (fun e => decide (e.2.length ≤ 4128)) = some (i, inner) →
          (t.zport p.val).tx = sendColumns w (fillContainer inner) ∧ t.zlp.turn = (i + 1) % 5 ∧
          (i = 0 → t.cmd = v.replySent.cmd) ∧
          (∀ m : Port, i = m.val + 1 → t.cmd = v.cmd ∧ (t.zport m.val).merge = (v.zport m.val).merge.tail ∧
            (t.zport m.val).freedOut = ((v.zport m.val).freedOut + 1) % 256))) ∧
    (∀ (p : Port) (b : List Byte), ∃ t, exec (.upstreamFrameReceive p b) s = .next t ∧
      (s.takesUpstream p = false → s.Frame t [] []) ∧
      (s.takesUpstream p = true → (s.zport p.val).merge.length < 16 → s.Frame t [] [.zlp] ∧
        t.zlp = { s.zlp with ports := s.zlp.ports.set p.val { s.zport p.val with merge := (s.zport p.val).merge ++ [b] } }) ∧
      (s.takesUpstream p = true → 16 ≤ (s.zport p.val).merge.length → s.Frame t [A.ZLP_PORT_CNT p.val] [.flt] ∧
        t.rd (F.ZLP_PORT_CNT.DROPS p.val) = min 0xFFFF (s.rd (F.ZLP_PORT_CNT.DROPS p.val) + 1) ∧
        t.flt.inbox = s.flt.inbox ++ [⟨0x35, 0, 0, 0, false, s.now⟩])) ∧
    ((∀ p, s.upOutput = some p → s.rd (F.ZLP_PORT_STAT.TX_MODE p.val) ≠ 3 ∨ s.on (F.ZLP_PORT_STAT.UP_OUT p.val) = false ∨
        s.creditOf p.val = 0 ∨ s.upQueues = []) → ∃ t, exec .mergeFrameSend s = .next t ∧ s.Frame t [] []) ∧
    (∀ (p : Port) (n : Nat) (b : List Byte) (rest : List (Nat × List Byte)), s.upOutput = some p → s.rd (F.ZLP_PORT_STAT.TX_MODE p.val) = 3 →
      s.on (F.ZLP_PORT_STAT.UP_OUT p.val) = true → 0 < s.creditOf p.val → s.upQueues = (n, b) :: rest →
      ∃ t, exec .mergeFrameSend s = .next t ∧
        s.Frame t (A.ZLP_PORT_STAT p.val :: [0, 1, 2, 3].map (A.LNK_LSTAT p.val)) [.zlp, .cmd, .lnk] ∧
        (t.zport p.val).tx = sendColumns (s.rd (F.LNK_STAT.WIDTH p.val)) b ∧ t.zlp.turn = (n + 1) % 5 ∧
        (t.zport p.val).sent = ((s.zport p.val).sent + 1) % 256 ∧ t.rd (F.ZLP_PORT_STAT.CREDIT p.val) = t.creditOf p.val ∧
        (n = 0 → t.cmd = s.replySent.cmd) ∧
        (∀ m : Port, n = m.val + 1 → t.cmd = s.cmd ∧ (t.zport m.val).merge = (s.zport m.val).merge.tail ∧
          (t.zport m.val).freedOut = ((s.zport m.val).freedOut + 1) % 256)) ∧
    (∀ (n : Nat) (p : Port), s.rd (F.ZLP_PORT_STAT.TX_MODE p.val) = 3 → ∃ t f, exec (.localTimeFrameSend n p) s = .next t ∧
      (t.zport p.val).tx = sendColumns (s.rd (F.LNK_STAT.WIDTH p.val)) (timeBytes f) ∧ timeValid f = true ∧ isLocal f = true ∧
      f.tTx.toNat = (s.advance n).lt ∧ f.senderId.toNat = s.deviceId % 2 ^ 24 ∧ f.seq.toNat = (s.zport p.val).seq % 2 ^ 16 ∧
      f.streamId = 0 ∧ f.hops = 0 ∧ f.rootTime = 0 ∧ f.corr = 0 ∧ (t.zport p.val).seq = ((s.zport p.val).seq + 1) % 2 ^ 16 ∧
      (s.advance n).Frame t ([0, 1, 2, 3].map (A.LNK_LSTAT p.val)) [.zlp, .lnk]) ∧
    (∀ (n : Nat) (p : Port), s.rd (F.ZLP_PORT_STAT.TX_MODE p.val) ≠ 3 → ∃ t, exec (.localTimeFrameSend n p) s = .next t ∧
      (s.advance n).Frame t [] []) ∧
    (∀ (p : Port) (run : Nat), ∃ t u, exec (.recentre p true run) s = .next t ∧ exec (.recentre p false run) s = .next u ∧
      (t.zport p.val).idleRun = (if 3 ≤ run then run - 1 else run) ∧ (u.zport p.val).idleRun = run + 1 ∧
      s.Frame t [] [.zlp] ∧ s.Frame u [] [.zlp])

/-- A TIME frame with a bad check value counts as BAD and breaks the port's run. A good one gives credit and echo; on an up port
without LOCAL it lengthens the run, the fourth makes the stream valid, and the first valid stream is selected with the time base
in ACQUIRE. A valid stream that brings none for LOSS microseconds ceases: if it was selected, the other valid stream is selected
(counted, fault 0x30), or with none the selection is LOST (fault 0x31) and a running time base holds over. A read of ZLP_TIME_LO
latches the upper word. Nothing else changes. (10_zhelan_link.md R256, 10_zhelan_link.md R259, 10_zhelan_link.md R261,
10_zhelan_link.md R262, 10_zhelan_link.md R263, 10_zhelan_link.md R266, 10_zhelan_link.md R267, 10_zhelan_link.md R270) -/
def Obligations.TimeAndStreams : Prop :=
  ∀ s : State, s.undef = false → s.zlp.ports.length = 4 →
    (∀ (n : Nat) (p : Port) (f : TimeFrame) (res : Nat), ∃ t, exec (.timeFrameReceive n p f res) s = .next t ∧
      (s.portActive p = false ∨ s.quarantined p = true → (s.advance n).Frame t [] []) ∧
      (s.portActive p = true → s.quarantined p = false →
        (s.advance n).Frame t (linkRegs ++ [A.ZLP_TIME_ERR, A.ZLP_PATH, A.ZLP_PORT_DELAY p.val] ++ [0, 1, 2, 3].map A.ZLP_PORT_CNT)
          [.zlp, .flt, .lnk] ∧
        (timeValid f = false → (t.zport p.val).run = 0 ∧
          t.rd (F.ZLP_PORT_CNT.BAD p.val) = min 0xFFFF (s.rd (F.ZLP_PORT_CNT.BAD p.val) + 1) ∧ t.lt = (s.advance n).lt) ∧
        (timeValid f = true → (t.zport p.val).freedIn = f.freed.toNat ∧
          (t.zport p.val).echo = some (f.tTx.toNat, (s.advance n).lt) ∧
          (isLocal f = true ∨ (s.role p ≠ 1 ∧ s.role p ≠ 2) → (t.zport p.val).run = (s.zport p.val).run ∧ t.lt = (s.advance n).lt ∧
            t.streamValid p = s.streamValid p) ∧
          (isLocal f = false → s.role p = 1 ∨ s.role p = 2 → (t.zport p.val).run = (s.zport p.val).run + 1 ∧
            (t.zport p.val).lastAt = (s.advance n).now ∧ (t.zport p.val).streamId = f.streamId.toNat ∧
            t.streamValid p = (s.streamValid p || decide (3 ≤ (s.zport p.val).run)) ∧
            (s.streamValid p = false → 3 ≤ (s.zport p.val).run → s.selState = 0 →
              t.selState = s.selCode p ∧ t.selPort = some p ∧ (s.rd F.ZLP_TIME_STAT.STATE = 0 → t.rd F.ZLP_TIME_STAT.STATE = 1)))))) ∧
    (∀ (n : Nat) (p : Port), ∃ t, exec (.streamLossTimeout n p) s = .next t ∧
      (s.streamValid p = false ∨ (s.advance n).now < (s.zport p.val).lastAt + s.lossTime → (s.advance n).Frame t [] []) ∧
      (s.streamValid p = true → (s.zport p.val).lastAt + s.lossTime ≤ (s.advance n).now →
        t.streamValid p = false ∧ (t.zport p.val).run = 0 ∧ (s.advance n).Frame t linkRegs [.zlp, .flt, .lnk] ∧
        (¬(s.selPort = some p ∧ s.selected = true) → t.selState = s.selState ∧ t.selPort = s.selPort) ∧
        (s.selPort = some p → s.selected = true →
          (∀ o, s.upStream (if s.role p = 2 then 1 else 2) = some o → o ≠ p → t.selPort = some o ∧ t.selState = s.selCode o ∧
            t.rd F.ZLP_CNT_SEL.SWITCHES = min 0xFFFF (s.rd F.ZLP_CNT_SEL.SWITCHES + 1) ∧
            ⟨0x30, 1, 0, 0, false, (s.advance n).now⟩ ∈ t.flt.inbox) ∧
          (s.upStream (if s.role p = 2 then 1 else 2) = none → t.selState = 3 ∧
            ⟨0x31, 2, 0, 0, false, (s.advance n).now⟩ ∈ t.flt.inbox ∧
            (s.rd F.ZLP_TIME_STAT.STATE = 1 ∨ s.rd F.ZLP_TIME_STAT.STATE = 2 → t.rd F.ZLP_TIME_STAT.STATE = 3))))) ∧
    (∃ t, exec .timeLoRead s = .next t ∧ t.zlp = { s.zlp with hiLatch := s.lt / 2 ^ 32 } ∧ s.Frame t [] [.zlp])

/-- A packet not for the device changes nothing. One that is counts in TAKEN and meets the first test that fails: too long
(RANGE 10), bad CRC (CHECK_FAIL 1, counted, fault 0x38), inconsistent (counted, fault 0x36, no reply), a cached tag (its reply
again with DUP, counted), a tag still executing (counted, no reply), 32 places taken (BUSY, counted, fault 0x39), an unknown
opcode (BAD_OPCODE, counted), RETIRED (DENIED 1). The row BAD_OPCODE with a listed opcode changes nothing. PING returns its
payload, IDENTIFY its 24 bytes, and the same PING again is a duplicate with the same reply. Nothing but command state, its
counters and the collector's inbox changes. (11_command_packets.md R277, 11_command_packets.md R280, 11_command_packets.md R281,
11_command_packets.md R282, 11_command_packets.md R283, 11_command_packets.md R284, 11_command_packets.md R286,
11_command_packets.md R293, 20_start_up.md R456) -/
def Obligations.PacketAcceptance : Prop :=
  ∀ (s : State) (r : Request), s.undef = false →
    (∃ t, exec (.ping r) s = .next t ∧ s.Frame t [A.CMD_CNT_RX, A.CMD_CNT_REF, A.ZLP_CNT] [.cmd, .flt] ∧
      (s.gate 0x01 r = .notTaken → s.Frame t [] []) ∧
      (s.gate 0x01 r ≠ .notTaken → t.rd F.CMD_CNT_RX.TAKEN = min 0xFFFF (s.rd F.CMD_CNT_RX.TAKEN + 1)) ∧
      (s.gate 0x01 r = .tooLong → s.Answered t 0x01 r (.range 10) ∧ t.flt = s.flt) ∧
      (s.gate 0x01 r = .badCrc → s.Answered t 0x01 r (.checkFail 1) ∧ t.cmd.cache = s.cmd.cache ∧
        t.rd F.CMD_CNT_RX.CHECK_FAIL = min 0xFFFF (s.rd F.CMD_CNT_RX.CHECK_FAIL + 1) ∧
        t.flt.inbox = s.flt.inbox ++ [⟨0x38, 0, 0, 0, false, s.now⟩]) ∧
      (s.gate 0x01 r = .inconsistent → t.cmd = s.cmd ∧ t.rd F.ZLP_CNT.INCONSISTENT = min 0xFFFF (s.rd F.ZLP_CNT.INCONSISTENT + 1) ∧
        t.flt.inbox = s.flt.inbox ++ [⟨0x36, 0, 0, 0, false, s.now⟩]) ∧
      (∀ p, s.gate 0x01 r = .duplicate p → t.rd F.CMD_CNT_REF.DUP = min 0xFF (s.rd F.CMD_CNT_REF.DUP + 1) ∧
        t.cmd = { s.cmd with replies := s.cmd.replies ++ (if r.replyReq then [{ p with dup := true }] else []) } ∧ t.flt = s.flt) ∧
      (s.gate 0x01 r = .inProgress → t.cmd = s.cmd ∧ t.rd F.CMD_CNT_REF.DUP = min 0xFF (s.rd F.CMD_CNT_REF.DUP + 1) ∧ t.flt = s.flt) ∧
      (s.gate 0x01 r = .full → s.Answered t 0x01 r (.busy 0) ∧ t.cmd.cache = s.cmd.cache ∧
        t.rd F.CMD_CNT_REF.BUSY = min 0xFF (s.rd F.CMD_CNT_REF.BUSY + 1) ∧
        t.flt.inbox = s.flt.inbox ++ [⟨0x39, 0, 0, 0, false, s.now⟩]) ∧
      (s.gate 0x01 r = .run → s.Answered t 0x01 r (.ok r.payload) ∧ t.cmd.places = s.cmd.places ∧
        t.gate 0x01 r = .duplicate (s.replyOf 0x01 r (.ok r.payload)))) ∧
    (∃ t, exec (.identify r) s = .next t ∧ s.Frame t [A.CMD_CNT_RX, A.CMD_CNT_REF, A.ZLP_CNT] [.cmd, .flt] ∧
      (s.gate 0x7F r = .run → r.payload = [] → s.Answered t 0x7F r (.ok s.identity) ∧ s.identity.length = 24) ∧
      (s.gate 0x7F r = .run → r.payload ≠ [] → s.Answered t 0x7F r (.range 10))) ∧
    (∀ op : Byte, op.toNat ∉ opcodes → ∃ t, exec (.badOpcode op r) s = .next t ∧
      s.Frame t [A.CMD_CNT_RX, A.CMD_CNT_REF, A.ZLP_CNT] [.cmd, .flt] ∧
      (s.gate op.toNat r = .badOpcode → s.Answered t op.toNat r .badOpcode ∧
        t.rd F.CMD_CNT_REF.BAD_OPCODE = min 0xFF (s.rd F.CMD_CNT_REF.BAD_OPCODE + 1))) ∧
    (∀ op : Byte, op.toNat ∈ opcodes → ∃ t, exec (.badOpcode op r) s = .next t ∧ s.Frame t [] []) ∧
    (∀ n : Nat, ∃ t, exec (.commit n r) s = .next t ∧ ((s.advance n).gate 0x05 r = .denied → (s.advance n).Answered t 0x05 r (.denied 1) ∧
      (s.advance n).Frame t [A.CMD_CNT_RX, A.CMD_CNT_REF] [.cmd, .flt]))

/-- READ_REG answers its registers' values, ascending, and clears their RC fields. WRITE_REG and MODIFY_REG of a register in a
block of plain registers (sensing, governor, Reed line, tuning, update) write each RW field, clear W1C bits written as one, and
leave RO fields; MODIFY_REG answers the old value. The firmware's reads and writes do the same. A locked register is DENIED 2,
before a range error is RANGE, before an unclocked block is NOT_READY, with nothing written or cleared. An access of a command,
of an OVERLAY_SET or of the service port that has had no answer for REG_TO ends it in TIMEOUT with the access's address and
fault 0x3B: what it did before stays done, and the rest is not done; so does one of a PATTERN_TEST, whose pattern then runs on,
or of an EYE_SCAN, whose lane is then free. Nothing else changes. That a range above the registers is RANGE 12 and DENIED is
judged before it, that the first tested write of a source uses up its unlock, and that firmware writes pass no test of rights
are the model's reading (log entries 45, 46, 55). (00_scope.md R8, 00_scope.md R10, 01_architecture.md R21,
11_command_packets.md R284, 11_command_packets.md R285, 11_command_packets.md R287) -/
def Obligations.RegisterCommands : Prop :=
  ∀ (s : State) (n : Nat), s.undef = false →
    (∀ r : Request, (s.advance n).gate 0x02 r = .run → ∃ t, exec (.readReg n r) s = .next t ∧
      (s.advance n).Frame t ([A.CMD_CNT_RX, A.CMD_CNT_REF, A.CHK_SCAN_ADDR, A.CHK_SCAN_VALUE] ++ dramRegs ++ addrs r.arg.toNat (pWord r 0))
        [.cmd, .flt, .freeNo, .chk, .zlp, .fmc] ∧
      (∀ d, readRange r = some d → (s.advance n).Answered t 0x02 r (.range d) ∧
        (s.advance n).Frame t [A.CMD_CNT_RX, A.CMD_CNT_REF] [.cmd, .flt]) ∧
      (∀ b, readRange r = none → s.unclocked (addrs r.arg.toNat (pWord r 0)) = some b →
        (s.advance n).Answered t 0x02 r (.notReady b) ∧ (s.advance n).Frame t [A.CMD_CNT_RX, A.CMD_CNT_REF] [.cmd, .flt]) ∧
      (readRange r = none → s.unclocked (addrs r.arg.toNat (pWord r 0)) = none →
        (∀ vs, (State.readRegs 1 (pWord r 0) r.arg.toNat ((s.advance n).taken r)).1 = vs → vs.length = pWord r 0 ∧
          (s.advance n).Answered t 0x02 r (.ok (vs.flatMap (leBytes 4)))) ∧
        ∀ a f, a ∈ addrs r.arg.toNat (pWord r 0) → f ∈ fieldsAt a → f.acc = .rc → bitsAt (t.reg a).toNat f.lo f.len = 0)) ∧
    (∀ a : Word, a.toNat % 4 = 0 → s.clocked a.toNat = true → ∃ t, exec (.registerReadClear a) s = .next t ∧
      s.Frame t ([a.toNat, A.CHK_SCAN_ADDR, A.CHK_SCAN_VALUE] ++ dramRegs) [.freeNo, .chk, .zlp, .fmc] ∧
      ∀ f ∈ fieldsAt a.toNat, f.acc = .rc → bitsAt (t.reg a.toNat).toNat f.lo f.len = 0) ∧
    (∀ a v : Word, a.toNat % 4 ≠ 0 ∨ s.clocked a.toNat = false → ∃ t u, exec (.registerReadClear a) s = .next t ∧
      exec (.registerWrite a v) s = .next u ∧ s.Frame t [] [] ∧ s.Frame u [] []) ∧
    (∀ (a v : Nat) (w : Word), a / 0x10000 ∈ [8, 9, 12, 17, 18] → a % 4 = 0 → v < 2 ^ 32 →
      w = BitVec.ofNat 32 (storeFields (s.reg a).toNat v (fieldsAt a)) →
      (∀ f ∈ fieldsAt a, (f.acc = .rw ∨ f.acc = .rws ∨ f.acc = .rwi → bitsAt w.toNat f.lo f.len = bitsAt v f.lo f.len) ∧
        (f.acc = .w1c → bitsAt w.toNat f.lo f.len = bitsAt (s.reg a).toNat f.lo f.len
          - Nat.land (bitsAt (s.reg a).toNat f.lo f.len) (bitsAt v f.lo f.len)) ∧
        (f.acc = .ro ∨ f.acc = .rc → bitsAt w.toNat f.lo f.len = bitsAt (s.reg a).toNat f.lo f.len)) ∧
      (s.clocked a = true → ∃ t, exec (.registerWrite (BitVec.ofNat 32 a) (BitVec.ofNat 32 v)) s = .next t ∧ t.reg a = w ∧ s.Frame t [a] []) ∧
      (∀ r : Request, (s.advance n).gate 0x03 r = .run → r.arg.toNat = a → r.payload = leBytes 4 v → s.clocked a = true →
        ∃ t, exec (.writeReg n r) s = .next t ∧ (s.advance n).Answered t 0x03 r (.ok []) ∧ t.reg a = w ∧
          (s.advance n).Frame t [a, A.CMD_CNT_RX, A.CMD_CNT_REF] [.cmd, .flt, .saf]) ∧
      (∀ r : Request, (s.advance n).gate 0x04 r = .run → r.arg.toNat = a → modifyRange r = none → s.clocked a = true →
        openField a = false → v = modifyValue r (((s.advance n).taken r).view 1 0 a) →
        ∃ t, exec (.modifyReg n r) s = .next t ∧ (s.advance n).Answered t 0x04 r (.ok (leBytes 4 (((s.advance n).taken r).view 1 0 a))) ∧ t.reg a = w ∧
          (s.advance n).Frame t [a, A.CMD_CNT_RX, A.CMD_CNT_REF] [.cmd, .flt, .saf])) ∧
    (∀ r : Request, ∃ t u, exec (.writeReg n r) s = .next t ∧ exec (.modifyReg n r) s = .next u ∧
      (∀ d, (s.advance n).gate 0x03 r = .run →
        (s.advance n).accessTest ((writeList r).any ((s.advance n).writeLocked (some r.src.toNat))) (writeRange r) ((writeList r).map (·.1)) = some d →
        (s.advance n).Answered t 0x03 r d ∧ (s.advance n).Frame t [A.CMD_CNT_RX, A.CMD_CNT_REF] [.cmd, .flt, .saf]) ∧
      (∀ d, (s.advance n).gate 0x04 r = .run →
        ((s.advance n).taken r).accessTest (r.payload.length == 8 && ((s.advance n).taken r).writeLocked (some r.src.toNat)
          (r.arg.toNat, modifyValue r (((s.advance n).taken r).view 1 0 r.arg.toNat))) (modifyRange r) [r.arg.toNat] = some d →
        (s.advance n).Answered u 0x04 r d ∧ (s.advance n).Frame u [A.CMD_CNT_RX, A.CMD_CNT_REF] [.cmd, .flt, .saf])) ∧
    (∀ (locked : Bool) (range : Option Nat) (l : List Nat), s.accessTest locked range l =
      (if locked then some (.denied 2) else match range with
        | some d => some (.range d)
        | none => (s.unclocked l).map Answer.notReady)) ∧
    (∀ (op : RegOp) (r : Request) (i began : Nat), (accesses op r)[i]? = none ∨ (s.advance n).now < began + us (max 1 (s.rd F.CMD_CFG.REG_TO)) →
      ∃ t, exec (.regAccessTimeout n op r ⟨began, i⟩) s = .next t ∧ (s.advance n).Frame t [] []) ∧
    (∀ (op : RegOp) (r : Request) (i began a : Nat), began + us (max 1 (s.rd F.CMD_CFG.REG_TO)) ≤ (s.advance n).now → (accesses op r)[i]? = some a →
      ∃ t, exec (.regAccessTimeout n op r ⟨began, i⟩) s = .next t ∧
      (op = .read → (s.advance n).gate 0x02 r = .run → (s.advance n).accessTest false (readRange r) (addrs r.arg.toNat (pWord r 0)) = none →
        (s.advance n).Answered t 0x02 r (.timeout a) ∧ ⟨0x3B, 0, 0, 0, false, (s.advance n).now⟩ ∈ t.flt.inbox ∧
        (s.advance n).Frame t ([A.CMD_CNT_RX, A.CMD_CNT_REF, A.CHK_SCAN_ADDR, A.CHK_SCAN_VALUE] ++ dramRegs ++ addrs r.arg.toNat i)
          [.cmd, .flt, .freeNo, .chk, .zlp, .fmc]) ∧
      (op = .write → (s.advance n).gate 0x03 r = .run →
        (s.advance n).accessTest ((writeList r).any ((s.advance n).writeLocked (some r.src.toNat))) (writeRange r) ((writeList r).map (·.1)) = none →
        (s.advance n).Answered t 0x03 r (.timeout a) ∧ ⟨0x3B, 0, 0, 0, false, (s.advance n).now⟩ ∈ t.flt.inbox ∧
        ((∀ e ∈ (writeList r).take i, e.1 / 0x10000 ∈ [8, 9, 12, 17, 18]) →
          (s.advance n).Frame t ([A.CMD_CNT_RX, A.CMD_CNT_REF] ++ ((writeList r).take i).map (·.1)) [.cmd, .flt, .saf] ∧
          ∀ e ∈ (writeList r).take i, t.reg e.1 = BitVec.ofNat 32 (storeFields (s.reg e.1).toNat e.2 (fieldsAt e.1)))) ∧
      (op = .modify → (s.advance n).gate 0x04 r = .run →
        ((s.advance n).taken r).accessTest (r.payload.length == 8 && ((s.advance n).taken r).writeLocked (some r.src.toNat)
          (r.arg.toNat, modifyValue r (((s.advance n).taken r).view 1 0 r.arg.toNat))) (modifyRange r) [r.arg.toNat] = none →
        (s.advance n).Answered t 0x04 r (.timeout a) ∧ ⟨0x3B, 0, 0, 0, false, (s.advance n).now⟩ ∈ t.flt.inbox ∧
        (s.advance n).Frame t [A.CMD_CNT_RX, A.CMD_CNT_REF] [.cmd, .flt, .saf]) ∧
      (op = .overlay → (s.advance n).gate 0x30 r = .run → overlayRange r = none → s.pixClk = true →
        (s.advance n).Answered t 0x30 r (.timeout a) ∧ ⟨0x3B, 0, 0, 0, false, (s.advance n).now⟩ ∈ t.flt.inbox ∧
        (s.advance n).Frame t ([A.CMD_CNT_RX, A.CMD_CNT_REF] ++ ((overlayWrites r).take i).map (·.1)) [.cmd, .flt] ∧
        ∀ e ∈ (overlayWrites r).take i, t.reg e.1 = BitVec.ofNat 32 (storeFields (s.reg e.1).toNat e.2 (fieldsAt e.1))) ∧
      (op = .svcRead → s.svcServed = true → s.allPlaces = false → s.accessTest false (svcRange r.arg.toNat) [r.arg.toNat] = none →
        t.sys.svcOut.map (·.1) = some 6 ∧ ⟨0x3B, 0, 0, 0, false, (s.advance n).now⟩ ∈ t.flt.inbox ∧
        (s.advance n).Frame t [] [.flt, .sys, .freeNo]) ∧
      (op = .svcWrite → s.svcServed = true → s.allPlaces = false → s.lifecycle ≠ 2 → s.sys.monitor = false →
        (s.advance n).accessTest ((s.advance n).writeLocked none (r.arg.toNat, pWord r 0))
          (if badReg r.arg.toNat || bcMisuse [(r.arg.toNat, pWord r 0)] then some 12 else none) [r.arg.toNat] = none →
        t.sys.svcOut = some (6, 0) ∧ ⟨0x3B, 0, 0, 0, false, (s.advance n).now⟩ ∈ t.flt.inbox ∧ (s.advance n).Frame t [] [.flt, .sys, .saf]) ∧
      (op = .pattern → i = 0 → (s.advance n).gate 0x79 r = .run → r.payload.length = 12 → patternRange r = none →
        s.role (quadOf (pByte r 0)) = 0 → s.lnkClk = true →
        (s.advance n).Answered t 0x79 r (.timeout a) ∧ ⟨0x3B, 0, 0, 0, false, (s.advance n).now⟩ ∈ t.flt.inbox ∧
        (s.advance n).Frame t [A.CMD_CNT_RX, A.CMD_CNT_REF] [.cmd, .flt]) ∧
      (∀ x rest, op = .pattern → i ≠ 0 → s.cmd.places = x :: rest → x.op = 0x79 → x.answered = false → x.req = r →
        (s.lport (pByte r 0)).patAt + ms (pWord r 8) ≤ began →
        t.cmd = ((s.advance n).complete r.src.toNat r.tag.toNat (.timeout a)).cmd ∧
        t.flt.inbox = s.flt.inbox ++ [⟨0x3B, 0, 0, 0, false, (s.advance n).now⟩] ∧ (s.advance n).Frame t [] [.cmd, .flt]) ∧
      (op = .eye → i = 0 → s.lnk.eyes = [] → (s.advance n).gate 0x78 r = .run → r.payload.length = 12 → s.eyeScanRange r = none →
        s.lnkClk = true → (s.advance n).Answered t 0x78 r (.timeout a) ∧ ⟨0x3B, 0, 0, 0, false, (s.advance n).now⟩ ∈ t.flt.inbox ∧
        (s.advance n).Frame t [A.CMD_CNT_RX, A.CMD_CNT_REF] [.cmd, .flt]) ∧
      (∀ e p k, op = .eye → s.lnk.eyes = [e] → e.src = r.src.toNat → e.tag = r.tag.toNat → e.counts.length = i / 2 → e.started = true →
        e.port = p → e.lane = k →
        t.cmd = ((s.advance n).complete r.src.toNat r.tag.toNat (.timeout a)).cmd ∧
        t.flt.inbox = s.flt.inbox ++ [⟨0x3B, 0, 0, 0, false, (s.advance n).now⟩] ∧ t.lnk.eyes = [] ∧
        t.on (F.LNK_EYE_CFG.BUSY p k) = false ∧ (s.advance n).Frame t [A.LNK_EYE_CFG p k] [.cmd, .flt, .lnk, .gov]))

/-- A COMMIT takes CAPTURE_EN at once, lines the capture values up with the next frame, schedules the others, and sets
COMMIT_LATE with fault 0x5B exactly when the window has closed. An OVERLAY_SET without its commit bit writes exactly its plane
and palette registers; a bad field is RANGE with its offset and writes nothing. CHECK_REGION is refused for its range, clock or
a running scan, and otherwise holds its place while the engine shows BUSY and owner 3. At its end the engine is free, and a scan
without failed reads over memory whose content the spec gives answers, and leaves in CHK_SCAN_LAST, the CRC-32C of its bytes; a
failed one answers CHECK_FAIL 2. Nothing else changes. That every COMMIT lines up a capture entry and that a scan stops at its
first failed burst are the model's choice (log entries 85, 41). (02_canvas_and_presentation.md R69, 05_quadrant_scan.md R137,
11_command_packets.md R289, 17_check_values.md R400, 17_check_values.md R401) -/
def Obligations.CommitOverlayCheck : Prop :=
  ∀ (s : State) (n : Nat), s.undef = false →
    (∀ r : Request, (s.advance n).gate 0x05 r = .run → r.payload = [] → ∃ t, exec (.commit n r) s = .next t ∧
      (s.advance n).Answered t 0x05 r (.ok []) ∧
      (s.advance n).Frame t [A.CMD_CNT_RX, A.CMD_CNT_REF, A.SCN_STAT, A.HYB_STAT] [.cmd, .flt, .pix, .capRegs, .scn, .gov, .hyb] ∧
      t.cap F.PIX_CANVAS.CAPTURE_EN = s.rd F.PIX_CANVAS.CAPTURE_EN ∧
      t.pix = { s.pix with capDue := s.pix.capDue ++ [((s.advance n).now, s.lastWritten (s.commitAddrs.filter captureAddrs.contains))] } ∧
      ⟨s.windowClosed, .commit (s.lastWritten (s.commitAddrs.filter (fun a => !captureAddrs.contains a)))⟩ ∈ t.scn.due ∧
      (s.windowClosed = true → t.rd F.SCN_STAT.COMMIT_LATE = 1 ∧ ⟨0x5B, 0, 0, 0, false, (s.advance n).now⟩ ∈ t.flt.inbox) ∧
      (s.windowClosed = false → t.rd F.SCN_STAT.COMMIT_LATE = s.rd F.SCN_STAT.COMMIT_LATE)) ∧
    (∀ r : Request, (s.advance n).gate 0x05 r = .run → r.payload ≠ [] → ∃ t, exec (.commit n r) s = .next t ∧
      (s.advance n).Answered t 0x05 r (.range 10) ∧ (s.advance n).Frame t [A.CMD_CNT_RX, A.CMD_CNT_REF] [.cmd, .flt]) ∧
    (∀ r : Request, (s.advance n).gate 0x30 r = .run → ∃ t, exec (.overlaySet n r) s = .next t ∧
      (∀ d, overlayRange r = some d → (s.advance n).Answered t 0x30 r (.range d) ∧
        (s.advance n).Frame t [A.CMD_CNT_RX, A.CMD_CNT_REF] [.cmd, .flt]) ∧
      (overlayRange r = none → s.pixClk = false → (s.advance n).Answered t 0x30 r (.notReady 4) ∧
        (s.advance n).Frame t [A.CMD_CNT_RX, A.CMD_CNT_REF] [.cmd, .flt]) ∧
      (overlayRange r = none → s.pixClk = true → bitsAt (pByte r 1) 1 1 = 0 → (s.advance n).Answered t 0x30 r (.ok []) ∧
        (s.advance n).Frame t ([A.CMD_CNT_RX, A.CMD_CNT_REF] ++ (overlayWrites r).map (·.1)) [.cmd, .flt] ∧
        ∀ e ∈ overlayWrites r, t.reg e.1 = BitVec.ofNat 32 (storeFields (s.reg e.1).toNat e.2 (fieldsAt e.1))) ∧
      (overlayRange r = none → s.pixClk = true → bitsAt (pByte r 1) 1 1 = 1 → (s.advance n).Answered t 0x30 r (.ok []) ∧
        (s.advance n).Frame t ([A.CMD_CNT_RX, A.CMD_CNT_REF, A.SCN_STAT, A.HYB_STAT] ++ (overlayWrites r).map (·.1))
          [.cmd, .flt, .pix, .capRegs, .scn, .gov, .hyb] ∧
        (∃ vs, ⟨s.windowClosed, .commit vs⟩ ∈ t.scn.due) ∧
        ∀ e ∈ overlayWrites r, t.reg e.1 = BitVec.ofNat 32 (storeFields (s.reg e.1).toNat e.2 (fieldsAt e.1)))) ∧
    (∀ r : Request, s.gate 0x12 r = .run → r.payload.length = 4 → ∃ t, exec (.checkRegion r) s = .next t ∧
      (r.arg.toNat % 4 ≠ 0 → s.Answered t 0x12 r (.range 12) ∧ s.Frame t [A.CMD_CNT_RX, A.CMD_CNT_REF] [.cmd, .flt]) ∧
      (r.arg.toNat % 4 = 0 → 4 ≤ pWord r 0 → pWord r 0 ≤ 0x10000000 → pWord r 0 % 4 = 0 → readableSpan r.arg.toNat (pWord r 0) = true →
        (s.memClk = false → s.Answered t 0x12 r (.notReady 0xFFFF) ∧ t.chk = s.chk) ∧
        (s.memClk = true → s.chk.scan.isSome = true → s.Answered t 0x12 r (.busy 0) ∧ t.chk = s.chk) ∧
        (s.memClk = true → s.chk.scan = none → s.Held t 0x12 r ∧ t.rd F.CHK_SCAN_STAT.BUSY = 1 ∧ t.rd F.CHK_SCAN_STAT.OWNER = 3 ∧
          t.rd F.CHK_SCAN_ADDR.ADDR = r.arg.toNat ∧
          t.chk = { s.chk with scan := some ⟨r.src.toNat, r.tag.toNat, r.arg.toNat + pWord r 0, r.arg.toNat, 0xFFFFFFFF⟩ } ∧
          s.Frame t [A.CMD_CNT_RX, A.CMD_CNT_REF, A.CHK_SCAN_STAT, A.CHK_SCAN_ADDR, A.CHK_SCAN_VALUE] [.cmd, .flt, .chk]))) ∧
    (∀ res : BurstReads, s.chk.scan = none → ∃ t, exec (.checkRegionDone res) s = .next t ∧ s.Frame t [] []) ∧
    (∀ (x : Scan) (pl : Place) (rest : List Place) (res l : BurstReads), s.chk.scan = some x → s.cmd.places = pl :: rest →
      pl.waits x.src x.tag = true → l = upToFailed (burstsOf x.next (x.stop - x.next) res) → ∃ t, exec (.checkRegionDone res) s = .next t ∧
        t.chk = { s.chk with scan := none } ∧ t.rd F.CHK_SCAN_STAT.BUSY = 0 ∧ t.rd F.CHK_SCAN_STAT.OWNER = 0 ∧
        s.Frame t ([A.CHK_SCAN_STAT, A.CHK_SCAN_ADDR, A.CHK_SCAN_VALUE, A.CHK_SCAN_LAST, A.FMC_CNT_ERR, A.FMC_ERR_ADDR] ++ dramRegs)
          ([.chk, .cmd, .flt] ++ dramParts) ∧
        ((∃ e ∈ l, e.2 = .failed) → t.rd F.CHK_SCAN_LAST.CRC = s.rd F.CHK_SCAN_LAST.CRC ∧ t.cmd.replies = s.cmd.replies ++
          (if pl.req.replyReq then [replyUnder pl.id pl.op pl.req (.checkFail 2)] else [])) ∧
        ((∀ e ∈ l, e.2 ≠ .failed) → x.value = 0xFFFFFFFF → 0x10000000 ≤ x.next → x.next ≤ x.stop → x.stop < 2 ^ 32 →
          t.rd F.CHK_SCAN_LAST.CRC = crc32c (s.readBytes x.next (x.stop - x.next)) ∧
          t.cmd.replies = s.cmd.replies ++ (if pl.req.replyReq then
            [replyUnder pl.id pl.op pl.req (.ok (leBytes 4 (crc32c (s.readBytes x.next (x.stop - x.next)))))] else [])))

/-- A field passes to the output in bypass; one that is not the first of a frame at a regenerating device changes nothing. A
first field with a bad CRC-8 is counted, raises fault 0xA9, gives BAD_FIELD and no action. A good one gives its result, and OP
and result are reported: NOP and STATUS give DONE; ASSIGN takes the ID or gives REFUSED from 0xFFFF00 up; ASSIGN_KEEP does so
only while the ID is 0, and otherwise leaves the ID; WAKE gives DONE or NOT_ADDRESSED; an OP that is no command field gives
NO_FIELD. A positional field is stripped, any other repeated unchanged behind the SYNC. Nothing else changes. (12_reed_line.md
R301, 12_reed_line.md R302, 12_reed_line.md R303, 12_reed_line.md R304, 12_reed_line.md R308, 12_reed_line.md R309) -/
def Obligations.ReedFields : Prop :=
  ∀ (s : State) (data : BitVec 24) (aux crc : Byte), s.undef = false →
    (∀ e ∈ [(0x01, Instr.reedNop data aux crc, 0, s.deviceId),
        (0x02, Instr.reedAssign data aux crc, if 0xFFFF00 ≤ data.toNat then 2 else 0, if 0xFFFF00 ≤ data.toNat then s.deviceId else data.toNat),
        (0x41, Instr.reedWake data aux crc, if data = 0xFFFFFF#24 ∨ (data.toNat ≠ 0 ∧ data.toNat = s.deviceId) then 0 else 1, s.deviceId),
        (0x44, Instr.reedStatus data aux crc, 0, s.deviceId)],
      ∃ t, exec e.2.1 s = .next t ∧ s.Frame t [A.RLN_STAT, A.RLN_CNT, A.RLN_ID] [.rln, .flt] ∧
        (s.follows = true → s.Frame t [] [.rln] ∧ t.rln = { s.rln with out := s.rln.out ++ [fieldHead e.1 data aux ++ [crc]] }) ∧
        (s.reedReady = false → s.follows = false → s.Frame t [] []) ∧
        (s.reedReady = true → t.rd F.RLN_STAT.LAST_OP = e.1 ∧ t.rln.out = (if positional e.1 then [] else [fieldHead e.1 data aux ++ [crc]]) ∧
          t.rln.outSync = !positional e.1 ∧ t.rd F.RLN_STAT.REGEN = s.rd F.RLN_STAT.REGEN) ∧
        (s.reedReady = true → fieldGood e.1 data aux crc = true → t.rd F.RLN_STAT.LAST_RESULT = e.2.2.1 ∧
          t.rln.phase = .acted e.1 e.2.2.1 ∧ t.deviceId = e.2.2.2 ∧ t.flt = s.flt ∧ t.reg A.RLN_CNT = s.reg A.RLN_CNT) ∧
        (s.reedReady = true → fieldGood e.1 data aux crc = false → t.rd F.RLN_STAT.LAST_RESULT = 3 ∧ t.rln.phase = .acted e.1 3 ∧
          t.deviceId = s.deviceId ∧ t.rd F.RLN_CNT.BAD_FIELD = min 0xFFFF (s.rd F.RLN_CNT.BAD_FIELD + 1) ∧
          t.flt.inbox = s.flt.inbox ++ [⟨0xA9, 0, 0, 0, false, s.now⟩])) ∧
    (∃ t, exec (.reedAssignKeep data aux crc) s = .next t ∧ s.Frame t [A.RLN_STAT, A.RLN_CNT, A.RLN_ID] [.rln, .flt, .freeNo] ∧
      (s.deviceId ≠ 0 ∨ 0xFFFF00 ≤ data.toNat → t.deviceId = s.deviceId) ∧
      (s.follows = true → s.Frame t [] [.rln] ∧ t.rln = { s.rln with out := s.rln.out ++ [fieldHead 0x03 data aux ++ [crc]] }) ∧
      (s.reedReady = false → s.follows = false → s.Frame t [] []) ∧
      (s.reedReady = true → t.rd F.RLN_STAT.LAST_OP = 0x03 ∧ t.rln.out = [] ∧ t.rln.outSync = false ∧
        (∃ r, t.rd F.RLN_STAT.LAST_RESULT = r ∧ t.rln.phase = .acted 0x03 r) ∧
        (fieldGood 0x03 data aux crc = true → t.flt = s.flt) ∧
        (fieldGood 0x03 data aux crc = true → s.deviceId = 0 → data.toNat < 0xFFFF00 → t.deviceId = data.toNat ∧
          t.rln.phase = .acted 0x03 0) ∧
        (fieldGood 0x03 data aux crc = true → 0xFFFF00 ≤ data.toNat → t.rln.phase = .acted 0x03 2) ∧
        (fieldGood 0x03 data aux crc = false → t.rln.phase = .acted 0x03 3 ∧ t.deviceId = s.deviceId ∧
          ⟨0xA9, 0, 0, 0, false, s.now⟩ ∈ t.flt.inbox))) ∧
    (∀ op : Byte, ∃ t, exec (.reedNoField op data aux crc) s = .next t ∧ s.Frame t [A.RLN_STAT, A.RLN_CNT] [.rln, .flt] ∧
      (op.toNat ∉ reedOps → s.follows = true → s.Frame t [] [.rln] ∧
        t.rln = { s.rln with out := s.rln.out ++ [fieldHead op.toNat data aux ++ [crc]] }) ∧
      (op.toNat ∈ reedOps ∨ (s.reedReady = false ∧ s.follows = false) → s.Frame t [] []) ∧
      (op.toNat ∉ reedOps → s.reedReady = true → t.rd F.RLN_STAT.LAST_OP = op.toNat ∧ t.rln.outSync = true ∧
        t.rln.out = [fieldHead op.toNat data aux ++ [crc]] ∧
        t.rd F.RLN_STAT.LAST_RESULT = (if fieldGood op.toNat data aux crc then 4 else 3) ∧
        t.rln.phase = .acted op.toNat (if fieldGood op.toNat data aux crc then 4 else 3) ∧ t.deviceId = s.deviceId ∧
        t.rd F.RLN_CNT.BAD_FIELD = (if fieldGood op.toNat data aux crc then s.rd F.RLN_CNT.BAD_FIELD
          else min 0xFFFF (s.rd F.RLN_CNT.BAD_FIELD + 1))))

/-- A good SLEEP field that addresses the device asks the power-state controller: with no refuser it gives DONE, the entry waits
for the frame's end and STATUS [5:4] reads 3; refused, it gives REFUSED, each refuser counts, the lowest is named, fault 0xA2 is
raised, and an awake device records the wake that fired in the request's cycle; while such an entry waits it gives DONE again;
without SLEEP_EN it gives REFUSED and asks nothing. IDENTIFY starts, restarts or ends identification; every half second a toggle
swaps the image, and its end comes when its time has passed. In bypass a WAKE field passes to the output; a good one that
addresses an enabled sleeping device starts its wake, with cause REED, and in an entry into SLEEP it is held. Otherwise nothing
changes. (12_reed_line.md R302, 12_reed_line.md R311, 12_reed_line.md R312, 12_reed_line.md R313, 13_power_states.md R320,
13_power_states.md R321, 13_power_states.md R322, 13_power_states.md R327, 13_power_states.md R328, 13_power_states.md R329) -/
def Obligations.ReedSleepIdentifyWake : Prop :=
  ∀ (s : State) (n : Nat) (firing : Fin 8) (data : BitVec 24) (aux crc : Byte), s.undef = false →
    (∃ t, exec (.reedSleep ⟨n, firing⟩ data aux crc) s = .next t ∧
      (s.follows = true → (s.advance n).Frame t [] [.rln] ∧ t.rln = { s.rln with out := s.rln.out ++ [fieldHead 0x42 data aux ++ [crc]] }) ∧
      (s.reedReady = false → s.follows = false → (s.advance n).Frame t [] []) ∧
      (s.reedReady = true → fieldGood 0x42 data aux crc = false → t.rln.phase = .acted 0x42 3 ∧ t.rln.sleepHeld = s.rln.sleepHeld ∧
        (s.advance n).Frame t [A.RLN_STAT, A.RLN_CNT] [.rln, .flt]) ∧
      (s.reedReady = true → fieldGood 0x42 data aux crc = true → t.rd F.RLN_STAT.LAST_OP = 0x42 ∧ t.rln.outSync = true ∧
        t.rln.out = [fieldHead 0x42 data aux ++ [crc]] ∧
        (s.reedAddressed data = false → t.rln.phase = .acted 0x42 1 ∧ (s.advance n).Frame t [A.RLN_STAT] [.rln] ∧
          t.rln.sleepHeld = s.rln.sleepHeld) ∧
        (s.reedAddressed data = true → s.on F.RLN_CFG.SLEEP_EN = false → t.rln.phase = .acted 0x42 2 ∧
          (s.advance n).Frame t [A.RLN_STAT] [.rln] ∧ t.rln.sleepHeld = s.rln.sleepHeld) ∧
        (s.reedAddressed data = true → s.on F.RLN_CFG.SLEEP_EN = true → s.inTransition = false → s.power ≠ 3 →
          ((s.advance n).refusers ⟨true, decide (data.toNat ≠ 0xFFFFFF), 3, firing.val⟩ = [] → t.rln.phase = .acted 0x42 0 ∧
            t.rln.sleepHeld = true ∧ t.reedStatusByte / 16 % 4 = 3 ∧ t.power = s.power ∧ (s.advance n).Frame t [A.RLN_STAT] [.rln]) ∧
          (∀ r l, (s.advance n).refusers ⟨true, decide (data.toNat ≠ 0xFFFFFF), 3, firing.val⟩ = r :: l → t.rln.phase = .acted 0x42 2 ∧
            t.rln.sleepHeld = s.rln.sleepHeld ∧ t.rd F.PWR_LAST_REFUSE.REQUESTER = 1 ∧ t.rd F.PWR_LAST_REFUSE.TARGET = 3 ∧
            t.rd F.PWR_LAST_REFUSE.REFUSER = r ∧
            (∀ k ∈ r :: l, t.rd (F.PWR_REFUSE_CNT.COUNT k) = min 0xFFFF (s.rd (F.PWR_REFUSE_CNT.COUNT k) + 1)) ∧
            t.flt.inbox = s.flt.inbox ++ [⟨0xA2, 0, 0, 0, false, (s.advance n).now⟩] ∧ t.power = s.power ∧
            (s.power ≤ 1 ∨ firing.val = 0 →
              (∀ c, s.sys.resetPin = false → s.firingCodes firing.val = [c] → t.rd F.PWR_WAKE_STAT.CAUSE = c) ∧
              (s.advance n).Frame t ([A.RLN_STAT, A.PWR_LAST_REFUSE, A.PWR_WAKE_STAT] ++ (r :: l).map A.PWR_REFUSE_CNT) [.rln, .flt, .gov]))) ∧
        (s.reedAddressed data = true → s.on F.RLN_CFG.SLEEP_EN = true → s.rln.sleepHeld = true → firing.val = 0 →
          t.rln.phase = .acted 0x42 0 ∧ t.rln.sleepHeld = true ∧ (s.advance n).Frame t [A.RLN_STAT] [.rln])) ∧
    (∃ t, exec (.reedIdentify n data aux crc) s = .next t ∧ (s.advance n).Frame t [A.RLN_STAT, A.RLN_CNT] [.rln, .flt, .freeNo] ∧
      (s.follows = true → (s.advance n).Frame t [] [.rln] ∧ t.rln = { s.rln with out := s.rln.out ++ [fieldHead 0x43 data aux ++ [crc]] }) ∧
      (s.reedReady = false → s.follows = false → (s.advance n).Frame t [] []) ∧
      (s.reedReady = true → fieldGood 0x43 data aux crc = false → t.rln.phase = .acted 0x43 3 ∧ t.rln.identTo = s.rln.identTo) ∧
      (s.reedReady = true → fieldGood 0x43 data aux crc = true → t.rd F.RLN_STAT.LAST_OP = 0x43 ∧ t.flt = s.flt ∧
        (s.reedAddressed data = false → t.rln.phase = .acted 0x43 1 ∧ t.rln.identTo = s.rln.identTo) ∧
        (s.reedAddressed data = true → t.rln.phase = .acted 0x43 0 ∧
          t.rln.identTo = (if aux = 0#8 then none else some ((s.advance n).now + 256000000000 * aux.toNat)) ∧
          (aux ≠ 0#8 → t.rln.identNext = (s.advance n).now + 128000000000)))) ∧
    (∃ t, exec (.identifyToggle n) s = .next t ∧
      (s.advance n).Frame t [] [.rln] ∧ (s.rln.identTo = none → t.rln = s.rln) ∧
      (∀ d, s.rln.identTo = some d → t.rln = if s.rln.identNext ≤ (s.advance n).now ∧ s.rln.identNext < d
        then { s.rln with identFlat := !s.rln.identFlat, identNext := s.rln.identNext + 128000000000 } else s.rln)) ∧
    (∃ t, exec (.identifyEnd n) s = .next t ∧ (s.advance n).Frame t [] [.rln] ∧
      (s.rln.identTo = none → t.rln = s.rln) ∧
      (∀ d, s.rln.identTo = some d → t.rln = if d ≤ (s.advance n).now then { s.rln with identTo := none, identFlat := false } else s.rln)) ∧
    (∃ t, exec (.reedWakeDetect n data aux crc) s = .next t ∧
      t.rln.out = s.rln.out ++ (if s.follows then [fieldHead 0x41 data aux ++ [crc]] else []) ∧ t.rln.outSync = s.rln.outSync ∧
      (s.on F.RLN_STAT.REGEN = true ∨ s.sys.resetPin = true ∨ s.on F.RLN_CFG.WAKE_EN = false ∨ s.on F.PWR_WAKE_EN.REED = false ∨
          fieldGood 0x41 data aux crc = false ∨ s.reedAddressed data = false ∨ (s.power ≤ 2 ∧ s.inTransition = false) →
        (s.advance n).Frame t [] [.rln] ∧ t.rln = { s.rln with out := t.rln.out }) ∧
      (s.on F.RLN_STAT.REGEN = false → s.sys.resetPin = false → s.on F.RLN_CFG.WAKE_EN = true → s.on F.PWR_WAKE_EN.REED = true →
        fieldGood 0x41 data aux crc = true → s.reedAddressed data = true →
        (s.pwr.trans = .entry → s.rd F.PWR_STATE.TARGET = 3 → s.rln.sleepHeld = false → t.pwr = { s.pwr with
            pendingWake := Nat.lor s.pwr.pendingWake 1, heldWake := s.pwr.heldWake ++ [1], timeIn := t.pwr.timeIn, light := t.pwr.light,
            closedAt := t.pwr.closedAt } ∧ (s.advance n).Frame t [] [.pwr, .rln] ∧ t.rln = { s.rln with out := t.rln.out }) ∧
        (s.power = 3 → s.inTransition = false →
        t.pwr.trans = .start ∧ t.sys.waking = true ∧ t.rd F.PWR_WAKE_STAT.CAUSE = 1 ∧ t.rd F.PWR_STATE.BUSY = 1 ∧
          t.rd F.PWR_STATE.TARGET = s.wakeTarget ∧ t.deviceId = s.deviceId ∧ t.flash = s.flash ∧
          t.pwr.pendingWake = Nat.lor s.pwr.pendingWake 1 ∧
          ∀ a, a / 0x10000 = 0x0C → a ≠ A.RLN_STAT → t.reg a = s.reg a))))

/-- In bypass a frame passes to the output. A SYNC begins a frame at a regenerating device; while an earlier frame is still
being sent it is dropped, counted, with fault 0xAA; under BREAK it is not repeated. At a frame's end the device repeats the
rest, appends its own status field of result, ID and STATUS byte with its CRC, and counts the status fields that came in;
however the frame ends, a SLEEP entry that waited begins. A discarded frame is given up without a status. A line break, in
bypass too, sets BREAK, counts, raises fault 0xA8 class 2 and gives the frame up; BREAK clears alone. A device leaves bypass
only awake, out of RESET_N and with its oscillator ready. Nothing else changes. That a frame which ends without a field gets the
result NO_FIELD and that a break gives the frame up are the model's reading (log entry 59). (12_reed_line.md R298,
12_reed_line.md R299, 12_reed_line.md R303, 12_reed_line.md R305, 12_reed_line.md R307, 12_reed_line.md R310, 12_reed_line.md
R312, 12_reed_line.md R314, 12_reed_line.md R315) -/
def Obligations.ReedFrames : Prop :=
  ∀ s : State, s.undef = false → s.rln.sleepHeld = false →
    (∀ sending, ∃ t, exec (.reedSyncReceive sending) s = .next t ∧ s.Frame t [A.RLN_CNT] [.rln, .flt] ∧
      (s.follows = true → s.Frame t [] [.rln] ∧ t.rln = { s.rln with out := [], outSync := true }) ∧
      (s.follows = false → s.on F.RLN_STAT.REGEN = false ∨ s.on F.RLN_STAT.BREAK = true → s.Frame t [] []) ∧
      (s.on F.RLN_STAT.REGEN = true → s.on F.RLN_STAT.BREAK = false → sending = false → s.Frame t [] [.rln] ∧
        t.rln = { s.rln with phase := .synced, out := [], outSync := false }) ∧
      (s.on F.RLN_STAT.REGEN = true → s.on F.RLN_STAT.BREAK = false → sending = true → t.rln = { s.rln with phase := .idle } ∧
        t.rd F.RLN_CNT.OVERRUN = min 0xFF (s.rd F.RLN_CNT.OVERRUN + 1) ∧ t.rd F.RLN_CNT.BREAKS = s.rd F.RLN_CNT.BREAKS ∧
        t.flt.inbox = s.flt.inbox ++ [⟨0xAA, 0, 0, 0, false, s.now⟩])) ∧
    (∀ (n : Nat) (rest : List (List Byte)), ∃ t, exec (.reedFrameEnd n rest) s = .next t ∧
      (s.follows = true → (s.advance n).Frame t [] [.rln] ∧ t.rln = { s.rln with out := s.rln.out ++ rest }) ∧
      (s.follows = false → s.on F.RLN_STAT.REGEN = false ∨ s.rln.phase = .idle → (s.advance n).Frame t [] []) ∧
      (s.on F.RLN_STAT.REGEN = true → s.rln.phase ≠ .idle →
        (s.advance n).Frame t [A.RLN_POS] [.rln] ∧ t.rln.phase = .idle ∧ t.rln.outSync = true ∧
        t.rln.out = s.rln.out ++ rest ++ [(s.advance n).reedStatusField s.reedResult] ∧
        (∀ op r, s.rln.phase = .acted op r → s.reedResult = r ∧ ((s.advance n).reedStatusField r).length = 6 ∧
          ((s.advance n).reedStatusField r).headD 0 = BitVec.ofNat 8 (0x80 + r) ∧
          fieldGood (0x80 + r) (BitVec.ofNat 24 s.deviceId) (((s.advance n).reedStatusField r).getD 4 0)
            (((s.advance n).reedStatusField r).getD 5 0) = true ∧
          t.rd F.RLN_POS.UPSTREAM = min 0xFFFF (rest.countP (fun f => (f.headD 0).getLsbD 7) + (if 0x80 ≤ op then 1 else 0))) ∧
        (s.rln.phase = .synced → s.reedResult = 4))) ∧
    (∀ (n : Nat) (rest : List (List Byte)) (u : State), u = { s with rln.sleepHeld := true } → s.on F.RLN_STAT.REGEN = true →
      s.rln.phase ≠ .idle → s.on F.RLN_STAT.BREAK = false → s.asleep = false → s.sys.resetPin = false → s.rln.oscReady = true → s.pwr.trans = .none →
      ∀ c ∈ [Instr.reedFrameEnd n rest, .reedFrameDiscard, .reedLineBreak, .reedSyncReceive false, .reedSyncReceive true],
      ∃ t, exec c u = .next t ∧ t.pwr.trans = .entry ∧ t.rd F.PWR_STATE.TARGET = 3 ∧ t.rd F.PWR_STATE.BUSY = 1 ∧
        t.rd F.RLN_STAT.REGEN = 0 ∧ t.rln.sleepHeld = false ∧ t.power = s.power ∧
        (s.tun.run = none → u.Frame t [A.RLN_POS, A.RLN_STAT, A.RLN_CNT, A.PWR_STATE] [.rln, .pwr, .flt, .now, .cmp, .sns])) ∧
    (∃ t, exec .reedFrameDiscard s = .next t ∧ s.Frame t [] [.rln] ∧
      t.rln = { s.rln with phase := if s.on F.RLN_STAT.REGEN then .idle else s.rln.phase }) ∧
    (∃ t, exec .reedLineBreak s = .next t ∧ s.Frame t [A.RLN_STAT, A.RLN_CNT] [.rln, .flt] ∧
      (s.asleep = true ∨ s.sys.resetPin = true ∨ s.rln.oscReady = false ∨ s.on F.RLN_STAT.BREAK = true → s.Frame t [] []) ∧
      (s.asleep = false → s.sys.resetPin = false → s.rln.oscReady = true → s.on F.RLN_STAT.BREAK = false →
        t.rd F.RLN_STAT.BREAK = 1 ∧ t.rd F.RLN_STAT.REGEN = s.rd F.RLN_STAT.REGEN ∧ t.rln = { s.rln with phase := .idle } ∧
        t.rd F.RLN_CNT.BREAKS = min 0xFF (s.rd F.RLN_CNT.BREAKS + 1) ∧ t.rd F.RLN_CNT.OVERRUN = s.rd F.RLN_CNT.OVERRUN ∧
        t.flt.inbox = s.flt.inbox ++ [⟨0xA8, 2, 0, 0, false, s.now⟩])) ∧
    (∃ t, exec .reedBreakClear s = .next t ∧ s.Frame t [A.RLN_STAT] [] ∧ t.rd F.RLN_STAT.BREAK = 0 ∧
      t.rd F.RLN_STAT.REGEN = s.rd F.RLN_STAT.REGEN ∧ t.rd F.RLN_STAT.LAST_OP = s.rd F.RLN_STAT.LAST_OP) ∧
    (∃ t, exec .reedBypassExit s = .next t ∧ s.Frame t [A.RLN_STAT] [.rln] ∧
      (s.asleep = true ∨ s.sys.resetPin = true ∨ s.rln.oscReady = false → s.Frame t [] []) ∧
      (s.asleep = false → s.sys.resetPin = false → s.rln.oscReady = true → t.rd F.RLN_STAT.REGEN = 1 ∧
        t.rln = { s.rln with phase := if s.on F.RLN_STAT.REGEN then s.rln.phase else .idle }))

/-- An accepted POWER_STATE for the present state is OK without effect, and so is one for the target of a running transition;
another during an entry is refused with COMMAND_INFLIGHT, during an exit or start with WAKE_PENDING. ACTIVE and DARK change at
once, ACTIVE with a full credit; from STANDBY an exit with cause 4 begins. STANDBY or SLEEP begins an entry when no refuser
holds; otherwise the answer is BUSY with the lowest refuser, each refuser counts, PWR_LAST_REFUSE names it, fault 0xA2 is
raised, the state stays, and an awake device records the wake that fired with the request. A request keeps its place until its
reply is sent and its transition is over. A length or value out of range, or a byte that is to be 0, is RANGE. Nothing else
changes. That during a transition one refuser alone counts is the model's reading (log entry 38). (13_power_states.md R318,
13_power_states.md R319, 13_power_states.md R320, 13_power_states.md R321, 13_power_states.md R322, 11_command_packets.md R285,
11_command_packets.md R286) -/
def Obligations.PowerRequests : Prop :=
  ∀ (s : State) (n : Nat) (firing : Fin 8) (r : Request), s.undef = false → (s.advance n).gate 0x40 r = .run →
    ∃ t, exec (.powerState ⟨n, firing⟩ r) s = .next t ∧
      (r.payload.length ≠ 4 → (s.advance n).Answered t 0x40 r (.range 10) ∧
        (s.advance n).Frame t [A.CMD_CNT_RX, A.CMD_CNT_REF] [.cmd, .flt]) ∧
      (r.payload.length = 4 → 3 < (r.payload.headD 0).toNat → (s.advance n).Answered t 0x40 r (.range 16) ∧
        (s.advance n).Frame t [A.CMD_CNT_RX, A.CMD_CNT_REF] [.cmd, .flt]) ∧
      (∀ x a b c : Byte, x.toNat ≤ 3 → r.payload = [x, a, b, c] → (a, b, c) ≠ (0, 0, 0) →
        (s.advance n).Answered t 0x40 r (.range (if a ≠ 0 then 17 else if b ≠ 0 then 18 else 19)) ∧
        (s.advance n).Frame t [A.CMD_CNT_RX, A.CMD_CNT_REF] [.cmd, .flt]) ∧
      ∀ x : Byte, x.toNat ≤ 3 → r.payload = [x, 0, 0, 0] →
        (s.inTransition = false → x.toNat = s.power → s.firingCodes firing.val = [] ∨ s.power ≤ 1 →
          (s.advance n).Answered t 0x40 r (.ok []) ∧ (s.advance n).Frame t [A.CMD_CNT_RX, A.CMD_CNT_REF] [.cmd, .flt] ∧
          t.cmd.places = s.cmd.places ++ (if r.replyReq then [⟨0x40, r, s.deviceId, true⟩] else [])) ∧
        (s.inTransition = true → x.toNat = s.transTarget → s.firingCodes firing.val = [] → (s.advance n).Answered t 0x40 r (.ok []) ∧
          (s.advance n).Frame t [A.CMD_CNT_RX, A.CMD_CNT_REF] [.cmd, .flt] ∧
          t.cmd.places = s.cmd.places ++ (if r.replyReq then [⟨0x40, r, s.deviceId, true⟩] else [])) ∧
        (s.inTransition = false → x.toNat ≠ s.power → x.toNat ≤ 1 → s.power ≤ 1 → (s.advance n).Answered t 0x40 r (.ok []) ∧
          t.power = x.toNat ∧ (x = 0#8 → t.gov.credit = t.creditCap) ∧
          (s.advance n).Frame t [A.CMD_CNT_RX, A.CMD_CNT_REF, A.PWR_STATE, A.GOV_STAT, A.GOV_FLAGS] [.cmd, .flt, .gov]) ∧
        (s.inTransition = false → x.toNat ≤ 1 → s.power = 2 → s.firingCodes firing.val = [] →
          (s.advance n).Answered t 0x40 r (.ok []) ∧ t.power = 2 ∧
          t.pwr.trans = .exit ∧ t.rd F.PWR_STATE.BUSY = 1 ∧ t.rd F.PWR_STATE.TARGET = x.toNat ∧ t.rd F.PWR_WAKE_STAT.CAUSE = 4 ∧
          t.cmd.places = s.cmd.places ++ [⟨0x40, r, s.deviceId, true⟩] ∧
          (s.advance n).Frame t [A.CMD_CNT_RX, A.CMD_CNT_REF, A.PWR_STATE, A.PWR_WAKE_STAT] [.cmd, .flt, .pwr]) ∧
        (s.inTransition = false → 2 ≤ x.toNat → x.toNat ≠ s.power → s.power ≤ 2 →
          (s.advance n).refusers ⟨false, !r.broadcast && !r.group, x.toNat, firing.val⟩ = [] →
          t.power = s.power ∧ t.pwr.trans = .entry ∧ t.rd F.PWR_STATE.BUSY = 1 ∧ t.rd F.PWR_STATE.TARGET = x.toNat ∧
          t.pwr.stopped = decide (s.power = 2) ∧
          (s.tun.run = none → (s.advance n).Answered t 0x40 r (.ok []) ∧
            t.cmd.places = s.cmd.places ++ [⟨0x40, r, s.deviceId, true⟩] ∧
            (s.advance n).Frame t [A.CMD_CNT_RX, A.CMD_CNT_REF, A.PWR_STATE] [.cmd, .flt, .pwr])) ∧
        ∀ k l, (s.inTransition = false ∧ 2 ≤ x.toNat ∧ x.toNat ≠ s.power ∧ s.power ≤ 2 ∧
              (s.advance n).refusers ⟨false, !r.broadcast && !r.group, x.toNat, firing.val⟩ = k :: l) ∨
            (s.inTransition = true ∧ x.toNat ≠ s.transTarget ∧ l = [] ∧ k = if s.inEntry then 9 else 1) →
          (s.advance n).Answered t 0x40 r (.busy k) ∧ t.power = s.power ∧ t.rd F.PWR_LAST_REFUSE.REFUSER = k ∧
          t.rd F.PWR_LAST_REFUSE.TARGET = x.toNat ∧ t.rd F.PWR_LAST_REFUSE.REQUESTER = 0 ∧
          (∀ j ∈ k :: l, t.rd (F.PWR_REFUSE_CNT.COUNT j) = min 0xFFFF (s.rd (F.PWR_REFUSE_CNT.COUNT j) + 1)) ∧
          t.flt.inbox = ((s.advance n).taken r).flt.inbox ++ [⟨0xA2, 0, 0, 0, false, (s.advance n).now⟩] ∧
          (s.firingCodes firing.val = [] ∨ (s.inTransition = false ∧ s.power ≤ 1) →
            (∀ c, s.sys.resetPin = false → s.firingCodes firing.val = [c] → t.rd F.PWR_WAKE_STAT.CAUSE = c) ∧
            (s.advance n).Frame t ([A.CMD_CNT_RX, A.CMD_CNT_REF, A.PWR_LAST_REFUSE, A.PWR_WAKE_STAT] ++ (k :: l).map A.PWR_REFUSE_CNT)
              [.cmd, .flt, .gov])

/-- A valve closed for PWR_CFG.VALVE_SETTLE, 0 acting as 1, has settled. An entry whose scan-out has stopped and whose rails are
off ends in its target with the quadrant islands stopped and the DRAM in self-refresh, and an entry into SLEEP only once its
reply is sent and no flash operation runs; SLEEP moreover closes every pad latch with the levels then driven, stops the link,
core and safety islands and enters bypass; a wake event held meanwhile starts the exit, and later ones are recorded. An exit
from STANDBY clocks the islands, switches its rails on and starts the scan-out, and ends in its target once the scan-out runs.
PAD_RELEASE opens every latch. Otherwise nothing changes. The two events of an exit, that it needs no rails to run the scan-out
where none is used, what its places wait for, and that a wake is no longer pending when an entry ends are the model's reading
(log entries 92, 39, 101, 116). (13_power_states.md R316, 13_power_states.md R323, 13_power_states.md R324, 13_power_states.md
R325, 13_power_states.md R326, 13_power_states.md R329, 13_power_states.md R331, 13_power_states.md R332) -/
def Obligations.PowerTransitionsEnd : Prop :=
  ∀ (s : State) (n : Nat), s.undef = false →
    (∃ t, exec (.valveSettleExpiry n) s = .next t ∧ (s.advance n).Frame t [] [] ∧
      ∀ q : Quad, s.pwr.light.length = 4 → s.lightOf q = .settling → t.dark q = false →
        t.lightOf q = if nth s.pwr.closedAt q.val + 256000000 * max 1 (s.rd F.PWR_CFG.VALVE_SETTLE) ≤ (s.advance n).now
          then .settled else .settling) ∧
    (∃ t, exec (.powerEntryDone n) s = .next t ∧
      (¬(s.pwr.trans = .entry ∧ s.pwr.stopped = true ∧ s.sys.rails = .idle) ∨
          (s.rd F.PWR_STATE.TARGET = 3 ∧ (s.replyWaits = true ∨ s.flashWriting = true)) → (s.advance n).Frame t [] []) ∧
      (s.pwr.trans = .entry → s.pwr.stopped = true → s.sys.rails = .idle →
        (s.rd F.PWR_STATE.TARGET = 3 → s.replyWaits = false ∧ s.flashWriting = false) → s.rln.sleepHeld = false →
        (s.pwr.heldWake = [] → t.power = s.rd F.PWR_STATE.TARGET ∧ t.pwr.trans = .none ∧ t.rd F.PWR_STATE.BUSY = 0 ∧
          t.pwr.enteredAt = (s.advance n).now ∧ t.pwr.timerDone = false ∧ t.pwr.pendingWake = 0 ∧
          t.rd F.SYS_ISLAND_STAT.QCLK = 0 ∧ t.pixClk = false ∧ t.memClk = false ∧
          t.fmc.selfRefresh = true ∧ (∀ b, nth t.fmc.openRow b = none) ∧ t.rd F.FMC_PD.IN_PD = 0 ∧
          (∀ pl ∈ t.cmd.places, pl ∈ s.cmd.places ∧ ¬(pl.op = 0x40 ∧ pl.answered = true ∧ pl.req.replyReq = false)) ∧
          (s.advance n).Frame t (linkRegs ++ [A.PWR_STATE, A.PWR_PAD, A.SYS_ISLAND_STAT, A.RLN_STAT, A.FMC_PD])
            [.pwr, .rln, .saf, .fmc, .cmd, .zlp, .lnk, .sys] ∧
          (s.rd F.PWR_STATE.TARGET = 3 → t.rd F.PWR_PAD.VALVE = 1 ∧ t.rd F.PWR_PAD.PANEL = 1 ∧ t.rd F.PWR_PAD.SAFETY = 1 ∧
            t.rd F.PWR_PAD.MISC = 1 ∧ t.lnkClk = false ∧ t.safeClk = false ∧ t.on F.SYS_ISLAND_STAT.CORE_CLK = false ∧
            t.on F.RLN_STAT.REGEN = false ∧ t.AllDark ∧ t.saf.outOn = false ∧ t.sys = { s.sys with svcOut := none }) ∧
          (s.rd F.PWR_STATE.TARGET ≠ 3 → t.reg A.PWR_PAD = s.reg A.PWR_PAD ∧ t.lnkClk = s.lnkClk ∧ t.safeClk = s.safeClk ∧
            t.sys = s.sys)) ∧
        (∀ c l, s.sys.resetPin = false → s.pwr.heldWake = c :: l → (∀ k ∈ c :: l, 1 ≤ k ∧ k ≤ 3) → 2 ≤ s.rd F.PWR_STATE.TARGET →
          t.rd F.PWR_WAKE_STAT.CAUSE = (c :: l).getLastD 0 ∧ t.pwr.heldWake = [] ∧
          (s.rd F.PWR_STATE.TARGET = 2 → s.wakeTarget ≠ 2 → t.pwr.trans = .exit ∧ t.rd F.PWR_STATE.TARGET = s.wakeTarget) ∧
          (s.rd F.PWR_STATE.TARGET = 2 → s.wakeTarget = 2 → t.pwr.trans = .none ∧ t.pwr.pendingWake = 0) ∧
          (s.rd F.PWR_STATE.TARGET = 3 → t.pwr.trans = .start ∧ t.sys.waking = true ∧ t.rd F.PWR_STATE.TARGET = s.wakeTarget)))) ∧
    (∃ t, exec (.standbyExitComplete n) s = .next t ∧
      (s.pwr.trans ≠ .exit ∨ (s.pixClk = false ∧ (s.advance n).now < s.pwr.retryAt) ∨ (s.pixClk = true ∧ s.scn.running = false) →
        (s.advance n).Frame t [] []) ∧
      (s.pwr.trans = .exit → s.pixClk = false → s.pwr.retryAt ≤ (s.advance n).now →
        t.pixClk = true ∧ t.memClk = true ∧ t.rd F.SYS_ISLAND_STAT.QCLK = 15 ∧ t.fmc.selfRefresh = false ∧ t.pwr.trans = .exit ∧
        (s.scn.running = false → t.scn.running = t.sys.railsUp) ∧ (t.sys.railsUp = false → t.sys.rails ≠ .idle) ∧
        t.power = s.power ∧ (s.advance n).Frame t [A.SYS_ISLAND_STAT, A.FMC_TRAIN_STAT, A.SYS_PRAIL_STAT] [.fmc, .sys, .scn, .pix, .gov, .pwr, .sns]) ∧
      (s.pwr.trans = .exit → s.pixClk = true → s.scn.running = true → t.power = s.rd F.PWR_STATE.TARGET ∧ t.pwr.trans = .none ∧
        t.rd F.PWR_STATE.BUSY = 0 ∧ t.pwr.pendingWake = 0 ∧ t.pwr.retried = false ∧
        (s.rd F.PWR_STATE.TARGET = 0 → t.gov.credit = t.creditCap) ∧
        (∀ pl ∈ t.cmd.places, pl ∈ s.cmd.places ∧ ¬(pl.op = 0x40 ∧ pl.answered = true ∧ pl.req.replyReq = false)) ∧
        (s.advance n).Frame t (linkRegs ++ [A.PWR_STATE, A.GOV_STAT, A.GOV_FLAGS]) [.pwr, .gov, .zlp, .lnk, .cmd])) ∧
    (∃ t, exec .padRelease s = .next t ∧ t.rd F.PWR_PAD.VALVE = 0 ∧ t.rd F.PWR_PAD.PANEL = 0 ∧ t.rd F.PWR_PAD.SAFETY = 0 ∧
      t.rd F.PWR_PAD.MISC = 0 ∧ s.Frame t [A.PWR_PAD] [])

/-- The timer fires once in each STANDBY or SLEEP, when PWR_TIMER.SECONDS have passed since the entry and it is enabled and not
0; the service port wakes when enabled and not RETIRED. In STANDBY the event starts the exit to WAKE_TARGET and in SLEEP the
start; while RESET_N is low it does nothing; during an entry it is held behind those held before, and during an exit or start,
or with WAKE_TARGET STANDBY, only recorded. A wake or exit that does not come up is tried once more after 5 ms, counted, with
fault 0xA0; the second failure is a reset with cause WAKE_FAIL that counts refuser 10, keeps the device ID and the pending
sources and completes the same target. Otherwise nothing changes. (13_power_states.md R325, 13_power_states.md R327,
13_power_states.md R328, 13_power_states.md R329, 13_power_states.md R330, 13_power_states.md R333, 20_start_up.md R443,
21_pins_and_package.md R467) -/
def Obligations.WakeSources : Prop :=
  ∀ (s : State) (n : Nat), s.undef = false →
    (∃ t, exec (.wakeTimer n) s = .next t ∧
      (s.on F.PWR_WAKE_EN.TIMER = false ∨ s.rd F.PWR_TIMER.SECONDS = 0 ∨ s.power < 2 ∨ s.pwr.timerDone = true ∨
          (s.advance n).now < s.pwr.enteredAt + 256000000000 * s.rd F.PWR_TIMER.SECONDS → (s.advance n).Frame t [] []) ∧
      (s.on F.PWR_WAKE_EN.TIMER = true → s.rd F.PWR_TIMER.SECONDS ≠ 0 → 2 ≤ s.power → s.pwr.timerDone = false →
        s.pwr.enteredAt + 256000000000 * s.rd F.PWR_TIMER.SECONDS ≤ (s.advance n).now →
        t.pwr.timerDone = true ∧
        (s.sys.resetPin = true → (s.advance n).Frame t [] [.pwr] ∧ t.pwr.heldWake = s.pwr.heldWake ∧ t.pwr.pendingWake = s.pwr.pendingWake ∧
          t.pwr.trans = s.pwr.trans) ∧
        (s.sys.resetPin = false → s.inEntry = true → (s.advance n).Frame t [] [.pwr] ∧ t.pwr.heldWake = s.pwr.heldWake ++ [2] ∧
          t.pwr.pendingWake = Nat.lor s.pwr.pendingWake 2 ∧ t.pwr.trans = s.pwr.trans) ∧
        (s.sys.resetPin = false → s.inEntry = false → s.pwr.trans = .exit ∨ s.pwr.trans = .start → t.rd F.PWR_WAKE_STAT.CAUSE = 2 ∧ t.pwr.trans = s.pwr.trans ∧
          (s.advance n).Frame t [A.PWR_WAKE_STAT] [.pwr]) ∧
        (s.sys.resetPin = false → s.inTransition = false → t.rd F.PWR_WAKE_STAT.CAUSE = 2 ∧
          (s.power = 2 → s.wakeTarget ≠ 2 → t.pwr.trans = .exit ∧ t.power = 2 ∧ t.rd F.PWR_STATE.TARGET = s.wakeTarget ∧
            t.rd F.PWR_STATE.BUSY = 1 ∧ t.pwr.pendingWake = Nat.lor s.pwr.pendingWake 2 ∧
            (s.advance n).Frame t [A.PWR_STATE, A.PWR_WAKE_STAT] [.pwr]) ∧
          (s.power = 2 → s.wakeTarget = 2 → t.pwr.trans = .none ∧ (s.advance n).Frame t [A.PWR_WAKE_STAT] [.pwr]) ∧
          (s.power = 3 → t.pwr.trans = .start ∧ t.sys.waking = true ∧ t.rd F.PWR_STATE.TARGET = s.wakeTarget ∧
            t.pwr.enteredAt = s.pwr.enteredAt ∧ t.deviceId = s.deviceId ∧ t.flash = s.flash)))) ∧
    (∃ t, exec (.svcWake n) s = .next t ∧
      (s.on F.PWR_WAKE_EN.SVC = false ∨ s.lifecycle = 4 ∨ s.sys.resetPin = true ∨ (s.inTransition = false ∧ s.power < 2) → (s.advance n).Frame t [] []) ∧
      (s.on F.PWR_WAKE_EN.SVC = true → s.lifecycle ≠ 4 → s.sys.resetPin = false →
        (s.inEntry = true → (s.advance n).Frame t [] [.pwr] ∧ t.pwr.heldWake = s.pwr.heldWake ++ [3] ∧
          t.pwr.pendingWake = Nat.lor s.pwr.pendingWake 4 ∧ t.pwr.trans = s.pwr.trans) ∧
        (s.inEntry = false → s.pwr.trans = .exit ∨ s.pwr.trans = .start → t.rd F.PWR_WAKE_STAT.CAUSE = 3 ∧
          (s.advance n).Frame t [A.PWR_WAKE_STAT] []) ∧
        (s.inTransition = false → s.power = 2 → s.wakeTarget ≠ 2 → t.pwr.trans = .exit ∧ t.rd F.PWR_WAKE_STAT.CAUSE = 3 ∧
          t.rd F.PWR_STATE.TARGET = s.wakeTarget ∧ (s.advance n).Frame t [A.PWR_STATE, A.PWR_WAKE_STAT] [.pwr]) ∧
        (s.inTransition = false → s.power = 2 → s.wakeTarget = 2 → t.rd F.PWR_WAKE_STAT.CAUSE = 3 ∧
          (s.advance n).Frame t [A.PWR_WAKE_STAT] []) ∧
        (s.inTransition = false → s.power = 3 → t.pwr.trans = .start ∧ t.sys.waking = true ∧ t.rd F.PWR_WAKE_STAT.CAUSE = 3 ∧
          t.rd F.PWR_STATE.TARGET = s.wakeTarget))) ∧
    (∃ t, exec (.wakeRetry n) s = .next t ∧
      (¬(s.sys.waking = true ∧ s.rd F.SYS_START.STEP < 4) → ¬(s.pwr.trans = .exit ∧ s.pixClk = false) → (s.advance n).Frame t [] []) ∧
      (s.sys.waking = true ∧ s.rd F.SYS_START.STEP < 4 ∨ (s.pwr.trans = .exit ∧ s.pixClk = false) →
        (s.pwr.retried = false → (s.advance n).Frame t [A.PWR_WAKE_STAT] [.pwr, .flt] ∧ t.pwr.retried = true ∧
          t.pwr.trans = s.pwr.trans ∧ t.pwr.retryAt = (s.advance n).now + 1280000000 ∧
          t.rd F.PWR_WAKE_STAT.RETRIES = min 0xFFFF (s.rd F.PWR_WAKE_STAT.RETRIES + 1) ∧
          t.flt.inbox = s.flt.inbox ++ [⟨0xA0, 0, 0, 0, false, (s.advance n).now⟩]) ∧
        (s.pwr.retried = true → (s.advance n).sameCycle = false → t.pwr.failedTarget = some (s.rd F.PWR_STATE.TARGET) ∧
          t.rd (F.PWR_REFUSE_CNT.COUNT 10) = min 0xFFFF (s.rd (F.PWR_REFUSE_CNT.COUNT 10) + 1) ∧ t.deviceId = s.deviceId ∧
          t.pwr.pendingWake = s.pwr.pendingWake ∧ ((s.advance n).bump (F.PWR_REFUSE_CNT.COUNT 10)).Restarted t keptAwake 6 0 ((s.advance n).now + 256000000))))

/-- A conversion of a device that is not asleep replaces that sensor's reading and no other. A reading outside -50 to 150 °C, a
stall of ten conversion periods, or a reading apart from two or more valid neighbours for THM_XCHK.TIME fails the sensor, with
fault 0x81 and its index. After every such event each effective temperature is the reading, or the substitute of a failed
sensor, and HOLD follows the failed sensors. Ten seconds after the failure the last valid reading no longer counts; a cleared
sensor that passed for 10 s comes back. Asleep or early, nothing changes. (14_thermal.md R334, 14_thermal.md R335, 14_thermal.md
R336, 14_thermal.md R337, 14_thermal.md R338, 14_thermal.md R339, 14_thermal.md R342) -/
def Obligations.SensorReadings : Prop :=
  ∀ (s : State) (n : Nat) (i : Fin 24), s.undef = false → s.thm.sensors.length = 24 →
    (∀ c : Conversion, ∃ t, exec (.sensorConversion n i c) s = .next t ∧
      (s.asleep = true → (s.advance n).Frame t [] []) ∧
      (s.asleep = false → t.SensorsJudged ∧ (s.advance n).Frame t sensorRegs [.thm, .flt] ∧ (t.sensor i.val).has = true ∧
        (t.sensor i.val).stalled = false ∧ (∀ j < 24, j ≠ i.val → t.reading j = s.reading j) ∧
        (∀ uV, c = .volts uV → t.reading i.val = s.ntcTenths uV) ∧
        (∀ v, c = .tenths v → t.reading i.val = max (-32768) (min 32767 v)) ∧
        (∀ v, c = .tenths v → v < -500 ∨ 1500 < v → t.sensorFailed i.val = true ∧ (s.sensorFailed i.val = false →
          ⟨0x81, 2, sensorQuad i.val, i.val, false, (s.advance n).now⟩ ∈ t.flt.inbox)) ∧
        (∀ v, c = .tenths v → -500 ≤ v → v ≤ 1500 → s.sensorFailed i.val = false →
          ∀ ns lim, ns = (neighbours i.val).filter (fun j => !s.sensorFailed j && (s.sensor j).has) →
            lim = 10 * (if 20 ≤ i.val then s.rd F.THM_XCHK.GLASS_LIM else s.rd F.THM_XCHK.DIE_LIM) →
            (ns.length < 2 ∨ (∃ j ∈ ns, (v - s.reading j).natAbs ≤ lim) → t.sensorFailed i.val = false ∧
              (t.sensor i.val).apartFrom = none) ∧
            (∀ a, 2 ≤ ns.length → (∀ j ∈ ns, lim < (v - s.reading j).natAbs) → (s.sensor i.val).apartFrom = some a →
              (a + 25600000000 * max 1 (s.rd F.THM_XCHK.TIME) ≤ (s.advance n).now → t.sensorFailed i.val = true ∧
                (t.sensor i.val).lastValid = some (s.sensor i.val).apartLast ∧
                ⟨0x81, 2, sensorQuad i.val, i.val, false, (s.advance n).now⟩ ∈ t.flt.inbox) ∧
              ((s.advance n).now < a + 25600000000 * max 1 (s.rd F.THM_XCHK.TIME) → t.sensorFailed i.val = false))))) ∧
    (∃ t, exec (.sensorStall ⟨n, i⟩) s = .next t ∧
      (s.asleep = true ∨ s.thm.monitorFrom = none ∨ (∃ f, s.thm.monitorFrom = some f ∧ (s.advance n).now <
          max f ((s.sensor i.val).lastAt + 10 * (if 20 ≤ i.val then 1024000000 else 256000000))) → (s.advance n).Frame t [] []) ∧
      (∀ f, s.asleep = false → s.thm.monitorFrom = some f →
        max f ((s.sensor i.val).lastAt + 10 * (if 20 ≤ i.val then 1024000000 else 256000000)) ≤ (s.advance n).now →
        (s.advance n).Frame t sensorRegs [.thm, .flt] ∧ (t.sensor i.val).stalled = true ∧ (∀ j < 24, t.reading j = s.reading j) ∧
        (s.sensorFailed i.val = false → t.sensorFailed i.val = true ∧ t.SensorsJudged ∧ (t.sensor i.val).floor = true ∧
          (t.sensor i.val).failedAt = (s.advance n).now ∧
          (t.sensor i.val).lastValid = (if (s.sensor i.val).has then some (s.reading i.val) else none) ∧
          ⟨0x81, 2, sensorQuad i.val, i.val, false, (s.advance n).now⟩ ∈ t.flt.inbox) ∧
        (s.sensorFailed i.val = true → (s.sensor i.val).cleared = false → (s.advance n).Frame t [] [.thm]))) ∧
    (∃ t, exec (.substituteFloorEnd ⟨n, i⟩) s = .next t ∧
      ((s.advance n).now < (s.sensor i.val).failedAt + 2560000000000 → (s.advance n).Frame t [] []) ∧
      ((s.sensor i.val).failedAt + 2560000000000 ≤ (s.advance n).now → (s.advance n).Frame t sensorRegs [.thm, .flt] ∧ t.SensorsJudged ∧
        (t.sensor i.val).floor = false ∧ t.rd F.THM_FAIL.FAILED = s.rd F.THM_FAIL.FAILED ∧ ∀ j < 24, t.reading j = s.reading j)) ∧
    (∃ t, exec (.sensorRecovery n i) s = .next t ∧
      (s.sensorFailed i.val = false ∨ (s.sensor i.val).cleared = false ∨ (s.sensor i.val).passFrom = none →
        (s.advance n).Frame t [] []) ∧
      (∀ p, (s.sensor i.val).passFrom = some p → (s.advance n).now < p + 2560000000000 → (s.advance n).Frame t [] []) ∧
      (∀ p, (s.sensor i.val).passFrom = some p → p + 2560000000000 ≤ (s.advance n).now → s.sensorFailed i.val = true →
        (s.sensor i.val).cleared = true → t.sensorFailed i.val = false ∧ t.SensorsJudged ∧
          (∀ j < 24, j ≠ i.val → t.sensorFailed j = s.sensorFailed j) ∧ (s.advance n).Frame t sensorRegs [.thm, .flt]))

/-- At each throttle tick of a device not asleep a ceiling is at most FLOOR with RATE, falls to the lowest target of its
governing sensors, never rises under HOLD, and rises only as far as the target HYST warmer allows. THROTTLE shows the quadrants
below 0xFFFF, an entry raises fault 0x80, and the margin, the smallest START − T, is at most 0 while throttling. The rise test,
enabled after 60 s of monitoring, sets RATE and fault 0x83 for each sensor over its limit and keeps it until calm; clearing
RATE_EN clears all. A temperature above a comparator's trip point, which lies within 3 °C of HARD, sets the thermal latch with
the first sensor, raises fault 0x84 class 4 and darkens all. Nothing else changes. That SENSOR is judged at target(T) also where
another rule holds the ceiling, and that a margin outside its field shows the nearest end, are the model's choice (log entry
105). (14_thermal.md R340, 14_thermal.md R341, 14_thermal.md R342, 14_thermal.md R343, 14_thermal.md R344, 14_thermal.md R345,
14_thermal.md R347) -/
def Obligations.ThrottleRiseAndShutdown : Prop :=
  ∀ (s : State) (n : Nat), s.undef = false →
    (∃ t, exec .throttleTick s = .next t ∧ s.Frame t ([0, 1, 2, 3].map A.THM_CEIL ++ [A.THM_STAT]) [.flt] ∧
      (s.asleep = true → s.Frame t [] []) ∧
      (s.asleep = false →
        (∀ q : Quad, ∀ prev low high, prev = s.ceilTherm q → low = (s.target q 0).1 →
          high = (s.target q (10 * (max 1 (s.rd F.THM_CFG.HYST) : Nat))).1 →
          (∀ i < 24, bitsAt (governs i) q.val 1 = 1 → low ≤ s.targetOf i (s.teff i)) ∧
          (∃ w < 24, bitsAt (governs w) q.val 1 = 1 ∧ low = s.targetOf w (s.teff w) ∧ t.rd (F.THM_CEIL.SENSOR q.val) = w) ∧
          (∀ c, c = (if low < prev then low else if bitsAt (s.rd F.THM_STAT.HOLD) q.val 1 = 1 then prev else max prev (min low high)) →
            bitsAt (s.rd F.THM_STAT.RATE) q.val 1 = 1 → t.ceilTherm q = min c (max 0x0800 (s.rd F.THM_CFG.FLOOR))) ∧
          (bitsAt (s.rd F.THM_STAT.RATE) q.val 1 = 0 → low < prev → t.ceilTherm q = low) ∧
          (bitsAt (s.rd F.THM_STAT.RATE) q.val 1 = 0 → prev ≤ low → bitsAt (s.rd F.THM_STAT.HOLD) q.val 1 = 1 → t.ceilTherm q = prev) ∧
          (bitsAt (s.rd F.THM_STAT.RATE) q.val 1 = 0 → prev ≤ low → bitsAt (s.rd F.THM_STAT.HOLD) q.val 1 = 0 →
            t.ceilTherm q = max prev (min low high)) ∧
          (bitsAt (t.rd F.THM_STAT.THROTTLE) q.val 1 = if t.ceilTherm q < 0xFFFF then 1 else 0)) ∧
        (s.rd F.THM_STAT.THROTTLE = 0 → t.rd F.THM_STAT.THROTTLE ≠ 0 → t.flt.inbox = s.flt.inbox ++ [⟨0x80, 0, 0, 0, false, s.now⟩]) ∧
        (s.rd F.THM_STAT.THROTTLE ≠ 0 ∨ t.rd F.THM_STAT.THROTTLE = 0 → t.flt = s.flt) ∧
        signed 8 (t.rd F.THM_STAT.MARGIN) = max (-128) (min 127 t.heatMargin) ∧ (t.rd F.THM_STAT.THROTTLE ≠ 0 → t.heatMargin ≤ 0) ∧
        (t.rd F.THM_STAT.THROTTLE = 0 → ∃ i < 24, t.heatMargin = Int.fdiv (10 * (s.startOf i : Int) - s.teff i) 10) ∧
        ∀ i < 24, t.heatMargin ≤ Int.fdiv (10 * (s.startOf i : Int) - s.teff i) 10)) ∧
    (∃ t, exec (.rateTick n) s = .next t ∧ (s.advance n).Frame t [A.THM_STAT] [.thm, .flt] ∧
      (s.asleep = true → (s.advance n).Frame t [] []) ∧
      (s.asleep = false → s.thm.sensors.length = 24 →
        (∀ i < 24, (t.sensor i).history = (s.sensor i).history.filter (fun e => decide ((s.advance n).now < e.1 + 256000000000))
          ++ [((s.advance n).now, (s.sensor i).low)] ∧ (t.sensor i).low = s.teff i ∧
          (t.sensor i).restless = (if 2 * t.riseOf i < t.riseLimit i then (s.sensor i).restless else (s.advance n).now)) ∧
        (s.thm.rateOn = false ∨ s.on F.THM_CFG.RATE_EN = false → (s.advance n).Frame t [] [.thm]) ∧
        (s.thm.rateOn = true → s.on F.THM_CFG.RATE_EN = true →
          (∀ i < 24, t.riseLimit i < t.riseOf i → ⟨0x83, 2, sensorQuad i, i, false, (s.advance n).now⟩ ∈ t.flt.inbox ∧
            ∀ q : Quad, bitsAt (governs i) q.val 1 = 1 → bitsAt (t.rd F.THM_STAT.RATE) q.val 1 = 1) ∧
          ∀ q : Quad, (∀ i < 24, bitsAt (governs i) q.val 1 = 1 → t.riseOf i ≤ t.riseLimit i) →
            bitsAt (t.rd F.THM_STAT.RATE) q.val 1 = if t.calm q then 0 else bitsAt (s.rd F.THM_STAT.RATE) q.val 1))) ∧
    (∃ t, exec .rateTestEnable s = .next t ∧
      (∀ f, s.thm.monitorFrom = some f → t.thm = { s.thm with rateOn := true } ∧ f + 15360000000000 ≤ t.now ∧
        (s.advance (f + 15360000000000)).Frame t [] [.thm]) ∧
      (s.thm.monitorFrom = none → s.Frame t [] [])) ∧
    (∀ v : Word, ∃ t, exec (.thmCfgWrite v) s = .next t ∧ s.Frame t [A.THM_CFG, A.THM_STAT] [.thm] ∧
      t.rd F.THM_CFG.FLOOR = v.toNat / 65536 ∧ t.rd F.THM_CFG.HYST = v.toNat / 256 % 16 ∧ t.rd F.THM_CFG.RATE_EN = v.toNat % 2 ∧
      (v.toNat % 2 = 1 → s.Frame t [A.THM_CFG] []) ∧
      (v.toNat % 2 = 0 → t.rd F.THM_STAT.RATE = 0 ∧ t.rd F.THM_STAT.THROTTLE = s.rd F.THM_STAT.THROTTLE)) ∧
    (∀ (i : Fin 24) (x : Int), ∃ t, exec (.hardLimitTrip ⟨i, x⟩) s = .next t ∧ s.Frame t [A.THM_STAT] [.thm, .flt] ∧
      10 * s.hardOf i.val - 30 ≤ s.tripPoint i.val ∧ s.tripPoint i.val ≤ 10 * s.hardOf i.val + 30 ∧
      (s.asleep = true ∨ x ≤ s.tripPoint i.val → s.Frame t [] []) ∧
      (s.asleep = false → s.tripPoint i.val < x → t.thermalLatch = true ∧ t.AllDark ∧ t.saf.outOn = false ∧
        t.rd F.THM_STAT.SHUT_SENSOR = (if s.thermalLatch then s.rd F.THM_STAT.SHUT_SENSOR else i.val) ∧
        (∀ q : Quad, s.thm.dieTrip.length = 4 → i.val = 8 + 2 * q.val ∨ i.val = 9 + 2 * q.val → nth t.thm.dieTrip q.val = true) ∧
        t.flt.inbox = s.flt.inbox ++ [⟨0x84, 4, sensorQuad i.val, i.val, false, s.now⟩]))

/-- A filtered change of SAFE_IN, which is off without VIN_SAFE, shows in SAF_STAT; with IN_EN = 1 an input off sets the latch,
darkens all, de-energises the outputs, and a demand that begins is counted. Channels that come to disagree start the time;
agreeing again within DISC_MS is no fault, and clears DISC when both had been off. Once the time in 10 µs ticks exceeds DISC_MS,
DISC and the latch are set and fault 0x90 raised for all quadrants. A supply pulse, when its period is over and half a period
after the other channel's, passes as R359 says; two failures in a row set IN_TEST_FAIL and the latch with fault 0x91, two passes
of each channel clear it. Nothing else changes. That a demand is counted once, from the first input that asks until none does,
is the model's reading (log entry 107). (15_safety_functions.md R349, 15_safety_functions.md R353, 15_safety_functions.md R357,
15_safety_functions.md R358, 15_safety_functions.md R359, 15_safety_functions.md R360, 15_safety_functions.md R378,
20_start_up.md R439) -/
def Obligations.SafetyInputs : Prop :=
  ∀ (s : State) (n : Nat), s.undef = false →
    (∀ (ch : Fin 2) (at_ on : Bool), on = (at_ && s.sys.vinSafe) → ∃ t, exec (.safeInputChange ch at_ n) s = .next t ∧
      (s.islandSees = false → (s.advance n).Frame t [] []) ∧
      (s.islandSees = true → (s.advance n).Frame t [A.SAF_STAT, A.SAF_CNT] [.saf, .flt] ∧
        (∀ mine other, mine = (if ch = 0 then F.SAF_STAT.IN_A else F.SAF_STAT.IN_B) →
            other = (if ch = 0 then F.SAF_STAT.IN_B else F.SAF_STAT.IN_A) →
          t.on mine = on ∧ t.on other = s.on other ∧
          (s.inEn = true → on = false → t.latched = true ∧ t.AllDark ∧ t.saf.outOn = false) ∧
          (s.inEn = true → s.bcEn = false → t.rd F.SAF_CNT.DEMANDS
            = if on = false ∧ s.on mine = true ∧ s.on other = true then min 0xFFFF (s.rd F.SAF_CNT.DEMANDS + 1) else s.rd F.SAF_CNT.DEMANDS) ∧
          (s.on mine = s.on other → on ≠ s.on mine → t.saf.disagreeAt = some (s.advance n).now) ∧
          (∀ a, s.on mine ≠ s.on other → on = s.on other → s.saf.disagreeAt = some a →
            t.saf.disagreeAt = none ∧ t.saf.bothOff = !on ∧
            ((s.advance n).now < a + 256000000 * max 10 (min 500 (s.rd F.SAF_CFG.DISC_MS)) + 2560000 → t.flt = s.flt ∧
              t.rd F.SAF_STAT.DISC = (if on = true ∧ s.saf.bothOff = true then 0 else s.rd F.SAF_STAT.DISC)) ∧
            (a + 256000000 * max 10 (min 500 (s.rd F.SAF_CFG.DISC_MS)) + 2560000 ≤ (s.advance n).now → s.inEn = true →
              t.rd F.SAF_STAT.DISC = 1 ∧ t.latched = true ∧
              t.flt.inbox = s.flt.inbox ++ [⟨0x90, 3, 15, 0, false, (s.advance n).now⟩]))))) ∧
    (∃ t, exec (.discrepancyTimeout n) s = .next t ∧ (s.advance n).Frame t [A.SAF_STAT] [.saf, .flt] ∧
      (s.islandSees = false ∨ s.saf.disagreeAt = none ∨ s.inEn = false → (s.advance n).Frame t [] []) ∧
      ∀ a, s.islandSees = true → s.saf.disagreeAt = some a → s.inEn = true →
        ((s.advance n).now < a + 256000000 * max 10 (min 500 (s.rd F.SAF_CFG.DISC_MS)) + 2560000 → (s.advance n).Frame t [] []) ∧
        (a + 256000000 * max 10 (min 500 (s.rd F.SAF_CFG.DISC_MS)) + 2560000 ≤ (s.advance n).now → t.rd F.SAF_STAT.DISC = 1 ∧
          t.latched = true ∧ t.AllDark ∧ t.flt.inbox = s.flt.inbox ++ [⟨0x90, 3, 15, 0, false, (s.advance n).now⟩])) ∧
    (∀ (ch : Fin 2) (own : PulseSamples) (other : List Bool) (period : Nat) (due : Prop),
      period = 25600000000 * max 1 (min 100 (s.rd F.SAF_TP.SUP_PERIOD)) →
      due = (nth s.saf.supAt ch.val + period ≤ (s.advance n).now ∧ nth s.saf.supAt (1 - ch.val) + period / 2 ≤ (s.advance n).now) →
      ∃ t, exec (.supplyTestPulse n ch own other) s = .next t ∧ (s.advance n).Frame t [A.SAF_STAT] [.saf, .flt] ∧
      (s.islandSees = false ∨ s.safeClk = false ∨ s.inEn = false ∨ s.sys.vinSafe = false ∨ ¬due → (s.advance n).Frame t [] []) ∧
      (s.islandSees = true → s.safeClk = true → s.inEn = true → s.sys.vinSafe = true → due →
        s.saf.supFails.length = 2 → s.saf.supPasses.length = 2 → s.saf.supAt.length = 2 →
        nth t.saf.supAt ch.val = (s.advance n).now ∧
        ∀ pass : Prop, pass = ((s.on (if ch = 0 then F.SAF_STAT.IN_A else F.SAF_STAT.IN_B) = false ∨
              (nth own.during (max 10 (min 50 (s.rd F.SAF_TP.SUP_US)) / 5 - 1) = false ∧ true ∈ own.after.take 10)) ∧
            ((∀ b ∈ other, b = true) ∨ ∀ b ∈ other, b = false)) →
          (pass → nth t.saf.supPasses ch.val = nth s.saf.supPasses ch.val + 1 ∧ nth t.saf.supFails ch.val = 0 ∧ t.flt = s.flt ∧
            t.rd F.SAF_STAT.IN_TEST_FAIL
              = if 2 ≤ nth t.saf.supPasses 0 ∧ 2 ≤ nth t.saf.supPasses 1 then 0 else s.rd F.SAF_STAT.IN_TEST_FAIL) ∧
          (¬pass → nth t.saf.supFails ch.val = nth s.saf.supFails ch.val + 1 ∧ nth t.saf.supPasses ch.val = 0 ∧
            (nth s.saf.supFails ch.val = 0 →
              t.flt = s.flt ∧ t.rd F.SAF_STAT.IN_TEST_FAIL = s.rd F.SAF_STAT.IN_TEST_FAIL) ∧
            (1 ≤ nth s.saf.supFails ch.val → t.rd F.SAF_STAT.IN_TEST_FAIL = 1 ∧ t.latched = true ∧
              t.flt.inbox = s.flt.inbox ++ [⟨0x91, 3, 15, 0, false, (s.advance n).now⟩]))))

/-- An output test, when its period is over and half a period after the other output's, that a demand falls into is discarded
and counted; a bad level, a failed pulse of an energised output, or its overcurrent raises fault 0x92. A feedback input that
changes on a steady output, or does not match TIME_MS after a change, raises fault 0x93; both off in time end the feedback wait.
A stopped heartbeat or lockstep mismatch of a released core demands darkness with fault 0x97 or 0x96; two disagreeing
read-backs, or filters of inputs in use that disagree, raise 0x98. Cap words reach the tails that received them; after 3 ms
without one a tail applies 0. Each of these faults makes every quadrant dark and switches the outputs off at once. Nothing else
changes. That a feedback change counts only once the safety core has started, and what the input filters compare, is the model's
reading (log entries 77, 107). (15_safety_functions.md R353, 15_safety_functions.md R354, 15_safety_functions.md R361,
15_safety_functions.md R362, 15_safety_functions.md R363, 15_safety_functions.md R366, 15_safety_functions.md R367,
15_safety_functions.md R368, 15_safety_functions.md R378) -/
def Obligations.SafetyOutputsAndSupervision : Prop :=
  ∀ (s : State) (n : Nat), s.undef = false →
    (∀ (ch : Fin 2) (low high outside vin period : Nat) (on : Bool) (due demanded level : Prop),
      on = (s.saf.outOn && !nth s.saf.outTripped ch.val) →
      period = 256000000000 * max 1 (min 60 (s.rd F.SAF_TP.PERIOD_S)) →
      due = (nth s.saf.outAt ch.val + period ≤ (s.advance n).now ∧ nth s.saf.outAt (1 - ch.val) + period / 2 ≤ (s.advance n).now) →
      demanded = (on = false ∧ (s.advance n).now < s.saf.outSince + 2560000 * max 20 (min 100 (s.rd F.SAF_TP.OUT_US))) →
      level = (if on then vin < outside + 2000 else outside < 5000) →
      ∃ t, exec (.outputTestPulse n ch ⟨low, high⟩ outside vin) s = .next t ∧ (s.advance n).Frame t [A.SAF_CNT] [.saf, .flt] ∧
      (s.islandSees = false ∨ s.safeClk = false ∨ ¬due → (s.advance n).Frame t [] []) ∧
      (s.islandSees = true → s.safeClk = true → due → t.saf.outAt = s.saf.outAt.set ch.val (s.advance n).now ∧
        (demanded → t.rd F.SAF_CNT.TESTS_REPEATED = min 0xFF (s.rd F.SAF_CNT.TESTS_REPEATED + 1) ∧ t.flt = s.flt ∧
          t.rd F.SAF_CNT.DEMANDS = s.rd F.SAF_CNT.DEMANDS ∧ t.saf.repeatTest = s.saf.repeatTest.set ch.val true) ∧
        (¬demanded → t.reg A.SAF_CNT = s.reg A.SAF_CNT) ∧
        (¬demanded → ¬level → t.flt.inbox = s.flt.inbox ++ [⟨0x92, 4, 0, 0, false, (s.advance n).now⟩] ∧ t.AllDark ∧ t.saf.outOn = false ∧
          t.saf.repeatTest = s.saf.repeatTest) ∧
        (¬demanded → level → on = false → t.flt = s.flt ∧ t.saf.repeatTest = s.saf.repeatTest) ∧
        (¬demanded → level → on = true → t.saf.repeatTest = s.saf.repeatTest.set ch.val false ∧
          (low < 5000 ∧ vin < high + 2000 → t.flt = s.flt) ∧
          (¬(low < 5000 ∧ vin < high + 2000) → t.flt.inbox = s.flt.inbox ++ [⟨0x92, 4, 0, 0, false, (s.advance n).now⟩] ∧ t.AllDark ∧
            t.saf.outOn = false)))) ∧
    (∀ ch : Fin 2, ∃ t, exec (.safeOutOvercurrent ch) s = .next t ∧
      (s.saf.outOn = false ∨ nth s.saf.outTripped ch.val = true → s.Frame t [] []) ∧
      (s.saf.outOn = true → nth s.saf.outTripped ch.val = false → s.Frame t [] [.saf, .flt] ∧ t.AllDark ∧ t.saf.outOn = false ∧
        t.saf.outTripped = s.saf.outTripped.set ch.val true ∧
        t.flt.inbox = s.flt.inbox ++ [⟨0x92, 4, 0, 0, false, s.now⟩])) ∧
    (∀ (ch : Fin 2) (at_ on : Bool), on = (at_ && s.sys.vinSafe) → ∃ t, exec (.feedbackInputChange ch at_ n) s = .next t ∧
      (s.islandSees = false → (s.advance n).Frame t [] []) ∧
      (s.islandSees = true → (s.advance n).Frame t [A.SAF_STAT] [.saf, .flt] ∧
        ∀ mine other, mine = (if ch = 0 then F.SAF_STAT.FB_A else F.SAF_STAT.FB_B) →
            other = (if ch = 0 then F.SAF_STAT.FB_B else F.SAF_STAT.FB_A) →
          t.on mine = on ∧ t.on other = s.on other ∧
          (s.fbEn = false ∨ on = s.on mine ∨ s.safeClk = false ∨
            (s.advance n).now ≤ s.saf.outSince + 256000000 * max 20 (min 500 (s.rd F.SAF_FB.TIME_MS)) → t.flt = s.flt) ∧
          (s.fbEn = true → on ≠ s.on mine → s.safeClk = true →
            s.saf.outSince + 256000000 * max 20 (min 500 (s.rd F.SAF_FB.TIME_MS)) < (s.advance n).now →
            t.flt.inbox = s.flt.inbox ++ [⟨0x93, 4, 0, 0, false, (s.advance n).now⟩] ∧ t.AllDark ∧ t.saf.outOn = false) ∧
          (s.saf.fbWait = true → s.fbEn = true → s.latched = false → s.outEnergised 0 = true → s.outEnergised 1 = true → on = false →
            s.on other = false →
            (s.advance n).now ≤ s.saf.outSince + 256000000 * max 20 (min 500 (s.rd F.SAF_FB.TIME_MS)) → t.saf.fbWait = false))) ∧
    (∃ t, exec (.feedbackTimeout n) s = .next t ∧ (s.advance n).Frame t [] [.saf, .flt] ∧
      (s.islandSees = false ∨ s.safeClk = false ∨ s.fbEn = false ∨ s.saf.fbWindow = false ∨
          (s.advance n).now < s.saf.outSince + 256000000 * max 20 (min 500 (s.rd F.SAF_FB.TIME_MS)) → t.flt = s.flt) ∧
      (s.islandSees = true → s.safeClk = true → s.fbEn = true → s.saf.fbWindow = true →
        s.saf.outSince + 256000000 * max 20 (min 500 (s.rd F.SAF_FB.TIME_MS)) ≤ (s.advance n).now →
        (s.on F.SAF_STAT.FB_A ≠ s.outEnergised 0 → s.on F.SAF_STAT.FB_B ≠ s.outEnergised 1 → t.flt = s.flt) ∧
        (s.on F.SAF_STAT.FB_A = s.outEnergised 0 ∨ s.on F.SAF_STAT.FB_B = s.outEnergised 1 →
          t.flt.inbox = s.flt.inbox ++ [⟨0x93, 4, 0, 0, false, (s.advance n).now⟩] ∧ t.AllDark ∧ t.saf.outOn = false))) ∧
    (∀ e ∈ [(0x97, Instr.heartbeatTimeout), (0x96, Instr.lockstepMismatch)], ∃ t, exec e.2 s = .next t ∧
      (s.islandSees = false ∨ s.saf.released = false → s.Frame t [] []) ∧
      (s.islandSees = true → s.saf.released = true → s.Frame t [] [.saf, .flt] ∧ t.saf.coreFail = true ∧ t.AllDark ∧
        t.saf.outOn = false ∧ t.flt.inbox = s.flt.inbox ++ [⟨e.1, 4, 0, 0, false, s.now⟩])) ∧
    (∀ (valves emits path1 path2 : Fin 16) (outA filters : Bool) (wrong : Prop),
      wrong = ((∃ q : Quad, s.dark q = true ∧ (bitsAt valves.val q.val 1 = 1 ∨ bitsAt emits.val q.val 1 = 1 ∨
        bitsAt path1.val q.val 1 = 1 ∨ bitsAt path2.val q.val 1 = 1)) ∨ (outA = true ∧ s.demandBesideWait = true) ∨
        (outA = false ∧ s.demandBesideWait = false ∧ s.sys.vinSafe = true)) →
      ∃ t, exec (.mutePathCheck valves emits path1 path2 outA filters) s = .next t ∧ s.Frame t [] [.saf, .flt] ∧
      (s.islandSees = false ∨ s.safeClk = false → s.Frame t [] []) ∧
      (s.islandSees = true → s.safeClk = true →
        (wrong → t.saf.pathFails = s.saf.pathFails + 1) ∧ (¬wrong → t.saf.pathFails = 0) ∧
        ((wrong ∧ 1 ≤ s.saf.pathFails) ∨ (s.inEn = true ∧ filters = false) → t.flt.inbox = s.flt.inbox ++ [⟨0x98, 4, 0, 0, false, s.now⟩] ∧ t.AllDark) ∧
        ((¬wrong ∨ s.saf.pathFails = 0) → filters = true ∨ s.inEn = false → t.flt = s.flt))) ∧
    (∀ (valid : Fin 16) (q : Quad), s.saf.tailCap.length = 4 → s.saf.tailValid.length = 4 →
      ∃ t, exec (.capWordSend valid n) s = .next t ∧ (s.advance n).Frame t [] [.saf] ∧
      (s.islandSees = true → s.saf.released = true → t.saf.capCounter = (s.saf.capCounter + 1) % 16 ∧
        t.tailCap q = if bitsAt valid.val q.val 1 = 1 then
          (if s.bcEn then min (s.rd F.SAF_CAP.STATIC) s.saf.bcCap else s.rd F.SAF_CAP.STATIC) else s.tailCap q) ∧
      (s.islandSees = false ∨ s.saf.released = false → (s.advance n).Frame t [] [])) ∧
    (∀ q : Quad, s.saf.tailValid.length = 4 → ∃ t, exec (.capWordTimeout q n) s = .next t ∧ (s.advance n).Frame t [] [.saf] ∧
      (nth s.saf.tailAt q.val + 768000000 ≤ (s.advance n).now → t.tailCap q = 0 ∧ ∀ r, r ≠ q → t.tailCap r = s.tailCap r) ∧
      ((s.advance n).now < nth s.saf.tailAt q.val + 768000000 → (s.advance n).Frame t [] []))

/-- A restart edge of the selected source clears the latch exactly when every condition of R365 holds, energises the outputs and
begins the feedback wait; otherwise it is counted as refused and has no other effect. A press over 5 s is counted and blocks the
pin for 100 ms, one below 100 ms does nothing. Without VIN_SAFE the pin is off. A demand frame that fails a test is counted and
discarded; an accepted one applies RUN, CAP and SEQ, ends a loss, and brings a new status frame with the CRC of R372; with RUN =
0 it shows the latch and the outputs off. Loss after WD_MS sets the latch, counts, with fault 0x94. Nothing else changes. That a
press is reported at its end, and a channel's edge judged at its instant only, is the model's reading (log entry 78).
(15_safety_functions.md R349, 15_safety_functions.md R357, 15_safety_functions.md R364, 15_safety_functions.md R365,
15_safety_functions.md R366, 15_safety_functions.md R367, 15_safety_functions.md R371, 15_safety_functions.md R372,
15_safety_functions.md R373, 15_safety_functions.md R374) -/
def Obligations.RestartAndBlackChannel : Prop :=
  ∀ (s : State) (n : Nat), s.undef = false →
    (∀ (ev : RestartEvent) (rawA rawB : Bool) (ok acts : Prop),
      ok = ((s.inEn = true → s.on F.SAF_STAT.IN_A = true ∧ s.on F.SAF_STAT.IN_B = true ∧ rawA = true ∧ rawB = true ∧
          s.on F.SAF_STAT.DISC = false ∧ s.on F.SAF_STAT.IN_TEST_FAIL = false) ∧
        (s.bcEn = true → s.saf.bcRun = true ∧ s.saf.bcLost = false) ∧
        (s.fbEn = true → s.on F.SAF_STAT.FB_A = true ∧ s.on F.SAF_STAT.FB_B = true) ∧
        s.on F.FLT_LATCH.DARK_LATCH = false ∧ (∀ r ∈ s.flt.inbox, r.islandFour = false) ∧ s.on F.THM_STAT.SHUT = false ∧ (s.inEn = true ∨ s.bcEn = true)) →
      acts = ((ev = .channel ∧ s.saf.bcEdge = some (s.advance n).now ∧ (s.rd F.SAF_CFG.RST_SRC = 1 ∨ s.rd F.SAF_CFG.RST_SRC = 2)) ∨
        ∃ held, ev = .press held ∧ s.rd F.SAF_CFG.RST_SRC ≠ 1 ∧ s.sys.vinSafe = true ∧ 25600000000 ≤ held ∧ held ≤ 1280000000000 ∧
          s.saf.rstFrom + held ≤ (s.advance n).now) →
      ∃ t, exec (.restartEdge ev rawA rawB n) s = .next t ∧ (s.advance n).Frame t [A.SAF_CNT] [.saf] ∧
      (s.islandSees = false ∨ s.safeClk = false → (s.advance n).Frame t [] []) ∧
      (s.islandSees = true → s.safeClk = true →
        (acts → ok → t.latched = false ∧ t.reg A.SAF_CNT = s.reg A.SAF_CNT ∧ (s.saf.coreFail = false → t.saf.outOn = (s.sys.vinSafe && !s.on F.PWR_PAD.SAFETY)) ∧
          (ev = .channel → t.saf.bcEdge = none) ∧
          (s.latched = true → t.saf.fbWait = s.fbEn ∧ t.saf.firstClear = false)) ∧
        (acts → ¬ok → t.rd F.SAF_CNT.RST_REFUSED = min 0xFF (s.rd F.SAF_CNT.RST_REFUSED + 1) ∧
          (s.latched = true → s.saf.firstClear = false → t.latched = true)) ∧
        (¬acts → (∃ held, ev = .press held ∧ s.rd F.SAF_CFG.RST_SRC ≠ 1 ∧ s.sys.vinSafe = true ∧ 1280000000000 < held) →
          t.rd F.SAF_CNT.RST_REFUSED = min 0xFF (s.rd F.SAF_CNT.RST_REFUSED + 1) ∧
          t.saf.rstFrom = (s.advance n).now + 25600000000 ∧ (s.latched = true → s.saf.firstClear = false → t.latched = true)) ∧
        (¬acts → (∀ held, ev = .press held → s.rd F.SAF_CFG.RST_SRC = 1 ∨ s.sys.vinSafe = false ∨ held ≤ 1280000000000) →
          t.reg A.SAF_CNT = s.reg A.SAF_CNT ∧ (s.latched = true → s.saf.firstClear = false → t.latched = true)))) ∧
    (∀ (w0 w1 w2 w3 : Word) (f : List Byte), f = leBytes 4 w0.toNat ++ leBytes 4 w1.toNat ++ leBytes 4 w2.toNat ++ leBytes 4 w3.toNat →
      ∃ t, exec (.bcDemandFrame w0 w1 w2 w3 n) s = .next t ∧
      (s.advance n).Frame t ([A.SAF_STAT, A.SAF_CNT, A.SAF_BC_CNT] ++ [0, 1, 2, 3].map A.SAF_BC_TX) [.saf] ∧
      (s.islandSees = false ∨ s.saf.released = false → (s.advance n).Frame t [] []) ∧
      (s.islandSees = true → s.saf.released = true →
        ∀ seq win shape check window, seq = fieldLE f 2 2 → win = max 1 (s.rd F.SAF_BC_CFG.SEQ_WIN) →
          shape = (byteAt f 0 = 0x5A ∧ byteAt f 1 < 8 ∧ fieldLE f 8 4 = 0) →
          check = (s.rd F.SAF_BC_PEER.ID ≠ 0 ∧ s.rd F.SAF_BC_LOCAL.ID ≠ 0 ∧
            fieldLE f 12 4 = crcOf crc32Set (leBytes 4 (s.rd F.SAF_BC_PEER.ID) ++ leBytes 4 (s.rd F.SAF_BC_LOCAL.ID) ++ f.take 12)) →
          window = (∀ last, s.saf.bcLast = some last → 1 ≤ (seq + 65536 - last) % 65536 ∧ (seq + 65536 - last) % 65536 ≤ win) →
          (¬(shape ∧ check) → t.rd F.SAF_BC_CNT.CHECK_FAIL = min 0xFFFF (s.rd F.SAF_BC_CNT.CHECK_FAIL + 1) ∧
            (s.advance n).Frame t [A.SAF_BC_CNT] []) ∧
          (shape → check → ¬window → t.rd F.SAF_BC_CNT.SEQ_BAD = min 0xFF (s.rd F.SAF_BC_CNT.SEQ_BAD + 1) ∧
            (s.advance n).Frame t [A.SAF_BC_CNT] []) ∧
          (shape → check → window → t.reg A.SAF_BC_CNT = s.reg A.SAF_BC_CNT ∧ t.saf.bcRun = decide (byteAt f 1 % 2 = 1) ∧
            t.saf.bcLast = some seq ∧ t.saf.bcLost = false ∧ t.saf.bcAt = (s.advance n).now ∧
            t.saf.bcCap = (if byteAt f 1 / 2 % 2 = 1 then fieldLE f 4 2 else s.saf.bcCap) ∧
            (byteAt f 1 / 4 % 2 = 1 → s.saf.bcAny = true → s.saf.bcRestart = false → t.saf.bcEdge = some (s.advance n).now) ∧
            (byteAt f 1 / 4 % 2 = 0 ∨ s.saf.bcAny = false ∨ s.saf.bcRestart = true → t.saf.bcEdge = none) ∧
            (s.bcEn = true → byteAt f 1 % 2 = 0 → t.latched = true ∧ t.AllDark ∧ t.saf.outOn = false) ∧
            (s.bcEn = true → s.inEn = false → s.saf.bcRun = true → s.saf.bcLost = false → byteAt f 1 % 2 = 0 →
              t.rd F.SAF_CNT.DEMANDS = min 0xFFFF (s.rd F.SAF_CNT.DEMANDS + 1)) ∧
            ∃ b, b.length = 12 ∧ byteAt b 0 = 0xA5 ∧ fieldLE b 2 2 = (s.saf.bcTxSeq + 1) % 65536 ∧ fieldLE b 6 2 = seq ∧
              (s.bcEn = true → byteAt f 1 % 2 = 0 → byteAt b 1 % 4 = 2) ∧
              [0, 1, 2, 3].flatMap (fun i => leBytes 4 (t.reg (A.SAF_BC_TX i)).toNat) = b ++ leBytes 4
                (crcOf crc32Set (leBytes 4 (s.rd F.SAF_BC_LOCAL.ID) ++ leBytes 4 (s.rd F.SAF_BC_PEER.ID) ++ b))))) ∧
    (∃ t, exec (.bcLossTimeout n) s = .next t ∧ (s.advance n).Frame t [A.SAF_STAT, A.SAF_CNT, A.SAF_BC_CNT] [.saf, .flt] ∧
      (s.islandSees = false ∨ s.saf.released = false ∨ s.bcEn = false ∨ s.saf.bcLost = true ∨
        (s.advance n).now < s.saf.bcAt + 256000000 * max 10 (min 2000 (s.rd F.SAF_BC_CFG.WD_MS)) → (s.advance n).Frame t [] []) ∧
      (s.islandSees = true → s.saf.released = true → s.bcEn = true → s.saf.bcLost = false →
        s.saf.bcAt + 256000000 * max 10 (min 2000 (s.rd F.SAF_BC_CFG.WD_MS)) ≤ (s.advance n).now →
        t.saf.bcLost = true ∧ t.saf.bcLast = none ∧ t.latched = true ∧ t.AllDark ∧
        t.rd F.SAF_BC_CNT.LOSSES = min 0xFF (s.rd F.SAF_BC_CNT.LOSSES + 1) ∧
        t.rd F.SAF_CNT.DEMANDS = (if s.sfDark then s.rd F.SAF_CNT.DEMANDS else min 0xFFFF (s.rd F.SAF_CNT.DEMANDS + 1)) ∧
        t.flt.inbox = s.flt.inbox ++ [⟨0x94, 2, 0, 0, false, (s.advance n).now⟩])) ∧
    (∃ t, exec (.bcStatusRefresh n) s = .next t ∧ (s.advance n).Frame t ([0, 1, 2, 3].map A.SAF_BC_TX) [.saf] ∧
      (s.islandSees = false ∨ s.saf.released = false → (s.advance n).Frame t [] []) ∧
      (s.islandSees = true → s.saf.released = true →
        ∃ b, b = (s.advance n).statusBody ((s.saf.bcTxSeq + 1) % 65536) ∧ b.length = 12 ∧ byteAt b 0 = 0xA5 ∧
          byteAt b 1 % 2 = (if s.outEnergised 0 && s.outEnergised 1 then 1 else 0) ∧ byteAt b 1 / 2 % 2 = (if s.latched then 1 else 0) ∧
          fieldLE b 2 2 = (s.saf.bcTxSeq + 1) % 65536 ∧ t.saf.bcTxSeq = (s.saf.bcTxSeq + 1) % 65536 ∧
          [0, 1, 2, 3].flatMap (fun i => leBytes 4 (t.reg (A.SAF_BC_TX i)).toNat) = b ++ leBytes 4
            (crcOf crc32Set (leBytes 4 (s.rd F.SAF_BC_LOCAL.ID) ++ leBytes 4 (s.rd F.SAF_BC_PEER.ID) ++ b))))

/-- The start test of a released core that has not started ends with SAFE_CLK set, raising 0x9B, 0x96, 0x98 and 0x99 for what
failed. A key of 0x5AFE begins the unlock sequence, the device ID XOR 0xFFFFFF from the same source within 10 ms opens it, any
other key of that source, or time, ends it, and keys of another source do not touch it; in FIELD and RETIRED keys do nothing. A
parameter write from the source it is open for within 10 ms writes the register's RW fields, ends the unlock and queues the
flash write-back, and with FB_EN = 0 no feedback wait runs on; any other writes nothing. Which fault a failed lockstep
comparator or path raises, and that another source's keys leave a running sequence alone, are the model's choice (log entries
107, 119). (15_safety_functions.md R355, 15_safety_functions.md R376, 15_safety_functions.md R377, 15_safety_functions.md R378) -/
def Obligations.StartTestAndParameters : Prop :=
  ∀ (s : State) (n : Nat), s.undef = false →
    (∀ comparators lockstep paths supA supB : Bool, ∃ t, exec (.safetyStartTestDone comparators lockstep paths supA supB n) s = .next t ∧
      (s.saf.released = false ∨ s.safeClk = true → s.sys.starting = false → (s.advance n).Frame t [] []) ∧
      (s.saf.released = true → s.safeClk = false → t.safeClk = true ∧
        (s.sys.starting = false → (s.advance n).Frame t [A.SAF_STAT, A.SYS_ISLAND_STAT] [.saf, .flt]) ∧
        (comparators = false → ⟨0x9B, 4, 0, 0, false, (s.advance n).now⟩ ∈ t.flt.inbox) ∧
        (lockstep = false → ⟨0x96, 4, 0, 0, false, (s.advance n).now⟩ ∈ t.flt.inbox) ∧
        (paths = false → ⟨0x98, 4, 0, 0, false, (s.advance n).now⟩ ∈ t.flt.inbox) ∧
        (s.flash.conf.safParams = some none → ⟨0x99, 4, 0, 0, false, (s.advance n).now⟩ ∈ t.flt.inbox) ∧
        (s.sys.starting = false → comparators = true → lockstep = true → paths = true → supA = true → supB = true → s.flash.conf.safParams ≠ some none →
          t.flt = s.flt))) ∧
    (∀ (src : Option (BitVec 24)) (key : Word), ∃ t, exec (.safetyUnlockKey src key n) s = .next t ∧ (s.advance n).Frame t [] [.saf] ∧
      (s.lifecycle = 2 ∨ s.lifecycle = 4 → t.saf.unlock = s.saf.unlock) ∧
      (s.lifecycle ≠ 2 → s.lifecycle ≠ 4 →
        ∀ fresh, fresh = (if key = 0x5AFE#32 then Unlock.first (src.map (·.toNat)) (s.advance n).now else .closed) →
          (∀ x a, s.saf.unlock = .first x a → x = src.map (·.toNat) → (s.advance n).now ≤ a + 2560000000 →
            t.saf.unlock = if key.toNat = Nat.xor s.deviceId 0xFFFFFF then .opened (src.map (·.toNat)) (s.advance n).now else .closed) ∧
          (∀ x a, s.saf.unlock = .first x a → a + 2560000000 < (s.advance n).now → t.saf.unlock = fresh) ∧
          (∀ x a, s.saf.unlock = .first x a ∨ s.saf.unlock = .opened x a → x ≠ src.map (·.toNat) → (s.advance n).now ≤ a + 2560000000 →
            t.saf.unlock = s.saf.unlock) ∧
          (s.saf.unlock = .closed → t.saf.unlock = fresh) ∧
          (∀ x a, s.saf.unlock = .opened x a → x = src.map (·.toNat) ∨ a + 2560000000 < (s.advance n).now → t.saf.unlock = fresh))) ∧
    (∃ t, exec (.unlockTimeout n) s = .next t ∧ (s.advance n).Frame t [] [.saf] ∧
      (∀ x a, s.saf.unlock = .first x a ∨ s.saf.unlock = .opened x a →
        t.saf.unlock = if a + 2560000000 < (s.advance n).now then .closed else s.saf.unlock) ∧
      (s.saf.unlock = .closed → t.saf.unlock = .closed)) ∧
    (∀ (p : Fin 13) (v : Word) (src : Option (BitVec 24)) (a : Nat),
      a = [0x0E0008, 0x0E000C, 0x0E0010, 0x0E0014, 0x0E0020, 0x0E0024, 0x0E0028, 0x0E002C, 0x0E003C, 0x0E0030, 0x0E0034, 0x0E0038,
        0x0D0004].getD p.val 0 →
      ∃ t, exec (.safetyParamWrite p v src n) s = .next t ∧
      (s.lifecycle = 2 ∨ s.lifecycle = 4 ∨ (∀ at_, s.saf.unlock = .opened (src.map (·.toNat)) at_ → at_ + 2560000000 < (s.advance n).now) →
        (s.advance n).Frame t [] []) ∧
      (∀ at_, s.lifecycle ≠ 2 → s.lifecycle ≠ 4 → s.saf.unlock = .opened (src.map (·.toNat)) at_ →
        (s.advance n).now ≤ at_ + 2560000000 →
        t.saf.unlock = .closed ∧ FlashJob.safParams ∈ t.gov.flash ∧ (t.fbEn = false → t.saf.fbWait = false) ∧
        (∀ f ∈ fieldsAt a, f.acc = .rw ∧ bitsAt (t.reg a).toNat f.lo f.len = bitsAt v.toNat f.lo f.len) ∧
        (s.advance n).Frame t [a, A.SAF_STAT, A.SAF_CNT] [.saf, .gov]))

/-- A report alone in its collector cycle, of a source that is clear or uncleared only by injection, makes one record with the
next SEQ, in its class or one higher when another real fault of that class stands unacknowledged from an earlier cycle. The
source becomes RAISED from class 2 and ACKED below; the first real fault is held; class 3 darkens the quadrants it names, class
4 all, latched; FAULT_N follows PIN_CLASS; the copy of a record of class 2, or lower with LOG_ALL, is a FLASH job, and from
class 3 on a forced one: it counts in FORCED, raises 0x73 and pauses the FLASH job in flight. A repeat only counts; a real one
of a class 3 source also holds dark the quadrants it names (log entry 11). Two of one cycle go by class, then source ID. A copy,
a forced one once no FLASH job is in flight, another as the job in flight, takes a check channel and enters the flash log with
its CRC-32C, or is retried once, then given up with fault 0x0C; after the last forced one the paused job resumes. Nothing else
changes. That a forced copy begins once no FLASH job is in flight is the model's reading (log entry 114). (07_budget_governor.md
R184, 16_fault_handling.md R379, 16_fault_handling.md R380, 16_fault_handling.md R382, 16_fault_handling.md R383,
16_fault_handling.md R385, 16_fault_handling.md R386, 16_fault_handling.md R387, 16_fault_handling.md R390, 16_fault_handling.md
R391) -/
def Obligations.FaultCollection : Prop :=
  ∀ s : State, s.undef = false →
    (∃ t, exec .faultRecord s = .next t ∧
      (s.flt.inbox = [] ∨ s.flt.restoring = true → s.Frame t [] []) ∧
      (∀ (r : Report) (rest : List Report) (esc : Bool) (cls : Nat), s.flt.restoring = false → s.flt.inbox = r :: rest →
        (∀ x ∈ rest, x.at_ / 320 ≠ r.at_ / 320) → r.src ∈ faultSources → r.cls ≤ 4 →
        (esc = true ↔ r.inj = false ∧ (r.cls = 2 ∨ r.cls = 3) ∧ ∃ l ∈ s.flt.live, l.src ≠ r.src ∧ s.rd (F.FLT_SRC.STATE l.src) = 1 ∧
          s.rd (F.FLT_SRC.REAL l.src) = 1 ∧ l.raised = r.cls ∧ l.cycle ≤ s.flt.cycle) →
        cls = r.cls + (if esc then 1 else 0) →
        s.Frame t [A.FLT_SRC r.src, A.FLT_FIRST, A.FLT_LATCH, A.FLT_LATCH_SRC, A.FLT_CNT_0, A.FLT_CNT_1, A.FLT_CNT_2, A.GOV_JOB_STAT jobFlash]
          [.flt, .gov] ∧
        t.rd (F.FLT_SRC.COUNT r.src) = min 0xFFFF (s.rd (F.FLT_SRC.COUNT r.src) + 1) ∧
        t.rd (F.FLT_SRC.INJ_CNT r.src) = min 0xFF (s.rd (F.FLT_SRC.INJ_CNT r.src) + (if r.inj then 1 else 0)) ∧
        (s.rd (F.FLT_SRC.STATE r.src) = 0 ∨ (s.rd (F.FLT_SRC.REAL r.src) = 0 ∧ r.inj = false) →
          t.rd (F.FLT_SRC.STATE r.src) = (if 2 ≤ cls then 1 else 2) ∧ t.rd (F.FLT_SRC.CLASS r.src) = cls ∧
          t.flt.inbox = rest ++ (if 3 ≤ cls then [⟨0x73, 0, 0, 0, false, s.now⟩] else []) ∧
          t.rd (F.GOV_JOB_STAT.FORCED jobFlash) = min 0xFFFF (s.rd (F.GOV_JOB_STAT.FORCED jobFlash) + (if 3 ≤ cls then 1 else 0)) ∧
          ((t.job jobFlash).pausing = true ↔ (s.job jobFlash).pausing = true ∨ (3 ≤ cls ∧ (s.job jobFlash).running = true)) ∧
          t.rd (F.FLT_SRC.REAL r.src) = (if r.inj then 0 else 1) ∧ t.flt.nextSeq = (s.flt.nextSeq + 1) % 65536 ∧
          (∃ first e, t.flt.log.getLast? = some e ∧ e.seq = s.flt.nextSeq ∧ e.src = r.src ∧ e.cls = cls ∧ e.raised = r.cls ∧
            e.inj = r.inj ∧ e.esc = esc ∧ e.quad = r.quad % 16 ∧ e.data = r.data % 2 ^ 24 ∧ e.first = first ∧
            (e ∈ t.flt.copies ∨ (cls < 2 ∧ s.on F.FLT_CFG.LOG_ALL = false)) ∧
            t.gov.flash = s.gov.flash ++ (if cls = 2 ∨ (cls < 2 ∧ s.on F.FLT_CFG.LOG_ALL = true) then [FlashJob.logCopy] else []) ∧
            (first = true ↔ r.inj = false ∧ 2 ≤ cls ∧ s.rd F.FLT_FIRST.VALID = 0) ∧
            (first = true → t.rd F.FLT_FIRST.VALID = 1 ∧ t.rd F.FLT_FIRST.SOURCE = r.src ∧ t.rd F.FLT_FIRST.CLASS = cls ∧
              t.rd F.FLT_FIRST.SEQ = s.flt.nextSeq % 65536) ∧ (first = false → t.reg A.FLT_FIRST = s.reg A.FLT_FIRST)) ∧
          (cls = 3 → t.rd F.FLT_LATCH.DARK_LATCH = s.rd F.FLT_LATCH.DARK_LATCH ∧ ∀ q : Quad,
            (r.quad = 0 ∨ bitsAt r.quad q.val 1 = 1 → t.faultDark q = true ∧ t.lightOf q = .dark) ∧
            (¬(r.quad = 0 ∨ bitsAt r.quad q.val 1 = 1) → t.faultDark q = s.faultDark q)) ∧
          (cls = 4 → t.rd F.FLT_LATCH.DARK_LATCH = 1 ∧ t.AllDark ∧ t.saf.outOn = false ∧
            (s.rd F.FLT_LATCH.DARK_LATCH = 0 → t.rd F.FLT_LATCH.LATCH_SRC = r.src)) ∧
          (cls < 3 → t.reg A.FLT_LATCH = s.reg A.FLT_LATCH) ∧
          (min 4 (s.rd F.FLT_CFG.PIN_CLASS) ≤ cls → t.faultNLow = true)) ∧
        (s.rd (F.FLT_SRC.STATE r.src) ≠ 0 → s.rd (F.FLT_SRC.REAL r.src) = 1 ∨ r.inj = true →
          t.flt.inbox = rest ∧ t.reg (A.GOV_JOB_STAT jobFlash) = s.reg (A.GOV_JOB_STAT jobFlash) ∧
          t.flt.log = s.flt.log ∧ t.flt.nextSeq = s.flt.nextSeq ∧ t.flt.copies = s.flt.copies ∧ t.reg A.FLT_FIRST = s.reg A.FLT_FIRST ∧ t.gov = s.gov ∧
          t.rd F.FLT_LATCH.DARK_LATCH = s.rd F.FLT_LATCH.DARK_LATCH ∧ t.rd F.FLT_LATCH.LATCH_SRC = s.rd F.FLT_LATCH.LATCH_SRC ∧
          (∀ (q : Quad) (named : Prop), named = (r.inj = false ∧ r.cls = 3 ∧ s.rd (F.FLT_SRC.CLASS r.src) = 3 ∧
              (r.quad = 0 ∨ bitsAt r.quad q.val 1 = 1)) →
            (t.faultDark q = true ↔ s.faultDark q = true ∨ named) ∧ (named → t.lightOf q = .dark) ∧
            (named → s.faultDark q = false → bitsAt (t.rd F.FLT_LATCH_SRC.SRC) (8 * q.val) 8 = r.src) ∧
            (¬named ∨ s.faultDark q = true → bitsAt (t.rd F.FLT_LATCH_SRC.SRC) (8 * q.val) 8 = bitsAt (s.rd F.FLT_LATCH_SRC.SRC) (8 * q.val) 8)) ∧
          t.rd (F.FLT_SRC.STATE r.src) = s.rd (F.FLT_SRC.STATE r.src) ∧ t.rd (F.FLT_SRC.CLASS r.src) = s.rd (F.FLT_SRC.CLASS r.src))) ∧
      (∀ a b : Report, s.flt.restoring = false → s.flt.inbox = [a, b] → a.at_ / 320 = b.at_ / 320 → a.src ≠ b.src → s.flt.live = [] →
        a.cls ≤ 4 → b.cls ≤ 4 → a.src ∈ faultSources → b.src ∈ faultSources →
        s.rd (F.FLT_SRC.STATE a.src) = 0 → s.rd (F.FLT_SRC.STATE b.src) = 0 → s.flt.log = [] →
        t.flt.log.map (·.src) = if b.cls < a.cls ∨ (a.cls = b.cls ∧ a.src < b.src) then [a.src, b.src] else [b.src, a.src])) ∧
    (∀ ok, ∃ t, exec (.faultLogCopyDone ok) s = .next t ∧ s.Frame t channelRegs ([.flt, .flash, .gov, .sys] ++ channelParts) ∧
      (s.flt.copies = [] ∨ s.noChannel = true → s.Frame t [] []) ∧
      ∀ (r : LogRec) (rest : List LogRec) (runs : Prop) (f : FlashState), s.flt.copies = r :: rest → s.noChannel = false →
        runs = (if 3 ≤ r.cls then (s.job jobFlash).running = false ∧ (s.job jobFlash).pausing = false else s.inFlight .logCopy = true) →
        f = (if 3 ≤ r.cls then (if ∃ x ∈ rest, 3 ≤ x.cls then s.flash else s.flashIdle.flash) else s.flashDone.flash) → (s.sys.lifeDue = none → f = s.flash) ∧
        (¬runs → s.Frame t [] []) ∧
        (runs →
          (ok = true ∨ r.seq ∈ s.flt.copyFailed → t.flt.copies = rest ∧ t.flt.copyFailed = s.flt.copyFailed.filter (fun x => x != r.seq) ∧
            (3 ≤ r.cls → (s.sys.lifeDue = none ∨ (∃ x ∈ rest, 3 ≤ x.cls) → t.sys = s.sys) ∧ t.gov.flash = s.gov.flash ∧ t.gov.flashDue = s.gov.flashDue ∧
              (s.flt.flashHeld = false ∨ (∃ x ∈ rest, 3 ≤ x.cls) → t.gov = s.gov) ∧
              (s.flt.flashHeld = true → s.gov.flash ≠ [] → s.gov.jobs.length = 6 → (∀ x ∈ rest, x.cls < 3) →
                (t.job jobFlash).running = true ∧ t.flt.flashHeld = false)) ∧
            (r.cls < 3 → t.gov.flash = s.gov.flash.drop 1 ∧ t.gov.flashDue = s.gov.flashDue.drop 1 ∧
              (s.gov.flashDue.length ≤ 1 → t.gov.jobs = s.gov.jobs.set jobFlash {}))) ∧
          (ok = true → t.flt.inbox = s.flt.inbox ∧ t.flash = { f with
            log := (if 131072 ≤ s.flash.log.length then s.flash.log.drop 2048 else s.flash.log) ++ [⟨r, crc32c (recordBytes r)⟩] }) ∧
          (ok = false → r.seq ∉ s.flt.copyFailed →
            s.Frame t channelRegs ([.flt] ++ channelParts) ∧ t.flt = { s.flt with copyFailed := s.flt.copyFailed ++ [r.seq] }) ∧
          (ok = false → r.seq ∈ s.flt.copyFailed → t.flash = f ∧ t.flt.inbox = s.flt.inbox ++ [⟨0x0C, 2, 0, 0, false, s.now⟩])))

/-- FAULT_READ answers the held records from FIRST on, modulo 65,536 and up to COUNT. FAULT_ACK of an assigned source takes it
from RAISED to ACKED and touches no other; of all, every one. FAULT_CLEAR takes an uncleared source to CLEAR exactly when its
cause has gone and its class is at most 2, or 3 with C3_EXIT; each quadrant then stays latched only while a class 3 source holds
it, and FLT_FIRST is armed when no real fault of class 2 or higher is left; of all, it clears each source so. FAULT_INJECT
reports the source in its class, or is DENIED in FIELD for class 3 and 4. An unassigned source is RANGE 16, another selection
17, a wrong length 10. Nothing else changes. Which condition a source's cause is, and that 0x90 and 0x91 clear in any order with
DISC and IN_TEST_FAIL, is read from R357, R388 and log entry 52. (16_fault_handling.md R382, 16_fault_handling.md R384,
16_fault_handling.md R385, 16_fault_handling.md R387, 16_fault_handling.md R388, 16_fault_handling.md R392, 16_fault_handling.md
R395, 11_command_packets.md R285) -/
def Obligations.FaultCommands : Prop :=
  ∀ (s : State) (r : Request), s.undef = false →
    (s.gate 0x50 r = .run → ∃ t, exec (.faultRead r) s = .next t ∧ s.Frame t [A.CMD_CNT_RX, A.CMD_CNT_REF] [.cmd, .flt] ∧
      (r.payload.length ≠ 4 → s.Answered t 0x50 r (.range 10)) ∧
      (∀ first count a k : Nat, first < 65536 → r.payload = leBytes 2 first ++ leBytes 2 count → count < 65536 →
        (count = 0 ∨ 255 < count → s.Answered t 0x50 r (.range 18)) ∧
        (1 ≤ count → count ≤ 255 → s.flt.log = [] → s.Answered t 0x50 r (.ok [])) ∧
        (1 ≤ count → count ≤ 255 → s.flt.log.length ≤ 1024 → k < s.flt.log.length → first = (a + k) % 65536 →
          (∀ i e, s.flt.log[i]? = some e → e.seq = (a + i) % 65536) →
          s.Answered t 0x50 r (.ok (((s.flt.log.drop k).take count).flatMap recordBytes))) ∧
        (1 ≤ count → count ≤ 255 → s.flt.log.length ≤ 1024 → k < 30000 → first = (a + 65536 - k) % 65536 →
          (∀ i e, s.flt.log[i]? = some e → e.seq = (a + i) % 65536) →
          s.Answered t 0x50 r (.ok ((s.flt.log.take count).flatMap recordBytes))))) ∧
    (∀ e ∈ [(0x51, Instr.faultAck r), (0x52, .faultClear r), (0x53, .faultInject r)], s.gate e.1 r = .run → ∃ t, exec e.2 s = .next t ∧
      (r.payload = [] → s.Answered t e.1 r (.range 10) ∧ s.Frame t [A.CMD_CNT_RX, A.CMD_CNT_REF] [.cmd, .flt])) ∧
    (∀ e ∈ [(0x51, Instr.faultAck r), (0x52, .faultClear r)], s.gate e.1 r = .run → ∃ t, exec e.2 s = .next t ∧
      ∀ x all a b : Byte, r.payload = [x, all, a, b] →
        (1 < all.toNat → s.Answered t e.1 r (.range 17) ∧ s.Frame t [A.CMD_CNT_RX, A.CMD_CNT_REF] [.cmd, .flt]) ∧
        (all = 1#8 ∨ (all = 0#8 ∧ x.toNat ∈ faultSources) → (a, b) ≠ (0, 0) →
          s.Answered t e.1 r (.range (if a ≠ 0 then 18 else 19)) ∧ s.Frame t [A.CMD_CNT_RX, A.CMD_CNT_REF] [.cmd, .flt])) ∧
    (s.gate 0x52 r = .run → ∀ x : Byte, r.payload = [x, 1, 0, 0] → ∃ t, exec (.faultClear r) s = .next t ∧ s.Answered t 0x52 r (.ok []) ∧
      s.Frame t ([A.CMD_CNT_RX, A.CMD_CNT_REF, A.FLT_FIRST, A.FLT_LATCH, A.FLT_LATCH_SRC, A.SYS_PRAIL_STAT] ++ faultSources.map A.FLT_SRC)
        [.cmd, .flt, .thm, .saf] ∧ t.rd F.FLT_LATCH.DARK_LATCH = s.rd F.FLT_LATCH.DARK_LATCH ∧
      ∀ src ∈ faultSources,
        (s.rd (F.FLT_SRC.CLASS src) ≤ 2 → s.causeHolds src = false → t.rd (F.FLT_SRC.STATE src) = 0) ∧
        (s.rd (F.FLT_SRC.CLASS src) = 4 ∨ s.causeHolds src = true → t.rd (F.FLT_SRC.STATE src) = s.rd (F.FLT_SRC.STATE src))) ∧
    (s.gate 0x51 r = .run → ∃ t, exec (.faultAck r) s = .next t ∧
      s.Frame t ([A.CMD_CNT_RX, A.CMD_CNT_REF] ++ faultSources.map A.FLT_SRC) [.cmd, .flt] ∧
      (∀ (src : Byte), r.payload = [src, 0, 0, 0] → src.toNat ∉ faultSources → s.Answered t 0x51 r (.range 16) ∧
        s.Frame t [A.CMD_CNT_RX, A.CMD_CNT_REF] [.cmd, .flt]) ∧
      (∀ (src : Byte), r.payload = [src, 0, 0, 0] → src.toNat ∈ faultSources → s.Answered t 0x51 r (.ok []) ∧
        s.Frame t [A.CMD_CNT_RX, A.CMD_CNT_REF, A.FLT_SRC src.toNat] [.cmd, .flt] ∧
        t.rd (F.FLT_SRC.STATE src.toNat) = (if s.rd (F.FLT_SRC.STATE src.toNat) = 1 then 2 else s.rd (F.FLT_SRC.STATE src.toNat))) ∧
      (∀ (x : Byte), r.payload = [x, 1, 0, 0] → s.Answered t 0x51 r (.ok []) ∧
        ∀ src ∈ faultSources, t.rd (F.FLT_SRC.STATE src) = if s.rd (F.FLT_SRC.STATE src) = 1 then 2 else s.rd (F.FLT_SRC.STATE src))) ∧
    (s.gate 0x52 r = .run → ∀ src : Byte, r.payload = [src, 0, 0, 0] → ∃ t, exec (.faultClear r) s = .next t ∧
      (src.toNat ∉ faultSources → s.Answered t 0x52 r (.range 16) ∧ s.Frame t [A.CMD_CNT_RX, A.CMD_CNT_REF] [.cmd, .flt]) ∧
      (src.toNat ∈ faultSources → s.Answered t 0x52 r (.ok []) ∧
        (s.Frame t ([A.CMD_CNT_RX, A.CMD_CNT_REF, A.FLT_SRC src.toNat, A.FLT_FIRST, A.FLT_LATCH, A.FLT_LATCH_SRC] ++
          (if src = 2#8 then [A.SYS_PRAIL_STAT] else [])) [.cmd, .flt, .thm, .saf]) ∧
        t.rd F.FLT_LATCH.DARK_LATCH = s.rd F.FLT_LATCH.DARK_LATCH ∧
        (s.rd (F.FLT_SRC.STATE src.toNat) = 0 ∨ s.causeHolds src.toNat = true ∨ s.rd (F.FLT_SRC.CLASS src.toNat) = 4 ∨
            (s.rd (F.FLT_SRC.CLASS src.toNat) = 3 ∧ s.on F.FLT_CFG.C3_EXIT = false) → s.Frame t [A.CMD_CNT_RX, A.CMD_CNT_REF] [.cmd, .flt] ∧ t.flt = (s.taken r).flt) ∧
        (s.rd (F.FLT_SRC.STATE src.toNat) ≠ 0 → s.causeHolds src.toNat = false →
          s.rd (F.FLT_SRC.CLASS src.toNat) ≤ 2 ∨ (s.rd (F.FLT_SRC.CLASS src.toNat) = 3 ∧ s.on F.FLT_CFG.C3_EXIT = true) →
          t.rd (F.FLT_SRC.STATE src.toNat) = 0 ∧ t.flt.live = s.flt.live.filter (fun l => l.src != src.toNat) ∧
          (∀ q : Quad, t.faultDark q = true ↔ s.faultDark q = true ∧ ∃ l ∈ s.flt.live, l.src ≠ src.toNat ∧
            s.rd (F.FLT_SRC.CLASS l.src) = 3 ∧ (l.quad = 0 ∨ bitsAt l.quad q.val 1 = 1)) ∧
          ((∀ l ∈ s.flt.live, l.src ≠ src.toNat → s.rd (F.FLT_SRC.REAL l.src) = 0 ∨ s.rd (F.FLT_SRC.CLASS l.src) < 2) →
            t.rd F.FLT_FIRST.VALID = 0))) ∧
      (s.causeHolds 0x90 = false ∧ s.causeHolds 0x91 = false ∧ s.causeHolds 0x74 = s.gov.overDrawn ∧ s.causeHolds 0x78 = s.fmc.corrOver ∧
        s.causeHolds 0xA8 = s.on F.RLN_STAT.BREAK ∧ s.causeHolds 0x84 = s.on F.THM_STAT.SHUT ∧ s.causeHolds 0x21 = false)) ∧
    (s.gate 0x53 r = .run → ∀ src : Byte, r.payload = [src, 0, 0, 0] → ∃ t, exec (.faultInject r) s = .next t ∧
      s.Frame t [A.CMD_CNT_RX, A.CMD_CNT_REF] [.cmd, .flt] ∧
      (src.toNat ∉ faultSources → s.Answered t 0x53 r (.range 16) ∧ t.flt.inbox = (s.taken r).flt.inbox) ∧
      (src.toNat ∈ faultSources → s.lifecycle = 2 → 3 ≤ injectClass src.toNat s → s.Answered t 0x53 r (.denied 1) ∧
        t.flt.inbox = (s.taken r).flt.inbox) ∧
      (src.toNat ∈ faultSources → s.lifecycle ≠ 2 ∨ injectClass src.toNat s < 3 → s.Answered t 0x53 r (.ok []) ∧
        t.flt.inbox = (s.taken r).flt.inbox ++ [⟨src.toNat, injectClass src.toNat s,
          if 8 ≤ src.toNat ∧ src.toNat ≤ 11 then 2 ^ (src.toNat - 8) else 0, 0, true, s.now⟩]) ∧
      injectClass 0x7A s = 2 ∧ injectClass 0x82 s = 4 ∧ injectClass 0x84 s = 4 ∧ injectClass 0x90 s = 3 ∧ injectClass 0x62 s = 0 ∧
      (s.rd (F.SCN_RB_CFG.SRC_DARK 2) = 1 → injectClass 0x5C s = 3))

/-- A write of PARAM selects the set and loads its Init; bytes written to a data register enter the running value least
significant first, so a half-word is two bytes and a word two half-words, and RESULT is the running value XOR Xorout; a channel
that has failed its self-test takes nothing (log entry 129). After every 60 s of running time of a released core the safety
image is checked: a running scan is preempted somewhere between where it stood and its end and counts it, a mismatch demands
darkness with fault 0xC1 class 4. Every 60 s the engines test themselves: a scan engine that fails sets SCAN_FAIL with fault
0xC0, new failed channels are added to CH_FAIL with fault 0xC2, and the work on them goes to other channels or waits. A check
that is not due does nothing. Nothing else changes. That the image's check takes no time, where a preempted scan stands, and
that an early report changes nothing are the model's choice (log entries 109, 40, 51). (17_check_values.md R396,
17_check_values.md R397, 17_check_values.md R400, 17_check_values.md R402, 17_check_values.md R404, 17_check_values.md R405) -/
def Obligations.CheckEngines : Prop :=
  ∀ (s : State) (n : Nat), s.undef = false →
    (∀ (c : Fin 8) (v : Word) (size : FeedSize), s.channelGood c.val = false → ∃ t u, exec (.crcChannelConfig c v) s = .next t ∧
      exec (.crcChannelFeed c size v) s = .next u ∧ s.Frame t [] [] ∧ s.Frame u [] []) ∧
    (∀ (c : Fin 8) (v : Word), s.channelGood c.val = true → ∃ t, exec (.crcChannelConfig c v) s = .next t ∧ t.rd (F.CHK_CH_CFG.PARAM c.val) = v.toNat % 4 ∧
      t.rd (F.CHK_CH_VALUE.VALUE c.val) = (if v.toNat % 4 = 0 then 0xFF else if v.toNat % 4 = 1 then 0xFFFF else 0xFFFFFFFF) ∧
      t.channelResult c.val = (if v.toNat % 4 = 1 then 0xFFFF else 0) ∧
      s.Frame t [A.CHK_CH_CFG c.val, A.CHK_CH_VALUE c.val] []) ∧
    (∀ (c : Fin 8) (size : FeedSize) (v : Word) (k : CrcSet) (old : Nat), k = s.channelSet c.val → old = s.rd (F.CHK_CH_VALUE.VALUE c.val) →
      old < 2 ^ k.width → s.channelGood c.val = true →
      ∃ t, exec (.crcChannelFeed c size v) s = .next t ∧ s.Frame t [A.CHK_CH_VALUE c.val] [] ∧ t.channelSet c.val = k ∧
        (size = .byte → t.rd (F.CHK_CH_VALUE.VALUE c.val) = crcFeed k old (v.extractLsb' 0 8)) ∧
        (size = .half → t.rd (F.CHK_CH_VALUE.VALUE c.val) = crcFeed k (crcFeed k old (v.extractLsb' 0 8)) (v.extractLsb' 8 8)) ∧
        (size = .word → t.rd (F.CHK_CH_VALUE.VALUE c.val) = crcFeed k (crcFeed k (crcFeed k (crcFeed k old (v.extractLsb' 0 8))
          (v.extractLsb' 8 8)) (v.extractLsb' 16 8)) (v.extractLsb' 24 8)) ∧
        ∀ bytes, old = crcRun k k.init bytes → t.channelResult c.val = crcOf k (bytes ++ leBytes (FeedSize.bytes size) v.toNat)) ∧
    (∀ ok, ∃ t, exec (.safetyImageCheck ok n) s = .next t ∧
      (s.saf.released = false ∨ (s.advance n).now < s.saf.imageFrom + 15360000000000 → (s.advance n).Frame t [] []) ∧
      (s.saf.released = true → s.saf.imageFrom + 15360000000000 ≤ (s.advance n).now → t.saf.imageFrom = s.saf.imageFrom + 15360000000000 ∧
        (s.advance n).Frame t ([A.CHK_SCAN_STAT, A.CHK_SCAN_ADDR, A.CHK_SCAN_VALUE] ++ dramRegs) ([.saf, .flt, .chk] ++ dramParts) ∧
        (s.chk.scan = none → (s.advance n).Frame t [] [.saf, .flt]) ∧
        (∀ x, s.chk.scan = some x → t.rd F.CHK_SCAN_STAT.PREEMPTS = min 0xFFFF (s.rd F.CHK_SCAN_STAT.PREEMPTS + 1) ∧
          t.rd F.CHK_SCAN_STAT.BUSY = s.rd F.CHK_SCAN_STAT.BUSY ∧
          ∃ next v, t.chk.scan = some { x with next := next, value := v } ∧ (x.next ≤ x.stop → x.next ≤ next ∧ next ≤ x.stop)) ∧
        (ok = true → t.flt = s.flt ∧ t.saf.coreFail = s.saf.coreFail) ∧
        (ok = false → t.saf.coreFail = true ∧ t.AllDark ∧ t.saf.outOn = false ∧
          t.flt.inbox = s.flt.inbox ++ [⟨0xC1, 4, 0, 0, false, (s.advance n).now⟩]))) ∧
    (∀ (scanOk : Bool) (channels : Fin 256), ∃ t, exec (.engineSelfTest n ⟨scanOk, channels⟩) s = .next t ∧
      (s.interpreter = false ∨ (s.advance n).now < s.chk.testAt + 15360000000000 → (s.advance n).Frame t [] []) ∧
      (s.interpreter = true → s.chk.testAt + 15360000000000 ≤ (s.advance n).now →
        (s.advance n).Frame t [A.CHK_SELFTEST] [.flt, .chk] ∧ t.chk.testAt = (s.advance n).now ∧
        (scanOk = true → channels = 0 → (s.advance n).Frame t [] [.chk] ∧ t.chk = { s.chk with testAt := (s.advance n).now }) ∧
        (s.chk.chans.length = 6 → ∀ (c : Fin 6) (u : ChanUser), nth s.chk.chans c.val = some u →
          (t.hasChannel u = true ∨ u ∈ t.chk.waits) ∧
          (bitsAt (s.rd F.CHK_SELFTEST.CH_FAIL) c.val 1 = 0 → bitsAt channels.val c.val 1 = 0 → nth t.chk.chans c.val = some u) ∧
          (bitsAt (s.rd F.CHK_SELFTEST.CH_FAIL) c.val 1 = 0 → bitsAt channels.val c.val 1 = 1 → nth t.chk.chans c.val = none)) ∧
        t.rd F.CHK_SELFTEST.SCAN_FAIL = (if scanOk then s.rd F.CHK_SELFTEST.SCAN_FAIL else 1) ∧
        (∀ c : Fin 8, bitsAt (t.rd F.CHK_SELFTEST.CH_FAIL) c.val 1
          = max (bitsAt (s.rd F.CHK_SELFTEST.CH_FAIL) c.val 1) (bitsAt channels.val c.val 1)) ∧
        (scanOk = false → ⟨0xC0, 4, 0, 0, false, (s.advance n).now⟩ ∈ t.flt.inbox) ∧
        ((∃ c : Fin 8, bitsAt (s.rd F.CHK_SELFTEST.CH_FAIL) c.val 1 = 0 ∧ bitsAt channels.val c.val 1 = 1) →
          ⟨0xC2, 2, 0, 0, false, (s.advance n).now⟩ ∈ t.flt.inbox) ∧
        (scanOk = true → (∀ c : Fin 8, bitsAt channels.val c.val 1 ≤ bitsAt (s.rd F.CHK_SELFTEST.CH_FAIL) c.val 1) → t.flt = s.flt)))

/-- TUNE_RUN with a valid reference in ACTIVE or DARK holds its place and begins a run of the parts in WHAT, due as the TUNE
job; bad parts are RANGE, no reference NOT_READY, a running run BUSY. A run falls due by period or junction change, and waits
while another runs; the waiting one starts once the present one is over. A run ends when every quadrant that senses has given it
its slot positions. A judged run counts, reports whether all results were accepted, raises 0xB9 for each rejected one and 0xBA
for its third in a row, answers its command OK, queues its record unless one was stored in the last 24 h, and starts the slide
of the accepted ones or queues it behind the slide that runs; a run with a failed or missing doubler check of a source die that
senses, without reference, or outside ACTIVE and DARK fails with its result and fault 0xBB, answers NOT_READY (for the doubler
check log entry 128) and leaves every correction; either way nothing of it stays planned. The reference follows REF_IN and the
bandgaps; turning invalid it fails the run in progress, turning valid it starts the one that waits. 24 h awake without success
raise fault 0xBC. Nothing else changes. That a due run is in progress from its due time is the model's choice (log entry 127).
(18_tuning.md R407, 18_tuning.md R412, 18_tuning.md R413, 18_tuning.md R414, 18_tuning.md R416, 18_tuning.md R417, 18_tuning.md
R418, 18_tuning.md R419, 18_tuning.md R420) -/
def Obligations.TuningAndReference : Prop :=
  ∀ (s : State) (n : Nat), s.undef = false →
    (∀ r : Request, s.gate 0x70 r = .run → ∃ t, exec (.tuneRun r) s = .next t ∧
      s.Frame t [A.CMD_CNT_RX, A.CMD_CNT_REF] [.cmd, .flt, .tun, .gov] ∧
      (r.payload.length ≠ 4 → s.Answered t 0x70 r (.range 10) ∧ t.tun = s.tun ∧ t.gov = s.gov) ∧
      ∀ what : Nat, what < 2 ^ 32 → r.payload = leBytes 4 what →
        (what = 0 ∨ 7 < what → s.Answered t 0x70 r (.range 16) ∧ t.tun = s.tun ∧ t.gov = s.gov) ∧
        (1 ≤ what → what ≤ 7 → s.on F.TUN_REF.VALID = false ∨ 1 < s.power → s.Answered t 0x70 r (.notReady 0x11) ∧
          t.tun = s.tun ∧ t.gov = s.gov) ∧
        (1 ≤ what → what ≤ 7 → s.on F.TUN_REF.VALID = true → s.power ≤ 1 → s.tun.run ≠ none → s.Answered t 0x70 r (.busy 0) ∧
          t.tun = s.tun ∧ t.gov = s.gov) ∧
        (1 ≤ what → what ≤ 7 → s.on F.TUN_REF.VALID = true → s.power ≤ 1 → s.tun.run = none → s.Held t 0x70 r ∧
          t.tun = { s.tun with run := some { parts := what, place := some (r.src.toNat, r.tag.toNat) } } ∧
          (s.gov.jobs.length = 6 → s.job jobTune = {} → t.job jobTune = { pending := true, dueAt := s.now }))) ∧
    (∃ t, exec (.tuneRunDue n) s = .next t ∧ (s.advance n).Frame t [] [.tun, .gov] ∧
      ∀ due : Prop, due = (s.power ≤ 1 ∧ s.rd F.TUN_CFG.PARTS ≠ 0 ∧ ((s.rd F.TUN_CFG.PERIOD ≠ 0 ∧
          s.tun.okAt + 15360000000000 * s.rd F.TUN_CFG.PERIOD ≤ (s.advance n).now) ∨ s.junctionMoved = true)) →
        (¬due ∨ (s.tun.run = none ∧ s.on F.TUN_REF.VALID = false) ∨ (s.tun.run ≠ none ∧ s.tun.waiting ≠ none) →
          (s.advance n).Frame t [] []) ∧
        (due → s.tun.run = none → s.on F.TUN_REF.VALID = true → t.tun = { s.tun with run := some { parts := s.rd F.TUN_CFG.PARTS } }) ∧
        (due → s.tun.run ≠ none → s.tun.waiting = none → t.tun = { s.tun with waiting := some (s.rd F.TUN_CFG.PARTS) } ∧ t.gov = s.gov)) ∧
    (∀ m : Measured, ∃ t, exec (.tuneRunDone n m) s = .next t ∧
      (s.advance n).Frame t [A.TUN_STAT, A.TUN_CNT] [.tun, .gov, .flt, .cmd, .sns] ∧
      (s.tun.run = none → (s.advance n).Frame t [] []) ∧
      ∀ r, s.tun.run = some r → ∀ measured fails : Prop, measured = (∀ q : Quad, s.sensing q = true → tuneSlots r.parts ≤ nth r.slots q.val) →
        fails = (s.on F.TUN_REF.VALID = false ∨ 1 < s.power ∨
          ∃ q : Quad, s.sensing q = true ∧ ∀ d, m.doublers[q.val]? = some d → d.2 < ((d.1 : Int) - d.2).natAbs * 5000) →
        (¬measured → (s.advance n).Frame t [] []) ∧
        (measured → t.sns = { s.sns with
          quads := s.sns.quads.map (fun (x : SnsQuad) => { x with plan := x.plan.filter (fun y => !isTuning y) }) }) ∧
        (measured → r.place = none → t.cmd = s.cmd) ∧
        (measured → ∀ (src tag : Nat) (pl : Place) (rest : List Place) (a : Answer), r.place = some (src, tag) → s.cmd.places = pl :: rest →
          pl.waits src tag = true → (fails → a = .notReady 0x11) → (¬fails → a = .ok []) →
          t.cmd.replies = s.cmd.replies ++ (if pl.req.replyReq then [replyUnder pl.id pl.op pl.req a] else [])) ∧
        (∀ bad, bad = (if s.on F.TUN_REF.VALID then 4 else 3) → measured → fails →
          t.rd F.TUN_STAT.LAST_RESULT = bad ∧ t.rd F.TUN_CNT.FAILED = min 0xFF (s.rd F.TUN_CNT.FAILED + 1) ∧
          t.rd F.TUN_CNT.RUNS = s.rd F.TUN_CNT.RUNS ∧ t.rd F.TUN_CNT.REJECTED = s.rd F.TUN_CNT.REJECTED ∧
          (s.tun.waiting = none ∨ s.on F.TUN_REF.VALID = false ∨ 1 < s.power → t.tun = { s.tun with run := none }) ∧
          (∀ p, s.tun.waiting = some p → s.on F.TUN_REF.VALID = true → s.power ≤ 1 →
            t.tun = { s.tun with run := some { parts := p }, waiting := none }) ∧
          t.flt.inbox = s.flt.inbox ++ [⟨0xBB, 0, 0, 0, false, (s.advance n).now⟩]) ∧
        (∀ l, l = ((s.advance n).tuneResults false m).filter (fun e => bitsAt r.parts (converterPart e.1) 1 == 1 && s.sensing (converterQuad e.1)) →
          measured → ¬fails →
          t.rd F.TUN_STAT.LAST_RESULT = (if ∀ e ∈ l, e.2 ≠ none then 1 else 2) ∧ t.tun.okAt = (s.advance n).now ∧
          t.tun.okAwake = nth (s.advance n).pwr.timeIn 0 + nth (s.advance n).pwr.timeIn 1 ∧ t.tun.junctions = s.junctionTemps ∧
          t.rd F.TUN_CNT.RUNS = min 0xFF (s.rd F.TUN_CNT.RUNS + 1) ∧ t.rd F.TUN_CNT.FAILED = s.rd F.TUN_CNT.FAILED ∧
          t.rd F.TUN_CNT.REJECTED = min 0xFFFF (s.rd F.TUN_CNT.REJECTED + l.countP (fun e => e.2.isNone)) ∧
          ((∀ e ∈ l, e.2 ≠ none) → t.flt = s.flt) ∧
          (∀ e ∈ l, e.2 = none → ⟨0xB9, 0, 2 ^ (converterQuad e.1).val, 0, false, (s.advance n).now⟩ ∈ t.flt.inbox ∧
            ((l.map (·.1)).Nodup → 2 ≤ Sparse.get (fun _ => 0) s.tun.rejects e.1 →
              ⟨0xBA, 2, 2 ^ (converterQuad e.1).val, 0, false, (s.advance n).now⟩ ∈ t.flt.inbox)) ∧
          ((∃ x, s.tun.storedAt = some x ∧ (s.advance n).now < x + 22118400000000000) → t.gov.flash = s.gov.flash) ∧
          ((∀ x, s.tun.storedAt = some x → x + 22118400000000000 ≤ (s.advance n).now) → .tuning ∈ t.gov.flash) ∧
          (s.tun.waiting = none → t.tun.run = none) ∧
          (∀ p, s.tun.waiting = some p → t.tun.run = some { parts := p } ∧ t.tun.waiting = none) ∧
          (accepted l = [] → t.tun.slide = s.tun.slide ∧ t.tun.nextSlides = s.tun.nextSlides) ∧
          (s.tun.slide = none → accepted l ≠ [] → t.tun.nextSlides = s.tun.nextSlides ∧ t.tun.slide = some
            ⟨(accepted l).map (fun e => (e.1, s.correction e.1)), accepted l, 0, max 2 (min 10 (s.rd F.TUN_CFG.LOG2_SLIDE))⟩) ∧
          (s.tun.slide ≠ none → accepted l ≠ [] → t.tun.slide = s.tun.slide ∧
            t.tun.nextSlides = s.tun.nextSlides ++ [accepted l]))) ∧
    (∃ t, exec (.tuneStaleTimeout n) s = .next t ∧ (s.advance n).Frame t [] [.flt] ∧
      t.flt.inbox = s.flt.inbox ++ (if s.tun.okAwake + 22118400000000000 ≤ nth (s.advance n).pwr.timeIn 0 + nth (s.advance n).pwr.timeIn 1
        then [⟨0xBC, 2, 0, 0, false, (s.advance n).now⟩] else [])) ∧
    (∀ (tenths : Nat) (agree : Bool), ∃ t, exec (.refMonitorTick n tenths agree) s = .next t ∧
      (s.asleep = true → (s.advance n).Frame t [] []) ∧
      (s.asleep = false → (s.advance n).Frame t [A.TUN_REF, A.TUN_STAT, A.TUN_CNT] [.tun, .flt, .gov, .cmd, .sns] ∧
        t.rd F.TUN_REF.REF = min 0xFFFF tenths ∧
        ∀ inside : Prop, inside = (24750 ≤ tenths ∧ tenths ≤ 25250) →
        (agree = false ∨ (¬inside ∧ ∃ a, s.tun.outsideFrom = some a ∧ a + 2560000000 ≤ (s.advance n).now) →
          t.rd F.TUN_REF.VALID = 0 ∧
          (s.on F.TUN_REF.VALID = false → (s.advance n).Frame t [A.TUN_REF] [.tun] ∧ t.tun.run = s.tun.run) ∧
          (s.on F.TUN_REF.VALID = true → s.tun.run = none → (s.advance n).Frame t [A.TUN_REF] [.tun, .flt] ∧ t.tun.run = none ∧
            t.flt.inbox = s.flt.inbox ++ [⟨0xB8, 2, 0, 0, false, (s.advance n).now⟩]) ∧
          (s.on F.TUN_REF.VALID = true → ∀ r, s.tun.run = some r → t.tun.run = none ∧ t.tun.waiting = s.tun.waiting ∧
            t.tun.slide = s.tun.slide ∧ t.rd F.TUN_STAT.LAST_RESULT = 3 ∧ t.rd F.TUN_CNT.FAILED = min 0xFF (s.rd F.TUN_CNT.FAILED + 1) ∧
            t.flt.inbox = s.flt.inbox ++ [⟨0xB8, 2, 0, 0, false, (s.advance n).now⟩, ⟨0xBB, 0, 0, 0, false, (s.advance n).now⟩] ∧
            ∀ src tag pl rest, r.place = some (src, tag) → s.cmd.places = pl :: rest → pl.waits src tag = true →
              t.cmd.replies = s.cmd.replies ++ (if pl.req.replyReq then [replyUnder pl.id pl.op pl.req (.notReady 0x11)] else []))) ∧
        (agree = true → ¬inside → (∀ a, s.tun.outsideFrom = some a → (s.advance n).now < a + 2560000000) →
          (s.advance n).Frame t [A.TUN_REF] [.tun] ∧
          t.rd F.TUN_REF.VALID = s.rd F.TUN_REF.VALID ∧ t.tun.outsideFrom = some (s.tun.outsideFrom.getD (s.advance n).now)) ∧
        (agree = true → inside → t.flt = s.flt ∧ t.cmd = s.cmd ∧ t.tun.outsideFrom = none ∧
          t.tun.insideFrom = some (s.tun.insideFrom.getD (s.advance n).now) ∧
          (∀ a, s.tun.insideFrom = some a → a + 256000000000 ≤ (s.advance n).now → t.rd F.TUN_REF.VALID = 1 ∧
            (s.on F.TUN_REF.VALID = false → s.power ≤ 1 → ∀ p, s.tun.waiting = some p →
              t.tun.run = some { parts := p } ∧ t.tun.waiting = none)) ∧
          (s.on F.TUN_REF.VALID = true ∨ s.tun.waiting = none ∨ 1 < s.power → (s.advance n).Frame t [A.TUN_REF] [.tun] ∧
            t.tun.run = s.tun.run) ∧
          ((∀ a, s.tun.insideFrom = some a → (s.advance n).now < a + 256000000000) → t.rd F.TUN_REF.VALID = s.rd F.TUN_REF.VALID ∧
            t.tun.run = s.tun.run))))

/-- UPDATE_STAGE in IDLE or STAGING with a good length and place holds until its FLASH write is done; at ARG 0 it begins a
session; outside those states it is DENIED, with a bad length or a place past 8 MiB, unaligned or touching what the session
wrote it is RANGE. The oldest waiting staging write, once the FLASH job does staging writes, erases the stale sectors it lies
in, programs its bytes and no others, and is answered OK, or CHECK_FAIL 2 with fault 0xB5; otherwise the end of a write does
nothing. UPDATE_ACTIVATE enters CHECK from STAGING and is NOT_READY, OK without effect, or BUSY elsewhere. The first failing
test of R428 gives ERR and the reply with fault 0xB0 and keeps what is staged; with none failing the staging record names the
image, and a hitless image is loaded, a cold one is armed, and in the recovery monitor (R448) the staged image becomes CURRENT,
with its DATA_FMT in the boot record, and a reset is asked for. An OK without effect holds its place until the reply is sent
(R286). The model's choices here (log entries): where R428 names no DETAIL the answer's is 0 (61); a write into what a failed
write touched is RANGE (62); the monitor's check skips tests 7 and 9 (64); a life-cycle transition that waits begins at the end
of FLASH work (113). Nothing else changes. (19_firmware_update.md R426, 19_firmware_update.md R427, 19_firmware_update.md R428,
19_firmware_update.md R438) -/
def Obligations.UpdateStaging : Prop :=
  ∀ (s : State) (r : Request) (n : Nat), s.undef = false →
    (s.gate 0x60 r = .run → ∃ t, exec (.updateStage r) s = .next t ∧
      s.Frame t [A.UPD_STAT, A.UPD_STAGED_VER, A.CMD_CNT_RX, A.CMD_CNT_REF] [.cmd, .flt, .upd, .flash, .gov] ∧
      ∀ (o len : Nat) (bad misplaced : Prop), o = r.arg.toNat → len = r.payload.length →
        bad = (len < 4 ∨ 4096 < len ∨ len % 4 ≠ 0) →
        misplaced = (o % 4 ≠ 0 ∨ 8388608 < o + len ∨ (o ≠ 0 ∧
          ((∃ w ∈ s.upd.written ++ s.upd.broken, w.1 < o + len ∧ o < w.2) ∨
            ∃ p ∈ s.cmd.places, p.op = 0x60 ∧ p.answered = false ∧ p.req.arg.toNat < o + len ∧ o < p.req.arg.toNat + p.req.payload.length))) →
        (1 < s.updState ∨ bad ∨ misplaced → t.upd = s.upd ∧ t.flash = s.flash ∧ t.gov = s.gov ∧ t.updState = s.updState) ∧
        (1 < s.updState → s.Answered t 0x60 r (.denied 2)) ∧
        (s.updState ≤ 1 → bad → s.Answered t 0x60 r (.range 10)) ∧
        (s.updState ≤ 1 → ¬bad → misplaced → s.Answered t 0x60 r (.range 12)) ∧
        (s.updState ≤ 1 → ¬bad → ¬misplaced → s.Held t 0x60 r ∧ FlashJob.staging ∈ t.gov.flash ∧
          (FlashJob.staging ∈ s.gov.flash → t.gov = s.gov) ∧
          (FlashJob.staging ∉ s.gov.flash → t.gov.flash = s.gov.flash ++ [.staging] ∧ t.gov.flashDue = s.gov.flashDue ++ [s.now] ∧
            (s.gov.jobs.length = 6 → s.job jobFlash = {} → t.job jobFlash = { pending := true, dueAt := s.now })) ∧
          (o = 0 → t.updState = 1 ∧ t.rd F.UPD_STAGED_VER.VERSION = 0 ∧ t.flash = { s.flash with record := none } ∧
            t.upd = { s.upd with stale := List.range 128, written := [], broken := [] }) ∧
          (o ≠ 0 → t.updState = s.updState ∧ t.upd = s.upd ∧ t.flash = s.flash))) ∧
    (∀ ok : Bool, ∃ t, exec (.stageWriteDone ok) s = .next t ∧
      s.Frame t [] ([.cmd, .flash, .upd, .gov, .sys] ++ if ok then [] else [.flt]) ∧
      ((∀ p ∈ s.cmd.places, p.op = 0x60 → p.answered = true) ∨ s.inFlight .staging = false → s.Frame t [] []) ∧
      ∀ (p : Place) (others : List Place) (o e : Nat) (sector : Nat → Prop),
        s.cmd.places.filter (fun x => x.op == 0x60 && !x.answered) = p :: others → s.inFlight .staging = true →
        s.cmd.places.find? (Place.waits p.req.src.toNat p.req.tag.toNat) = some p →
        o = p.req.arg.toNat → e = o + p.req.payload.length →
        sector = (fun k => k ∈ s.upd.stale ∧ o / 65536 ≤ k ∧ k ≤ (e - 1) / 65536) →
        t.cmd.replies = s.cmd.replies ++
          (if p.req.replyReq then [replyUnder p.id p.op p.req (if ok then .ok [] else .checkFail 2)] else []) ∧
        t.upd.written = s.upd.written ++ (if ok then [(o, e)] else []) ∧ t.upd.broken = s.upd.broken ++ (if ok then [] else [(o, e)]) ∧
        (ok = false → t.flt.inbox = s.flt.inbox ++ [⟨0xB5, 0, 0, 0, false, s.now⟩]) ∧
        (s.sys.lifeDue = none ∨ others ≠ [] → t.sys = s.sys) ∧ (others ≠ [] → t.gov = s.gov) ∧ (others = [] → t.gov.flash = s.gov.flash.drop 1 ∧ t.gov.flashDue = s.gov.flashDue.drop 1) ∧
        (∀ k, k ∈ t.upd.stale ↔ k ∈ s.upd.stale ∧ ¬sector k) ∧
        (∀ k, k ≠ s.flash.staging → t.area k = s.area k) ∧
        (s.flash.staging < s.flash.areas.length →
          (∀ i, i < p.req.payload.length → (t.area s.flash.staging).byte (o + i) = p.req.payload.getD i 0) ∧
          ∀ j, j < o ∨ e ≤ j → (sector (j / 65536) → (t.area s.flash.staging).byte j = 0xFF#8) ∧
            (¬sector (j / 65536) → (t.area s.flash.staging).byte j = (s.area s.flash.staging).byte j))) ∧
    (s.gate 0x61 r = .run → ∃ t, exec (.updateActivate r) s = .next t ∧
      s.Frame t [A.UPD_STAT, A.CMD_CNT_RX, A.CMD_CNT_REF] [.cmd, .flt] ∧
      (r.payload.length ≠ 0 → s.Answered t 0x61 r (.range 10)) ∧
      (r.payload.length = 0 → s.updState = 0 → s.Answered t 0x61 r (.notReady 0x12)) ∧
      (r.payload.length = 0 → s.updState = 1 → s.Held t 0x61 r ∧ t.updState = 2) ∧
      (r.payload.length = 0 → s.updState ∈ [5, 6, 8] → s.Answered t 0x61 r (.ok []) ∧
        t.cmd.places = s.cmd.places ++ (if r.replyReq then [⟨0x61, r, s.deviceId, true⟩] else [])) ∧
      (r.payload.length = 0 → s.updState ∈ [2, 3, 4, 7] → s.Answered t 0x61 r (.busy 0)) ∧
      (r.payload.length ≠ 0 ∨ s.updState ≠ 1 → t.reg A.UPD_STAT = s.reg A.UPD_STAT)) ∧
    (∃ t, exec (.updateCheckDone n) s = .next t ∧
      (s.advance n).Frame t [A.UPD_STAT, A.UPD_STAGED_VER, A.UPD_CNT] [.cmd, .flt, .flash, .upd, .sys] ∧
      (s.updState ≠ 2 → (s.advance n).Frame t [] []) ∧
      (s.updState = 2 → ∃ err, t.rd F.UPD_STAT.ERR = err ∧ err ≤ 9 ∧
        t.rd F.UPD_STAGED_VER.VERSION = (s.area s.flash.staging).header.version % 2 ^ 32 ∧
        (∀ k, 1 ≤ k → k ≤ 9 → (err = 0 ∨ k < err) → s.StagedPasses k) ∧ (err ≠ 0 → ¬s.StagedPasses err) ∧
        (∀ p rest, s.cmd.places = p :: rest → p.op = 0x61 → p.answered = false → t.cmd.replies = s.cmd.replies ++
          (if p.req.replyReq then [replyUnder p.id p.op p.req (if err = 0 then .ok [] else if err = 4 then .denied 1
            else if err = 5 ∨ err = 6 then .denied 2 else .checkFail 0)] else [])) ∧
        (err ≠ 0 → t.updState = 1 ∧ t.upd = s.upd ∧ t.flash = s.flash ∧
          t.flt.inbox = s.flt.inbox ++ [⟨0xB0, 0, 0, 0, false, (s.advance n).now⟩]) ∧
        (err = 0 → s.sys.monitor = false → t.flt = s.flt ∧ t.sys = s.sys ∧ ∃ rec, t.flash = { s.flash with record := some rec } ∧
          rec.hash = sha256 ((s.area s.flash.staging).slice 0 (s.area s.flash.staging).header.length) ∧ rec.confirmed = false ∧ rec.armed = (s.area s.flash.staging).header.cold ∧
          ((s.area s.flash.staging).header.cold = true → t.updState = 8 ∧ t.upd = s.upd ∧
            t.rd F.UPD_CNT.ACTIVATIONS = min 0xFFFF (s.rd F.UPD_CNT.ACTIVATIONS + 1)) ∧
          ((s.area s.flash.staging).header.cold = false → t.updState = 3 ∧ t.reg A.UPD_CNT = s.reg A.UPD_CNT ∧
            t.upd = { s.upd with loadAt := (s.advance n).now, standby := (s.area s.flash.staging).header })) ∧
        (err = 0 → s.sys.monitor = true → t.flt = s.flt ∧ t.updState = 1 ∧ t.upd = s.upd ∧ t.reg A.UPD_CNT = s.reg A.UPD_CNT ∧
          t.sys = { s.sys with dueReset := some (3, 0), dueAt := (s.advance n).now } ∧
          t.flash = { s.flash.setBoot s.flash.staging s.flash.previous s.flash.current (s.area s.flash.staging).header.dataFmt with record := none })))

/-- A standby core ready within 3 s moves LOADING to HANDOVER; 3 s in LOADING abort with ERR 10. At a handover point, within 1.5
ms after the governor has written a frame's ceilings in HANDOVER, the cores exchange roles and TRIAL begins with a checkpoint of
the commands, the governor, the tuning, the copies the log still owes and the registers of the firmware's blocks, or the
handover aborts with ERR 11 and fault 0xB1. A supervisor trip, fault 0x71 only while STALLED, or the confirm deadline starts
FALLBACK, or a warm reset for a cold image (one with a lower cause in the same always-on cycle stands for it, R442); a trip in
FALLBACK makes the old image resume from the checkpoint. A finished fallback is in STAGING with its cause, count, fault 0xB2 and
CONFIRMED cleared, frees the place of an UPDATE_REVERT without reply, and lets the evaluation of a coming frame begin, which
nothing has evaluated in FALLBACK. The trial time gives SELF_OK, and with AUTO_CONFIRM CONFIRMED; UPDATE_CONFIRM confirms after
SELF_OK. Nothing else changes. The model's choices here: a cold image's fallback records its cause, count and fault after its
warm reset (log entry 66), a stall trip needs STALLED (entry 67), and what a checkpoint holds and what goes on beside it (entry
112). (19_firmware_update.md R427, 19_firmware_update.md R429, 19_firmware_update.md R430, 19_firmware_update.md R431,
19_firmware_update.md R432, 19_firmware_update.md R433, 19_firmware_update.md R435, 19_firmware_update.md R437) -/
def Obligations.HandoverTrialFallback : Prop :=
  ∀ (s : State) (n : Nat), s.undef = false →
    (∃ t, exec (.standbyCoreReady n) s = .next t ∧ (s.advance n).Frame t [A.UPD_STAT] [.upd] ∧
      ∀ timely : Prop, timely = (s.updState = 3 ∧ (s.advance n).now ≤ s.upd.loadAt + 768000000000) →
        (timely → t.updState = 4 ∧ t.upd = { s.upd with point := none }) ∧ (¬timely → (s.advance n).Frame t [] [])) ∧
    (∃ t, exec (.loadTimeout n) s = .next t ∧ (s.advance n).Frame t [A.UPD_STAT] [.flt] ∧
      ∀ late : Prop, late = (s.updState = 3 ∧ s.upd.loadAt + 768000000000 ≤ (s.advance n).now) →
        (late → t.updState = 1 ∧ t.rd F.UPD_STAT.ERR = 10 ∧
          t.flt.inbox = s.flt.inbox ++ [⟨0xB1, 0, 0, 0, false, (s.advance n).now⟩]) ∧
        (¬late → (s.advance n).Frame t [] [])) ∧
    (∀ ok : Bool, ∃ t, exec (.handoverPoint ok n) s = .next t ∧ (s.advance n).Frame t [A.UPD_STAT, A.UPD_CNT] [.upd, .flt] ∧
      ∀ here : Prop, here = (s.updState = 4 ∧ (s.advance n).governing = true ∧ ∃ a, s.upd.point = some a ∧ (s.advance n).now ≤ a + 384000000) →
      (¬here → (s.advance n).Frame t [] []) ∧
      (here → ok = false → t.updState = 1 ∧ t.rd F.UPD_STAT.ERR = 11 ∧ t.upd = s.upd ∧
        t.flt.inbox = s.flt.inbox ++ [⟨0xB1, 0, 0, 0, false, (s.advance n).now⟩]) ∧
      (here → ok = true → t.updState = 5 ∧ t.rd F.UPD_STAT.SELF_OK = 0 ∧
        t.rd F.UPD_STAT.ACTIVE_CORE = 1 - s.rd F.UPD_STAT.ACTIVE_CORE ∧ t.flt = s.flt ∧
        t.rd F.UPD_CNT.ACTIVATIONS = min 0xFFFF (s.rd F.UPD_CNT.ACTIVATIONS + 1) ∧
        t.upd = { s.upd with
          running := s.upd.standby, standby := s.upd.running, trialAt := (s.advance n).now, cold := false, tripped := false
          checkpoint := some ⟨s.cmd, s.gov, s.tun, s.flt.copies, s.flt.copyFailed, s.regs.filter (fun e => firmwareHeld e.1)⟩ })) ∧
    (∀ e ∈ [(Instr.supervisorTrip 0 n, 1, true, True), (Instr.supervisorTrip 1 n, 2, true, s.rd F.GOV_FLAGS.STALLED = 1),
        (Instr.supervisorTrip 2 n, 3, true, True),
        (Instr.confirmTimeout n, 4, false, s.updState = 5 ∧
          s.upd.trialAt + 2560000000000 * max 1 (s.rd F.UPD_CFG.CONFIRM_S) ≤ (s.advance n).now)],
      ∃ t, exec e.1 s = .next t ∧
        (¬e.2.2.2 ∨ s.updState ∉ [5, 6, 7] → (s.advance n).Frame t [] []) ∧
        (e.2.2.2 → s.updState = 7 → (s.advance n).Frame t [] [.upd] ∧ t.upd = { s.upd with tripped := true }) ∧
        (e.2.2.2 → s.updState ∈ [5, 6] → s.upd.cold = false → (s.advance n).Frame t [A.UPD_STAT] [.upd] ∧ t.updState = 7 ∧
          t.rd F.UPD_STAT.CAUSE = s.rd F.UPD_STAT.CAUSE ∧ t.upd = { s.upd with cause := e.2.1, tripped := e.2.2.1 }) ∧
        (e.2.2.2 → s.updState ∈ [5, 6] → s.upd.cold = true → t.rd F.UPD_STAT.CAUSE = e.2.1 ∧
          t.flash = { s.flash with record := s.flash.record.map (fun x => { x with confirmed := false }) } ∧
          ∀ resets : Prop, resets = ((s.advance n).sameCycle = false ∨ 8 < s.rd F.SYS_RESET_CAUSE.CAUSE) →
            (resets → t.rd F.SYS_RESET_CAUSE.CAUSE = 8 ∧ t.rd F.UPD_CNT.FALLBACKS = 1 ∧
              t.flt.inbox = [⟨0xB2, 2, 0, 0, false, (s.advance n).now⟩] ∧ t.rd F.SYS_START.STEP = 0 ∧ t.cmd = {} ∧ t.AllDark ∧
              t.sys.startAt = (s.advance n).now + 256000000) ∧
            (¬resets → (s.advance n).Frame t [A.UPD_STAT, A.UPD_CNT] [.flash, .flt] ∧
              t.rd F.UPD_CNT.FALLBACKS = min 0xFFFF (s.rd F.UPD_CNT.FALLBACKS + 1)))) ∧
    (∃ t, exec (.fallbackDone n) s = .next t ∧ (s.updState ≠ 7 → (s.advance n).Frame t [] []) ∧
      (s.updState = 7 → t.updState = 1 ∧ t.rd F.UPD_STAT.SELF_OK = 0 ∧ t.rd F.UPD_STAT.CAUSE = s.upd.cause % 16 ∧
        t.rd F.UPD_STAT.ACTIVE_CORE = 1 - s.rd F.UPD_STAT.ACTIVE_CORE ∧
        t.rd F.UPD_CNT.FALLBACKS = min 0xFFFF (s.rd F.UPD_CNT.FALLBACKS + 1) ∧
        t.flt.inbox = s.flt.inbox ++ [⟨0xB2, 2, 0, 0, false, (s.advance n).now⟩] ∧
        t.flash = { s.flash with record := s.flash.record.map (fun x => { x with confirmed := false }) } ∧
        t.upd = { s.upd with running := s.upd.standby, standby := s.upd.running, tripped := false, checkpoint := none } ∧
        ∀ (reverted : Place → Bool) (coming : Prop), (∀ p, reverted p = (p.op == 0x63 && p.answered && !p.req.replyReq)) →
          coming = ((s.advance n).comingBuffer ≠ none ∧ s.gov.eval = none) →
        (s.upd.tripped = false ∨ s.upd.checkpoint = none →
          (s.advance n).Frame t [A.UPD_STAT, A.UPD_CNT, A.GOV_FLAGS, A.GOV_STAT] [.upd, .flt, .flash, .cmd, .gov] ∧
          (¬coming → (s.advance n).Frame t [A.UPD_STAT, A.UPD_CNT] [.upd, .flt, .flash, .cmd]) ∧
          t.cmd = { s.cmd with places := s.cmd.places.filter (fun p => !reverted p) }) ∧
        (∀ c, s.upd.tripped = true → s.upd.checkpoint = some c → (∀ e ∈ c.regs, firmwareHeld e.1 = true) →
          Sparse.wf resetWord c.regs = true → Sparse.wf resetWord s.regs = true →
          (∀ p, p ∉ [Part.upd, .flt, .flash, .cmd, .gov, .tun] → (s.advance n).Same t p) ∧
          (∀ a, firmwareHeld a = false → a ∉ [A.UPD_STAT, A.UPD_CNT] → t.reg a = s.reg a) ∧
          (∀ a, firmwareHeld a = true → ¬coming ∨ a ∉ [A.GOV_FLAGS, A.GOV_STAT] → t.reg a = Sparse.get resetWord c.regs a) ∧
          t.cmd = { c.cmd with
            places := (s.cmd.places.filter (fun p => c.cmd.places.any (fun q => q.req == p.req && q.op == p.op))).filter (fun p => !reverted p)
            replies := s.cmd.replies.filter c.cmd.replies.contains } ∧
          t.tun = c.tun ∧ t.flt.copies = c.copies ++ s.flt.copies.filter (fun r => !c.copies.contains r) ∧ t.flt.copyFailed = c.copyFailed ∧
          (¬coming → t.gov = { c.gov with
            eval := s.gov.eval, written := s.gov.written, missed := s.gov.missed, prev := s.gov.prev, shownPower := s.gov.shownPower
            shownLed := s.gov.shownLed, shownVled := s.gov.shownVled, shownCurves := s.gov.shownCurves, irow := s.gov.irow
            irowPrev := s.gov.irowPrev, irowOld := s.gov.irowOld })))) ∧
    (∀ ok : Bool, ∃ t, exec (.trialTimeElapsed ok n) s = .next t ∧ (s.advance n).Frame t [A.UPD_STAT] [.flash] ∧
      ∀ passed : Prop, passed = (s.updState = 5 ∧ ok = true ∧
          s.upd.trialAt + 256000000000 * max 1 (s.rd F.UPD_CFG.TRIAL_S) ≤ (s.advance n).now) →
        (¬passed → (s.advance n).Frame t [] []) ∧ (passed → t.rd F.UPD_STAT.SELF_OK = 1) ∧
        (passed → s.rd F.UPD_CFG.AUTO_CONFIRM = 0 → t.updState = 5 ∧ t.flash = s.flash) ∧
        (passed → s.rd F.UPD_CFG.AUTO_CONFIRM = 1 → t.updState = 6 ∧
          t.flash = { s.flash with record := s.flash.record.map (fun x => { x with confirmed := true }) })) ∧
    (∀ r : Request, s.gate 0x62 r = .run → ∃ t, exec (.updateConfirm r) s = .next t ∧
      s.Frame t [A.UPD_STAT, A.CMD_CNT_RX, A.CMD_CNT_REF] [.cmd, .flt, .flash] ∧
      (r.payload.length ≠ 0 → s.Answered t 0x62 r (.range 10)) ∧
      (r.payload.length = 0 → s.updState = 6 → s.Answered t 0x62 r (.ok [])) ∧
      ∀ selfOk : Prop, selfOk = (s.updState = 5 ∧ s.rd F.UPD_STAT.SELF_OK = 1) →
        (r.payload.length = 0 → selfOk → s.Answered t 0x62 r (.ok []) ∧ t.updState = 6 ∧
          t.flash = { s.flash with record := s.flash.record.map (fun x => { x with confirmed := true }) }) ∧
        (r.payload.length = 0 → ¬selfOk → s.updState ≠ 6 → s.Answered t 0x62 r (.notReady 0x12)) ∧
        (r.payload.length ≠ 0 ∨ ¬selfOk → t.reg A.UPD_STAT = s.reg A.UPD_STAT ∧ t.flash = s.flash))

/-- UPDATE_REVERT without payload starts the fallback from TRIAL or CONFIRMED (the fallback of a cold image's trial is the warm
reset of R435), takes ARMED back to STAGING, and in every other state, so also in IDLE, where a rotation leaves the machine, is
answered NOT_READY with DETAIL 0x12 and changes nothing. A rotation gives the old image the name PREVIOUS and clears the staging
record; from IDLE an activation is NOT_READY until a staging session begins. With a payload it is RANGE and changes nothing.
Nothing else changes. The model's choices here: the OK at once and the place it keeps until the fallback is done (log entry 60),
the cause recorded after a cold image's reset (entry 66), and one reset per always-on cycle with the lower cause (entry 117).
(19_firmware_update.md R434, 19_firmware_update.md R428, 19_firmware_update.md R435, 19_firmware_update.md R437, 20_start_up.md
R442) -/
def Obligations.RevertStartsFallback : Prop :=
  (∀ s : State, s.flash.boot.length = 2 → s.rotate.flash.previous = s.flash.current ∧ s.rotate.flash.current = s.flash.staging ∧
    s.rotate.flash.staging = s.flash.previous ∧ s.rotate.flash.record = none) ∧
  (∀ (s : State) (r : Request), s.undef = false → s.gate 0x61 r = .run → r.payload.length = 0 → s.updState = 0 →
    ∃ t, exec (.updateActivate r) s = .next t ∧ s.Answered t 0x61 r (.notReady 0x12) ∧ t.updState = 0) ∧
  ∀ (s : State) (r : Request), s.undef = false → s.gate 0x63 r = .run → ∃ t, exec (.updateRevert r) s = .next t ∧
    (s.updState ∉ [5, 6] ∨ s.upd.cold = false ∨ r.payload.length ≠ 0 →
      s.Frame t [A.UPD_STAT, A.CMD_CNT_RX, A.CMD_CNT_REF] [.cmd, .flt, .flash, .upd]) ∧
    (r.payload.length ≠ 0 → s.Answered t 0x63 r (.range 10)) ∧
    (r.payload.length = 0 → s.updState ∈ [5, 6] → s.upd.cold = false → s.Answered t 0x63 r (.ok []) ∧ t.updState = 7 ∧
      t.cmd.places = s.cmd.places ++ [⟨0x63, r, s.deviceId, true⟩] ∧
      t.upd = { s.upd with cause := 5, tripped := false } ∧ t.flash = s.flash) ∧
    (r.payload.length = 0 → s.updState ∈ [5, 6] → s.upd.cold = true → s.sameCycle = false ∨ 8 < s.rd F.SYS_RESET_CAUSE.CAUSE →
      t.cmd.places = (if r.replyReq then [⟨0x63, r, s.deviceId, true⟩] else []) ∧ t.cmd.replies = (if r.replyReq then [s.replyOf 0x63 r (.ok [])] else []) ∧ t.rd F.SYS_RESET_CAUSE.CAUSE = 8 ∧
      t.rd F.UPD_STAT.CAUSE = 5 ∧ t.rd F.SYS_START.STEP = 0 ∧ t.sys.startAt = s.now + 256000000) ∧
    (r.payload.length = 0 → s.updState ∈ [5, 6] → s.upd.cold = true → s.sameCycle = true → s.rd F.SYS_RESET_CAUSE.CAUSE ≤ 8 →
      s.Answered t 0x63 r (.ok []) ∧ t.rd F.UPD_STAT.CAUSE = 5 ∧
      s.Frame t [A.UPD_STAT, A.UPD_CNT, A.CMD_CNT_RX, A.CMD_CNT_REF] [.cmd, .flt, .flash]) ∧
    (r.payload.length = 0 → s.updState = 8 → s.Answered t 0x63 r (.ok []) ∧ t.updState = 1 ∧ t.upd = s.upd ∧
      t.flash = { s.flash with record := s.flash.record.map (fun x => { x with armed := false }) }) ∧
    (r.payload.length = 0 → s.updState ∉ [5, 6, 8] → s.Answered t 0x63 r (.notReady 0x12)) ∧
    (r.payload.length ≠ 0 ∨ s.updState ∉ [5, 6, 8] → t.reg A.UPD_STAT = s.reg A.UPD_STAT ∧ t.upd = s.upd ∧ t.flash = s.flash)

/-- VIN_AON rising or falling is a power-on reset. The loss of another supply while VIN_AON is good is a warm reset that names
what is lost, or with the device already held by a reset of this cause is named beside the first; its return above 92 % begins
the start once all are good, not before the reset's own time is over. A supply above its operating conditions puts the device
under R12 until it is back, and it then goes on (R475). RESET_N low is a warm reset, its release begins the start; in SLEEP the
reset is made at the release. The key in SYS_RESET_REQ asks for a reset with cause COMMAND, any other value has no effect.
Outside TRIAL and CONFIRMED a missing heartbeat is a reset with cause WATCHDOG. Losing VIN_SAFE puts both inputs in demand and
the tile dark, and the feedback inputs off. Erasures complete and no flash write in flight, a life-cycle transition blows its
fuses and restarts with cause LIFECYCLE. Each reset keeps what R443 names and resets the rest; after a reset in the same
always-on cycle whose code is not higher, a trigger makes none. Nothing else changes. The model's choices here: what a further
loss does while the device is held, and the clock of a power-on (log entry 69), the request taken at the next START_SEQUENCE
(entry 70), one reset per always-on cycle (entry 117), what a lost supply out of range leaves free (entry 8), and what the
life-cycle record holds and when its fuses blow (entries 113 and 142). (20_start_up.md R439, 20_start_up.md R440, 20_start_up.md
R441, 20_start_up.md R442, 20_start_up.md R443, 20_start_up.md R444, 15_safety_functions.md R358, 20_start_up.md R456,
21_pins_and_package.md R467, 22_electrical.md R475, 22_electrical.md R490) -/
def Obligations.ResetsAndSupplies : Prop :=
  (∀ (s : State) (n : Nat) (v : SupplyLevel), s.sys.byCase = false →
    (∀ b ∈ s.sys.aboveMax.set v.line.val (decide (nth [3600, 824, 927, 1890, 6300, 28800] v.line.val < v.mV)), b = false) →
    ∃ t, exec (.supplyGood v n) s = .next t ∧ t.undef = false) ∧
  ∀ (s : State) (n : Nat), s.undef = false →
    (∀ v : SupplyLevel, ∃ t, exec (.supplyGood v n) s = .next t ∧
      ∀ (k : Fin 6) (above : List Bool) (rises : Prop), k = v.line →
        above = s.sys.aboveMax.set k.val (decide (nth [3600, 824, 927, 1890, 6300, 28800] k.val < v.mV)) →
        rises = (nth s.sys.supplies k.val = false ∧ nth [3300, 800, 900, 1800, 6000, 24000] k.val * 92 < v.mV * 100) →
      (true ∈ above → t.undef = true ∧ t.flash = s.flash ∧ t.sys.fuses = s.sys.fuses ∧ t.sys.aboveMax = above) ∧
      (true ∉ above → k = 5 → (s.advance n).Frame t [] [.sys] ∧ t.sys = { s.sys with vinSafe := true, aboveMax := above }) ∧
      (true ∉ above → k ≠ 5 → ¬rises → (s.advance n).Frame t [] [.sys] ∧ t.sys = { s.sys with aboveMax := above }) ∧
      (true ∉ above → k ≠ 5 → k ≠ 0 → rises → (s.advance n).Frame t [] [.sys] ∧
        t.sys = { s.sys with
          supplies := s.sys.supplies.set k.val true, aboveMax := above
          startAt := if ∀ b ∈ s.sys.supplies.set k.val true, b = true then max s.sys.startAt (s.advance n).now else s.sys.startAt }) ∧
      (true ∉ above → k = 0 → rises → ({ s.advance n with sys.aboveMax := above } : State).PoweredOn t (s.sys.supplies.set 0 true))) ∧
    (∀ k : Fin 6, ∃ t, exec (.supplyLost k n) s = .next t ∧
      (k = 5 → (s.advance n).Frame t [A.SAF_STAT, A.SAF_CNT] [.sys, .saf] ∧ t.sys = { s.sys with vinSafe := false } ∧
        t.rd F.SAF_STAT.IN_A = 0 ∧ t.rd F.SAF_STAT.IN_B = 0 ∧ t.rd F.SAF_STAT.FB_A = 0 ∧ t.rd F.SAF_STAT.FB_B = 0 ∧
        t.saf.outOn = false ∧ t.AllDark ∧ (s.inEn = true → t.latched = true)) ∧
      (k = 0 → (s.advance n).PoweredOn t (s.sys.supplies.set 0 false)) ∧
      ∀ l : List Bool, l = s.sys.supplies.set k.val false →
      (k ≠ 5 → k ≠ 0 → nth s.sys.supplies 0 = false → (s.advance n).Frame t [] [.sys] ∧ t.sys = { s.sys with supplies := l }) ∧
      ∀ named : Nat → Prop, (∀ d, named d ↔ d < 16 ∧ ∀ j : Fin 5, j ≠ 0 → bitsAt d (nth [0, 0, 1, 3, 2] j.val) 1 = if nth l j.val then 0 else 1) →
      ∀ beside : Prop, beside = (false ∈ s.sys.supplies ∧ s.rd F.SYS_RESET_CAUSE.CAUSE = 4) →
      (k ≠ 5 → k ≠ 0 → nth s.sys.supplies 0 = true → ¬beside →
        ((s.advance n).Resets 4 → ∃ d, named d ∧
          ({ s.advance n with sys.supplies := l } : State).Restarted t keptWarm 4 d ((s.advance n).now + 256000000)) ∧
        (¬(s.advance n).Resets 4 → (s.advance n).Frame t [] [.sys] ∧ t.sys = { s.sys with supplies := l })) ∧
      (k ≠ 5 → k ≠ 0 → nth s.sys.supplies 0 = true → beside → (s.advance n).Frame t [A.SYS_RESET_CAUSE] [.sys] ∧
        t.sys = { s.sys with supplies := l } ∧ t.rd F.SYS_RESET_CAUSE.CAUSE = 4 ∧ named (t.rd F.SYS_RESET_CAUSE.DETAIL))) ∧
    (∀ low : Bool, ∃ t, exec (.resetPin low n) s = .next t ∧
      (low = s.sys.resetPin → (s.advance n).Frame t [] []) ∧
      (∀ moved : State, moved = { s.advance n with sys.resetPin := low } → low ≠ s.sys.resetPin →
        (low = s.asleep → (s.advance n).Frame t [] [.sys] ∧
          t.sys = { s.sys with resetPin := low, startAt := if low then s.sys.startAt else max s.sys.startAt (s.advance n).now }) ∧
        (low ≠ s.asleep → ((s.advance n).Resets 2 → moved.Restarted t keptWarm 2 0 (s.advance n).now) ∧
          (¬(s.advance n).Resets 2 → (s.advance n).Frame t [] [.sys] ∧ t.sys = { s.sys with resetPin := low })))) ∧
    (∀ key : Word, ∃ t, exec (.resetRequest key) s = .next t ∧ s.Frame t [] [.sys] ∧
      t.sys = (if key = 0x0000A55A#32 ∧ s.sys.dueReset = none then { s.sys with dueReset := some (3, 0), dueAt := s.now } else s.sys)) ∧
    (∃ t, exec (.watchdogTimeout n) s = .next t ∧
      ∀ watched : Prop, watched = (4 ≤ s.rd F.SYS_START.STEP ∧ s.asleep = false ∧ s.updState ∉ [5, 6]) →
        (¬watched ∨ ¬(s.advance n).Resets 5 → (s.advance n).Frame t [] []) ∧
        (watched → (s.advance n).Resets 5 → (s.advance n).Restarted t keptWarm 5 0 ((s.advance n).now + 256000000))) ∧
    (∃ t, exec (.lifecycleEraseDone n) s = .next t ∧
      (s.flash.life.pending = false ∨ s.flashWriting = true → (s.advance n).Frame t [] []) ∧
      (s.flash.life.pending = true → s.flashWriting = false →
        ((s.advance n).Resets 7 → ({ s.advance n with flash := t.flash, sys.fuses := t.sys.fuses } : State).Restarted t keptAwake 7
          (s.flash.life.state % 256) ((s.advance n).now + 256000000) ∧ t.deviceId = s.deviceId) ∧
        (¬(s.advance n).Resets 7 → (s.advance n).Frame t [] [.flash, .sys]) ∧
        ∀ a b lives, a = s.flash.life.source → b = s.flash.life.state →
        lives = s.flash.lifeCopies.set (1 - s.flash.lifeCopy) (some { state := b, source := b, seq := s.flash.life.seq + 1 }) →
        t.sys.fuses = { s.sys.fuses with
          factoryDone := s.sys.fuses.factoryDone || (a == 0 && b == 1), retired := s.sys.fuses.retired || b == 4
          revoked := if b = a then Nat.lor s.sys.fuses.revoked s.flash.life.revoke else s.sys.fuses.revoked } ∧
        (b = 4 → t.flash = { ({} : FlashState) with areas := [{}, {}, {}], lifeCopies := lives }) ∧
        (a = 0 → b = 1 → t.flash.calA = none ∧ t.flash.calB = none ∧ t.flash.stress = [none, none, none] ∧ t.flash.log = [] ∧
          t.flash.overlay = [] ∧ t.flash.areas = s.flash.areas ∧ t.flash.conf = { fmt := s.flash.conf.fmt } ∧ t.flash.confOld = none ∧
          t.flash.record = none ∧ t.flash.lifeCopies = lives) ∧
        (a ∈ [2, 3] → b = 1 → t.flash = { s.flash with calA := none, calB := none, stress := [none, none, none], lifeCopies := lives }) ∧
        (b ≠ 4 → ¬(b = 1 ∧ a ∈ [0, 2, 3]) → t.flash = { s.flash with lifeCopies := lives })))

/-- A start held by RESET_N or a missing supply, not due or past step 3 changes nothing, but takes a reset asked for 1 ms
before, from which the start then runs on. With a transition pending it ends at step 3 and restores nothing. A confirmed staged
image that may run becomes CURRENT, the floor rising to its ROLLBACK, or with power lost in the rotation the record before it
stands; power lost while the life-cycle record was written leaves the copy before it in force (R452); an armed one that may run
starts its trial. Else CURRENT is run if bootable, PREVIOUS with fault 0xB3 if only that is, or the monitor with fault 0x07
outside RETIRED, which ends at step 5; a failed wipe, training or safety image raises its fault; each warm reset raises 0x03
with its cause, a supply loss 0x00, a watchdog 0x01, a failed wake 0xA1. A migration that fails is a warm reset with faults 0xB4
and 0xB2. A rail's PG, timeout or delay switches on the next rail the glass and USED allow, or ends the sequence; a PG that
falls or never rises is FAILED with fault 0x02. STEP reads 8 once the rails have run, and then an exit from STANDBY starts
scan-out and a start goes on to step 9. Nothing else changes. The model's choices here: ARMED cleared at the trial's start (log
entry 63), the fallback recorded after a failed migration's reset (entry 66), what of an image is tested and which records a
start reads (entry 112), and what a loss of power can cut short (entry 113). (20_start_up.md R445, 20_start_up.md R447,
20_start_up.md R448, 20_start_up.md R449, 20_start_up.md R450, 19_firmware_update.md R425, 20_start_up.md R456, 20_start_up.md
R458, 20_start_up.md R443, 15_safety_functions.md R355) -/
def Obligations.StartAndRails : Prop :=
  ∀ (s : State) (n : Nat), s.undef = false →
    (∀ inp : StartInput, ∃ t, exec (.startSequence n inp) s = .next t ∧
      (∀ due : Prop, due = (s.sys.starting = true ∧ s.sys.resetPin = false ∧ (∀ b ∈ s.sys.supplies, b = true) ∧
          s.sys.startAt ≤ (s.advance n).now ∧ s.pwr.retryAt ≤ (s.advance n).now ∧ s.rd F.SYS_START.STEP ≤ 3) →
        ∀ asked : Prop, asked = ((∃ d, s.sys.dueReset = some d) ∧ s.sys.dueAt + 256000000 ≤ (s.advance n).now) →
        ∀ z : State, z = { s with flash := if inp.lifeCut = true ∧ s.rd F.SYS_RESET_CAUSE.CAUSE ∈ [1, 4] then s.flash.cutLife else s.flash } →
        (¬due → ¬asked → (s.advance n).Frame t [] []) ∧
        (due → ¬asked → s.rd F.SYS_START.STEP ≠ 0 → z.flash.life.pending = true → (s.advance n).Frame t [] [.flash] ∧ t.flash = z.flash) ∧
        (∀ c d, s.sys.dueReset = some (c, d) → c < 256 → d < 256 → asked → s.sys.resetPin = true ∨ false ∈ s.sys.supplies →
          ((s.advance n).Resets c → c ∉ [6, 7] → (s.advance n).Restarted t keptWarm c d (s.advance n).now) ∧
          (¬(s.advance n).Resets c → (s.advance n).Frame t [] [])) ∧
        (∀ c d, s.sys.dueReset = some (c, d) → asked → (s.advance n).Resets c →
          exec (.startSequence n inp) ((s.advance n).warmReset c d 0) = .next t) ∧
        (due → ¬asked → z.flash.life.pending = false → inp.bootCut = true → z.rotates = true →
          t.flash = z.flash.cutBoot ∧ t.rd F.SYS_START.STEP = max 3 (s.rd F.SYS_START.STEP) ∧ t.upd = s.upd ∧
          (z.flash.boot.length = 2 → t.flash.current = z.flash.current ∧ t.flash.record = z.flash.record)) ∧
        (due → ¬asked → z.flash.life.pending = false → inp.bootCut = false → z.rotates = true → z.flash.boot.length = 2 →
          t.flash.record = none ∧ t.flash.previous = z.flash.current ∧ t.flash.current = z.flash.staging ∧
          t.upd.running = (z.area z.flash.staging).header ∧ t.updState = 0 ∧ 7 ≤ t.rd F.SYS_START.STEP ∧
          t.sys.fuses.floor = max s.sys.fuses.floor (min 63 (z.area z.flash.staging).header.rollback)) ∧
        (∀ x, due → ¬asked → z.flash.life.pending = false → z.lifecycle ≠ 4 → z.flash.record = some x → x.armed = true → x.confirmed = false →
          z.bootable (z.area z.flash.staging) = true →
          t.flash.record = some { x with armed := false } ∧
          (inp.migrated = true → t.updState = 5 ∧ t.upd.cold = true ∧ t.upd.running = (z.area z.flash.staging).header ∧
            7 ≤ t.rd F.SYS_START.STEP ∧ t.flash.boot = z.flash.boot) ∧
          (inp.migrated = false → t.rd F.SYS_RESET_CAUSE.CAUSE = 8 ∧ t.rd F.UPD_STAT.CAUSE = 6 ∧ t.rd F.SYS_START.STEP = 0 ∧
            t.sys.startAt = (s.advance n).now + 256000000 ∧
            t.flt.inbox = [⟨0xB4, 2, 0, 0, false, (s.advance n).now⟩, ⟨0xB2, 2, 0, 0, false, (s.advance n).now⟩])) ∧
        (due → ¬asked → s.rd F.SYS_START.STEP = 0 → z.flash.life.pending = true →
          t.rd F.SYS_START.STEP = 3 ∧ t.pwr.trans = .start ∧ t.rd F.PWR_STATE.BUSY = 1 ∧ t.rln.oscReady = true ∧ t.flash = z.flash ∧
          t.mem = s.mem ∧ t.upd = s.upd) ∧
        (due → ¬asked → s.rd F.SYS_START.STEP = 0 → z.flash.life.pending = false → z.flash.record = none → z.flash.confOld = none →
          (s.sys.waking = false → ∀ c, c = s.rd F.SYS_RESET_CAUSE.CAUSE → c ≠ 1 → ⟨0x03, 0, 0, c, false, (s.advance n).now⟩ ∈ t.flt.inbox ∧
            (c = 4 → ⟨0x00, 2, 0, 0, false, (s.advance n).now⟩ ∈ t.flt.inbox) ∧
            (c = 5 → ⟨0x01, 2, 0, 0, false, (s.advance n).now⟩ ∈ t.flt.inbox) ∧
            (c = 6 → ⟨0xA1, 2, 0, 0, false, (s.advance n).now⟩ ∈ t.flt.inbox)) ∧
          (inp.trained = false → ⟨0x7A, 4, 0, 0, false, (s.advance n).now⟩ ∈ t.flt.inbox) ∧
          (inp.trained = true → inp.wiped = false → ⟨0x7B, 4, 0, 0, false, (s.advance n).now⟩ ∈ t.flt.inbox) ∧
          (inp.sram = false → ⟨0x05, 4, 0, 0, false, (s.advance n).now⟩ ∈ t.flt.inbox) ∧
          ((z.lifecycle = 4 ∨ (z.bootable (z.area z.flash.current) = false ∧ z.bootable (z.area z.flash.previous) = false)) →
            t.sys.monitor = true ∧ t.rd F.SYS_START.STEP = 5 ∧ t.saf.released = s.saf.released ∧
            (z.lifecycle ≠ 4 → ⟨0x07, 2, 0, 0, false, (s.advance n).now⟩ ∈ t.flt.inbox)) ∧
          (z.lifecycle ≠ 4 → ∀ b, b = z.bootable (z.area z.flash.current) → b = true ∨ z.bootable (z.area z.flash.previous) = true →
            t.sys.monitor = false ∧ 7 ≤ t.rd F.SYS_START.STEP ∧ t.updState = 0 ∧
            t.upd.running = (z.area (if b then z.flash.current else z.flash.previous)).header ∧
            (b = false → ⟨0xB3, 2, 0, 0, false, (s.advance n).now⟩ ∈ t.flt.inbox ∧ t.rd F.UPD_BOOT.BOOTED_PREV = 1) ∧
            (inp.scanEngine = true → inp.safetyImage = true → t.saf.released = true ∧ t.upd.safeIf = t.upd.running.safeIf) ∧
            (inp.scanEngine = true → inp.safetyImage = false → ⟨0x9A, 4, 0, 0, false, (s.advance n).now⟩ ∈ t.flt.inbox ∧
              t.saf.released = s.saf.released) ∧
            (inp.scanEngine = false → ⟨0xC0, 4, 0, 0, false, (s.advance n).now⟩ ∈ t.flt.inbox))))) ∧
    (∀ (k : Fin 6) (high : Bool), ∃ t u v, exec (.prailPgChange k high n) s = .next t ∧ exec (.prailPgTimeout k n) s = .next u ∧
      exec (.prailDelayExpiry n) s = .next v ∧
      (s.sys.starting = true → s.rd F.SYS_START.STEP ∈ [7, 8] → s.safeClk = true ∨ s.saf.released = false → ∀ x ∈ [t, u, v], x.sys.railsUp = true →
        9 ≤ x.rd F.SYS_START.STEP) ∧
      (s.rd F.SYS_START.STEP = 7 → ∀ x ∈ [t, u, v], x.sys.railsUp = false → x.rd F.SYS_START.STEP = 7) ∧
      (s.sys.starting = true → s.rd F.SYS_START.STEP = 7 → s.safeClk = false → s.saf.released = true → ∀ x ∈ [t, u, v], x.sys.railsUp = true →
        x.rd F.SYS_START.STEP = 8) ∧
      (s.sys.starting = false ∨ s.rd F.SYS_START.STEP ∉ [7, 8] ∨ (s.safeClk = false ∧ s.saf.released = true) →
        (s.pwr.trans = .exit → ∀ x ∈ [t, u, v], x.sys.railsUp = true → x.scn.running = true) ∧
        ∀ begins : List Part, begins = (if s.pwr.trans = .exit ∧ s.scn.running = false then [.scn, .pix, .gov, .pwr, .sns] else []) →
        (s.advance n).Frame t [A.SYS_PRAIL_STAT] ([.sys, .flt] ++ begins) ∧ (s.advance n).Frame u [A.SYS_PRAIL_STAT] ([.sys, .flt] ++ begins) ∧
        (s.advance n).Frame v [A.SYS_PRAIL_STAT] (.sys :: begins) ∧ bitsAt (t.rd F.SYS_PRAIL_STAT.PG) k.val 1 = (if high then 1 else 0) ∧
        (∀ since pgTo delay : Nat, ∀ fault : Report, pgTo = 256000000 * max 1 (s.rd F.SYS_PRAIL_CFG.PG_TO) →
          delay = 25600000 * s.rd F.SYS_PRAIL_CFG.DELAY →
          fault = ⟨0x02, 3, if k.val < 2 then 15 else 2 ^ (k.val - 2), k.val, false, (s.advance n).now⟩ →
          (high = true → t.flt = s.flt ∧ (s.sys.rails ≠ .waitPg k.val → t.rd F.SYS_PRAIL_STAT.EN = s.rd F.SYS_PRAIL_STAT.EN) ∧
            (∀ w ∈ t.sys.pgWait, w.1 ≠ k.val) ∧
            (s.sys.rails = .waitPg k.val → delay ≠ 0 → t.sys.rails = .waitDelay k.val ∧ t.sys.railAt = (s.advance n).now) ∧
            (s.sys.rails = .waitPg k.val → delay = 0 → s.RailStep t (s.advance n).now (s.nextRail (k.val + 1)))) ∧
          (high = false → s.sys.rails ≠ .fall k.val →
            (s.railOn k.val = true → s.railPg k.val = true → (∀ w ∈ s.sys.pgWait, w.1 ≠ k.val) →
              bitsAt (t.rd F.SYS_PRAIL_STAT.FAILED) k.val 1 = 1 ∧ t.rd F.SYS_PRAIL_STAT.EN = s.rd F.SYS_PRAIL_STAT.EN ∧
              t.flt.inbox = s.flt.inbox ++ [fault]) ∧
            (s.railOn k.val = false ∨ s.railPg k.val = false ∨ (∃ w ∈ s.sys.pgWait, w.1 = k.val) →
              t.rd F.SYS_PRAIL_STAT.FAILED = s.rd F.SYS_PRAIL_STAT.FAILED ∧ t.rd F.SYS_PRAIL_STAT.EN = s.rd F.SYS_PRAIL_STAT.EN ∧ t.flt = s.flt)) ∧
          (s.sys.rails ≠ .fall k.val → (∀ w ∈ s.sys.pgWait, w.1 ≠ k.val) → (s.advance n).Frame u [] begins) ∧
          (s.sys.rails ≠ .fall k.val → s.sys.pgWait.find? (fun w => w.1 == k.val) = some (k.val, since) →
            ((s.advance n).now < since + pgTo → (s.advance n).Frame u [] begins) ∧
            (since + pgTo ≤ (s.advance n).now → bitsAt (u.rd F.SYS_PRAIL_STAT.FAILED) k.val 1 = 1 ∧
              u.flt.inbox = s.flt.inbox ++ [fault] ∧
              (s.sys.rails ≠ .waitPg k.val → u.rd F.SYS_PRAIL_STAT.EN = s.rd F.SYS_PRAIL_STAT.EN) ∧
              (s.sys.rails = .waitPg k.val → s.RailStep u (s.advance n).now (s.nextRail (k.val + 1))))) ∧
          (s.sys.rails = .fall k.val → (s.sys.railAt + pgTo ≤ (s.advance n).now → u.flt = s.flt ∧ u.sys.rails ≠ .fall k.val) ∧
            ((s.advance n).now < s.sys.railAt + pgTo → (s.advance n).Frame u [] begins) ∧
            (high = false → t.flt = s.flt ∧ t.sys.rails ≠ .fall k.val)) ∧
          ((∀ j, s.sys.rails ≠ .waitDelay j) → (s.advance n).Frame v [] begins) ∧
          (∀ j, s.sys.rails = .waitDelay j → ((s.advance n).now < s.sys.railAt + delay → (s.advance n).Frame v [] begins) ∧
            (s.sys.railAt + delay ≤ (s.advance n).now → s.RailStep v (s.advance n).now (s.nextRail (j + 1)))))))

/-- LIFECYCLE is RANGE for a field outside its checks, DENIED 1 for a transition that R453 lacks, BUSY while an update runs,
DENIED 2 for a wrong serial, nonce, signature, revocation or condition, and else OK: it keeps its place, the device goes to DARK
(from ACTIVE at once, from STANDBY by an exit, an exit or a start in progress ends there, an entry is given up), and the record
names the target PENDING, at once or, with a flash write in flight, once that has ended. Every answer draws a new nonce and a
refusal raises fault 0x04. The service port reads a register with its status and clears what reading clears, and writes one
outside FIELD and the monitor; it is BUSY with all places taken, which counts up to 255, RANGE, NOT_READY or DENIED without
effect, and silent in RETIRED, in SLEEP and before step 4. Nothing else changes. The model's choices here: the nonce is free
(log entry 2), a refused service write in the monitor (entry 48), the count of a full device (entry 49), a needless record
(entry 72), which fuses decide a damaged record (entry 113), and the way into DARK (entry 120) and what the record holds (entry
142). (20_start_up.md R451, 20_start_up.md R453, 20_start_up.md R454, 20_start_up.md R455, 20_start_up.md R456, 20_start_up.md
R457, 20_start_up.md R458, 11_command_packets.md R284) -/
def Obligations.LifecycleAndServicePort : Prop :=
  ∀ (s : State) (n : Nat), s.undef = false →
    (∀ r : Request, s.gate 0x7A r = .run → ∃ t, exec (.lifecycle r) s = .next t ∧
      t.rd F.SYS_LC_NONCE_LO.NONCE = Config.freeNat s.freeNo % 2 ^ 32 ∧
      t.rd F.SYS_LC_NONCE_HI.NONCE = Config.freeNat (s.freeNo + 1) % 2 ^ 32 ∧
      ∀ (target slot revoke : Nat) (auth : List Byte) (exists_ signed : Prop), target = pByte r 0 → auth = r.payload.drop 4 →
        slot = fieldLE auth 5 1 → revoke = fieldLE auth 28 4 →
        exists_ = (s.lifecycle < 4 ∧ (target = 4 ∨ target = s.lifecycle ∨
          (s.lifecycle, target) ∈ [(0, 1), (1, 2), (2, 3), (3, 2), (2, 1), (3, 1)])) →
        signed = ((s.lifecycle, target) ∉ [(1, 2), (3, 2)]) →
        ∀ good : Prop, good = (fieldLE auth 8 8 = s.sys.fuses.serial % 2 ^ 64 ∧
          fieldLE auth 16 8 = s.rd F.SYS_LC_NONCE_LO.NONCE + 2 ^ 32 * s.rd F.SYS_LC_NONCE_HI.NONCE ∧
          (signed → slot ≠ 0xFF) ∧ (slot ≠ 0xFF → s.recordAuthentic auth = true) ∧ (slot ≤ 3 → revoke.testBit slot = false) ∧
          (target = s.lifecycle → revoke ≠ 0) ∧
          (s.lifecycle = 0 → target = 1 → (s.area s.flash.current).header.keySlot ≠ 0) ∧
          (target = 2 → target ≠ s.lifecycle → fieldLE auth 24 4 = s.paramCrc ∧ s.paramsStored = true)) →
        (r.payload.length ≠ 164 → lifecycleRange r = some 10) ∧ (r.payload.length = 164 → 4 < target → lifecycleRange r = some 16) ∧
        (∀ a, (lifecycleRange r = none → ¬(exists_ ∧ s.updState ≤ 1 ∧ good)) →
          a = (match lifecycleRange r with
            | some d => Answer.range d
            | none => if s.lifecycle = 4 ∨ transition s.lifecycle target = none then .denied 1 else if 1 < s.updState then .busy 0 else .denied 2) →
          s.Answered t 0x7A r a ∧ ⟨0x04, 0, 0, 0, false, s.now⟩ ∈ t.flt.inbox ∧
          s.Frame t [A.CMD_CNT_RX, A.CMD_CNT_REF, A.SYS_LC_NONCE_LO, A.SYS_LC_NONCE_HI] [.cmd, .flt, .freeNo]) ∧
        (target ≤ 4 → (transition s.lifecycle target ≠ none ↔ exists_)) ∧
        (lifecycleRange r = none → exists_ → s.updState ≤ 1 → good → s.Answered t 0x7A r (.ok []) ∧
          (s.flashWriting = true → t.flash = s.flash ∧ t.sys.lifeDue = some (target, revoke % 16)) ∧
          (s.flashWriting = false → t.sys.lifeDue = none ∧ t.flash = { s.flash with
            lifeCopies := s.flash.lifeCopies.set (1 - s.flash.lifeCopy)
              (some { state := target, pending := true, source := s.lifecycle, revoke := revoke % 16, seq := s.flash.life.seq + 1 }) }) ∧
          t.sys.fuses = s.sys.fuses ∧ t.rln = { s.rln with sleepHeld := false } ∧
          ∀ (shown : List Nat) (parts : List Part) (places : List Place), shown = [A.CMD_CNT_RX, A.CMD_CNT_REF, A.SYS_LC_NONCE_LO, A.SYS_LC_NONCE_HI] →
            parts = [.cmd, .flt, .freeNo, .flash, .sys, .rln] → places = [⟨0x7A, r, s.deviceId, true⟩] →
            (s.pwr.trans ≠ .entry ∨ s.pwr.stopped = true → t.cmd.places = s.cmd.places ++ places) ∧
            (s.pwr.trans ≠ .entry → t.sys = { s.sys with lifeDue := t.sys.lifeDue }) ∧
            (s.pwr.trans = .none → s.power = 0 → t.power = 1 ∧ s.Frame t (shown ++ [A.PWR_STATE, A.GOV_STAT, A.GOV_FLAGS]) (.gov :: parts)) ∧
            (s.pwr.trans = .none → s.power = 2 → t.pwr.trans = .exit ∧ t.rd F.PWR_STATE.TARGET = 1 ∧ t.rd F.PWR_STATE.BUSY = 1 ∧
              s.Frame t (shown ++ [A.PWR_STATE]) (.pwr :: parts)) ∧
            (s.pwr.trans = .none → s.power ∉ [0, 2] → s.Frame t shown parts) ∧
            (s.pwr.trans = .exit → t.rd F.PWR_STATE.TARGET = 1 ∧ s.Frame t (shown ++ [A.PWR_STATE]) parts) ∧
            (s.pwr.trans = .start → t.rd F.PWR_STATE.TARGET = 1 ∧ t.pwr.startTarget = 1 ∧ s.Frame t (shown ++ [A.PWR_STATE]) (.pwr :: parts)) ∧
            (s.pwr.trans = .entry → s.pwr.stopped = false → t.power = 1 ∧ t.rd F.PWR_STATE.BUSY = 0 ∧ t.pwr.trans = .none ∧
              t.cmd.places = s.cmd.places.filter (fun p => !(p.op == 0x40 && p.answered && !p.req.replyReq)) ++ places ∧
              t.sys = { s.sys with lifeDue := t.sys.lifeDue } ∧
              s.Frame t (shown ++ [A.PWR_STATE, A.GOV_STAT, A.GOV_FLAGS]) ([.gov, .pwr] ++ parts)) ∧
            (s.pwr.trans = .entry → s.pwr.stopped = true → t.rd F.PWR_STATE.TARGET = 1 ∧ t.rd F.PWR_STATE.BUSY = 1 ∧ t.pwr.trans = .exit ∧
              s.Frame t (shown ++ [A.PWR_STATE, A.SYS_PRAIL_STAT]) ([.pwr, .scn, .pix, .sns, .gov] ++ parts)))) ∧
    (∀ (a v : Word) (served : Prop), served = (4 ≤ s.rd F.SYS_START.STEP ∧ s.asleep = false ∧ s.lifecycle ≠ 4) →
      ∃ t u, exec (.svcRead n a) s = .next t ∧ exec (.svcWrite n a v) s = .next u ∧ t.sys = { s.sys with svcOut := t.sys.svcOut } ∧
        (¬served → t.sys.svcOut = none ∧ u.sys.svcOut = none ∧ (s.advance n).Frame t [] [.sys] ∧ (s.advance n).Frame u [] [.sys]) ∧
        (served → 32 ≤ s.cmd.places.length → t.sys.svcOut.map (·.1) = some 1 ∧ u.sys.svcOut.map (·.1) = some 1 ∧
          (s.advance n).Frame t [A.CMD_CNT_REF] [.sys, .flt, .freeNo] ∧ (s.advance n).Frame u [A.CMD_CNT_REF] [.sys, .flt] ∧
          (∀ x ∈ [t, u], x.rd F.CMD_CNT_REF.BUSY = min 0xFF (s.rd F.CMD_CNT_REF.BUSY + 1) ∧
            x.flt.inbox = s.flt.inbox ++ [⟨0x39, 0, 0, 0, false, (s.advance n).now⟩])) ∧
        (served → s.cmd.places.length < 32 →
          ∀ (outside : Bool) (off : Option Nat), outside = (a.toNat % 4 != 0 || decide (0x12FFFC < a.toNat)) → off = s.unclocked [a.toNat] →
          (outside ∨ off ≠ none → t.sys.svcOut.map (·.1) = some (if outside then 5 else 7) ∧ (s.advance n).Frame t [] [.sys, .freeNo]) ∧
          (¬outside → off = none → t.sys.svcOut = some (0, BitVec.ofNat 32 ((s.advance n).readReg 0 a.toNat).1) ∧
            (s.advance n).Frame t ([a.toNat, A.CHK_SCAN_ADDR, A.CHK_SCAN_VALUE] ++ dramRegs) [.sys, .freeNo, .chk, .zlp, .fmc] ∧
            ∀ f ∈ fieldsAt a.toNat, f.acc = .rc → bitsAt (t.reg a.toNat).toNat f.lo f.len = 0) ∧
          (s.lifecycle = 2 → u.sys.svcOut.map (·.1) = some 4 ∧ (s.advance n).Frame u [] [.sys]) ∧
          (s.lifecycle ≠ 2 → s.sys.monitor = true → u.sys.svcOut.map (·.1) = some 3 ∧ (s.advance n).Frame u [] [.sys]) ∧
          (s.lifecycle ≠ 2 → s.sys.monitor = false → ∀ parts : List Part,
            parts = (match s.saf.unlock with
              | .opened none _ => [.sys, .saf]
              | _ => [.sys]) →
            (safParamAddrs.contains a.toNat = true → s.unlockedFor none = false → u.sys.svcOut.map (·.1) = some 4 ∧
              (s.advance n).Frame u [] parts) ∧
            ((s.advance n).writeLocked none (a.toNat, v.toNat) = false → outside ∨ bcRxAddrs.contains a.toNat = true →
              u.sys.svcOut.map (·.1) = some 5 ∧ (s.advance n).Frame u [] parts) ∧
            (a.toNat / 0x10000 ∈ [8, 9, 12, 17, 18] → ¬outside →
              (off ≠ none → u.sys.svcOut.map (·.1) = some 7 ∧ (s.advance n).Frame u [] parts) ∧
              (off = none → u.sys.svcOut.map (·.1) = some 0 ∧ (s.advance n).Frame u [a.toNat] parts ∧
                u.reg a.toNat = BitVec.ofNat 32 (storeFields (s.reg a.toNat).toNat v.toNat (fieldsAt a.toNat)))))))

/-- The frames without a ceiling are counted one by one as their line 0 opens, and a frame with one leaves or clears the count.
The frame that counts keeps the ceilings, the one last written stands and is what its quadrant latches, and STALLED is as it
was. After four such frames in a row the stall sets STALLED and raises fault 0x71, and before that, or with STALLED set already,
it changes nothing; no ceiling changes. The next evaluation of a READY frame, which writes the ceilings, clears STALLED and the
count of missed frames. (07_budget_governor.md R182) -/
def Obligations.GovernorStall : Prop :=
  ∀ (s : State) (n : Nat), s.undef = false →
    (∀ (q : Quad) (inp : LineInput), (s.advance n).lineNext q 0 = true → s.firstLine = true →
      ∃ t, exec (.scanLineStart n q 0 inp) s = .next t ∧
        (t.gov.missed = s.gov.missed + 1 ∨ t.gov.missed = 0 ∨ (s.ceilingsStand = true ∧ t.gov.missed = s.gov.missed)) ∧
        (t.gov.missed = s.gov.missed + 1 →
          (∀ p : Quad, t.rd (F.GOV_CEIL.CEIL p.val) = s.rd (F.GOV_CEIL.CEIL p.val)) ∧
          t.scn.latched = s.scn.latched.set q.val (s.rd (F.GOV_CEIL.CEIL q.val)) ∧
          t.rd F.GOV_FLAGS.STALLED = s.rd F.GOV_FLAGS.STALLED)) ∧
    (∃ t, exec .govStall s = .next t ∧ s.Frame t [A.GOV_FLAGS] [.flt] ∧
      (4 ≤ s.gov.missed → s.rd F.GOV_FLAGS.STALLED = 0 → t.rd F.GOV_FLAGS.STALLED = 1 ∧
        t.flt.inbox = s.flt.inbox ++ [⟨0x71, 2, 0, 0, false, s.now⟩]) ∧
      (s.gov.missed < 4 ∨ s.rd F.GOV_FLAGS.STALLED = 1 → s.Frame t [] []) ∧
      ∀ p : Quad, t.rd (F.GOV_CEIL.CEIL p.val) = s.rd (F.GOV_CEIL.CEIL p.val)) ∧
    (∀ k, (s.advance n).governing = true → s.gov.eval = some k → (s.buf k).st = .ready →
      ∃ t, exec (.govEvaluationDone n) s = .next t ∧ t.rd F.GOV_FLAGS.STALLED = 0 ∧ t.gov.missed = 0 ∧ t.gov.written = some k)

/-- With command c at the front of its queue, a step of s is exec of c on s with the queue's rest. On an empty queue the step
answers a state in which the clock is 1 ns later and, outside an undefined case, nothing else has changed but what the passing
time counts; that a step on an empty queue passes 1 ns is the model's own choice (DESIGN CHOICE, notes/assumptions/1.md).
(11_command_packets.md R286, 10_zhelan_link.md R259) -/
def Obligations.StepRunsFrontCommand : Prop :=
  (∀ (s : State) (c : Instr), step { s with pending := c :: s.pending } = exec c s) ∧
  (∀ (s : State) (c : Instr) (rest : List Instr), s.pending = c :: rest → step s = exec c { s with pending := rest }) ∧
  ∀ s : State, s.pending = [] → ∃ t, step s = .next t ∧ (s.undef = false → t.now = s.now + 256 ∧ (s.advance (s.now + 256)).Frame t [] [])

/-- After reset no quadrant shows light, the latch is set, the safety outputs follow the demand, every list has its length,
registers and DRAM are in canonical form, every register reads as its reset word, and the queue is empty. (Where the spec gives
a register no reset value, the word is the model's choice; the log entries name each.) (15_safety_functions.md R353,
15_safety_functions.md R356, 20_start_up.md R440) -/
def Obligations.ResetIsSafe : Prop :=
  State.reset.Safe ∧ State.reset.Shape ∧ State.reset.Canonical ∧ State.reset.AllDark ∧ State.reset.latched = true ∧
    (∀ a, State.reset.reg a = resetWord a) ∧ State.reset.pending = [] ∧ State.reset.now = 0

/-- A device has a fixed number of supplies, image areas, copies of the boot and of the life-cycle record, safety channels,
tails, sensors, dies, jobs, DRAM banks, table copies, frame buffers, check channels, ports and quadrants. From every state whose
lists have these lengths, every step, whatever command is in front, answers a state whose lists have them: no command loses one
or adds one. This holds in an undefined case too. (The lists are the model's own; the statements that index them assume their
lengths.) (00_scope.md R12, 08_frame_memory.md R197, 07_budget_governor.md R183, 14_thermal.md R334, 20_start_up.md R439,
19_firmware_update.md R424) -/
def Obligations.EveryStepKeepsShape : Prop :=
  ∀ s t : State, s.Shape → step s = .next t → t.Shape

/-- Whatever the state and whatever the command, exec and step answer a next state, never a fault or a refusal; and in that
state every quadrant with a Mute demand or a fault latch is dark, a standing demand of SF-DARK has the safety latch set, and the
safety outputs are energised exactly without a demand and with VIN_SAFE present. This holds in an undefined case too.
(15_safety_functions.md R349, 15_safety_functions.md R353, 15_safety_functions.md R357, 16_fault_handling.md R379, 00_scope.md
R12, 01_architecture.md R30) -/
def Obligations.EveryStepIsSafe : Prop :=
  (∀ (c : Instr) (s : State), ∃ t, exec c s = .next t ∧ t.Safe) ∧ ∀ s : State, ∃ t, step s = .next t ∧ t.Safe

end
end

