-- ==== Sys2Proof/Laws/Exec.lean ====
section
/-! SUPPORT. Sys2Proof/Laws/Exec.lean: every meaning ends in `done`: no command faults or refuses, and the wires act after each. -/

namespace Sys2Proof.Machine

/-- What a command gives. -/
def Done (o : Host.Outcome State Fault Refusal) : Prop := ∃ x : State, o = done x

theorem Done.of (s : State) : Done (done s) := ⟨s, rfl⟩

theorem exec_done (c : Instr) (s : State) : Done (exec c s) := by
  cases c <;> simp only [exec]
  · unfold execBridgeFlitReceive; repeat' (first | exact .of _ | split | intro _ | dsimp only)
  · unfold execSegmentCapture; repeat' (first | exact .of _ | split | intro _ | dsimp only)
  · unfold execFrameStartReceive; repeat' (first | exact .of _ | split | intro _ | dsimp only)
  · unfold execOutsideWritesDone; repeat' (first | exact .of _ | split | intro _ | dsimp only)
  · unfold execFrameEndReceive; repeat' (first | exact .of _ | split | intro _ | dsimp only)
  · unfold execClosingDeadline; exact .of _
  · unfold execFrameFillDone; repeat' (first | exact .of _ | split | intro _ | dsimp only)
  · unfold execDecisionInstant; exact .of _
  · unfold execScanFrameStart; repeat' (first | exact .of _ | split | intro _ | dsimp only)
  · unfold execLinBuild; exact .of _
  · unfold execLinLoad; exact .of _
  · unfold execLinOpDone; repeat' (first | exact .of _ | split | intro _ | dsimp only)
  · unfold execOverlaySave; exact .of _
  · unfold execOverlayRestore; exact .of _
  · unfold execOverlaySaveDone; repeat' (first | exact .of _ | split | intro _ | dsimp only)
  · unfold execOverlayRestoreDone; repeat' (first | exact .of _ | split | intro _ | dsimp only)
  · unfold execTableActivate; exact .of _
  · unfold execCmpTblActivate; exact .of _
  · unfold execTableRevert; exact .of _
  · unfold execTableCheckDone; repeat' (first | exact .of _ | split | intro _ | dsimp only)
  · unfold execTableBuildDone; repeat' (first | exact .of _ | split | intro _ | dsimp only)
  · unfold execTableFlashSaved; repeat' (first | exact .of _ | split | intro _ | dsimp only)
  · unfold execAgeFactorTick; repeat' (first | exact .of _ | split | intro _ | dsimp only)
  · unfold execStressWritebackDue; repeat' (first | exact .of _ | split | intro _ | dsimp only)
  · unfold execForceSave; exact .of _
  · unfold execStressWritebackDone; repeat' (first | exact .of _ | split | intro _ | dsimp only)
  · unfold execDefectEdit; exact .of _
  · unfold execDefectEditComplete; repeat' (first | exact .of _ | split | intro _ | dsimp only)
  · unfold execLadderBuildDone; repeat' (first | exact .of _ | split | intro _ | dsimp only)
  · unfold execLadderRewriteDone; exact .of _
  · unfold execScanLineStart; repeat' (first | exact .of _ | split | intro _ | dsimp only)
  · unfold execEeRead; exact .of _
  · unfold execEepromReadDone; repeat' (first | exact .of _ | split | intro _ | dsimp only)
  · unfold execSenseSlot; repeat' (first | exact .of _ | split | intro _ | dsimp only)
  · unfold execSenseResult; repeat' (first | exact .of _ | split | intro _ | dsimp only)
  · unfold execSweepDeadline; repeat' (first | exact .of _ | split | intro _ | dsimp only)
  · unfold execIsnsCompareDone; repeat' (first | exact .of _ | split | intro _ | dsimp only)
  · unfold execSenseRequest; exact .of _
  · unfold execGovEvaluationDone; repeat' (first | exact .of _ | split | intro _ | dsimp only)
  · unfold execGovStall; repeat' (first | exact .of _ | split | intro _ | dsimp only)
  · unfold execJobForceTimeout; repeat' (first | exact .of _ | split | intro _ | dsimp only)
  · unfold execJobPausePoint; exact .of _
  · unfold execScrubPassDone; repeat' (first | exact .of _ | split | intro _ | dsimp only)
  · unfold execDramRefreshDue; repeat' (first | exact .of _ | split | intro _ | dsimp only)
  · unfold execMr4Poll; exact .of _
  · unfold execNeighbourRefreshRun; repeat' (first | exact .of _ | split | intro _ | dsimp only)
  · unfold execRetrainDue; repeat' (first | exact .of _ | split | intro _ | dsimp only)
  · unfold execFmcTrainReq; exact .of _
  · unfold execRetrainStep; repeat' (first | exact .of _ | split | intro _ | dsimp only)
  · unfold execRetrainDone; repeat' (first | exact .of _ | split | intro _ | dsimp only)
  · unfold execWckOscRead; exact .of _
  · unfold execDramReadReturn; repeat' (first | exact .of _ | split | intro _ | dsimp only)
  · unfold execCorrRateCheck; exact .of _
  · unfold execFmcOrderWrite; exact .of _
  · unfold execConfigStoreDone; repeat' (first | exact .of _ | split | intro _ | dsimp only)
  · unfold execDetectPulse; repeat' (first | exact .of _ | split | intro _ | dsimp only)
  · unfold execTrainingSetReceive; repeat' (first | exact .of _ | split | intro _ | dsimp only)
  · unfold execCtleStep; repeat' (first | exact .of _ | split | intro _ | dsimp only)
  · unfold execReadyStable; repeat' (first | exact .of _ | split | intro _ | dsimp only)
  · unfold execLaneSyncTimeout; repeat' (first | exact .of _ | split | intro _ | dsimp only)
  · unfold execPortStageTimeout; repeat' (first | exact .of _ | split | intro _ | dsimp only)
  · unfold execLaneSyncLost; repeat' (first | exact .of _ | split | intro _ | dsimp only)
  · unfold execLaneIdleDetect; repeat' (first | exact .of _ | split | intro _ | dsimp only)
  · unfold execDeskewMismatch; repeat' (first | exact .of _ | split | intro _ | dsimp only)
  · unfold execLaneErrorWindow; repeat' (first | exact .of _ | split | intro _ | dsimp only)
  · unfold execPortRetrain; exact .of _
  · unfold execTxPowerRequest; exact .of _
  · unfold execEyeStart; exact .of _
  · unfold execEyeScanDone; repeat' (first | exact .of _ | split | intro _ | dsimp only)
  · unfold execPatternModeWrite; exact .of _
  · unfold execInjectOne; exact .of _
  · unfold execPatternTest; exact .of _
  · unfold execPatternTestEnd; repeat' (first | exact .of _ | split | intro _ | dsimp only)
  · unfold execRefclkLost; repeat' (first | exact .of _ | split | intro _ | dsimp only)
  · unfold execRefclkRestored; exact .of _
  · unfold execTxclkHoldoverExpiry; repeat' (first | exact .of _ | split | intro _ | dsimp only)
  · unfold execTxclkLocked; repeat' (first | exact .of _ | split | intro _ | dsimp only)
  · unfold execFrameForward; repeat' (first | exact .of _ | split | intro _ | dsimp only)
  · unfold execConvertedFrameSend; repeat' (first | exact .of _ | split | intro _ | dsimp only)
  · unfold execUpstreamFrameReceive; repeat' (first | exact .of _ | split | intro _ | dsimp only)
  · unfold execMergeFrameSend; repeat' (first | exact .of _ | split | intro _ | dsimp only)
  · unfold execLocalTimeFrameSend; repeat' (first | exact .of _ | split | intro _ | dsimp only)
  · unfold execTimeFrameReceive; repeat' (first | exact .of _ | split | intro _ | dsimp only)
  · unfold execStreamLossTimeout; repeat' (first | exact .of _ | split | intro _ | dsimp only)
  · unfold execRecentre; exact .of _
  · unfold execPortRoleWrite; exact .of _
  · unfold execRoleSave; exact .of _
  · unfold execPing; exact .of _
  · unfold execReadReg; exact .of _
  · unfold execWriteReg; exact .of _
  · unfold execModifyReg; exact .of _
  · unfold execCommit; exact .of _
  · unfold execMemWrite; exact .of _
  · unfold execMemRead; exact .of _
  · unfold execCheckRegion; exact .of _
  · unfold execCheckRegionDone; repeat' (first | exact .of _ | split | intro _ | dsimp only)
  · unfold execOverlaySet; exact .of _
  · unfold execPowerState; exact .of _
  · unfold execFaultRead; exact .of _
  · unfold execFaultAck; exact .of _
  · unfold execFaultClear; exact .of _
  · unfold execFaultInject; exact .of _
  · unfold execUpdateStage; exact .of _
  · unfold execStageWriteDone; repeat' (first | exact .of _ | split | intro _ | dsimp only)
  · unfold execUpdateActivate; exact .of _
  · unfold execUpdateConfirm; exact .of _
  · unfold execUpdateRevert; exact .of _
  · unfold execTuneRun; exact .of _
  · unfold execEyeScan; exact .of _
  · unfold execLifecycle; exact .of _
  · unfold execIdentify; exact .of _
  · unfold execRegAccessTimeout; repeat' (first | exact .of _ | split | intro _ | dsimp only)
  · unfold execRegisterWrite; repeat' (first | exact .of _ | split | intro _ | dsimp only)
  · unfold execRegisterReadClear; repeat' (first | exact .of _ | split | intro _ | dsimp only)
  · unfold execTimeLoRead; exact .of _
  · unfold execReedSyncReceive; repeat' (first | exact .of _ | split | intro _ | dsimp only)
  · unfold execReedNop; exact .of _
  · unfold execReedAssign; exact .of _
  · unfold execReedAssignKeep; exact .of _
  · unfold execReedWake; exact .of _
  · unfold execReedSleep; exact .of _
  · unfold execReedIdentify; exact .of _
  · unfold execReedStatus; exact .of _
  · unfold execReedFrameEnd; repeat' (first | exact .of _ | split | intro _ | dsimp only)
  · unfold execReedLineBreak; repeat' (first | exact .of _ | split | intro _ | dsimp only)
  · unfold execReedBreakClear; exact .of _
  · unfold execReedBypassExit; repeat' (first | exact .of _ | split | intro _ | dsimp only)
  · unfold execReedWakeDetect; exact .of _
  · unfold execIdentifyToggle; repeat' (first | exact .of _ | split | intro _ | dsimp only)
  · unfold execIdentifyEnd; repeat' (first | exact .of _ | split | intro _ | dsimp only)
  · unfold execValveSettleExpiry; exact .of _
  · unfold execPowerEntryDone; exact .of _
  · unfold execWakeTimer; exact .of _
  · unfold execSvcWake; exact .of _
  · unfold execWakeRetry; repeat' (first | exact .of _ | split | intro _ | dsimp only)
  · unfold execPadRelease; exact .of _
  · unfold execSensorConversion; repeat' (first | exact .of _ | split | intro _ | dsimp only)
  · unfold execSensorStall; repeat' (first | exact .of _ | split | intro _ | dsimp only)
  · unfold execSubstituteFloorEnd; repeat' (first | exact .of _ | split | intro _ | dsimp only)
  · unfold execSensorRecovery; repeat' (first | exact .of _ | split | intro _ | dsimp only)
  · unfold execThrottleTick; repeat' (first | exact .of _ | split | intro _ | dsimp only)
  · unfold execRateTick; repeat' (first | exact .of _ | split | intro _ | dsimp only)
  · unfold execRateTestEnable; split <;> exact .of _
  · unfold execThmCfgWrite; exact .of _
  · unfold execHardLimitTrip; repeat' (first | exact .of _ | split | intro _ | dsimp only)
  · unfold execSafeInputChange; repeat' (first | exact .of _ | split | intro _ | dsimp only)
  · unfold execDiscrepancyTimeout; exact .of _
  · unfold execSupplyTestPulse; repeat' (first | exact .of _ | split | intro _ | dsimp only)
  · unfold execOutputTestPulse; repeat' (first | exact .of _ | split | intro _ | dsimp only)
  · unfold execFeedbackInputChange; repeat' (first | exact .of _ | split | intro _ | dsimp only)
  · unfold execFeedbackTimeout; repeat' (first | exact .of _ | split | intro _ | dsimp only)
  · unfold execRestartEdge; repeat' (first | exact .of _ | split | intro _ | dsimp only)
  · unfold execBcDemandFrame; exact .of _
  · unfold execBcLossTimeout; repeat' (first | exact .of _ | split | intro _ | dsimp only)
  · unfold execBcStatusRefresh; repeat' (first | exact .of _ | split | intro _ | dsimp only)
  · unfold execHeartbeatTimeout; repeat' (first | exact .of _ | split | intro _ | dsimp only)
  · unfold execLockstepMismatch; repeat' (first | exact .of _ | split | intro _ | dsimp only)
  · unfold execMutePathCheck; repeat' (first | exact .of _ | split | intro _ | dsimp only)
  · unfold execCapWordSend; repeat' (first | exact .of _ | split | intro _ | dsimp only)
  · unfold execCapWordTimeout; repeat' (first | exact .of _ | split | intro _ | dsimp only)
  · unfold execSafetyStartTestDone; exact .of _
  · unfold execSafetyUnlockKey; exact .of _
  · unfold execUnlockTimeout; exact .of _
  · unfold execSafetyParamWrite; repeat' (first | exact .of _ | split | intro _ | dsimp only)
  · unfold execSafeOutOvercurrent; repeat' (first | exact .of _ | split | intro _ | dsimp only)
  · unfold execFaultRecord; repeat' (first | exact .of _ | split | intro _ | dsimp only)
  · unfold execFaultLogCopyDone; repeat' (first | exact .of _ | split | intro _ | dsimp only)
  · unfold execFltCfgWrite; repeat' (first | exact .of _ | split | intro _ | dsimp only)
  · unfold execSafetyImageCheck; repeat' (first | exact .of _ | split | intro _ | dsimp only)
  · unfold execEngineSelfTest; repeat' (first | exact .of _ | split | intro _ | dsimp only)
  · unfold execCrcChannelConfig; exact .of _
  · unfold execCrcChannelFeed; exact .of _
  · unfold execRefMonitorTick; repeat' (first | exact .of _ | split | intro _ | dsimp only)
  · unfold execTuneRunDue; repeat' (first | exact .of _ | split | intro _ | dsimp only)
  · unfold execTuneRunDone; repeat' (first | exact .of _ | split | intro _ | dsimp only)
  · unfold execTuneStaleTimeout; exact .of _
  · unfold execUpdateCheckDone; repeat' (first | exact .of _ | split | intro _ | dsimp only)
  · unfold execStandbyCoreReady; exact .of _
  · unfold execLoadTimeout; exact .of _
  · unfold execHandoverPoint; repeat' (first | exact .of _ | split | intro _ | dsimp only)
  · unfold execSupervisorTrip; repeat' (first | exact .of _ | split | intro _ | dsimp only)
  · unfold execConfirmTimeout; exact .of _
  · unfold execTrialTimeElapsed; repeat' (first | exact .of _ | split | intro _ | dsimp only)
  · unfold execFallbackDone; repeat' (first | exact .of _ | split | intro _ | dsimp only)
  · unfold execSupplyGood; repeat' (first | exact .of _ | split | intro _ | dsimp only)
  · unfold execSupplyLost; repeat' (first | exact .of _ | split | intro _ | dsimp only)
  · unfold execResetPin; repeat' (first | exact .of _ | split | intro _ | dsimp only)
  · unfold execResetRequest; exact .of _
  · unfold execWatchdogTimeout; exact .of _
  · unfold execStartSequence; exact .of _
  · unfold execLifecycleEraseDone; repeat' (first | exact .of _ | split | intro _ | dsimp only)
  · unfold execPrailPgChange; exact .of _
  · unfold execPrailPgTimeout; exact .of _
  · unfold execPrailDelayExpiry; exact .of _
  · unfold execPrailCfgWrite; exact .of _
  · unfold execSvcRead; repeat' (first | exact .of _ | split | intro _ | dsimp only)
  · unfold execSvcWrite; repeat' (first | exact .of _ | split | intro _ | dsimp only)
  · unfold execBadOpcode; repeat' (first | exact .of _ | split | intro _ | dsimp only)
  · unfold execStandbyExitComplete; exact .of _
  · unfold execRankPowerDown; repeat' (first | exact .of _ | split | intro _ | dsimp only)
  · unfold execPatternCheckerSync; repeat' (first | exact .of _ | split | intro _ | dsimp only)
  · unfold execReedNoField; repeat' (first | exact .of _ | split | intro _ | dsimp only)
  · unfold execReedFrameDiscard; exact .of _

end Sys2Proof.Machine
end

