-- ==== Sys2Proof/Laws/Sparse.lean ====
section
/-! SUPPORT. Sys2Proof/Laws/Sparse.lean: what a read after a write gives, and that every write keeps the canonical form. -/

namespace Sys2Proof.Machine

variable {α : Type} [DecidableEq α] (d : Nat → α)

theorem Sparse.wfFrom_mono {lo lo' : Nat} {m : List (Nat × α)} (h : Sparse.wfFrom d lo m = true) (hl : lo' ≤ lo) :
    Sparse.wfFrom d lo' m = true := by
  cases m with
  | nil => rfl
  | cons e m =>
    obtain ⟨j, v⟩ := e
    simp only [Sparse.wfFrom, Bool.and_eq_true, Nat.ble_eq] at h ⊢
    exact ⟨⟨hl.trans h.1.1, h.1.2⟩, h.2⟩

omit [DecidableEq α] in
theorem Sparse.get_ins_same (m : List (Nat × α)) (k : Nat) (x : α) : Sparse.get d (Sparse.ins m k x) k = x := by
  induction m with
  | nil => simp [Sparse.ins, Sparse.get]
  | cons e m ih =>
    obtain ⟨j, v⟩ := e
    simp only [Sparse.ins]
    split
    · simp [Sparse.get]
    · split
      · simp [Sparse.get]
      · simp [Sparse.get, *]

omit [DecidableEq α] in
theorem Sparse.get_ins_other (m : List (Nat × α)) {k k' : Nat} (x : α) (h : k' ≠ k) :
    Sparse.get d (Sparse.ins m k x) k' = Sparse.get d m k' := by
  induction m with
  | nil => simp [Sparse.ins, Sparse.get, h]
  | cons e m ih =>
    obtain ⟨j, v⟩ := e
    simp only [Sparse.ins]
    split
    · simp [Sparse.get, h]
    · split
      · subst_vars; simp [Sparse.get, h]
      · simp only [Sparse.get, ih]

omit [DecidableEq α] in
theorem Sparse.get_drop_other (m : List (Nat × α)) {k k' : Nat} (h : k' ≠ k) :
    Sparse.get d (Sparse.drop m k) k' = Sparse.get d m k' := by
  induction m with
  | nil => rfl
  | cons e m ih =>
    obtain ⟨j, v⟩ := e
    simp only [Sparse.drop]
    split
    · subst_vars; simp [Sparse.get, h, ih]
    · simp only [Sparse.get, ih]

omit [DecidableEq α] in
theorem Sparse.get_drop_same (m : List (Nat × α)) (k : Nat) : Sparse.get d (Sparse.drop m k) k = d k := by
  induction m with
  | nil => rfl
  | cons e m ih =>
    obtain ⟨j, v⟩ := e
    simp only [Sparse.drop]
    split
    · exact ih
    · simp only [Sparse.get, *, if_false]

/-- A read at the key just written gives the value written. -/
theorem Sparse.get_put_same (m : List (Nat × α)) (k : Nat) (x : α) : Sparse.get d (Sparse.put d m k x) k = x := by
  unfold Sparse.put
  split
  · rw [Sparse.get_drop_same d]; exact (Eq.symm ‹_›)
  · exact Sparse.get_ins_same d m k x

/-- A write leaves every other key alone. -/
theorem Sparse.get_put_other (m : List (Nat × α)) {k k' : Nat} (x : α) (h : k' ≠ k) :
    Sparse.get d (Sparse.put d m k x) k' = Sparse.get d m k' := by
  unfold Sparse.put
  split
  · exact Sparse.get_drop_other d m h
  · exact Sparse.get_ins_other d m x h

theorem Sparse.wf_drop {lo : Nat} {m : List (Nat × α)} (h : Sparse.wfFrom d lo m = true) (k : Nat) :
    Sparse.wfFrom d lo (Sparse.drop m k) = true := by
  induction m generalizing lo with
  | nil => rfl
  | cons e m ih =>
    obtain ⟨j, v⟩ := e
    simp only [Sparse.wfFrom, Bool.and_eq_true, Nat.ble_eq] at h
    simp only [Sparse.drop]
    split
    · exact Sparse.wfFrom_mono d (ih h.2) (by omega)
    · simp only [Sparse.wfFrom, Bool.and_eq_true, Nat.ble_eq]
      exact ⟨h.1, ih h.2⟩

theorem Sparse.wf_ins {lo : Nat} {m : List (Nat × α)} (h : Sparse.wfFrom d lo m = true) {k : Nat} {x : α}
    (hk : lo ≤ k) (hx : x ≠ d k) : Sparse.wfFrom d lo (Sparse.ins m k x) = true := by
  induction m generalizing lo with
  | nil => simp [Sparse.ins, Sparse.wfFrom, hk, hx]
  | cons e m ih =>
    obtain ⟨j, v⟩ := e
    have h0 := h
    simp only [Sparse.wfFrom, Bool.and_eq_true, Nat.ble_eq] at h
    simp only [Sparse.ins]
    split
    · simp only [Sparse.wfFrom, Bool.and_eq_true, Nat.ble_eq]
      exact ⟨⟨hk, by simpa using hx⟩, ⟨by omega, h.1.2⟩, h.2⟩
    · split
      · subst_vars
        simp only [Sparse.wfFrom, Bool.and_eq_true, Nat.ble_eq]
        exact ⟨⟨hk, by simpa using hx⟩, h.2⟩
      · simp only [Sparse.wfFrom, Bool.and_eq_true, Nat.ble_eq]
        exact ⟨h.1, ih h.2 (by omega)⟩

/-- Every write keeps the canonical form. -/
theorem Sparse.wf_put {m : List (Nat × α)} (h : Sparse.wf d m = true) (k : Nat) (x : α) :
    Sparse.wf d (Sparse.put d m k x) = true := by
  unfold Sparse.put Sparse.wf at *
  split
  · exact Sparse.wf_drop d h k
  · exact Sparse.wf_ins d h (Nat.zero_le _) ‹_›

/-- Normalising any list gives the canonical form. -/
theorem Sparse.wf_norm (m : List (Nat × α)) : Sparse.wf d (Sparse.norm d m) = true := by
  unfold Sparse.norm
  suffices ∀ acc : List (Nat × α), Sparse.wf d acc = true →
      Sparse.wf d (m.foldl (fun acc e => Sparse.put d acc e.1 e.2) acc) = true from this [] rfl
  induction m with
  | nil => intro acc h; exact h
  | cons e m ih => intro acc h; exact ih _ (Sparse.wf_put d h _ _)

end Sys2Proof.Machine
end

