-- ==== Sys2Proof/Laws/State.lean ====
section
/-! SUPPORT. Sys2Proof/Laws/State.lean: which parts of State each primitive update leaves alone, one lemma per part. -/

namespace Sys2Proof.Machine

/-! ### setReg -/

@[simp] theorem setReg_now (s : State) (a : Nat) (w : Word) : (s.setReg a w).now = s.now := rfl
@[simp] theorem setReg_undef (s : State) (a : Nat) (w : Word) : (s.setReg a w).undef = s.undef := rfl
@[simp] theorem setReg_freeNo (s : State) (a : Nat) (w : Word) : (s.setReg a w).freeNo = s.freeNo := rfl
@[simp] theorem setReg_pending (s : State) (a : Nat) (w : Word) : (s.setReg a w).pending = s.pending := rfl
@[simp] theorem setReg_frameRegs (s : State) (a : Nat) (w : Word) : (s.setReg a w).frameRegs = s.frameRegs := rfl
@[simp] theorem setReg_capRegs (s : State) (a : Nat) (w : Word) : (s.setReg a w).capRegs = s.capRegs := rfl
@[simp] theorem setReg_mem (s : State) (a : Nat) (w : Word) : (s.setReg a w).mem = s.mem := rfl
@[simp] theorem setReg_flash (s : State) (a : Nat) (w : Word) : (s.setReg a w).flash = s.flash := rfl
@[simp] theorem setReg_br (s : State) (a : Nat) (w : Word) : (s.setReg a w).br = s.br := rfl
@[simp] theorem setReg_pix (s : State) (a : Nat) (w : Word) : (s.setReg a w).pix = s.pix := rfl
@[simp] theorem setReg_cmp (s : State) (a : Nat) (w : Word) : (s.setReg a w).cmp = s.cmp := rfl
@[simp] theorem setReg_hyb (s : State) (a : Nat) (w : Word) : (s.setReg a w).hyb = s.hyb := rfl
@[simp] theorem setReg_scn (s : State) (a : Nat) (w : Word) : (s.setReg a w).scn = s.scn := rfl
@[simp] theorem setReg_sns (s : State) (a : Nat) (w : Word) : (s.setReg a w).sns = s.sns := rfl
@[simp] theorem setReg_gov (s : State) (a : Nat) (w : Word) : (s.setReg a w).gov = s.gov := rfl
@[simp] theorem setReg_fmc (s : State) (a : Nat) (w : Word) : (s.setReg a w).fmc = s.fmc := rfl
@[simp] theorem setReg_lnk (s : State) (a : Nat) (w : Word) : (s.setReg a w).lnk = s.lnk := rfl
@[simp] theorem setReg_zlp (s : State) (a : Nat) (w : Word) : (s.setReg a w).zlp = s.zlp := rfl
@[simp] theorem setReg_cmd (s : State) (a : Nat) (w : Word) : (s.setReg a w).cmd = s.cmd := rfl
@[simp] theorem setReg_rln (s : State) (a : Nat) (w : Word) : (s.setReg a w).rln = s.rln := rfl
@[simp] theorem setReg_pwr (s : State) (a : Nat) (w : Word) : (s.setReg a w).pwr = s.pwr := rfl
@[simp] theorem setReg_thm (s : State) (a : Nat) (w : Word) : (s.setReg a w).thm = s.thm := rfl
@[simp] theorem setReg_saf (s : State) (a : Nat) (w : Word) : (s.setReg a w).saf = s.saf := rfl
@[simp] theorem setReg_flt (s : State) (a : Nat) (w : Word) : (s.setReg a w).flt = s.flt := rfl
@[simp] theorem setReg_chk (s : State) (a : Nat) (w : Word) : (s.setReg a w).chk = s.chk := rfl
@[simp] theorem setReg_tun (s : State) (a : Nat) (w : Word) : (s.setReg a w).tun = s.tun := rfl
@[simp] theorem setReg_upd (s : State) (a : Nat) (w : Word) : (s.setReg a w).upd = s.upd := rfl
@[simp] theorem setReg_sys (s : State) (a : Nat) (w : Word) : (s.setReg a w).sys = s.sys := rfl

/-! ### wr -/

@[simp] theorem wr_now (s : State) (f : Fld) (v : Nat) : (s.wr f v).now = s.now := rfl
@[simp] theorem wr_undef (s : State) (f : Fld) (v : Nat) : (s.wr f v).undef = s.undef := rfl
@[simp] theorem wr_freeNo (s : State) (f : Fld) (v : Nat) : (s.wr f v).freeNo = s.freeNo := rfl
@[simp] theorem wr_pending (s : State) (f : Fld) (v : Nat) : (s.wr f v).pending = s.pending := rfl
@[simp] theorem wr_frameRegs (s : State) (f : Fld) (v : Nat) : (s.wr f v).frameRegs = s.frameRegs := rfl
@[simp] theorem wr_capRegs (s : State) (f : Fld) (v : Nat) : (s.wr f v).capRegs = s.capRegs := rfl
@[simp] theorem wr_mem (s : State) (f : Fld) (v : Nat) : (s.wr f v).mem = s.mem := rfl
@[simp] theorem wr_flash (s : State) (f : Fld) (v : Nat) : (s.wr f v).flash = s.flash := rfl
@[simp] theorem wr_br (s : State) (f : Fld) (v : Nat) : (s.wr f v).br = s.br := rfl
@[simp] theorem wr_pix (s : State) (f : Fld) (v : Nat) : (s.wr f v).pix = s.pix := rfl
@[simp] theorem wr_cmp (s : State) (f : Fld) (v : Nat) : (s.wr f v).cmp = s.cmp := rfl
@[simp] theorem wr_hyb (s : State) (f : Fld) (v : Nat) : (s.wr f v).hyb = s.hyb := rfl
@[simp] theorem wr_scn (s : State) (f : Fld) (v : Nat) : (s.wr f v).scn = s.scn := rfl
@[simp] theorem wr_sns (s : State) (f : Fld) (v : Nat) : (s.wr f v).sns = s.sns := rfl
@[simp] theorem wr_gov (s : State) (f : Fld) (v : Nat) : (s.wr f v).gov = s.gov := rfl
@[simp] theorem wr_fmc (s : State) (f : Fld) (v : Nat) : (s.wr f v).fmc = s.fmc := rfl
@[simp] theorem wr_lnk (s : State) (f : Fld) (v : Nat) : (s.wr f v).lnk = s.lnk := rfl
@[simp] theorem wr_zlp (s : State) (f : Fld) (v : Nat) : (s.wr f v).zlp = s.zlp := rfl
@[simp] theorem wr_cmd (s : State) (f : Fld) (v : Nat) : (s.wr f v).cmd = s.cmd := rfl
@[simp] theorem wr_rln (s : State) (f : Fld) (v : Nat) : (s.wr f v).rln = s.rln := rfl
@[simp] theorem wr_pwr (s : State) (f : Fld) (v : Nat) : (s.wr f v).pwr = s.pwr := rfl
@[simp] theorem wr_thm (s : State) (f : Fld) (v : Nat) : (s.wr f v).thm = s.thm := rfl
@[simp] theorem wr_saf (s : State) (f : Fld) (v : Nat) : (s.wr f v).saf = s.saf := rfl
@[simp] theorem wr_flt (s : State) (f : Fld) (v : Nat) : (s.wr f v).flt = s.flt := rfl
@[simp] theorem wr_chk (s : State) (f : Fld) (v : Nat) : (s.wr f v).chk = s.chk := rfl
@[simp] theorem wr_tun (s : State) (f : Fld) (v : Nat) : (s.wr f v).tun = s.tun := rfl
@[simp] theorem wr_upd (s : State) (f : Fld) (v : Nat) : (s.wr f v).upd = s.upd := rfl
@[simp] theorem wr_sys (s : State) (f : Fld) (v : Nat) : (s.wr f v).sys = s.sys := rfl

/-! ### wrB -/

@[simp] theorem wrB_now (s : State) (f : Fld) (b : Bool) : (s.wrB f b).now = s.now := rfl
@[simp] theorem wrB_undef (s : State) (f : Fld) (b : Bool) : (s.wrB f b).undef = s.undef := rfl
@[simp] theorem wrB_freeNo (s : State) (f : Fld) (b : Bool) : (s.wrB f b).freeNo = s.freeNo := rfl
@[simp] theorem wrB_pending (s : State) (f : Fld) (b : Bool) : (s.wrB f b).pending = s.pending := rfl
@[simp] theorem wrB_frameRegs (s : State) (f : Fld) (b : Bool) : (s.wrB f b).frameRegs = s.frameRegs := rfl
@[simp] theorem wrB_capRegs (s : State) (f : Fld) (b : Bool) : (s.wrB f b).capRegs = s.capRegs := rfl
@[simp] theorem wrB_mem (s : State) (f : Fld) (b : Bool) : (s.wrB f b).mem = s.mem := rfl
@[simp] theorem wrB_flash (s : State) (f : Fld) (b : Bool) : (s.wrB f b).flash = s.flash := rfl
@[simp] theorem wrB_br (s : State) (f : Fld) (b : Bool) : (s.wrB f b).br = s.br := rfl
@[simp] theorem wrB_pix (s : State) (f : Fld) (b : Bool) : (s.wrB f b).pix = s.pix := rfl
@[simp] theorem wrB_cmp (s : State) (f : Fld) (b : Bool) : (s.wrB f b).cmp = s.cmp := rfl
@[simp] theorem wrB_hyb (s : State) (f : Fld) (b : Bool) : (s.wrB f b).hyb = s.hyb := rfl
@[simp] theorem wrB_scn (s : State) (f : Fld) (b : Bool) : (s.wrB f b).scn = s.scn := rfl
@[simp] theorem wrB_sns (s : State) (f : Fld) (b : Bool) : (s.wrB f b).sns = s.sns := rfl
@[simp] theorem wrB_gov (s : State) (f : Fld) (b : Bool) : (s.wrB f b).gov = s.gov := rfl
@[simp] theorem wrB_fmc (s : State) (f : Fld) (b : Bool) : (s.wrB f b).fmc = s.fmc := rfl
@[simp] theorem wrB_lnk (s : State) (f : Fld) (b : Bool) : (s.wrB f b).lnk = s.lnk := rfl
@[simp] theorem wrB_zlp (s : State) (f : Fld) (b : Bool) : (s.wrB f b).zlp = s.zlp := rfl
@[simp] theorem wrB_cmd (s : State) (f : Fld) (b : Bool) : (s.wrB f b).cmd = s.cmd := rfl
@[simp] theorem wrB_rln (s : State) (f : Fld) (b : Bool) : (s.wrB f b).rln = s.rln := rfl
@[simp] theorem wrB_pwr (s : State) (f : Fld) (b : Bool) : (s.wrB f b).pwr = s.pwr := rfl
@[simp] theorem wrB_thm (s : State) (f : Fld) (b : Bool) : (s.wrB f b).thm = s.thm := rfl
@[simp] theorem wrB_saf (s : State) (f : Fld) (b : Bool) : (s.wrB f b).saf = s.saf := rfl
@[simp] theorem wrB_flt (s : State) (f : Fld) (b : Bool) : (s.wrB f b).flt = s.flt := rfl
@[simp] theorem wrB_chk (s : State) (f : Fld) (b : Bool) : (s.wrB f b).chk = s.chk := rfl
@[simp] theorem wrB_tun (s : State) (f : Fld) (b : Bool) : (s.wrB f b).tun = s.tun := rfl
@[simp] theorem wrB_upd (s : State) (f : Fld) (b : Bool) : (s.wrB f b).upd = s.upd := rfl
@[simp] theorem wrB_sys (s : State) (f : Fld) (b : Bool) : (s.wrB f b).sys = s.sys := rfl

/-! ### bumpBy -/

@[simp] theorem bumpBy_now (s : State) (f : Fld) (n : Nat) : (s.bumpBy f n).now = s.now := rfl
@[simp] theorem bumpBy_undef (s : State) (f : Fld) (n : Nat) : (s.bumpBy f n).undef = s.undef := rfl
@[simp] theorem bumpBy_freeNo (s : State) (f : Fld) (n : Nat) : (s.bumpBy f n).freeNo = s.freeNo := rfl
@[simp] theorem bumpBy_pending (s : State) (f : Fld) (n : Nat) : (s.bumpBy f n).pending = s.pending := rfl
@[simp] theorem bumpBy_frameRegs (s : State) (f : Fld) (n : Nat) : (s.bumpBy f n).frameRegs = s.frameRegs := rfl
@[simp] theorem bumpBy_capRegs (s : State) (f : Fld) (n : Nat) : (s.bumpBy f n).capRegs = s.capRegs := rfl
@[simp] theorem bumpBy_mem (s : State) (f : Fld) (n : Nat) : (s.bumpBy f n).mem = s.mem := rfl
@[simp] theorem bumpBy_flash (s : State) (f : Fld) (n : Nat) : (s.bumpBy f n).flash = s.flash := rfl
@[simp] theorem bumpBy_br (s : State) (f : Fld) (n : Nat) : (s.bumpBy f n).br = s.br := rfl
@[simp] theorem bumpBy_pix (s : State) (f : Fld) (n : Nat) : (s.bumpBy f n).pix = s.pix := rfl
@[simp] theorem bumpBy_cmp (s : State) (f : Fld) (n : Nat) : (s.bumpBy f n).cmp = s.cmp := rfl
@[simp] theorem bumpBy_hyb (s : State) (f : Fld) (n : Nat) : (s.bumpBy f n).hyb = s.hyb := rfl
@[simp] theorem bumpBy_scn (s : State) (f : Fld) (n : Nat) : (s.bumpBy f n).scn = s.scn := rfl
@[simp] theorem bumpBy_sns (s : State) (f : Fld) (n : Nat) : (s.bumpBy f n).sns = s.sns := rfl
@[simp] theorem bumpBy_gov (s : State) (f : Fld) (n : Nat) : (s.bumpBy f n).gov = s.gov := rfl
@[simp] theorem bumpBy_fmc (s : State) (f : Fld) (n : Nat) : (s.bumpBy f n).fmc = s.fmc := rfl
@[simp] theorem bumpBy_lnk (s : State) (f : Fld) (n : Nat) : (s.bumpBy f n).lnk = s.lnk := rfl
@[simp] theorem bumpBy_zlp (s : State) (f : Fld) (n : Nat) : (s.bumpBy f n).zlp = s.zlp := rfl
@[simp] theorem bumpBy_cmd (s : State) (f : Fld) (n : Nat) : (s.bumpBy f n).cmd = s.cmd := rfl
@[simp] theorem bumpBy_rln (s : State) (f : Fld) (n : Nat) : (s.bumpBy f n).rln = s.rln := rfl
@[simp] theorem bumpBy_pwr (s : State) (f : Fld) (n : Nat) : (s.bumpBy f n).pwr = s.pwr := rfl
@[simp] theorem bumpBy_thm (s : State) (f : Fld) (n : Nat) : (s.bumpBy f n).thm = s.thm := rfl
@[simp] theorem bumpBy_saf (s : State) (f : Fld) (n : Nat) : (s.bumpBy f n).saf = s.saf := rfl
@[simp] theorem bumpBy_flt (s : State) (f : Fld) (n : Nat) : (s.bumpBy f n).flt = s.flt := rfl
@[simp] theorem bumpBy_chk (s : State) (f : Fld) (n : Nat) : (s.bumpBy f n).chk = s.chk := rfl
@[simp] theorem bumpBy_tun (s : State) (f : Fld) (n : Nat) : (s.bumpBy f n).tun = s.tun := rfl
@[simp] theorem bumpBy_upd (s : State) (f : Fld) (n : Nat) : (s.bumpBy f n).upd = s.upd := rfl
@[simp] theorem bumpBy_sys (s : State) (f : Fld) (n : Nat) : (s.bumpBy f n).sys = s.sys := rfl

/-! ### bump -/

@[simp] theorem bump_now (s : State) (f : Fld) : (s.bump f).now = s.now := rfl
@[simp] theorem bump_undef (s : State) (f : Fld) : (s.bump f).undef = s.undef := rfl
@[simp] theorem bump_freeNo (s : State) (f : Fld) : (s.bump f).freeNo = s.freeNo := rfl
@[simp] theorem bump_pending (s : State) (f : Fld) : (s.bump f).pending = s.pending := rfl
@[simp] theorem bump_frameRegs (s : State) (f : Fld) : (s.bump f).frameRegs = s.frameRegs := rfl
@[simp] theorem bump_capRegs (s : State) (f : Fld) : (s.bump f).capRegs = s.capRegs := rfl
@[simp] theorem bump_mem (s : State) (f : Fld) : (s.bump f).mem = s.mem := rfl
@[simp] theorem bump_flash (s : State) (f : Fld) : (s.bump f).flash = s.flash := rfl
@[simp] theorem bump_br (s : State) (f : Fld) : (s.bump f).br = s.br := rfl
@[simp] theorem bump_pix (s : State) (f : Fld) : (s.bump f).pix = s.pix := rfl
@[simp] theorem bump_cmp (s : State) (f : Fld) : (s.bump f).cmp = s.cmp := rfl
@[simp] theorem bump_hyb (s : State) (f : Fld) : (s.bump f).hyb = s.hyb := rfl
@[simp] theorem bump_scn (s : State) (f : Fld) : (s.bump f).scn = s.scn := rfl
@[simp] theorem bump_sns (s : State) (f : Fld) : (s.bump f).sns = s.sns := rfl
@[simp] theorem bump_gov (s : State) (f : Fld) : (s.bump f).gov = s.gov := rfl
@[simp] theorem bump_fmc (s : State) (f : Fld) : (s.bump f).fmc = s.fmc := rfl
@[simp] theorem bump_lnk (s : State) (f : Fld) : (s.bump f).lnk = s.lnk := rfl
@[simp] theorem bump_zlp (s : State) (f : Fld) : (s.bump f).zlp = s.zlp := rfl
@[simp] theorem bump_cmd (s : State) (f : Fld) : (s.bump f).cmd = s.cmd := rfl
@[simp] theorem bump_rln (s : State) (f : Fld) : (s.bump f).rln = s.rln := rfl
@[simp] theorem bump_pwr (s : State) (f : Fld) : (s.bump f).pwr = s.pwr := rfl
@[simp] theorem bump_thm (s : State) (f : Fld) : (s.bump f).thm = s.thm := rfl
@[simp] theorem bump_saf (s : State) (f : Fld) : (s.bump f).saf = s.saf := rfl
@[simp] theorem bump_flt (s : State) (f : Fld) : (s.bump f).flt = s.flt := rfl
@[simp] theorem bump_chk (s : State) (f : Fld) : (s.bump f).chk = s.chk := rfl
@[simp] theorem bump_tun (s : State) (f : Fld) : (s.bump f).tun = s.tun := rfl
@[simp] theorem bump_upd (s : State) (f : Fld) : (s.bump f).upd = s.upd := rfl
@[simp] theorem bump_sys (s : State) (f : Fld) : (s.bump f).sys = s.sys := rfl

/-! ### store -/

@[simp] theorem store_now (s : State) (a v : Nat) : (s.store a v).now = s.now := rfl
@[simp] theorem store_undef (s : State) (a v : Nat) : (s.store a v).undef = s.undef := rfl
@[simp] theorem store_freeNo (s : State) (a v : Nat) : (s.store a v).freeNo = s.freeNo := rfl
@[simp] theorem store_pending (s : State) (a v : Nat) : (s.store a v).pending = s.pending := rfl
@[simp] theorem store_frameRegs (s : State) (a v : Nat) : (s.store a v).frameRegs = s.frameRegs := rfl
@[simp] theorem store_capRegs (s : State) (a v : Nat) : (s.store a v).capRegs = s.capRegs := rfl
@[simp] theorem store_mem (s : State) (a v : Nat) : (s.store a v).mem = s.mem := rfl
@[simp] theorem store_flash (s : State) (a v : Nat) : (s.store a v).flash = s.flash := rfl
@[simp] theorem store_br (s : State) (a v : Nat) : (s.store a v).br = s.br := rfl
@[simp] theorem store_pix (s : State) (a v : Nat) : (s.store a v).pix = s.pix := rfl
@[simp] theorem store_cmp (s : State) (a v : Nat) : (s.store a v).cmp = s.cmp := rfl
@[simp] theorem store_hyb (s : State) (a v : Nat) : (s.store a v).hyb = s.hyb := rfl
@[simp] theorem store_scn (s : State) (a v : Nat) : (s.store a v).scn = s.scn := rfl
@[simp] theorem store_sns (s : State) (a v : Nat) : (s.store a v).sns = s.sns := rfl
@[simp] theorem store_gov (s : State) (a v : Nat) : (s.store a v).gov = s.gov := rfl
@[simp] theorem store_fmc (s : State) (a v : Nat) : (s.store a v).fmc = s.fmc := rfl
@[simp] theorem store_lnk (s : State) (a v : Nat) : (s.store a v).lnk = s.lnk := rfl
@[simp] theorem store_zlp (s : State) (a v : Nat) : (s.store a v).zlp = s.zlp := rfl
@[simp] theorem store_cmd (s : State) (a v : Nat) : (s.store a v).cmd = s.cmd := rfl
@[simp] theorem store_rln (s : State) (a v : Nat) : (s.store a v).rln = s.rln := rfl
@[simp] theorem store_pwr (s : State) (a v : Nat) : (s.store a v).pwr = s.pwr := rfl
@[simp] theorem store_thm (s : State) (a v : Nat) : (s.store a v).thm = s.thm := rfl
@[simp] theorem store_saf (s : State) (a v : Nat) : (s.store a v).saf = s.saf := rfl
@[simp] theorem store_flt (s : State) (a v : Nat) : (s.store a v).flt = s.flt := rfl
@[simp] theorem store_chk (s : State) (a v : Nat) : (s.store a v).chk = s.chk := rfl
@[simp] theorem store_tun (s : State) (a v : Nat) : (s.store a v).tun = s.tun := rfl
@[simp] theorem store_upd (s : State) (a v : Nat) : (s.store a v).upd = s.upd := rfl
@[simp] theorem store_sys (s : State) (a v : Nat) : (s.store a v).sys = s.sys := rfl

/-! ### report -/

@[simp] theorem report_now (s : State) (src cls quad data : Nat) : (s.report src cls quad data).now = s.now := rfl
@[simp] theorem report_undef (s : State) (src cls quad data : Nat) : (s.report src cls quad data).undef = s.undef := rfl
@[simp] theorem report_freeNo (s : State) (src cls quad data : Nat) : (s.report src cls quad data).freeNo = s.freeNo := rfl
@[simp] theorem report_pending (s : State) (src cls quad data : Nat) : (s.report src cls quad data).pending = s.pending := rfl
@[simp] theorem report_regs (s : State) (src cls quad data : Nat) : (s.report src cls quad data).regs = s.regs := rfl
@[simp] theorem report_frameRegs (s : State) (src cls quad data : Nat) : (s.report src cls quad data).frameRegs = s.frameRegs := rfl
@[simp] theorem report_capRegs (s : State) (src cls quad data : Nat) : (s.report src cls quad data).capRegs = s.capRegs := rfl
@[simp] theorem report_mem (s : State) (src cls quad data : Nat) : (s.report src cls quad data).mem = s.mem := rfl
@[simp] theorem report_flash (s : State) (src cls quad data : Nat) : (s.report src cls quad data).flash = s.flash := rfl
@[simp] theorem report_br (s : State) (src cls quad data : Nat) : (s.report src cls quad data).br = s.br := rfl
@[simp] theorem report_pix (s : State) (src cls quad data : Nat) : (s.report src cls quad data).pix = s.pix := rfl
@[simp] theorem report_cmp (s : State) (src cls quad data : Nat) : (s.report src cls quad data).cmp = s.cmp := rfl
@[simp] theorem report_hyb (s : State) (src cls quad data : Nat) : (s.report src cls quad data).hyb = s.hyb := rfl
@[simp] theorem report_scn (s : State) (src cls quad data : Nat) : (s.report src cls quad data).scn = s.scn := rfl
@[simp] theorem report_sns (s : State) (src cls quad data : Nat) : (s.report src cls quad data).sns = s.sns := rfl
@[simp] theorem report_gov (s : State) (src cls quad data : Nat) : (s.report src cls quad data).gov = s.gov := rfl
@[simp] theorem report_fmc (s : State) (src cls quad data : Nat) : (s.report src cls quad data).fmc = s.fmc := rfl
@[simp] theorem report_lnk (s : State) (src cls quad data : Nat) : (s.report src cls quad data).lnk = s.lnk := rfl
@[simp] theorem report_zlp (s : State) (src cls quad data : Nat) : (s.report src cls quad data).zlp = s.zlp := rfl
@[simp] theorem report_cmd (s : State) (src cls quad data : Nat) : (s.report src cls quad data).cmd = s.cmd := rfl
@[simp] theorem report_rln (s : State) (src cls quad data : Nat) : (s.report src cls quad data).rln = s.rln := rfl
@[simp] theorem report_pwr (s : State) (src cls quad data : Nat) : (s.report src cls quad data).pwr = s.pwr := rfl
@[simp] theorem report_thm (s : State) (src cls quad data : Nat) : (s.report src cls quad data).thm = s.thm := rfl
@[simp] theorem report_saf (s : State) (src cls quad data : Nat) : (s.report src cls quad data).saf = s.saf := rfl
@[simp] theorem report_chk (s : State) (src cls quad data : Nat) : (s.report src cls quad data).chk = s.chk := rfl
@[simp] theorem report_tun (s : State) (src cls quad data : Nat) : (s.report src cls quad data).tun = s.tun := rfl
@[simp] theorem report_upd (s : State) (src cls quad data : Nat) : (s.report src cls quad data).upd = s.upd := rfl
@[simp] theorem report_sys (s : State) (src cls quad data : Nat) : (s.report src cls quad data).sys = s.sys := rfl

/-! ### fault -/

@[simp] theorem fault_now (s : State) (src cls : Nat) : (s.fault src cls).now = s.now := rfl
@[simp] theorem fault_undef (s : State) (src cls : Nat) : (s.fault src cls).undef = s.undef := rfl
@[simp] theorem fault_freeNo (s : State) (src cls : Nat) : (s.fault src cls).freeNo = s.freeNo := rfl
@[simp] theorem fault_pending (s : State) (src cls : Nat) : (s.fault src cls).pending = s.pending := rfl
@[simp] theorem fault_regs (s : State) (src cls : Nat) : (s.fault src cls).regs = s.regs := rfl
@[simp] theorem fault_frameRegs (s : State) (src cls : Nat) : (s.fault src cls).frameRegs = s.frameRegs := rfl
@[simp] theorem fault_capRegs (s : State) (src cls : Nat) : (s.fault src cls).capRegs = s.capRegs := rfl
@[simp] theorem fault_mem (s : State) (src cls : Nat) : (s.fault src cls).mem = s.mem := rfl
@[simp] theorem fault_flash (s : State) (src cls : Nat) : (s.fault src cls).flash = s.flash := rfl
@[simp] theorem fault_br (s : State) (src cls : Nat) : (s.fault src cls).br = s.br := rfl
@[simp] theorem fault_pix (s : State) (src cls : Nat) : (s.fault src cls).pix = s.pix := rfl
@[simp] theorem fault_cmp (s : State) (src cls : Nat) : (s.fault src cls).cmp = s.cmp := rfl
@[simp] theorem fault_hyb (s : State) (src cls : Nat) : (s.fault src cls).hyb = s.hyb := rfl
@[simp] theorem fault_scn (s : State) (src cls : Nat) : (s.fault src cls).scn = s.scn := rfl
@[simp] theorem fault_sns (s : State) (src cls : Nat) : (s.fault src cls).sns = s.sns := rfl
@[simp] theorem fault_gov (s : State) (src cls : Nat) : (s.fault src cls).gov = s.gov := rfl
@[simp] theorem fault_fmc (s : State) (src cls : Nat) : (s.fault src cls).fmc = s.fmc := rfl
@[simp] theorem fault_lnk (s : State) (src cls : Nat) : (s.fault src cls).lnk = s.lnk := rfl
@[simp] theorem fault_zlp (s : State) (src cls : Nat) : (s.fault src cls).zlp = s.zlp := rfl
@[simp] theorem fault_cmd (s : State) (src cls : Nat) : (s.fault src cls).cmd = s.cmd := rfl
@[simp] theorem fault_rln (s : State) (src cls : Nat) : (s.fault src cls).rln = s.rln := rfl
@[simp] theorem fault_pwr (s : State) (src cls : Nat) : (s.fault src cls).pwr = s.pwr := rfl
@[simp] theorem fault_thm (s : State) (src cls : Nat) : (s.fault src cls).thm = s.thm := rfl
@[simp] theorem fault_saf (s : State) (src cls : Nat) : (s.fault src cls).saf = s.saf := rfl
@[simp] theorem fault_chk (s : State) (src cls : Nat) : (s.fault src cls).chk = s.chk := rfl
@[simp] theorem fault_tun (s : State) (src cls : Nat) : (s.fault src cls).tun = s.tun := rfl
@[simp] theorem fault_upd (s : State) (src cls : Nat) : (s.fault src cls).upd = s.upd := rfl
@[simp] theorem fault_sys (s : State) (src cls : Nat) : (s.fault src cls).sys = s.sys := rfl

/-! ### faultQ -/

@[simp] theorem faultQ_now (s : State) (src cls : Nat) (q : Quad) : (s.faultQ src cls q).now = s.now := rfl
@[simp] theorem faultQ_undef (s : State) (src cls : Nat) (q : Quad) : (s.faultQ src cls q).undef = s.undef := rfl
@[simp] theorem faultQ_freeNo (s : State) (src cls : Nat) (q : Quad) : (s.faultQ src cls q).freeNo = s.freeNo := rfl
@[simp] theorem faultQ_pending (s : State) (src cls : Nat) (q : Quad) : (s.faultQ src cls q).pending = s.pending := rfl
@[simp] theorem faultQ_regs (s : State) (src cls : Nat) (q : Quad) : (s.faultQ src cls q).regs = s.regs := rfl
@[simp] theorem faultQ_frameRegs (s : State) (src cls : Nat) (q : Quad) : (s.faultQ src cls q).frameRegs = s.frameRegs := rfl
@[simp] theorem faultQ_capRegs (s : State) (src cls : Nat) (q : Quad) : (s.faultQ src cls q).capRegs = s.capRegs := rfl
@[simp] theorem faultQ_mem (s : State) (src cls : Nat) (q : Quad) : (s.faultQ src cls q).mem = s.mem := rfl
@[simp] theorem faultQ_flash (s : State) (src cls : Nat) (q : Quad) : (s.faultQ src cls q).flash = s.flash := rfl
@[simp] theorem faultQ_br (s : State) (src cls : Nat) (q : Quad) : (s.faultQ src cls q).br = s.br := rfl
@[simp] theorem faultQ_pix (s : State) (src cls : Nat) (q : Quad) : (s.faultQ src cls q).pix = s.pix := rfl
@[simp] theorem faultQ_cmp (s : State) (src cls : Nat) (q : Quad) : (s.faultQ src cls q).cmp = s.cmp := rfl
@[simp] theorem faultQ_hyb (s : State) (src cls : Nat) (q : Quad) : (s.faultQ src cls q).hyb = s.hyb := rfl
@[simp] theorem faultQ_scn (s : State) (src cls : Nat) (q : Quad) : (s.faultQ src cls q).scn = s.scn := rfl
@[simp] theorem faultQ_sns (s : State) (src cls : Nat) (q : Quad) : (s.faultQ src cls q).sns = s.sns := rfl
@[simp] theorem faultQ_gov (s : State) (src cls : Nat) (q : Quad) : (s.faultQ src cls q).gov = s.gov := rfl
@[simp] theorem faultQ_fmc (s : State) (src cls : Nat) (q : Quad) : (s.faultQ src cls q).fmc = s.fmc := rfl
@[simp] theorem faultQ_lnk (s : State) (src cls : Nat) (q : Quad) : (s.faultQ src cls q).lnk = s.lnk := rfl
@[simp] theorem faultQ_zlp (s : State) (src cls : Nat) (q : Quad) : (s.faultQ src cls q).zlp = s.zlp := rfl
@[simp] theorem faultQ_cmd (s : State) (src cls : Nat) (q : Quad) : (s.faultQ src cls q).cmd = s.cmd := rfl
@[simp] theorem faultQ_rln (s : State) (src cls : Nat) (q : Quad) : (s.faultQ src cls q).rln = s.rln := rfl
@[simp] theorem faultQ_pwr (s : State) (src cls : Nat) (q : Quad) : (s.faultQ src cls q).pwr = s.pwr := rfl
@[simp] theorem faultQ_thm (s : State) (src cls : Nat) (q : Quad) : (s.faultQ src cls q).thm = s.thm := rfl
@[simp] theorem faultQ_saf (s : State) (src cls : Nat) (q : Quad) : (s.faultQ src cls q).saf = s.saf := rfl
@[simp] theorem faultQ_chk (s : State) (src cls : Nat) (q : Quad) : (s.faultQ src cls q).chk = s.chk := rfl
@[simp] theorem faultQ_tun (s : State) (src cls : Nat) (q : Quad) : (s.faultQ src cls q).tun = s.tun := rfl
@[simp] theorem faultQ_upd (s : State) (src cls : Nat) (q : Quad) : (s.faultQ src cls q).upd = s.upd := rfl
@[simp] theorem faultQ_sys (s : State) (src cls : Nat) (q : Quad) : (s.faultQ src cls q).sys = s.sys := rfl

/-! ### undefCase -/

@[simp] theorem undefCase_now (s : State) : (s.undefCase).now = s.now := rfl
@[simp] theorem undefCase_freeNo (s : State) : (s.undefCase).freeNo = s.freeNo := rfl
@[simp] theorem undefCase_pending (s : State) : (s.undefCase).pending = s.pending := rfl
@[simp] theorem undefCase_regs (s : State) : (s.undefCase).regs = s.regs := rfl
@[simp] theorem undefCase_frameRegs (s : State) : (s.undefCase).frameRegs = s.frameRegs := rfl
@[simp] theorem undefCase_capRegs (s : State) : (s.undefCase).capRegs = s.capRegs := rfl
@[simp] theorem undefCase_mem (s : State) : (s.undefCase).mem = s.mem := rfl
@[simp] theorem undefCase_flash (s : State) : (s.undefCase).flash = s.flash := rfl
@[simp] theorem undefCase_br (s : State) : (s.undefCase).br = s.br := rfl
@[simp] theorem undefCase_pix (s : State) : (s.undefCase).pix = s.pix := rfl
@[simp] theorem undefCase_cmp (s : State) : (s.undefCase).cmp = s.cmp := rfl
@[simp] theorem undefCase_hyb (s : State) : (s.undefCase).hyb = s.hyb := rfl
@[simp] theorem undefCase_scn (s : State) : (s.undefCase).scn = s.scn := rfl
@[simp] theorem undefCase_sns (s : State) : (s.undefCase).sns = s.sns := rfl
@[simp] theorem undefCase_gov (s : State) : (s.undefCase).gov = s.gov := rfl
@[simp] theorem undefCase_fmc (s : State) : (s.undefCase).fmc = s.fmc := rfl
@[simp] theorem undefCase_lnk (s : State) : (s.undefCase).lnk = s.lnk := rfl
@[simp] theorem undefCase_zlp (s : State) : (s.undefCase).zlp = s.zlp := rfl
@[simp] theorem undefCase_cmd (s : State) : (s.undefCase).cmd = s.cmd := rfl
@[simp] theorem undefCase_rln (s : State) : (s.undefCase).rln = s.rln := rfl
@[simp] theorem undefCase_pwr (s : State) : (s.undefCase).pwr = s.pwr := rfl
@[simp] theorem undefCase_thm (s : State) : (s.undefCase).thm = s.thm := rfl
@[simp] theorem undefCase_saf (s : State) : (s.undefCase).saf = s.saf := rfl
@[simp] theorem undefCase_flt (s : State) : (s.undefCase).flt = s.flt := rfl
@[simp] theorem undefCase_chk (s : State) : (s.undefCase).chk = s.chk := rfl
@[simp] theorem undefCase_tun (s : State) : (s.undefCase).tun = s.tun := rfl
@[simp] theorem undefCase_upd (s : State) : (s.undefCase).upd = s.upd := rfl
@[simp] theorem undefCase_sys (s : State) : (s.undefCase).sys = { s.sys with byCase := true } := rfl

/-! ### lastingCase -/

@[simp] theorem lastingCase_now (s : State) : (s.lastingCase).now = s.now := rfl
@[simp] theorem lastingCase_freeNo (s : State) : (s.lastingCase).freeNo = s.freeNo := rfl
@[simp] theorem lastingCase_pending (s : State) : (s.lastingCase).pending = s.pending := rfl
@[simp] theorem lastingCase_regs (s : State) : (s.lastingCase).regs = s.regs := rfl
@[simp] theorem lastingCase_frameRegs (s : State) : (s.lastingCase).frameRegs = s.frameRegs := rfl
@[simp] theorem lastingCase_capRegs (s : State) : (s.lastingCase).capRegs = s.capRegs := rfl
@[simp] theorem lastingCase_mem (s : State) : (s.lastingCase).mem = s.mem := rfl
@[simp] theorem lastingCase_flash (s : State) : (s.lastingCase).flash = s.flash := rfl
@[simp] theorem lastingCase_br (s : State) : (s.lastingCase).br = s.br := rfl
@[simp] theorem lastingCase_pix (s : State) : (s.lastingCase).pix = s.pix := rfl
@[simp] theorem lastingCase_cmp (s : State) : (s.lastingCase).cmp = s.cmp := rfl
@[simp] theorem lastingCase_hyb (s : State) : (s.lastingCase).hyb = s.hyb := rfl
@[simp] theorem lastingCase_scn (s : State) : (s.lastingCase).scn = s.scn := rfl
@[simp] theorem lastingCase_sns (s : State) : (s.lastingCase).sns = s.sns := rfl
@[simp] theorem lastingCase_gov (s : State) : (s.lastingCase).gov = s.gov := rfl
@[simp] theorem lastingCase_fmc (s : State) : (s.lastingCase).fmc = s.fmc := rfl
@[simp] theorem lastingCase_lnk (s : State) : (s.lastingCase).lnk = s.lnk := rfl
@[simp] theorem lastingCase_zlp (s : State) : (s.lastingCase).zlp = s.zlp := rfl
@[simp] theorem lastingCase_cmd (s : State) : (s.lastingCase).cmd = s.cmd := rfl
@[simp] theorem lastingCase_rln (s : State) : (s.lastingCase).rln = s.rln := rfl
@[simp] theorem lastingCase_pwr (s : State) : (s.lastingCase).pwr = s.pwr := rfl
@[simp] theorem lastingCase_thm (s : State) : (s.lastingCase).thm = s.thm := rfl
@[simp] theorem lastingCase_saf (s : State) : (s.lastingCase).saf = s.saf := rfl
@[simp] theorem lastingCase_flt (s : State) : (s.lastingCase).flt = s.flt := rfl
@[simp] theorem lastingCase_chk (s : State) : (s.lastingCase).chk = s.chk := rfl
@[simp] theorem lastingCase_tun (s : State) : (s.lastingCase).tun = s.tun := rfl
@[simp] theorem lastingCase_upd (s : State) : (s.lastingCase).upd = s.upd := rfl
@[simp] theorem lastingCase_sys (s : State) : (s.lastingCase).sys = { s.sys with byCase := true, lasting := true } := rfl

/-! ### draw -/

@[simp] theorem draw_now (s : State) : (s.draw.2).now = s.now := rfl
@[simp] theorem draw_undef (s : State) : (s.draw.2).undef = s.undef := rfl
@[simp] theorem draw_pending (s : State) : (s.draw.2).pending = s.pending := rfl
@[simp] theorem draw_regs (s : State) : (s.draw.2).regs = s.regs := rfl
@[simp] theorem draw_frameRegs (s : State) : (s.draw.2).frameRegs = s.frameRegs := rfl
@[simp] theorem draw_capRegs (s : State) : (s.draw.2).capRegs = s.capRegs := rfl
@[simp] theorem draw_mem (s : State) : (s.draw.2).mem = s.mem := rfl
@[simp] theorem draw_flash (s : State) : (s.draw.2).flash = s.flash := rfl
@[simp] theorem draw_br (s : State) : (s.draw.2).br = s.br := rfl
@[simp] theorem draw_pix (s : State) : (s.draw.2).pix = s.pix := rfl
@[simp] theorem draw_cmp (s : State) : (s.draw.2).cmp = s.cmp := rfl
@[simp] theorem draw_hyb (s : State) : (s.draw.2).hyb = s.hyb := rfl
@[simp] theorem draw_scn (s : State) : (s.draw.2).scn = s.scn := rfl
@[simp] theorem draw_sns (s : State) : (s.draw.2).sns = s.sns := rfl
@[simp] theorem draw_gov (s : State) : (s.draw.2).gov = s.gov := rfl
@[simp] theorem draw_fmc (s : State) : (s.draw.2).fmc = s.fmc := rfl
@[simp] theorem draw_lnk (s : State) : (s.draw.2).lnk = s.lnk := rfl
@[simp] theorem draw_zlp (s : State) : (s.draw.2).zlp = s.zlp := rfl
@[simp] theorem draw_cmd (s : State) : (s.draw.2).cmd = s.cmd := rfl
@[simp] theorem draw_rln (s : State) : (s.draw.2).rln = s.rln := rfl
@[simp] theorem draw_pwr (s : State) : (s.draw.2).pwr = s.pwr := rfl
@[simp] theorem draw_thm (s : State) : (s.draw.2).thm = s.thm := rfl
@[simp] theorem draw_saf (s : State) : (s.draw.2).saf = s.saf := rfl
@[simp] theorem draw_flt (s : State) : (s.draw.2).flt = s.flt := rfl
@[simp] theorem draw_chk (s : State) : (s.draw.2).chk = s.chk := rfl
@[simp] theorem draw_tun (s : State) : (s.draw.2).tun = s.tun := rfl
@[simp] theorem draw_upd (s : State) : (s.draw.2).upd = s.upd := rfl
@[simp] theorem draw_sys (s : State) : (s.draw.2).sys = s.sys := rfl

/-! ### advance -/

@[simp] theorem advance_undef (s : State) (t : Nat) : (s.advance t).undef = s.undef := rfl
@[simp] theorem advance_freeNo (s : State) (t : Nat) : (s.advance t).freeNo = s.freeNo := rfl
@[simp] theorem advance_pending (s : State) (t : Nat) : (s.advance t).pending = s.pending := rfl
@[simp] theorem advance_regs (s : State) (t : Nat) : (s.advance t).regs = s.regs := rfl
@[simp] theorem advance_frameRegs (s : State) (t : Nat) : (s.advance t).frameRegs = s.frameRegs := rfl
@[simp] theorem advance_capRegs (s : State) (t : Nat) : (s.advance t).capRegs = s.capRegs := rfl
@[simp] theorem advance_mem (s : State) (t : Nat) : (s.advance t).mem = s.mem := rfl
@[simp] theorem advance_flash (s : State) (t : Nat) : (s.advance t).flash = s.flash := rfl
@[simp] theorem advance_br (s : State) (t : Nat) : (s.advance t).br = s.br := rfl
@[simp] theorem advance_pix (s : State) (t : Nat) : (s.advance t).pix = s.pix := rfl
@[simp] theorem advance_hyb (s : State) (t : Nat) : (s.advance t).hyb = s.hyb := rfl
@[simp] theorem advance_scn (s : State) (t : Nat) : (s.advance t).scn = s.scn := rfl
@[simp] theorem advance_gov (s : State) (t : Nat) : (s.advance t).gov = s.gov := rfl
@[simp] theorem advance_fmc (s : State) (t : Nat) : (s.advance t).fmc = s.fmc := rfl
@[simp] theorem advance_lnk (s : State) (t : Nat) : (s.advance t).lnk = s.lnk := rfl
@[simp] theorem advance_zlp (s : State) (t : Nat) : (s.advance t).zlp = s.zlp := rfl
@[simp] theorem advance_cmd (s : State) (t : Nat) : (s.advance t).cmd = s.cmd := rfl
@[simp] theorem advance_rln (s : State) (t : Nat) : (s.advance t).rln = s.rln := rfl
@[simp] theorem advance_thm (s : State) (t : Nat) : (s.advance t).thm = s.thm := rfl
@[simp] theorem advance_saf (s : State) (t : Nat) : (s.advance t).saf = s.saf := rfl
@[simp] theorem advance_chk (s : State) (t : Nat) : (s.advance t).chk = s.chk := rfl
@[simp] theorem advance_tun (s : State) (t : Nat) : (s.advance t).tun = s.tun := rfl
@[simp] theorem advance_upd (s : State) (t : Nat) : (s.advance t).upd = s.upd := rfl
@[simp] theorem advance_sys (s : State) (t : Nat) : (s.advance t).sys = s.sys := rfl

/-! ### setJob -/

@[simp] theorem setJob_now (s : State) (j : Nat) (x : Job) : (s.setJob j x).now = s.now := rfl
@[simp] theorem setJob_undef (s : State) (j : Nat) (x : Job) : (s.setJob j x).undef = s.undef := rfl
@[simp] theorem setJob_freeNo (s : State) (j : Nat) (x : Job) : (s.setJob j x).freeNo = s.freeNo := rfl
@[simp] theorem setJob_pending (s : State) (j : Nat) (x : Job) : (s.setJob j x).pending = s.pending := rfl
@[simp] theorem setJob_regs (s : State) (j : Nat) (x : Job) : (s.setJob j x).regs = s.regs := rfl
@[simp] theorem setJob_frameRegs (s : State) (j : Nat) (x : Job) : (s.setJob j x).frameRegs = s.frameRegs := rfl
@[simp] theorem setJob_capRegs (s : State) (j : Nat) (x : Job) : (s.setJob j x).capRegs = s.capRegs := rfl
@[simp] theorem setJob_mem (s : State) (j : Nat) (x : Job) : (s.setJob j x).mem = s.mem := rfl
@[simp] theorem setJob_flash (s : State) (j : Nat) (x : Job) : (s.setJob j x).flash = s.flash := rfl
@[simp] theorem setJob_br (s : State) (j : Nat) (x : Job) : (s.setJob j x).br = s.br := rfl
@[simp] theorem setJob_pix (s : State) (j : Nat) (x : Job) : (s.setJob j x).pix = s.pix := rfl
@[simp] theorem setJob_cmp (s : State) (j : Nat) (x : Job) : (s.setJob j x).cmp = s.cmp := rfl
@[simp] theorem setJob_hyb (s : State) (j : Nat) (x : Job) : (s.setJob j x).hyb = s.hyb := rfl
@[simp] theorem setJob_scn (s : State) (j : Nat) (x : Job) : (s.setJob j x).scn = s.scn := rfl
@[simp] theorem setJob_sns (s : State) (j : Nat) (x : Job) : (s.setJob j x).sns = s.sns := rfl
@[simp] theorem setJob_fmc (s : State) (j : Nat) (x : Job) : (s.setJob j x).fmc = s.fmc := rfl
@[simp] theorem setJob_lnk (s : State) (j : Nat) (x : Job) : (s.setJob j x).lnk = s.lnk := rfl
@[simp] theorem setJob_zlp (s : State) (j : Nat) (x : Job) : (s.setJob j x).zlp = s.zlp := rfl
@[simp] theorem setJob_cmd (s : State) (j : Nat) (x : Job) : (s.setJob j x).cmd = s.cmd := rfl
@[simp] theorem setJob_rln (s : State) (j : Nat) (x : Job) : (s.setJob j x).rln = s.rln := rfl
@[simp] theorem setJob_pwr (s : State) (j : Nat) (x : Job) : (s.setJob j x).pwr = s.pwr := rfl
@[simp] theorem setJob_thm (s : State) (j : Nat) (x : Job) : (s.setJob j x).thm = s.thm := rfl
@[simp] theorem setJob_saf (s : State) (j : Nat) (x : Job) : (s.setJob j x).saf = s.saf := rfl
@[simp] theorem setJob_flt (s : State) (j : Nat) (x : Job) : (s.setJob j x).flt = s.flt := rfl
@[simp] theorem setJob_chk (s : State) (j : Nat) (x : Job) : (s.setJob j x).chk = s.chk := rfl
@[simp] theorem setJob_tun (s : State) (j : Nat) (x : Job) : (s.setJob j x).tun = s.tun := rfl
@[simp] theorem setJob_upd (s : State) (j : Nat) (x : Job) : (s.setJob j x).upd = s.upd := rfl
@[simp] theorem setJob_sys (s : State) (j : Nat) (x : Job) : (s.setJob j x).sys = s.sys := rfl

/-! ### jobEnd -/

@[simp] theorem jobEnd_now (s : State) (j : Nat) : (s.jobEnd j).now = s.now := rfl
@[simp] theorem jobEnd_undef (s : State) (j : Nat) : (s.jobEnd j).undef = s.undef := rfl
@[simp] theorem jobEnd_freeNo (s : State) (j : Nat) : (s.jobEnd j).freeNo = s.freeNo := rfl
@[simp] theorem jobEnd_pending (s : State) (j : Nat) : (s.jobEnd j).pending = s.pending := rfl
@[simp] theorem jobEnd_regs (s : State) (j : Nat) : (s.jobEnd j).regs = s.regs := rfl
@[simp] theorem jobEnd_frameRegs (s : State) (j : Nat) : (s.jobEnd j).frameRegs = s.frameRegs := rfl
@[simp] theorem jobEnd_capRegs (s : State) (j : Nat) : (s.jobEnd j).capRegs = s.capRegs := rfl
@[simp] theorem jobEnd_mem (s : State) (j : Nat) : (s.jobEnd j).mem = s.mem := rfl
@[simp] theorem jobEnd_flash (s : State) (j : Nat) : (s.jobEnd j).flash = s.flash := rfl
@[simp] theorem jobEnd_br (s : State) (j : Nat) : (s.jobEnd j).br = s.br := rfl
@[simp] theorem jobEnd_pix (s : State) (j : Nat) : (s.jobEnd j).pix = s.pix := rfl
@[simp] theorem jobEnd_cmp (s : State) (j : Nat) : (s.jobEnd j).cmp = s.cmp := rfl
@[simp] theorem jobEnd_hyb (s : State) (j : Nat) : (s.jobEnd j).hyb = s.hyb := rfl
@[simp] theorem jobEnd_scn (s : State) (j : Nat) : (s.jobEnd j).scn = s.scn := rfl
@[simp] theorem jobEnd_sns (s : State) (j : Nat) : (s.jobEnd j).sns = s.sns := rfl
@[simp] theorem jobEnd_fmc (s : State) (j : Nat) : (s.jobEnd j).fmc = s.fmc := rfl
@[simp] theorem jobEnd_lnk (s : State) (j : Nat) : (s.jobEnd j).lnk = s.lnk := rfl
@[simp] theorem jobEnd_zlp (s : State) (j : Nat) : (s.jobEnd j).zlp = s.zlp := rfl
@[simp] theorem jobEnd_cmd (s : State) (j : Nat) : (s.jobEnd j).cmd = s.cmd := rfl
@[simp] theorem jobEnd_rln (s : State) (j : Nat) : (s.jobEnd j).rln = s.rln := rfl
@[simp] theorem jobEnd_pwr (s : State) (j : Nat) : (s.jobEnd j).pwr = s.pwr := rfl
@[simp] theorem jobEnd_thm (s : State) (j : Nat) : (s.jobEnd j).thm = s.thm := rfl
@[simp] theorem jobEnd_saf (s : State) (j : Nat) : (s.jobEnd j).saf = s.saf := rfl
@[simp] theorem jobEnd_flt (s : State) (j : Nat) : (s.jobEnd j).flt = s.flt := rfl
@[simp] theorem jobEnd_chk (s : State) (j : Nat) : (s.jobEnd j).chk = s.chk := rfl
@[simp] theorem jobEnd_tun (s : State) (j : Nat) : (s.jobEnd j).tun = s.tun := rfl
@[simp] theorem jobEnd_upd (s : State) (j : Nat) : (s.jobEnd j).upd = s.upd := rfl
@[simp] theorem jobEnd_sys (s : State) (j : Nat) : (s.jobEnd j).sys = s.sys := rfl

/-! ### setLight -/

@[simp] theorem setLight_now (s : State) (q : Quad) (l : Light) : (s.setLight q l).now = s.now := rfl
@[simp] theorem setLight_undef (s : State) (q : Quad) (l : Light) : (s.setLight q l).undef = s.undef := rfl
@[simp] theorem setLight_freeNo (s : State) (q : Quad) (l : Light) : (s.setLight q l).freeNo = s.freeNo := rfl
@[simp] theorem setLight_pending (s : State) (q : Quad) (l : Light) : (s.setLight q l).pending = s.pending := rfl
@[simp] theorem setLight_regs (s : State) (q : Quad) (l : Light) : (s.setLight q l).regs = s.regs := rfl
@[simp] theorem setLight_frameRegs (s : State) (q : Quad) (l : Light) : (s.setLight q l).frameRegs = s.frameRegs := rfl
@[simp] theorem setLight_capRegs (s : State) (q : Quad) (l : Light) : (s.setLight q l).capRegs = s.capRegs := rfl
@[simp] theorem setLight_mem (s : State) (q : Quad) (l : Light) : (s.setLight q l).mem = s.mem := rfl
@[simp] theorem setLight_flash (s : State) (q : Quad) (l : Light) : (s.setLight q l).flash = s.flash := rfl
@[simp] theorem setLight_br (s : State) (q : Quad) (l : Light) : (s.setLight q l).br = s.br := rfl
@[simp] theorem setLight_pix (s : State) (q : Quad) (l : Light) : (s.setLight q l).pix = s.pix := rfl
@[simp] theorem setLight_cmp (s : State) (q : Quad) (l : Light) : (s.setLight q l).cmp = s.cmp := rfl
@[simp] theorem setLight_hyb (s : State) (q : Quad) (l : Light) : (s.setLight q l).hyb = s.hyb := rfl
@[simp] theorem setLight_scn (s : State) (q : Quad) (l : Light) : (s.setLight q l).scn = s.scn := rfl
@[simp] theorem setLight_sns (s : State) (q : Quad) (l : Light) : (s.setLight q l).sns = s.sns := rfl
@[simp] theorem setLight_gov (s : State) (q : Quad) (l : Light) : (s.setLight q l).gov = s.gov := rfl
@[simp] theorem setLight_fmc (s : State) (q : Quad) (l : Light) : (s.setLight q l).fmc = s.fmc := rfl
@[simp] theorem setLight_lnk (s : State) (q : Quad) (l : Light) : (s.setLight q l).lnk = s.lnk := rfl
@[simp] theorem setLight_zlp (s : State) (q : Quad) (l : Light) : (s.setLight q l).zlp = s.zlp := rfl
@[simp] theorem setLight_cmd (s : State) (q : Quad) (l : Light) : (s.setLight q l).cmd = s.cmd := rfl
@[simp] theorem setLight_rln (s : State) (q : Quad) (l : Light) : (s.setLight q l).rln = s.rln := rfl
@[simp] theorem setLight_thm (s : State) (q : Quad) (l : Light) : (s.setLight q l).thm = s.thm := rfl
@[simp] theorem setLight_saf (s : State) (q : Quad) (l : Light) : (s.setLight q l).saf = s.saf := rfl
@[simp] theorem setLight_flt (s : State) (q : Quad) (l : Light) : (s.setLight q l).flt = s.flt := rfl
@[simp] theorem setLight_chk (s : State) (q : Quad) (l : Light) : (s.setLight q l).chk = s.chk := rfl
@[simp] theorem setLight_tun (s : State) (q : Quad) (l : Light) : (s.setLight q l).tun = s.tun := rfl
@[simp] theorem setLight_upd (s : State) (q : Quad) (l : Light) : (s.setLight q l).upd = s.upd := rfl
@[simp] theorem setLight_sys (s : State) (q : Quad) (l : Light) : (s.setLight q l).sys = s.sys := rfl

/-! ### setLatch -/

@[simp] theorem setLatch_now (s : State) : (s.setLatch).now = s.now := rfl
@[simp] theorem setLatch_undef (s : State) : (s.setLatch).undef = s.undef := rfl
@[simp] theorem setLatch_freeNo (s : State) : (s.setLatch).freeNo = s.freeNo := rfl
@[simp] theorem setLatch_pending (s : State) : (s.setLatch).pending = s.pending := rfl
@[simp] theorem setLatch_frameRegs (s : State) : (s.setLatch).frameRegs = s.frameRegs := rfl
@[simp] theorem setLatch_capRegs (s : State) : (s.setLatch).capRegs = s.capRegs := rfl
@[simp] theorem setLatch_mem (s : State) : (s.setLatch).mem = s.mem := rfl
@[simp] theorem setLatch_flash (s : State) : (s.setLatch).flash = s.flash := rfl
@[simp] theorem setLatch_br (s : State) : (s.setLatch).br = s.br := rfl
@[simp] theorem setLatch_pix (s : State) : (s.setLatch).pix = s.pix := rfl
@[simp] theorem setLatch_cmp (s : State) : (s.setLatch).cmp = s.cmp := rfl
@[simp] theorem setLatch_hyb (s : State) : (s.setLatch).hyb = s.hyb := rfl
@[simp] theorem setLatch_scn (s : State) : (s.setLatch).scn = s.scn := rfl
@[simp] theorem setLatch_sns (s : State) : (s.setLatch).sns = s.sns := rfl
@[simp] theorem setLatch_gov (s : State) : (s.setLatch).gov = s.gov := rfl
@[simp] theorem setLatch_fmc (s : State) : (s.setLatch).fmc = s.fmc := rfl
@[simp] theorem setLatch_lnk (s : State) : (s.setLatch).lnk = s.lnk := rfl
@[simp] theorem setLatch_zlp (s : State) : (s.setLatch).zlp = s.zlp := rfl
@[simp] theorem setLatch_cmd (s : State) : (s.setLatch).cmd = s.cmd := rfl
@[simp] theorem setLatch_rln (s : State) : (s.setLatch).rln = s.rln := rfl
@[simp] theorem setLatch_pwr (s : State) : (s.setLatch).pwr = s.pwr := rfl
@[simp] theorem setLatch_thm (s : State) : (s.setLatch).thm = s.thm := rfl
@[simp] theorem setLatch_flt (s : State) : (s.setLatch).flt = s.flt := rfl
@[simp] theorem setLatch_chk (s : State) : (s.setLatch).chk = s.chk := rfl
@[simp] theorem setLatch_tun (s : State) : (s.setLatch).tun = s.tun := rfl
@[simp] theorem setLatch_upd (s : State) : (s.setLatch).upd = s.upd := rfl
@[simp] theorem setLatch_sys (s : State) : (s.setLatch).sys = s.sys := rfl

/-! ### clearLatch -/

@[simp] theorem clearLatch_now (s : State) : (s.clearLatch).now = s.now := rfl
@[simp] theorem clearLatch_undef (s : State) : (s.clearLatch).undef = s.undef := rfl
@[simp] theorem clearLatch_freeNo (s : State) : (s.clearLatch).freeNo = s.freeNo := rfl
@[simp] theorem clearLatch_pending (s : State) : (s.clearLatch).pending = s.pending := rfl
@[simp] theorem clearLatch_frameRegs (s : State) : (s.clearLatch).frameRegs = s.frameRegs := rfl
@[simp] theorem clearLatch_capRegs (s : State) : (s.clearLatch).capRegs = s.capRegs := rfl
@[simp] theorem clearLatch_mem (s : State) : (s.clearLatch).mem = s.mem := rfl
@[simp] theorem clearLatch_flash (s : State) : (s.clearLatch).flash = s.flash := rfl
@[simp] theorem clearLatch_br (s : State) : (s.clearLatch).br = s.br := rfl
@[simp] theorem clearLatch_pix (s : State) : (s.clearLatch).pix = s.pix := rfl
@[simp] theorem clearLatch_cmp (s : State) : (s.clearLatch).cmp = s.cmp := rfl
@[simp] theorem clearLatch_hyb (s : State) : (s.clearLatch).hyb = s.hyb := rfl
@[simp] theorem clearLatch_scn (s : State) : (s.clearLatch).scn = s.scn := rfl
@[simp] theorem clearLatch_sns (s : State) : (s.clearLatch).sns = s.sns := rfl
@[simp] theorem clearLatch_gov (s : State) : (s.clearLatch).gov = s.gov := rfl
@[simp] theorem clearLatch_fmc (s : State) : (s.clearLatch).fmc = s.fmc := rfl
@[simp] theorem clearLatch_lnk (s : State) : (s.clearLatch).lnk = s.lnk := rfl
@[simp] theorem clearLatch_zlp (s : State) : (s.clearLatch).zlp = s.zlp := rfl
@[simp] theorem clearLatch_cmd (s : State) : (s.clearLatch).cmd = s.cmd := rfl
@[simp] theorem clearLatch_rln (s : State) : (s.clearLatch).rln = s.rln := rfl
@[simp] theorem clearLatch_pwr (s : State) : (s.clearLatch).pwr = s.pwr := rfl
@[simp] theorem clearLatch_thm (s : State) : (s.clearLatch).thm = s.thm := rfl
@[simp] theorem clearLatch_flt (s : State) : (s.clearLatch).flt = s.flt := rfl
@[simp] theorem clearLatch_chk (s : State) : (s.clearLatch).chk = s.chk := rfl
@[simp] theorem clearLatch_tun (s : State) : (s.clearLatch).tun = s.tun := rfl
@[simp] theorem clearLatch_upd (s : State) : (s.clearLatch).upd = s.upd := rfl
@[simp] theorem clearLatch_sys (s : State) : (s.clearLatch).sys = s.sys := rfl

/-! ### What a report leaves in the fault state -/

theorem report_flt (s : State) (src cls quad data : Nat) :
    (s.report src cls quad data).flt = { s.flt with inbox := s.flt.inbox ++ [⟨src, cls, quad, data, false, s.now⟩] } := rfl

end Sys2Proof.Machine
end

