-- ==== Sys2Proof/Laws/Memory.lean ====
section
/-! SUPPORT. Sys2Proof/Laws/Memory.lean: DRAM. Reads after writes, and that every memory operation keeps the canonical form. -/

namespace Sys2Proof.Machine

/-! ### One byte -/

/-- The built tables answer for byte `a`. -/
abbrev tableByte (s : State) (a : Nat) : Prop := (inTables a && s.cmp.built) = true

theorem readByte_plain {s : State} {a : Nat} (h : ¬ tableByte s a) : s.readByte a = Sparse.get s.unlisted s.mem a := if_neg h

theorem writeByte_plain {s : State} {a : Nat} (b : Byte) (h : ¬ tableByte s a) :
    s.writeByte a b = { s with mem := Sparse.put s.unlisted s.mem a b } := if_neg h

/-- Two states with the same tables agree on a byte that the built tables answer for. -/
theorem readByte_table {s t : State} {a : Nat} (h : tableByte s a) (e : t.cmp = s.cmp) : t.readByte a = s.readByte a := by
  have ht : tableByte t a := by unfold tableByte; rw [e]; exact h
  unfold State.readByte
  rw [if_pos ht, if_pos h]
  simp only [State.appliedWord, e]

theorem readByte_writeByte_same (s : State) (a : Nat) (b : Byte) (h : ¬ tableByte s a) : (s.writeByte a b).readByte a = b := by
  rw [writeByte_plain b h]
  refine (readByte_plain (s := { s with mem := Sparse.put s.unlisted s.mem a b }) h).trans ?_
  exact Sparse.get_put_same _ _ _ _

theorem writeByte_cmp (s : State) (a : Nat) (b : Byte) (h : ¬ tableByte s a) : (s.writeByte a b).cmp = s.cmp := by
  rw [writeByte_plain b h]

theorem readByte_writeByte_other (s : State) {a c : Nat} (b : Byte) (h : ¬ tableByte s a) (hc : c ≠ a) :
    (s.writeByte a b).readByte c = s.readByte c := by
  by_cases ht : tableByte s c
  · exact readByte_table ht (writeByte_cmp s a b h)
  · rw [readByte_plain ht, writeByte_plain b h]
    refine (readByte_plain (s := { s with mem := Sparse.put s.unlisted s.mem a b }) ht).trans ?_
    exact Sparse.get_put_other _ _ _ hc

/-! ### Several bytes -/

/-- No byte of the span is one the built tables answer for. -/
def plainSpan (s : State) (a n : Nat) : Prop := ∀ i, i < n → ¬ tableByte s (a + i)

theorem writeBytes_cmp (s : State) (a : Nat) (bs : List Byte) (h : plainSpan s a bs.length) : (s.writeBytes a bs).cmp = s.cmp := by
  induction bs generalizing s a with
  | nil => rfl
  | cons b bs ih =>
    have h0 : ¬ tableByte s a := by simpa using h 0 (by simp)
    have e := writeByte_cmp s a b h0
    rw [State.writeBytes, ih (s.writeByte a b) (a + 1) (fun i hi => by
      rw [tableByte, e, show a + 1 + i = a + (i + 1) by omega]; exact h (i + 1) (by simpa using hi)), e]

/-- Bytes outside the span keep their value. -/
theorem readByte_writeBytes_other (s : State) (a : Nat) (bs : List Byte) (h : plainSpan s a bs.length) {c : Nat}
    (hc : c < a ∨ a + bs.length ≤ c) : (s.writeBytes a bs).readByte c = s.readByte c := by
  induction bs generalizing s a with
  | nil => rfl
  | cons b bs ih =>
    simp only [List.length_cons] at hc
    have h0 : ¬ tableByte s a := by simpa using h 0 (by simp)
    have e := writeByte_cmp s a b h0
    rw [State.writeBytes, ih (s.writeByte a b) (a + 1) (fun i hi => by
      rw [tableByte, e, show a + 1 + i = a + (i + 1) by omega]; exact h (i + 1) (by simpa using hi)) (by omega)]
    exact readByte_writeByte_other s b h0 (by omega)

/-- Bytes of the span read what was written. -/
theorem readBytes_writeBytes (s : State) (a : Nat) (bs : List Byte) (h : plainSpan s a bs.length) :
    (s.writeBytes a bs).readBytes a bs.length = bs := by
  induction bs generalizing s a with
  | nil => rfl
  | cons b bs ih =>
    have h0 : ¬ tableByte s a := by simpa using h 0 (by simp)
    have e := writeByte_cmp s a b h0
    have hs : plainSpan (s.writeByte a b) (a + 1) bs.length := fun i hi => by
      rw [tableByte, e, show a + 1 + i = a + (i + 1) by omega]; exact h (i + 1) (by simpa using hi)
    simp only [State.writeBytes, State.readBytes, List.length_cons]
    rw [ih _ _ hs, readByte_writeBytes_other _ _ _ hs (Or.inl (Nat.lt_succ_self a)), readByte_writeByte_same s a b h0]

/-! ### Canonical form -/

theorem memory_wf_reset : State.reset.memWf = true := rfl

theorem writeByte_sns (s : State) (a : Nat) (b : Byte) : (s.writeByte a b).sns = s.sns := by
  unfold State.writeByte
  split <;> rfl

theorem memory_wf_writeByte {s : State} (h : s.memWf = true) (a : Nat) (b : Byte) : (s.writeByte a b).memWf = true := by
  unfold State.writeByte
  split
  · exact h
  · exact Sparse.wf_put s.unlisted h _ _

theorem memory_wf_writeBytes {s : State} (h : s.memWf = true) (a : Nat) (bs : List Byte) :
    (s.writeBytes a bs).memWf = true := by
  induction bs generalizing s a with
  | nil => exact h
  | cons b bs ih => exact ih (memory_wf_writeByte h a b) _

theorem memory_wf_writeLE {s : State} (h : s.memWf = true) (a n v : Nat) : (s.writeLE a n v).memWf = true :=
  memory_wf_writeBytes h _ _

section
variable {α : Type} [DecidableEq α] (d : Nat → α)

theorem Sparse.wf_filter {lo : Nat} {m : List (Nat × α)} (h : Sparse.wfFrom d lo m = true) (p : Nat × α → Bool) :
    Sparse.wfFrom d lo (m.filter p) = true := by
  induction m generalizing lo with
  | nil => rfl
  | cons e m ih =>
    obtain ⟨j, v⟩ := e
    simp only [Sparse.wfFrom, Bool.and_eq_true, Nat.ble_eq] at h
    simp only [List.filter_cons]
    split
    · simp only [Sparse.wfFrom, Bool.and_eq_true, Nat.ble_eq]
      exact ⟨h.1, ih h.2⟩
    · exact Sparse.wfFrom_mono d (ih h.2) (by omega)

/-- A canonical list whose keys lie below `hi`, then one whose keys do not. -/
theorem Sparse.wf_append {lo hi : Nat} {m n : List (Nat × α)} (h : Sparse.wfFrom d lo m = true) (hm : ∀ e ∈ m, e.1 < hi)
    (hl : lo ≤ hi) (hn : Sparse.wfFrom d hi n = true) : Sparse.wfFrom d lo (m ++ n) = true := by
  induction m generalizing lo with
  | nil => exact Sparse.wfFrom_mono d hn hl
  | cons e m ih =>
    obtain ⟨j, v⟩ := e
    simp only [Sparse.wfFrom, Bool.and_eq_true, Nat.ble_eq, List.cons_append] at h ⊢
    exact ⟨h.1, ih h.2 (fun e he => hm e (List.mem_cons_of_mem _ he)) (hm (j, v) List.mem_cons_self)⟩

theorem Sparse.wfFrom_of_ge {lo lo' : Nat} {m : List (Nat × α)} (h : Sparse.wfFrom d lo m = true) (hm : ∀ e ∈ m, lo' ≤ e.1) :
    Sparse.wfFrom d lo' m = true := by
  cases m with
  | nil => rfl
  | cons e m =>
    obtain ⟨j, v⟩ := e
    simp only [Sparse.wfFrom, Bool.and_eq_true, Nat.ble_eq] at h ⊢
    exact ⟨⟨hm (j, v) List.mem_cons_self, h.1.2⟩, h.2⟩

omit [DecidableEq α] in
theorem Sparse.mem_drop {m : List (Nat × α)} {k : Nat} {e : Nat × α} (h : e ∈ Sparse.drop m k) : e ∈ m := by
  induction m with
  | nil => exact h
  | cons x m ih =>
    obtain ⟨j, v⟩ := x
    simp only [Sparse.drop] at h
    split at h
    · exact List.mem_cons_of_mem _ (ih h)
    · rcases List.mem_cons.1 h with rfl | h
      · exact List.mem_cons_self
      · exact List.mem_cons_of_mem _ (ih h)

omit [DecidableEq α] in
theorem Sparse.mem_ins {m : List (Nat × α)} {k : Nat} {x : α} {e : Nat × α} (h : e ∈ Sparse.ins m k x) : e = (k, x) ∨ e ∈ m := by
  induction m with
  | nil => simpa [Sparse.ins] using h
  | cons y m ih =>
    obtain ⟨j, v⟩ := y
    simp only [Sparse.ins] at h
    split at h
    · rcases List.mem_cons.1 h with rfl | h
      · exact .inl rfl
      · exact .inr h
    · split at h
      · rcases List.mem_cons.1 h with rfl | h
        · exact .inl rfl
        · exact .inr (List.mem_cons_of_mem _ h)
      · rcases List.mem_cons.1 h with rfl | h
        · exact .inr List.mem_cons_self
        · rcases ih h with h | h
          · exact .inl h
          · exact .inr (List.mem_cons_of_mem _ h)

theorem Sparse.mem_norm {m : List (Nat × α)} {e : Nat × α} (h : e ∈ Sparse.norm d m) : e ∈ m := by
  unfold Sparse.norm at h
  suffices ∀ acc : List (Nat × α), e ∈ m.foldl (fun acc e => Sparse.put d acc e.1 e.2) acc → e ∈ acc ∨ e ∈ m by
    simpa using this [] h
  clear h
  induction m with
  | nil => intro acc h; exact .inl h
  | cons x m ih =>
    intro acc h
    rcases ih _ h with h | h
    · simp only [Sparse.put] at h
      split at h
      · exact .inl (Sparse.mem_drop h)
      · rcases Sparse.mem_ins h with rfl | h
        · exact .inr List.mem_cons_self
        · exact .inl h
    · exact .inr (List.mem_cons_of_mem _ h)
end

theorem memory_wf_setRegion {s : State} (h : s.memWf = true) {lo hi : Nat} (hl : lo ≤ hi) (cs : List Host.Cell) :
    (s.setRegion lo hi cs).memWf = true := by
  have hb : ∀ e ∈ Sparse.norm s.unlisted (cs.filter (fun c => decide (lo ≤ c.1) && decide (c.1 < hi))), lo ≤ e.1 ∧ e.1 < hi :=
    fun e he => by simpa using (List.mem_filter.1 (Sparse.mem_norm _ he)).2
  unfold State.memWf Memory.wf Sparse.wf State.setRegion at *
  dsimp only
  rw [List.append_assoc]
  refine Sparse.wf_append _ (hi := lo) (Sparse.wf_filter _ h _) (fun e he => by simpa using (List.mem_filter.1 he).2) (Nat.zero_le _) ?_
  refine Sparse.wf_append _ (hi := hi) (Sparse.wfFrom_of_ge _ (Sparse.wf_norm _ _) (fun e he => (hb e he).1)) (fun e he => (hb e he).2) hl ?_
  exact Sparse.wfFrom_of_ge _ (Sparse.wf_filter _ h _) (fun e he => by simpa using (List.mem_filter.1 he).2)


theorem Sparse.get_filter {α : Type} (d : Nat → α) (m : List (Nat × α)) (p : Nat → Bool) {k : Nat} (hk : p k = true) :
    Sparse.get d (m.filter (fun e => p e.1)) k = Sparse.get d m k := by
  induction m with
  | nil => rfl
  | cons e m ih =>
    obtain ⟨j, v⟩ := e
    simp only [List.filter_cons]
    split
    · simp only [Sparse.get, ih]
    · have : k ≠ j := by rintro rfl; simp_all
      simp only [Sparse.get, this, if_false, ih]

theorem Sparse.get_append_right {α : Type} (d : Nat → α) (m n : List (Nat × α)) {k : Nat} (h : ∀ e ∈ m, e.1 ≠ k) :
    Sparse.get d (m ++ n) k = Sparse.get d n k := by
  induction m with
  | nil => rfl
  | cons e m ih =>
    obtain ⟨j, v⟩ := e
    have : k ≠ j := fun x => h (j, v) List.mem_cons_self x.symm
    simp only [List.cons_append, Sparse.get, this, if_false]
    exact ih (fun e he => h e (List.mem_cons_of_mem _ he))

theorem Sparse.get_append_left {α : Type} (d : Nat → α) (m n : List (Nat × α)) {k : Nat} (h : ∀ e ∈ n, e.1 ≠ k) :
    Sparse.get d (m ++ n) k = Sparse.get d m k := by
  induction m with
  | nil =>
    rw [List.nil_append, ← List.append_nil n, Sparse.get_append_right d n [] h]
  | cons e m ih =>
    obtain ⟨j, v⟩ := e
    simp only [List.cons_append, Sparse.get, ih]

/-- A region that is replaced leaves every byte outside it as it was. -/
theorem readByte_setRegion_other (s : State) {lo hi : Nat} (cs : List Host.Cell) {a : Nat} (h : a < lo ∨ hi ≤ a) (hl : lo ≤ hi) :
    (s.setRegion lo hi cs).readByte a = s.readByte a := by
  have hb : ∀ e ∈ Sparse.norm s.unlisted (cs.filter (fun c => decide (lo ≤ c.1) && decide (c.1 < hi))), lo ≤ e.1 ∧ e.1 < hi :=
    fun e he => by simpa using (List.mem_filter.1 (Sparse.mem_norm _ he)).2
  by_cases ht : tableByte s a
  · exact readByte_table ht rfl
  · rw [readByte_plain ht, readByte_plain (s := s.setRegion lo hi cs) ht]
    unfold State.setRegion
    dsimp only
    rcases h with h | h
    · rw [List.append_assoc, Sparse.get_append_left]
      · exact Sparse.get_filter s.unlisted s.mem (fun k => decide (k < lo)) (by simpa using h)
      · intro e he
        rcases List.mem_append.1 he with he | he
        · have := (hb e he).1; omega
        · have := (List.mem_filter.1 he).2; simp at this; omega
    · rw [Sparse.get_append_right]
      · exact Sparse.get_filter s.unlisted s.mem (fun k => decide (hi ≤ k)) (by simpa using h)
      · intro e he
        rcases List.mem_append.1 he with he | he
        · have := (List.mem_filter.1 he).2; simp at this; omega
        · have := (hb e he).2; omega

end Sys2Proof.Machine
end

