-- ==== Sys2Proof/Laws/Regs.lean ====
section
/-! SUPPORT. Sys2Proof/Laws/Regs.lean: what a field reads after a write of the same field, of another field and of another
register; the same of whole registers, of flags and of counters. -/

namespace Sys2Proof.Machine

/-! ### Bits -/

theorem bitsAt_testBit (w lo len i : Nat) : (bitsAt w lo len).testBit i = (decide (i < len) && w.testBit (lo + i)) := by
  simp [bitsAt, Nat.testBit_mod_two_pow, Nat.testBit_shiftRight]

theorem insertBits_testBit (w lo len v i : Nat) :
    (insertBits w lo len v).testBit i = if lo ≤ i ∧ i < lo + len then v.testBit (i - lo) else w.testBit i := by
  unfold insertBits
  have hx : Nat.xor w ((Nat.xor (w >>> lo) v % 2 ^ len) <<< lo) = w ^^^ (((w >>> lo) ^^^ v) % 2 ^ len) <<< lo := rfl
  rw [hx, Nat.testBit_xor, Nat.testBit_shiftLeft, Nat.testBit_mod_two_pow, Nat.testBit_xor, Nat.testBit_shiftRight]
  by_cases h : lo ≤ i
  · have e : lo + (i - lo) = i := by omega
    by_cases h2 : i < lo + len
    · have : i - lo < len := by omega
      simp [h, h2, this, e]
    · have : ¬ i - lo < len := by omega
      simp [h2, this]
  · simp [h]

theorem ofNat_testBit (x i : Nat) : (BitVec.ofNat 32 x).toNat.testBit i = (decide (i < 32) && x.testBit i) := by
  rw [BitVec.toNat_ofNat, Nat.testBit_mod_two_pow]

theorem bitsAt_lt (w lo len : Nat) : bitsAt w lo len < 2 ^ len := Nat.mod_lt _ (Nat.two_pow_pos _)

theorem bitsAt_insert_same (w : Nat) {lo len : Nat} (v : Nat) (h : lo + len ≤ 32) :
    bitsAt (BitVec.ofNat 32 (insertBits w lo len v)).toNat lo len = v % 2 ^ len := by
  apply Nat.eq_of_testBit_eq
  intro i
  rw [bitsAt_testBit, ofNat_testBit, insertBits_testBit, Nat.testBit_mod_two_pow]
  by_cases hi : i < len
  · have h1 : lo + i < 32 := by omega
    have h2 : lo ≤ lo + i ∧ lo + i < lo + len := by omega
    have h3 : lo + i - lo = i := by omega
    simp [hi, h1]
  · simp [hi]

theorem bitsAt_insert_other (w : Word) {lo len lo' len' : Nat} (v : Nat) (h : lo' + len' ≤ lo ∨ lo + len ≤ lo') :
    bitsAt (BitVec.ofNat 32 (insertBits w.toNat lo len v)).toNat lo' len' = bitsAt w.toNat lo' len' := by
  apply Nat.eq_of_testBit_eq
  intro i
  rw [bitsAt_testBit, ofNat_testBit, insertBits_testBit, bitsAt_testBit]
  by_cases hi : i < len'
  · have h2 : ¬ (lo ≤ lo' + i ∧ lo' + i < lo + len) := by omega
    rw [if_neg h2]
    by_cases h1 : lo' + i < 32
    · simp [hi, h1]
    · have : w.toNat.testBit (lo' + i) = false :=
        Nat.testBit_lt_two_pow (lt_of_lt_of_le w.isLt (Nat.pow_le_pow_right (by norm_num) (by omega)))
      simp [h1, this]
  · simp [hi]

/-! ### Registers -/

@[simp] theorem reg_setReg_same (s : State) (a : Nat) (w : Word) : (s.setReg a w).reg a = w := Sparse.get_put_same _ _ _ _

theorem reg_setReg_other (s : State) {a b : Nat} (w : Word) (h : b ≠ a) : (s.setReg a w).reg b = s.reg b :=
  Sparse.get_put_other _ _ _ h

theorem reg_wr_other (s : State) {f : Fld} (v : Nat) {a : Nat} (h : a ≠ f.addr) : (s.wr f v).reg a = s.reg a :=
  reg_setReg_other s _ h

theorem reg_wrB_other (s : State) {f : Fld} (b : Bool) {a : Nat} (h : a ≠ f.addr) : (s.wrB f b).reg a = s.reg a :=
  reg_wr_other s _ h

theorem reg_bumpBy_other (s : State) {f : Fld} (n : Nat) {a : Nat} (h : a ≠ f.addr) : (s.bumpBy f n).reg a = s.reg a :=
  reg_wr_other s _ h

theorem reg_bump_other (s : State) {f : Fld} {a : Nat} (h : a ≠ f.addr) : (s.bump f).reg a = s.reg a := reg_wr_other s _ h

theorem rd_of_regs {s t : State} (h : t.regs = s.regs) (f : Fld) : t.rd f = s.rd f := by simp only [State.rd, State.reg, h]

theorem reg_of_regs {s t : State} (h : t.regs = s.regs) (a : Nat) : t.reg a = s.reg a := by simp only [State.reg, h]

theorem rd_of_reg {s t : State} {f : Fld} (h : t.reg f.addr = s.reg f.addr) : t.rd f = s.rd f := by simp only [State.rd, h]

/-! ### Fields -/

theorem rd_lt (s : State) (f : Fld) : s.rd f < 2 ^ f.len := bitsAt_lt _ _ _

/-- A field reads what was written, cut to its width. -/
theorem rd_wr_same (s : State) {f : Fld} (v : Nat) (h : f.lo + f.len ≤ 32) : (s.wr f v).rd f = v % 2 ^ f.len := by
  simp only [State.wr, State.rd, reg_setReg_same, bitsAt_insert_same _ _ h]

theorem rd_wr_fits (s : State) {f : Fld} {v : Nat} (h : f.lo + f.len ≤ 32) (hv : v < 2 ^ f.len) : (s.wr f v).rd f = v := by
  rw [rd_wr_same s v h, Nat.mod_eq_of_lt hv]

/-- A field of another register, or other bits of the same one, keeps its value. -/
theorem rd_wr_other (s : State) {f g : Fld} (v : Nat) (h : g.addr ≠ f.addr ∨ g.lo + g.len ≤ f.lo ∨ f.lo + f.len ≤ g.lo) :
    (s.wr f v).rd g = s.rd g := by
  by_cases ha : g.addr = f.addr
  · have h2 : g.lo + g.len ≤ f.lo ∨ f.lo + f.len ≤ g.lo := h.resolve_left (fun n => n ha)
    simp only [State.wr, State.rd, ha, reg_setReg_same]
    exact bitsAt_insert_other _ _ h2
  · exact rd_of_reg (reg_wr_other s v ha)

theorem rd_setReg_other (s : State) {f : Fld} {a : Nat} (w : Word) (h : f.addr ≠ a) : (s.setReg a w).rd f = s.rd f :=
  rd_of_reg (reg_setReg_other s w h)

theorem rd_bumpBy_same (s : State) {f : Fld} (n : Nat) (h : f.lo + f.len ≤ 32) :
    (s.bumpBy f n).rd f = min (2 ^ f.len - 1) (s.rd f + n) :=
  rd_wr_fits s h (lt_of_le_of_lt (Nat.min_le_left _ _) (Nat.sub_lt (Nat.two_pow_pos _) Nat.one_pos))

theorem rd_bump_same (s : State) {f : Fld} (h : f.lo + f.len ≤ 32) : (s.bump f).rd f = min (2 ^ f.len - 1) (s.rd f + 1) :=
  rd_bumpBy_same s 1 h

theorem rd_bumpBy_other (s : State) {f g : Fld} (n : Nat) (h : g.addr ≠ f.addr ∨ g.lo + g.len ≤ f.lo ∨ f.lo + f.len ≤ g.lo) :
    (s.bumpBy f n).rd g = s.rd g := rd_wr_other s _ h

theorem rd_bump_other (s : State) {f g : Fld} (h : g.addr ≠ f.addr ∨ g.lo + g.len ≤ f.lo ∨ f.lo + f.len ≤ g.lo) :
    (s.bump f).rd g = s.rd g := rd_wr_other s _ h

theorem on_wrB_same (s : State) {f : Fld} (b : Bool) (h : f.lo + f.len ≤ 32) (hl : 1 ≤ f.len) : (s.wrB f b).on f = b := by
  have hb : boolNat b < 2 ^ f.len := lt_of_lt_of_le (by cases b <;> decide : boolNat b < 2 ^ 1) (Nat.pow_le_pow_right (by norm_num) hl)
  simp only [State.on, State.wrB, rd_wr_fits s h hb]
  cases b <;> rfl

/-- A one-bit field that was just set or cleared. -/
theorem on_wr_same (s : State) {f : Fld} (v : Nat) (h : f.lo + f.len ≤ 32) (hl : f.len = 1) : (s.wr f v).on f = decide (v % 2 = 1) := by
  simp only [State.on, rd_wr_same s v h, hl, pow_one]

theorem on_wr_other (s : State) {f g : Fld} (v : Nat) (h : g.addr ≠ f.addr ∨ g.lo + g.len ≤ f.lo ∨ f.lo + f.len ≤ g.lo) :
    (s.wr f v).on g = s.on g := by simp only [State.on, rd_wr_other s v h]

theorem on_of_rd {s t : State} {f : Fld} (h : t.rd f = s.rd f) : t.on f = s.on f := by simp only [State.on, h]

/-! ### Canonical form -/

theorem regs_wf_setReg {s : State} (h : Sparse.wf resetWord s.regs = true) (a : Nat) (w : Word) :
    Sparse.wf resetWord (s.setReg a w).regs = true := Sparse.wf_put _ h _ _

theorem regs_wf_wr {s : State} (h : Sparse.wf resetWord s.regs = true) (f : Fld) (v : Nat) :
    Sparse.wf resetWord (s.wr f v).regs = true := regs_wf_setReg h _ _

end Sys2Proof.Machine
end

