-- ==== Sys2Proof/Laws/Settle.lean ====
section
/-! SUPPORT. Sys2Proof/Laws/Settle.lean: what the wires do after a command: in any state they give a safe state, and where no
undefined case has begun they touch nothing that `State.Frame` speaks of. -/

namespace Sys2Proof.Machine

/-! ### Frames -/

theorem State.Frame.refl (s : State) (l : List Nat) (ps : List Part) : s.Frame s l ps :=
  ⟨fun _ _ => rfl, fun p _ => by cases p <;> simp [State.Same]⟩

theorem State.Frame.trans {s t u : State} {l : List Nat} {ps : List Part} (h : s.Frame t l ps) (k : t.Frame u l ps) :
    s.Frame u l ps := by
  refine ⟨fun a ha => (k.regs a ha).trans (h.regs a ha), fun p hp => ?_⟩
  have h1 := h.parts p hp
  have h2 := k.parts p hp
  cases p <;> simp only [State.Same] at h1 h2 ⊢ <;> first
    | exact h2.trans h1
    | exact fun a => (h2 a).trans (h1 a)
    | (rw [h2, h1])

theorem State.Frame.mono {s t : State} {l l' : List Nat} {ps ps' : List Part} (h : s.Frame t l ps) (hl : l ⊆ l')
    (hp : ps ⊆ ps') : s.Frame t l' ps' :=
  ⟨fun a ha => h.regs a (fun m => ha (hl m)), fun p hq => h.parts p (fun m => hq (hp m))⟩

theorem State.Frame.reg {s t : State} {l : List Nat} {ps : List Part} (h : s.Frame t l ps) {a : Nat} (ha : a ∉ l)
    (h1 : a ≠ A.SAF_STAT) (h2 : a ≠ A.SYS_START) : t.reg a = s.reg a := by
  have h0 := h.regs a ha
  have hm : ∀ w : Word, w &&& 0xFFFFFFFF#32 = w := fun w => BitVec.and_allOnes (x := w)
  simpa [wireMask, h1, h2, hm] using h0

theorem State.Frame.rd {s t : State} {l : List Nat} {ps : List Part} (h : s.Frame t l ps) {f : Fld} (ha : f.addr ∉ l)
    (h1 : f.addr ≠ A.SAF_STAT) (h2 : f.addr ≠ A.SYS_START) : t.rd f = s.rd f := rd_of_reg (h.reg ha h1 h2)

/-- A state that differs in parts and not in the register file. -/
theorem State.Frame.of_regs {s t : State} {l : List Nat} {ps : List Part} (h : t.regs = s.regs)
    (hp : ∀ p, p ∉ ps → s.Same t p) : s.Frame t l ps :=
  ⟨fun a _ => by rw [reg_of_regs h a], hp⟩

/-- A field written in a register that may change. -/
theorem State.Frame.wr (s : State) (f : Fld) (v : Nat) : s.Frame (s.wr f v) [f.addr] [] :=
  ⟨fun a ha => by rw [reg_wr_other s v (by simpa using ha)], fun p _ => by
    cases p <;> simp [State.Same, State.readByte, State.appliedWord, State.unlisted]⟩

/-! ### Frames along a chain of updates -/

section
variable {s t : State} {l : List Nat} {ps : List Part} (h : s.Frame t l ps)
include h

theorem State.Frame.thenWr (f : Fld) (v : Nat) (hf : f.addr ∈ l) : s.Frame (t.wr f v) l ps :=
  h.trans ((State.Frame.wr t f v).mono (by simpa using hf) (by simp))

theorem State.Frame.thenWrB (f : Fld) (b : Bool) (hf : f.addr ∈ l) : s.Frame (t.wrB f b) l ps := h.thenWr f _ hf
theorem State.Frame.thenBumpBy (f : Fld) (n : Nat) (hf : f.addr ∈ l) : s.Frame (t.bumpBy f n) l ps := h.thenWr f _ hf
theorem State.Frame.thenBump (f : Fld) (hf : f.addr ∈ l) : s.Frame (t.bump f) l ps := h.thenWr f _ hf

theorem State.Frame.thenSetReg (a : Nat) (w : Word) (ha : a ∈ l) : s.Frame (t.setReg a w) l ps :=
  h.trans ⟨fun b hb => by rw [reg_setReg_other t w (by rintro rfl; exact hb ha)], fun p _ => by
    cases p <;> simp [State.Same, State.readByte, State.appliedWord, State.unlisted]⟩

/-- An update that writes no register and only parts of the list. -/
theorem State.Frame.thenUpd {u : State} (hr : u.regs = t.regs) (hp : ∀ p, p ∉ ps → t.Same u p) : s.Frame u l ps :=
  h.trans (.of_regs hr hp)

theorem State.Frame.thenReport (src cls quad data : Nat) (hf : Part.flt ∈ ps) : s.Frame (t.report src cls quad data) l ps :=
  h.thenUpd rfl (by intro p hp; cases p <;> simp_all [State.Same, State.readByte, State.appliedWord, State.unlisted])

theorem State.Frame.thenFault (src cls : Nat) (hf : Part.flt ∈ ps) : s.Frame (t.fault src cls) l ps := h.thenReport _ _ _ _ hf
theorem State.Frame.thenFaultQ (src cls : Nat) (q : Quad) (hf : Part.flt ∈ ps) : s.Frame (t.faultQ src cls q) l ps :=
  h.thenReport _ _ _ _ hf
end

/-! ### The wires, one by one -/

theorem and_mask_insert (w : Word) (lo len v : Nat) (m : Word) (h : ∀ i, i < 32 → lo ≤ i → i < lo + len → m.getLsbD i = false) :
    BitVec.ofNat 32 (insertBits w.toNat lo len v) &&& m = w &&& m := by
  apply BitVec.eq_of_getLsbD_eq
  intro i hi
  rw [BitVec.getLsbD_and, BitVec.getLsbD_and]
  by_cases hin : lo ≤ i ∧ i < lo + len
  · rw [h i hi hin.1 hin.2]; simp
  · have : (BitVec.ofNat 32 (insertBits w.toNat lo len v)).getLsbD i = w.getLsbD i := by
      rw [BitVec.getLsbD_ofNat, insertBits_testBit, if_neg hin]
      rw [← BitVec.testBit_toNat]; simp [hi]
    rw [this]

theorem wire_latch (s : State) (v : Nat) : s.Frame (s.wr F.SAF_STAT.LATCH v) [] [] := by
  refine ⟨fun a _ => ?_, fun p hp => (State.Frame.wr s _ v).parts p hp⟩
  by_cases ha : a = A.SAF_STAT
  · subst ha
    have : (s.wr F.SAF_STAT.LATCH v).reg A.SAF_STAT
      = BitVec.ofNat 32 (insertBits (s.reg A.SAF_STAT).toNat 31 1 v) := reg_setReg_same _ _ _
    rw [this]
    exact and_mask_insert _ _ _ _ _ (by decide)
  · rw [reg_wr_other s v (f := F.SAF_STAT.LATCH) ha]

theorem wire_step (s : State) (v : Nat) : s.Frame (s.wr F.SYS_START.STEP v) [] [] := by
  refine ⟨fun a _ => ?_, fun p hp => (State.Frame.wr s _ v).parts p hp⟩
  by_cases ha : a = A.SYS_START
  · subst ha
    have : (s.wr F.SYS_START.STEP v).reg A.SYS_START
      = BitVec.ofNat 32 (insertBits (s.reg A.SYS_START).toNat 28 4 v) := reg_setReg_same _ _ _
    rw [this]
    exact and_mask_insert _ _ _ _ _ (by decide)
  · rw [reg_wr_other s v (f := F.SYS_START.STEP) ha]

theorem frame_latchDemand (s : State) : s.Frame s.latchDemand [] [] := by
  unfold State.latchDemand
  split
  · exact (wire_latch s 1).trans (.of_regs rfl fun p _ => by cases p <;> simp [State.Same, State.setLatch, State.readByte, State.appliedWord, State.unlisted])
  · exact .refl _ _ _

theorem frame_autoClear (s : State) : s.Frame s.autoClear [] [] := by
  unfold State.autoClear
  split
  · exact (wire_latch s 0).trans (.of_regs rfl fun p _ => by cases p <;> simp [State.Same, State.clearLatch, State.readByte, State.appliedWord, State.unlisted])
  · exact .refl _ _ _

theorem frame_driveOutputs (s : State) : s.Frame s.driveOutputs [] [] := by
  unfold State.driveOutputs
  dsimp only
  split
  · exact .refl _ _ _
  · exact .of_regs rfl fun p _ => by cases p <;> simp [State.Same, State.readByte, State.appliedWord, State.unlisted]

theorem frame_setLight (s : State) (q : Quad) (l : Light) : s.Frame (s.setLight q l) [] [] :=
  .of_regs rfl fun p _ => by cases p <;> simp [State.Same, State.setLight, State.readByte, State.appliedWord, State.unlisted]

theorem frame_stepTen (s : State) : s.Frame s.stepTen [] [] := by
  unfold State.stepTen
  split
  · exact wire_step s 10
  · exact .refl _ _ _

theorem frame_driveLight (q : Quad) (s : State) : s.Frame (s.driveLight q) [] [] := by
  unfold State.driveLight
  split
  · exact frame_setLight _ _ _
  · split
    · exact ((frame_setLight s q .settling).trans (frame_stepTen _)).trans
        (.of_regs rfl fun p _ => by cases p <;> simp [State.Same, State.readByte, State.appliedWord, State.unlisted])
    · exact .refl _ _ _

/-- Where no undefined case has begun, the wires touch nothing that a frame speaks of. -/
theorem frame_settle {s : State} (h : s.undef = false) : s.Frame s.settle [] [] := by
  unfold State.settle forQ
  rw [if_neg (by simp [h])]
  exact (frame_latchDemand s).trans ((frame_autoClear _).trans ((frame_driveOutputs _).trans ((frame_driveLight _ _).trans
    ((frame_driveLight _ _).trans ((frame_driveLight _ _).trans (frame_driveLight _ _))))))

/-- A frame up to the state a command leaves is a frame up to the next state. -/
theorem State.Frame.settled {s t : State} {l : List Nat} {ps : List Part} (h : s.Frame t l ps) (hu : t.undef = false) :
    s.Frame t.settle l ps :=
  h.trans ((frame_settle hu).mono (by simp) (by simp))

theorem reg_settle {s : State} (h : s.undef = false) {a : Nat} (h1 : a ≠ A.SAF_STAT) (h2 : a ≠ A.SYS_START) :
    s.settle.reg a = s.reg a := (frame_settle h).reg (by simp) h1 h2

theorem rd_settle {s : State} (h : s.undef = false) {f : Fld} (h1 : f.addr ≠ A.SAF_STAT) (h2 : f.addr ≠ A.SYS_START) :
    s.settle.rd f = s.rd f := rd_of_reg (reg_settle h h1 h2)

theorem readByte_settle {s : State} (h : s.undef = false) (a : Nat) : s.settle.readByte a = s.readByte a :=
  (frame_settle h).parts .mem (by simp) a

section
variable {s : State} (h : s.undef = false)
include h
@[simp] theorem settle_undef : s.settle.undef = false := ((frame_settle h).parts .undef (by simp)).trans h
@[simp] theorem settle_now : s.settle.now = s.now := (frame_settle h).parts .now (by simp)
@[simp] theorem settle_freeNo : s.settle.freeNo = s.freeNo := (frame_settle h).parts .freeNo (by simp)
@[simp] theorem settle_pending : s.settle.pending = s.pending := (frame_settle h).parts .pending (by simp)
@[simp] theorem settle_frameRegs : s.settle.frameRegs = s.frameRegs := (frame_settle h).parts .frameRegs (by simp)
@[simp] theorem settle_capRegs : s.settle.capRegs = s.capRegs := (frame_settle h).parts .capRegs (by simp)
@[simp] theorem settle_flash : s.settle.flash = s.flash := (frame_settle h).parts .flash (by simp)
@[simp] theorem settle_br : s.settle.br = s.br := (frame_settle h).parts .br (by simp)
@[simp] theorem settle_pix : s.settle.pix = s.pix := (frame_settle h).parts .pix (by simp)
@[simp] theorem settle_cmp : s.settle.cmp = s.cmp := (frame_settle h).parts .cmp (by simp)
@[simp] theorem settle_hyb : s.settle.hyb = s.hyb := (frame_settle h).parts .hyb (by simp)
@[simp] theorem settle_scn : s.settle.scn = s.scn := (frame_settle h).parts .scn (by simp)
@[simp] theorem settle_sns : s.settle.sns = s.sns := (frame_settle h).parts .sns (by simp)
@[simp] theorem settle_gov : s.settle.gov = s.gov := (frame_settle h).parts .gov (by simp)
@[simp] theorem settle_fmc : s.settle.fmc = s.fmc := (frame_settle h).parts .fmc (by simp)
@[simp] theorem settle_lnk : s.settle.lnk = s.lnk := (frame_settle h).parts .lnk (by simp)
@[simp] theorem settle_zlp : s.settle.zlp = s.zlp := (frame_settle h).parts .zlp (by simp)
@[simp] theorem settle_cmd : s.settle.cmd = s.cmd := (frame_settle h).parts .cmd (by simp)
@[simp] theorem settle_rln : s.settle.rln = s.rln := (frame_settle h).parts .rln (by simp)
@[simp] theorem settle_thm : s.settle.thm = s.thm := (frame_settle h).parts .thm (by simp)
@[simp] theorem settle_flt : s.settle.flt = s.flt := (frame_settle h).parts .flt (by simp)
@[simp] theorem settle_chk : s.settle.chk = s.chk := (frame_settle h).parts .chk (by simp)
@[simp] theorem settle_tun : s.settle.tun = s.tun := (frame_settle h).parts .tun (by simp)
@[simp] theorem settle_upd : s.settle.upd = s.upd := (frame_settle h).parts .upd (by simp)
@[simp] theorem settle_sys : s.settle.sys = s.sys := (frame_settle h).parts .sys (by simp)
end

/-! ### Safety -/

theorem lightOf_setLight_same (s : State) (q : Quad) (l : Light) : (s.setLight q l).lightOf q = l ∨ (s.setLight q l).lightOf q = .dark := by
  simp only [State.setLight, State.lightOf, List.getD_eq_getElem?_getD, List.getElem?_set]
  split
  · split
    · left; rfl
    · right; rfl
  · exact absurd trivial ‹_›

theorem lightOf_setLight_other (s : State) {q r : Quad} (l : Light) (h : r ≠ q) : (s.setLight q l).lightOf r = s.lightOf r := by
  simp only [State.setLight, State.lightOf, List.getD_eq_getElem?_getD, List.getElem?_set]
  rw [if_neg (fun e => h (Fin.ext e.symm))]

/-- The light of one quadrant plays no part in the demands. -/
theorem dark_of_regs_saf {s t : State} (h : ∀ f : Fld, f.addr ≠ A.SYS_START → t.rd f = s.rd f) (hs : t.saf = s.saf)
    (hf : t.flt = s.flt) (hy : t.sys = s.sys) (q : Quad) : t.dark q = s.dark q := by
  simp only [State.dark, State.muteQ, State.deviceDemand, State.demandBesideWait, State.faultDark, State.latched, State.thermalLatch,
    State.classFour, State.safeClk, State.on, hs, hf, hy, h F.SAF_STAT.LATCH (by decide), h F.THM_STAT.SHUT (by decide),
    h F.FLT_LATCH.DARK_LATCH (by decide), h F.SYS_ISLAND_STAT.SAFE_CLK (by decide), h F.FLT_LATCH.QUAD (by decide)]

theorem rd_stepTen (s : State) {f : Fld} (h : f.addr ≠ A.SYS_START) : s.stepTen.rd f = s.rd f := by
  unfold State.stepTen
  split
  · exact rd_of_reg (reg_wr_other s 10 h)
  · rfl

theorem rd_driveLight (q : Quad) (s : State) {f : Fld} (h : f.addr ≠ A.SYS_START) : (s.driveLight q).rd f = s.rd f := by
  unfold State.driveLight
  split
  · rfl
  · split
    · exact rd_stepTen (s.setLight q .settling) h
    · rfl

theorem saf_stepTen (s : State) : s.stepTen.saf = s.saf := by unfold State.stepTen; split <;> rfl
theorem sys_stepTen (s : State) : s.stepTen.sys = s.sys := by unfold State.stepTen; split <;> rfl
theorem flt_stepTen (s : State) : s.stepTen.flt = s.flt := by unfold State.stepTen; split <;> rfl
theorem pwr_stepTen (s : State) : s.stepTen.pwr = s.pwr := by unfold State.stepTen; split <;> rfl

theorem saf_driveLight (q : Quad) (s : State) : (s.driveLight q).saf = s.saf := by
  unfold State.driveLight
  split
  · rfl
  · split
    · exact saf_stepTen _
    · rfl

theorem sys_driveLight (q : Quad) (s : State) : (s.driveLight q).sys = s.sys := by
  unfold State.driveLight
  split
  · rfl
  · split
    · exact sys_stepTen _
    · rfl

theorem flt_driveLight (q : Quad) (s : State) : (s.driveLight q).flt = s.flt := by
  unfold State.driveLight
  split
  · rfl
  · split
    · exact flt_stepTen _
    · rfl

theorem dark_driveLight (q : Quad) (s : State) (r : Quad) : (s.driveLight q).dark r = s.dark r :=
  dark_of_regs_saf (fun _ h => rd_driveLight q s h) (saf_driveLight q s) (flt_driveLight q s) (sys_driveLight q s) r

theorem lightOf_driveLight_same (q : Quad) (s : State) (h : s.dark q = true) : (s.driveLight q).lightOf q = .dark := by
  unfold State.driveLight
  rw [if_pos h]
  exact (lightOf_setLight_same s q .dark).elim id id

theorem lightOf_driveLight_other (q : Quad) (s : State) {r : Quad} (h : r ≠ q) : (s.driveLight q).lightOf r = s.lightOf r := by
  unfold State.driveLight
  split
  · exact lightOf_setLight_other s _ h
  · split
    · have e := lightOf_setLight_other s .settling h
      simp only [State.lightOf, pwr_stepTen] at e ⊢
      exact e
    · rfl

theorem saf_lights (s : State) : (forQ State.driveLight s).saf = s.saf := by simp only [forQ, saf_driveLight]
theorem sys_lights (s : State) : (forQ State.driveLight s).sys = s.sys := by simp only [forQ, sys_driveLight]
theorem flt_lights (s : State) : (forQ State.driveLight s).flt = s.flt := by simp only [forQ, flt_driveLight]
theorem rd_lights (s : State) {f : Fld} (h : f.addr ≠ A.SYS_START) : (forQ State.driveLight s).rd f = s.rd f := by
  simp only [forQ, rd_driveLight _ _ h]

/-- However the lights stood, driving the four quadrants leaves every one in demand dark. -/
theorem darkHeld_lights (s : State) : (forQ State.driveLight s).DarkHeld := by
  intro q h
  simp only [forQ, dark_driveLight] at h ⊢
  have hq : q = 0 ∨ q = 1 ∨ q = 2 ∨ q = 3 := (by decide : ∀ r : Fin 4, r = 0 ∨ r = 1 ∨ r = 2 ∨ r = 3) q
  obtain rfl | rfl | rfl | rfl := hq
  · exact (lightOf_driveLight_other _ _ (by decide)).trans ((lightOf_driveLight_other _ _ (by decide)).trans
      ((lightOf_driveLight_other _ _ (by decide)).trans (lightOf_driveLight_same _ _ h)))
  · exact (lightOf_driveLight_other _ _ (by decide)).trans ((lightOf_driveLight_other _ _ (by decide)).trans
      (lightOf_driveLight_same _ _ ((dark_driveLight 0 s 1).trans h)))
  · exact (lightOf_driveLight_other _ _ (by decide)).trans (lightOf_driveLight_same _ _
      ((dark_driveLight 1 _ 2).trans ((dark_driveLight 0 s 2).trans h)))
  · exact lightOf_driveLight_same _ _
      ((dark_driveLight 2 _ 3).trans ((dark_driveLight 1 _ 3).trans ((dark_driveLight 0 s 3).trans h)))

theorem demand_of_rd {s t : State} (h : ∀ f : Fld, f.addr ≠ A.SYS_START → t.rd f = s.rd f) (hs : t.saf = s.saf)
    (hf : t.flt = s.flt) (hy : t.sys = s.sys) :
    t.demandBesideWait = s.demandBesideWait ∧ t.sfDark = s.sfDark ∧ t.latched = s.latched := by
  refine ⟨?_, ?_, ?_⟩ <;>
  simp only [State.demandBesideWait, State.sfDark, State.latched, State.thermalLatch, State.inEn, State.bcEn,
    State.classFour, State.safeClk, State.on, hs, hf, hy, h F.SAF_STAT.LATCH (by decide), h F.THM_STAT.SHUT (by decide),
    h F.FLT_LATCH.DARK_LATCH (by decide), h F.SYS_ISLAND_STAT.SAFE_CLK (by decide), h F.SAF_STAT.IN_A (by decide),
    h F.SAF_STAT.IN_B (by decide), h F.SAF_CFG.IN_EN (by decide), h F.SAF_CFG.BC_EN (by decide)]

theorem demand_driveOutputs (s : State) :
    s.driveOutputs.demandBesideWait = s.demandBesideWait ∧ s.driveOutputs.sfDark = s.sfDark ∧ s.driveOutputs.latched = s.latched := by
  unfold State.driveOutputs
  dsimp only
  split <;> exact ⟨rfl, rfl, rfl⟩

theorem outputs_driveOutputs (s : State) : s.driveOutputs.OutputsFollow := by
  unfold State.OutputsFollow State.driveOutputs
  dsimp only
  split
  · exact (‹_ = s.saf.outOn›).symm
  · rfl

theorem latched_setLatch (s : State) : s.setLatch.latched = true := on_wr_same s 1 (f := F.SAF_STAT.LATCH) (by decide) rfl

theorem latchHeld_latchDemand (s : State) : s.latchDemand.LatchHeld := by
  unfold State.LatchHeld State.latchDemand
  split
  · exact fun _ => latched_setLatch s
  · intro h; exact absurd h ‹_›

/-- A latch that clears by itself leaves no demand behind: R365's conditions are the contrary of every demand of SF-DARK. -/
theorem sfDark_of_restartOk {s : State} {a b : Bool} (h : s.restartOk a b = true) : s.sfDark = false := by
  simp only [State.restartOk, State.sfDark, Bool.and_eq_true, Bool.or_eq_true, Bool.not_eq_true'] at *
  grind

theorem latchHeld_autoClear {s : State} (h : s.LatchHeld) : s.autoClear.LatchHeld := by
  unfold State.autoClear
  split
  · rename_i hc
    simp only [Bool.and_eq_true] at hc
    have h0 := sfDark_of_restartOk hc.2
    have e : ∀ f : Fld, f.addr ≠ A.SAF_STAT ∨ f.lo + f.len ≤ 31 → s.clearLatch.rd f = s.rd f := fun f hf =>
      rd_wr_other s 0 (f := F.SAF_STAT.LATCH) (hf.elim .inl fun x => .inr (.inl x))
    have : s.clearLatch.sfDark = s.sfDark := by
      simp only [State.sfDark, State.inEn, State.bcEn, State.on, e F.SAF_STAT.IN_A (by decide), e F.SAF_STAT.IN_B (by decide),
        e F.SAF_CFG.IN_EN (by decide), e F.SAF_CFG.BC_EN (by decide)]
      rfl
    intro hs
    rw [this, h0] at hs
    exact absurd hs (by simp)
  · exact h

/-- The wires make any state safe. -/
theorem safe_settle (s : State) : s.settle.Safe := by
  unfold State.settle
  generalize (if s.undef then s.havoc else s) = x
  have hd := demand_of_rd (fun _ h => rd_lights x.latchDemand.autoClear.driveOutputs h) (saf_lights x.latchDemand.autoClear.driveOutputs)
    (flt_lights x.latchDemand.autoClear.driveOutputs) (sys_lights x.latchDemand.autoClear.driveOutputs)
  obtain ⟨o1, o2, o3⟩ := demand_driveOutputs x.latchDemand.autoClear
  refine ⟨darkHeld_lights _, fun h => ?_, ?_⟩
  · rw [hd.2.1, o2] at h
    rw [hd.2.2, o3]
    exact latchHeld_autoClear (latchHeld_latchDemand x) h
  · have := outputs_driveOutputs x.latchDemand.autoClear
    unfold State.OutputsFollow at this ⊢
    rw [saf_lights, sys_lights, hd.1, State.on, rd_lights _ (f := F.PWR_PAD.SAFETY) (by decide)]
    exact this

end Sys2Proof.Machine
end

