-- ==== Sys2Proof/WellFormed.lean ====
section
/-! DEFINITION. Sys2Proof/WellFormed.lean: which terms of Instr are commands that can arrive: the lengths and index ranges that the
spec's formats give, where a type does not carry them. -/

namespace Sys2Proof

/-- LEN counts the payload bytes; a frame whose LEN is above 4,096 is delimited by it and refused (R276, R284). -/
def Request.wf (r : Request) : Bool := decide (r.payload.length = r.len.toNat) || decide (4096 < r.len.toNat)

/-- The four panel records of 256 bytes (R126); an EEPROM that does not acknowledge gives none. -/
def recordsWf (l : List (Option (List Byte))) : Bool :=
  decide (l.length = 4) && l.all (fun r => (r.map (fun b => decide (b.length = 256))).getD true)

/-- Converter indices of a run's measurements, and a doubler check for each source die (R405, R406, R410). -/
def Measured.wf (m : Measured) : Bool :=
  decide (m.doublers.length = 4) && m.adcs.all (fun x => decide (x.adc < 192)) && m.outs.all (fun x => decide (x.out < 6144))
    && m.ramps.all (fun x => decide (x.ramp < 8) && decide (x.sums.length = 8))

/-- Sweep numbers of ramp measurements (R110, R142): at most 64 sweeps in a frame. -/
def LineInput.wf (i : LineInput) : Bool := i.ramps.all (fun r => decide (r.sweep < 64))

/-- A pin voltage comes from a glass thermistor, sensors 20 to 23; a temperature from every other sensor (R334, R335). -/
def Conversion.wf (c : Conversion) (i : Fin 24) : Bool :=
  match c with
  | .volts _ => decide (20 ≤ i.val)
  | .tenths _ => decide (i.val < 20)

def Instr.wf : Instr → Bool
  | .bridgeFlitReceive _ _ _ _ _ => true
  | .segmentCapture _ b _ => decide (12 ≤ b.length)
  | .frameStartReceive _ _ b => decide (b.length = 20)
  | .outsideWritesDone _ _ => true
  | .frameEndReceive _ b => decide (b.length = 12)
  | .closingDeadline _ => true
  | .frameFillDone _ _ => true
  | .decisionInstant _ => true
  | .scanFrameStart _ samples _ => decide (samples.length = 4)
  | .linBuild => true
  | .linLoad => true
  | .linOpDone => true
  | .overlaySave => true
  | .overlayRestore => true
  | .overlaySaveDone => true
  | .overlayRestoreDone => true
  | .tableActivate r => r.wf
  | .cmpTblActivate => true
  | .tableRevert => true
  | .tableCheckDone => true
  | .tableBuildDone => true
  | .tableFlashSaved => true
  | .ageFactorTick _ => true
  | .stressWritebackDue _ => true
  | .forceSave => true
  | .stressWritebackDone _ => true
  | .defectEdit r => r.wf
  | .defectEditComplete => true
  | .ladderBuildDone => true
  | .ladderRewriteDone _ => true
  | .scanLineStart _ _ _ inp => inp.wf
  | .eeRead => true
  | .eepromReadDone recs => recordsWf recs
  | .senseSlot _ _ raw1 raw2 => decide (raw1.length = 48) && decide (raw2.length = 48)
  | .senseResult _ => true
  | .sweepDeadline _ => true
  | .isnsCompareDone _ _ _ => true
  | .senseRequest r => r.wf
  | .govEvaluationDone _ => true
  | .govStall => true
  | .jobForceTimeout _ _ => true
  | .jobPausePoint _ => true
  | .scrubPassDone _ => true
  | .dramRefreshDue _ _ => true
  | .mr4Poll _ _ => true
  | .neighbourRefreshRun _ => true
  | .retrainDue _ => true
  | .fmcTrainReq => true
  | .retrainStep => true
  | .retrainDone _ _ => true
  | .wckOscRead _ _ => true
  | .dramReadReturn _ _ _ _ => true
  | .corrRateCheck => true
  | .fmcOrderWrite _ => true
  | .configStoreDone => true
  | .detectPulse _ _ => true
  | .trainingSetReceive _ _ _ symbols _ => symbols.length == 16
  | .ctleStep _ _ _ => true
  | .readyStable _ => true
  | .laneSyncTimeout _ _ => true
  | .portStageTimeout _ => true
  | .laneSyncLost _ _ => true
  | .laneIdleDetect _ _ => true
  | .deskewMismatch _ => true
  | .laneErrorWindow _ _ _ _ => true
  | .portRetrain _ => true
  | .txPowerRequest _ _ => true
  | .eyeStart _ _ _ => true
  | .eyeScanDone _ _ _ => true
  | .patternModeWrite _ _ => true
  | .injectOne _ => true
  | .patternTest r => r.wf
  | .patternTestEnd _ => true
  | .refclkLost => true
  | .refclkRestored => true
  | .txclkHoldoverExpiry => true
  | .txclkLocked _ => true
  | .frameForward _ _ cols => cols.head? == some .comma
  | .convertedFrameSend _ _ => true
  | .upstreamFrameReceive _ b => !b.isEmpty
  | .mergeFrameSend => true
  | .localTimeFrameSend _ _ => true
  | .timeFrameReceive _ _ _ _ => true
  | .streamLossTimeout _ _ => true
  | .recentre _ _ _ => true
  | .portRoleWrite _ => true
  | .roleSave => true
  | .ping r => r.wf
  | .readReg _ r => r.wf
  | .writeReg _ r => r.wf
  | .modifyReg _ r => r.wf
  | .commit _ r => r.wf
  | .memWrite r => r.wf
  | .memRead r _ => r.wf
  | .checkRegion r => r.wf
  | .checkRegionDone _ => true
  | .overlaySet _ r => r.wf
  | .powerState _ r => r.wf
  | .faultRead r => r.wf
  | .faultAck r => r.wf
  | .faultClear r => r.wf
  | .faultInject r => r.wf
  | .updateStage r => r.wf
  | .stageWriteDone _ => true
  | .updateActivate r => r.wf
  | .updateConfirm r => r.wf
  | .updateRevert r => r.wf
  | .tuneRun r => r.wf
  | .eyeScan r => r.wf
  | .lifecycle r => r.wf
  | .identify r => r.wf
  | .regAccessTimeout _ _ r _ => r.wf
  | .registerWrite a _ => decide (a.toNat % 4 = 0)
  | .registerReadClear a => decide (a.toNat % 4 = 0)
  | .timeLoRead => true
  | .reedSyncReceive _ => true
  | .reedNop _ _ _ => true
  | .reedAssign _ _ _ => true
  | .reedAssignKeep _ _ _ => true
  | .reedWake _ _ _ => true
  | .reedSleep _ _ _ _ => true
  | .reedIdentify _ _ _ _ => true
  | .reedStatus _ _ _ => true
  | .reedFrameEnd _ rest => rest.all (fun f => decide (f.length = 6))
  | .reedLineBreak => true
  | .reedBreakClear => true
  | .reedBypassExit => true
  | .reedWakeDetect _ _ _ _ => true
  | .identifyToggle _ => true
  | .identifyEnd _ => true
  | .valveSettleExpiry _ => true
  | .powerEntryDone _ => true
  | .wakeTimer _ => true
  | .svcWake _ => true
  | .wakeRetry _ => true
  | .padRelease => true
  | .sensorConversion _ i c => c.wf i
  | .sensorStall _ => true
  | .substituteFloorEnd _ => true
  | .sensorRecovery _ _ => true
  | .throttleTick => true
  | .rateTick _ => true
  | .rateTestEnable => true
  | .thmCfgWrite _ => true
  | .hardLimitTrip _ => true
  | .safeInputChange _ _ _ => true
  | .discrepancyTimeout _ => true
  | .supplyTestPulse _ _ _ _ => true
  | .outputTestPulse _ _ _ _ _ => true
  | .feedbackInputChange _ _ _ => true
  | .feedbackTimeout _ => true
  | .restartEdge _ _ _ _ => true
  | .bcDemandFrame _ _ _ _ _ => true
  | .bcLossTimeout _ => true
  | .bcStatusRefresh _ => true
  | .heartbeatTimeout => true
  | .lockstepMismatch => true
  | .mutePathCheck _ _ _ _ _ _ => true
  | .capWordSend _ _ => true
  | .capWordTimeout _ _ => true
  | .safetyStartTestDone _ _ _ _ _ _ => true
  | .safetyUnlockKey _ _ _ => true
  | .unlockTimeout _ => true
  | .safetyParamWrite _ _ _ _ => true
  | .safeOutOvercurrent _ => true
  | .faultRecord => true
  | .faultLogCopyDone _ => true
  | .fltCfgWrite _ => true
  | .safetyImageCheck _ _ => true
  | .engineSelfTest _ _ => true
  | .crcChannelConfig _ _ => true
  | .crcChannelFeed _ _ _ => true
  | .refMonitorTick _ _ _ => true
  | .tuneRunDue _ => true
  | .tuneRunDone _ m => m.wf
  | .tuneStaleTimeout _ => true
  | .updateCheckDone _ => true
  | .standbyCoreReady _ => true
  | .loadTimeout _ => true
  | .handoverPoint _ _ => true
  | .supervisorTrip _ _ => true
  | .confirmTimeout _ => true
  | .trialTimeElapsed _ _ => true
  | .fallbackDone _ => true
  | .supplyGood _ _ => true
  | .supplyLost _ _ => true
  | .resetPin _ _ => true
  | .resetRequest _ => true
  | .watchdogTimeout _ => true
  | .startSequence _ inp => recordsWf inp.records && inp.measured.wf
  | .lifecycleEraseDone _ => true
  | .prailPgChange _ _ _ => true
  | .prailPgTimeout _ _ => true
  | .prailDelayExpiry _ => true
  | .prailCfgWrite _ => true
  | .svcRead _ _ => true
  | .svcWrite _ _ _ => true
  | .badOpcode _ r => r.wf
  | .standbyExitComplete _ => true
  | .rankPowerDown _ => true
  | .patternCheckerSync _ _ _ _ => true
  | .reedNoField _ _ _ _ => true
  | .reedFrameDiscard => true

end Sys2Proof
end

