-- ==== Sys2Proof/Tests/Slice0.lean ====
section
/-! SUPPORT. Sys2Proof/Tests/Slice0.lean: WellFormed refuses an ill-formed term for each of its checks; small steps against values
worked out from the spec by hand; and for every statement a state and operands that meet its hypotheses (`witness_<Name>`). -/

namespace Sys2Proof.Tests

open Machine

set_option Elab.async false



/-! ### WellFormed -/

/-- A request whose LEN is `len` and whose payload has `n` bytes. -/
def lenRequest (len : BitVec 16) (n : Nat) : Request := ⟨0, 0x20#8, 5#24, 1#8, 5#24, 9#24, 1#16, len, 0#32, List.replicate n 0#8, 0#32⟩

/-- Each check passes a term and refuses one that differs in what it checks: LEN and payload, also past 4,096 bytes. -/
theorem test_wf_request : (Instr.ping (lenRequest 4 4)).wf = true ∧ (Instr.ping (lenRequest 4 3)).wf = false ∧
    (Instr.ping (lenRequest 4097 3)).wf = true := by decide +kernel

/-- Frame lengths: a segment's header, FRAME_START, FRAME_END, forwarded and upstream frames, the fields of a Reed frame. -/
theorem test_wf_frames : (Instr.segmentCapture 0 (List.replicate 12 0) 0).wf = true ∧ (Instr.segmentCapture 0 (List.replicate 11 0) 0).wf = false ∧
    (Instr.frameStartReceive 0 0 (List.replicate 20 0)).wf = true ∧ (Instr.frameStartReceive 0 0 (List.replicate 19 0)).wf = false ∧
    (Instr.frameEndReceive 0 (List.replicate 12 0)).wf = true ∧ (Instr.frameEndReceive 0 (List.replicate 13 0)).wf = false ∧
    (Instr.frameForward 0 0 [.comma]).wf = true ∧ (Instr.frameForward 0 0 [.data [0]]).wf = false ∧
    (Instr.upstreamFrameReceive 0 [0]).wf = true ∧ (Instr.upstreamFrameReceive 0 []).wf = false ∧
    (Instr.reedFrameEnd 0 [[1, 2, 3, 4, 5, 6]]).wf = true ∧ (Instr.reedFrameEnd 0 [[1, 2, 3, 4, 5]]).wf = false := by decide +kernel

/-- Register addresses, means, readings, and a sensor's kind of conversion. -/
theorem test_wf_values : (Instr.registerWrite 4 0).wf = true ∧ (Instr.registerWrite 6 0).wf = false ∧ (Instr.registerReadClear 1).wf = false ∧
    (Instr.scanFrameStart 0 [[], [], [], [0]] 0).wf = true ∧ (Instr.scanFrameStart 0 [[], [], []] 0).wf = false ∧
    (Instr.senseSlot 0 0 (List.replicate 48 0) (List.replicate 48 0)).wf = true ∧
    (Instr.senseSlot 0 0 (List.replicate 47 0) (List.replicate 48 0)).wf = false ∧
    (Instr.senseSlot 0 0 (List.replicate 48 0) (List.replicate 49 0)).wf = false ∧
    (Instr.sensorConversion 0 19 (.tenths 0)).wf = true ∧ (Instr.sensorConversion 0 20 (.tenths 0)).wf = false ∧
    (Instr.sensorConversion 0 20 (.volts 0)).wf = true ∧ (Instr.sensorConversion 0 19 (.volts 0)).wf = false ∧
    (Instr.scanLineStart 0 0 0 { ramps := [⟨0, 63, false, 0⟩] }).wf = true ∧
    (Instr.scanLineStart 0 0 0 { ramps := [⟨0, 64, false, 0⟩] }).wf = false := by decide +kernel

/-- Panel records and the measurements of a tuning run, by themselves and in a start. -/
theorem test_wf_records : (Instr.eepromReadDone [none, none, some (List.replicate 256 0), none]).wf = true ∧
    (Instr.eepromReadDone [none, none, none]).wf = false ∧ (Instr.eepromReadDone [none, none, some [0], none]).wf = false ∧
    (Instr.tuneRunDone 0 ⟨[⟨191, 0, 0, 0⟩], [⟨6143, 0, 0⟩], [⟨7, List.replicate 8 0⟩], List.replicate 4 (0, 0)⟩).wf = true ∧ (Instr.tuneRunDone 0 ⟨[], [], [], []⟩).wf = false ∧
    (Instr.tuneRunDone 0 ⟨[⟨192, 0, 0, 0⟩], [], [], List.replicate 4 (0, 0)⟩).wf = false ∧ (Instr.tuneRunDone 0 ⟨[], [⟨6144, 0, 0⟩], [], List.replicate 4 (0, 0)⟩).wf = false ∧
    (Instr.tuneRunDone 0 ⟨[], [], [⟨8, List.replicate 8 0⟩], List.replicate 4 (0, 0)⟩).wf = false ∧
    (Instr.tuneRunDone 0 ⟨[], [], [⟨7, List.replicate 7 0⟩], List.replicate 4 (0, 0)⟩).wf = false ∧
    (Instr.startSequence 0 { records := [none, none, none, none] }).wf = true ∧ (Instr.startSequence 0 {}).wf = false ∧
    (Instr.startSequence 0 { records := [none, none, none, none], measured := ⟨[⟨192, 0, 0, 0⟩], [], [], List.replicate 4 (0, 0)⟩ }).wf = false := by decide +kernel

/-! ### States for the tests -/

/-- The state after reset with some fields of registers set. -/
def withFields (l : List (Fld × Nat)) (s : State := State.reset) : State := l.foldl (fun s e => s.wr e.1 e.2) s

/-- Both clauses of BridgeFlits: bridge 3 up, a good flit; and a wrong one as the eighth in a row. -/
theorem witness_BridgeFlits :
    (withFields [(F.SYS_ISLAND_STAT.QBR_UP, 15)]).undef = false ∧ (withFields [(F.SYS_ISLAND_STAT.QBR_UP, 15)]).bridgeUp 3 = true ∧
    flitGood ((withFields [(F.SYS_ISLAND_STAT.QBR_UP, 15)]).bridgeEnd 3 true) 0 0 (Config.flitCode 0 0) = true ∧
    flitGood ({ withFields [(F.SYS_ISLAND_STAT.QBR_UP, 15)] with br := { toDie := [default, default, default, ⟨5, 7⟩] } } |>.bridgeEnd 3 true) 0 0 0 = false := by
  refine ⟨by decide, by decide, ?_, by decide⟩
  simp [flitGood, State.bridgeEnd, withFields, nth, State.wr, State.setReg, State.reset]

/-- The device with flash write-backs due, the first of them in flight. -/
def flashing (l : List FlashJob) (s : State := State.reset) : State :=
  { s with gov.flash := l, gov.flashDue := l.map (fun _ => 0), gov.jobs := [{}, { running := true }, {}, {}, {}, {}] }

/-- LinearisationAndOverlay: a BUILD refused while one runs, one started, one with PEAK below its range, a LOAD from either side of
the free region's lower bound, and the ends of a BUILD and of a LOAD; an overlay
save and a restore that start, those that wait, RETIRED, and the ends of both. -/
theorem witness_LinearisationAndOverlay :
    ({ State.reset with pix.linOp := some (.load 0) } : State).linBusy = true ∧
    (depthOf ((withFields [(F.PIX_LIN_BUILD.PEAK, 100)]).rd F.PIX_CANVAS.FMT)).isSome = true ∧
    (withFields [(F.PIX_LIN_BUILD.PEAK, 100)]).linBusy = false ∧ (withFields [(F.PIX_LIN_BUILD.PEAK, 100)]).rd F.PIX_LIN_BUILD.TF ≤ 3 ∧
    100 ≤ (withFields [(F.PIX_LIN_BUILD.PEAK, 100)]).rd F.PIX_LIN_BUILD.PEAK ∧
    (withFields [(F.PIX_LIN_BUILD.PEAK, 99)]).rd F.PIX_LIN_BUILD.PEAK < 100 ∧
    linSrcOk 0x1C000000 = true ∧ linSrcOk 0x1BFFFFFC = false ∧
    ({ State.reset with pix.linOp := some (.build 1 0 1000 10) } : State).pix.linOp = some (.build 1 0 1000 10) ∧
    State.reset.lifecycle ≠ 4 ∧ State.reset.overlayBusy = false ∧
    ({ State.reset with sys.fuses := { retired := true } } : State).lifecycle = 4 ∧
    (withFields [(F.PIX_OVL_SAVE.BUSY, 1)]).overlayBusy = true ∧
    State.reset.noChannel = false ∧ State.reset.chk.waits = [] ∧ State.reset.chk.chans.length = 6 ∧ State.reset.hasChannel .linear = false ∧
    ({ State.reset with chk.chans := [none, some .linear, none, none, none, none] } : State).hasChannel .linear = true ∧
    (flashing [.overlaySave, .overlayRestore]).inFlight .overlaySave = true ∧
    (flashing [.overlayRestore, .stress]).inFlight .overlayRestore = true := by decide +kernel

/-- Capture runs and port 0 carries the stream followed, whose selection is LOST. -/
def capturing (s : State := State.reset) : State :=
  { withFields [(F.SYS_ISLAND_STAT.PIX_CLK, 1), (F.ZLP_SEL_STAT.STATE, 3), (F.ZLP_SEL_STAT.PORT, 0), (F.SYS_ISLAND_STAT.LNK_CLK, 1), (F.LNK_STAT.STATE 0, 5)] s with
    scn.running := true, capRegs := [(A.PIX_CANVAS, 0x80000001#32)] }

/-- A FRAME_END of frame 7 and a FRAME_START of frame 7 for time 0. -/
def endOf7 : List Byte := [18#8, 0#8, 7#8, 0#8, 0#8, 0#8, 0#8, 0#8, 221#8, 189#8, 111#8, 28#8]
def startOf7 : List Byte := [17#8, 0#8, 7#8, 0#8, 0#8, 0#8, 0#8, 0#8, 0#8, 0#8, 0#8, 0#8, 0#8, 0#8, 0#8, 0#8, 136#8, 99#8, 162#8, 15#8]

/-- CanvasFrameMarkers: a marker that fails, one that ends frame 7, a deadline reached, a frame-start accepted and one rejected. -/
theorem witness_CanvasFrameMarkers :
    (capturing.receives 0 = true ∧ capturing.captures 0 = true ∧ markerCheck [] 12 = false ∧ markerCheck [] 20 = false ∧
    markerCheck endOf7 12 = true ∧ markerCheck startOf7 20 = true ∧ capturing.capturing = true ∧
    ({ capturing with pix.bufs := [{}, {}, {}, { st := .filling, no := 7 }] } : State).bufIn .filling = some 3 ∧
    ({ capturing with pix.bufs := [{}, {}, {}, { st := .filling, no := 7 }] } : State).reached 0
      (({ capturing with pix.bufs := [{}, {}, {}, { st := .filling, no := 7 }] } : State).closingLead 0) = true ∧
    capturing.closeFilling.acceptsStart (fieldLE startOf7 8 8) = some 0 ∧
    ({ capturing with capRegs := [] } : State).closeFilling.acceptsStart (fieldLE startOf7 8 8) = none) ∧
    capturing.tryRevert false = capturing := ⟨by decide +kernel, rfl⟩

/-- A segment of one 8-bit pixel (1, 2, 3) at column 0, line 0 of frame 7. -/
def onePixel : List Byte := [16#8, 0#8, 7#8, 0#8, 0#8, 0#8, 0#8, 0#8, 1#8, 0#8, 1#8, 2#8, 3#8, 65#8, 43#8]

/-- The filling frame 7 in buffer 3, of 8-bit pixels. -/
def filling7 : State :=
  { capturing (withFields [(F.FMC_PNR.EN, 0)]) with
    capRegs := [(A.PIX_CANVAS, 0x80000000#32)]
    pix.bufs := [{}, {}, {}, { st := .filling, no := 7 }] }

/-- SegmentCapture: the last pixel of quadrant 3's window at scale 1 of buffer 3, not yet covered; a segment that fails, one of another format than the canvas, and one that is captured with the room it needs. -/
theorem witness_SegmentCapture :
    filling7.undef = false ∧ filling7.capturing = true ∧ filling7.captures 0 = true ∧ segmentCheck [] = false ∧
    segmentCheck onePixel = true ∧ capturing.segmentFits onePixel = false ∧ filling7.segmentFits onePixel = true ∧
    filling7.bufIn .filling = some 3 ∧ (filling7.buf 3).no = fieldLE onePixel 2 2 ∧ 4 * 64 * fieldLE onePixel 8 2 ≤ 256 ∧
    511 < windowSide (filling7.buf 3).geom 3 ∧ isCovered (filling7.buf 3) 3 511 511 = false ∧
    scaleOf (filling7.buf 3).geom 3 * scaleOf (filling7.buf 3).geom 3 ≤ 1 := by decide +kernel

/-- CapturedPixelReadsBack: a frame-start that takes buffer 0; a segment of one pixel at column 0, line 0, whose pixel is not yet covered,
and one of the same place whose pixel is. -/
theorem witness_CapturedPixelReadsBack :
    capturing.undef = false ∧ (capturing.buf 0).st ≠ .filling ∧
    (match exec (.frameStartReceive 0 0 startOf7) capturing with | .next t => decide ((t.buf 0).st = .filling) | _ => false) = true ∧
    filling7.undef = false ∧ filling7.capturing = true ∧ filling7.captures 0 = true ∧ segmentCheck onePixel = true ∧
    filling7.segmentFits onePixel = true ∧ filling7.bufIn .filling = some 3 ∧ (filling7.buf 3).no = fieldLE onePixel 2 2 ∧
    isCovered (filling7.buf 3) 0 0 0 = false ∧ 0 < windowSide (filling7.buf 3).geom 0 ∧ 0 < scaleOf (filling7.buf 3).geom 0 ∧
    ({ filling7 with pix.bufs := [{}, {}, {}, { filling7.buf 3 with covered := [(coverKey 0 0 0, true)] }] } : State).bufIn .filling = some 3 ∧
    isCovered ({ filling7.buf 3 with covered := [(coverKey 0 0 0, true)] }) 0 0 0 = true ∧ 4 * 64 * fieldLE onePixel 8 2 ≤ 256 := by
  decide +kernel

/-- A device that takes commands on port 0: step 4 of the start passed, ID 5 assigned, the selection LOST on port 0. -/
def listening (s : State := State.reset) : State :=
  withFields [(F.SYS_START.STEP, 12), (F.RLN_ID.ID, 5), (F.ZLP_SEL_STAT.STATE, 3), (F.ZLP_SEL_STAT.PORT, 0),
    (F.SYS_ISLAND_STAT.LNK_CLK, 1), (F.LNK_STAT.STATE 0, 5), (F.SYS_ISLAND_STAT.MEM_CLK, 1)] s

/-- A request of opcode `op` to device 5 from source 9, its CRC as given. -/
def request (arg : Word) (payload : List Byte) (crc : Word) : Request :=
  ⟨0, 0x20#8, 5#24, 1#8, 5#24, 9#24, 1#16, BitVec.ofNat 16 payload.length, arg, payload, crc⟩

/-- TableActivation: the command and the register write accepted, refused for the file, busy and in RETIRED; both ends of REVERT. -/
theorem witness_TableActivation :
    listening.gate 0x20 (request 0x20000000 [] 0xfb6746e0) = .run ∧ listening.memClk = true ∧ listening.lifecycle ≠ 4 ∧
    listening.noChannel = false ∧ listening.chk.waits = [] ∧ listening.chk.chans.length = 6 ∧
    listening.tblState = 0 ∧ tableSrcOk 0x20000000 = true ∧ tableSrcOk 0x20000002 = false ∧
    tableSrcOk (State.reset.rd F.CMP_TBL_SRC.ADDR) = true ∧ (withFields [(F.CMP_TBL_STAT.STATE, 3)]).tblState ≠ 0 ∧
    (withFields [(F.CMP_TBL_SRC.ADDR, 3)]).rd F.CMP_TBL_SRC.ADDR = 3 ∧ tableSrcOk 3 = false ∧
    ({ State.reset with sys.fuses := { retired := true } } : State).lifecycle = 4 ∧
    (listening { State.reset with sys.fuses := { retired := true } }).gate 0x20 (request 0x20000000 [] 0xfb6746e0) = .denied ∧
    listening.gate 0x20 (request 0x20000000 [0] 0xd9b5b0c5) = .run ∧
    ((listening.wr F.SYS_ISLAND_STAT.MEM_CLK 0).gate 0x20 (request 0x20000000 [] 0xfb6746e0) = .run) ∧
    State.reset.calCopy (1 - State.reset.rd F.CMP_TBL_STAT.FLASH_CUR) = none ∧
    ({ State.reset with flash.calB := some ⟨1, 0, {}, {}⟩ } : State).calCopy (1 - State.reset.rd F.CMP_TBL_STAT.FLASH_CUR)
      = some ⟨1, 0, {}, {}⟩ := by decide +kernel

/-- TableEngine: a check under way, with and without a channel, a build complete, and a save in flight. -/
theorem witness_TableEngine :
    ({ State.reset with cmp.checking := some (0x20000000, none) } : State).cmp.checking = some (0x20000000, none) ∧
    (withFields [(F.CMP_TBL_STAT.STATE, 2)]).tblState = 2 ∧
    (withFields [(F.CMP_TBL_STAT.STATE, 2)]).scn.due.any (fun d => d.ev == .slide) = false ∧
    ({ State.reset with chk.chans := [some .table, none, none, none, none, none] } : State).hasChannel .table = true ∧
    State.reset.hasChannel .table = false ∧ (flashing [.calibration]).noChannel = false ∧ (flashing [.calibration]).coldTrial = false ∧
    (withFields [(F.CHK_SELFTEST.CH_FAIL, 63)] (flashing [.calibration])).noChannel = true ∧
    (flashing [.calibration]).inFlight .calibration = true := by decide +kernel

/-- AgeingAndStress: a minute in ACTIVE, four hours unsaved, and a write-back in the queue. -/
theorem witness_AgeingAndStress :
    (State.reset.advance (sec 60)).awake = true ∧ sec 60 ≤ (State.reset.advance (sec 60)).cmp.ageTicks ∧
    (State.reset.advance (sec 14400)).awake = true ∧ sec 14400 ≤ (State.reset.advance (sec 14400)).cmp.unsaved ∧
    (flashing [.stress]).inFlight .stress = true ∧ (flashing [.stress]).noChannel = false ∧ (flashing [.stress]).coldTrial = false ∧
    (flashing [.stress]).sys.lifeDue = none ∧ (withFields [(F.CHK_SELFTEST.CH_FAIL, 63)] (flashing [.stress])).noChannel = true := by decide +kernel

/-- The operation that adds a STUCK_ON entry, word 0x8000_0090, for the first subpixel, and one that asks for operation 3. -/
def addStuck : List Byte := [0, 0, 0, 0, 0x90, 0, 0, 0x80]

/-- DefectsAndLadders: an edit that adds an entry, one that asks for operation 3, edits and none that complete, one without room any
more, and a ladder build under way. -/
theorem witness_DefectsAndLadders :
    listening.gate 0x21 (request 0 addStuck 0x2f64913e) = .run ∧ listening.memClk = true ∧
    editTable (request 0 addStuck 0) (editedBy listening.cmp.edits listening.cmp.defects) = .ok [0x80000090] ∧
    listening.gate 0x21 (request 0 [3, 0, 0, 0, 0, 0, 0, 0] 0xcd12552d) = .run ∧
    editTable (request 0 [3, 0, 0, 0, 0, 0, 0, 0] 0) (editedBy listening.cmp.edits listening.cmp.defects) = .error 16 ∧
    State.reset.cmp.edits = [] ∧ entryKind 0x80000090 = 2 ∧ entryFor State.reset.cmp.defects (entryKey 0x80000090) = none ∧
    ({ State.reset with cmp.edits := [request 0 addStuck 0] } : State).cmp.edits = [request 0 addStuck 0] ∧
    editTable (request 0 [3, 0, 0, 0, 0, 0, 0, 0] 0) State.reset.cmp.defects = .error 16 ∧
    ({ State.reset with hyb.building := some {} } : State).hyb.building = some {} ∧
    State.reset.scn.due.any (fun d => d.ev == .ladder) = false ∧ State.reset.hyb.building = none := by decide +kernel

/-- A closing buffer at scale 8 whose canvas is one pixel wide, or has no pixel at all. -/
def closing8 (size : Word) : FrameBuf :=
  { st := .closing, geom := [(A.PIX_CANVAS_SIZE, size), (A.PIX_WIN, 3#32), (A.PIX_WIN_ORG, 0#32)] }

theorem missing_none : missingCount (closing8 0#32) = 0 := by
  have h : ∀ q, missingPixels (closing8 0#32) q = [] := by
    intro q
    have hw : inWords (closing8 0#32).geom F.PIX_CANVAS_SIZE.WIDTH = 0 := by decide
    refine List.filter_eq_nil_iff.2 fun p _ => ?_
    simp only [isCovered, isOutside, hw, Nat.zero_le, decide_true, Bool.true_or, Bool.or_true, Bool.not_true]
    decide
  simp only [missingCount, h, List.length_nil, Nat.zero_mul, List.foldl, Nat.add_zero]

/-- FrameFill: a closing buffer with a pixel missing and MAX_HELD 0, one with nothing missing, and outside writes. -/
theorem witness_FrameFill :
    (({ State.reset with pix.bufs := [{}, {}, {}, closing8 0#32] } : State).buf 3).st = .closing ∧
    (withFields [(F.PIX_HOLD.MAX_HELD, 0)]).maxHeld < missingCount (closing8 0x10000001) ∧
    missingCount (closing8 0#32) ≤ (withFields [(F.PIX_HOLD.MAX_HELD, 0)]).maxHeld ∧ (closing8 0#32).outside = false ∧
    (({ State.reset with pix.bufs := [{}, {}, {}, { st := .filling, outside := true }] } : State).buf 3).outside = true := by
  rw [missing_none]
  decide +kernel

/-- In ACTIVE the scan-out runs and shows frames. -/
def showing (s : State := State.reset) : State := { withFields [(F.PWR_STATE.STATE, 0)] s with scn.running := true, pix.fallback := false }

/-- ScanDecision: a READY frame at the scheduled start, none with holds left, and none after the last hold. -/
theorem witness_ScanDecision :
    (showing.advance 0).decisionDue = true ∧ showing.mayDecide = true ∧ State.reset.mayDecide = false ∧
    ({ showing with pix.fallback := true } : State).mayDecide = true ∧
    ({ showing with pix.fallback := true } : State).firstReady ({ showing with pix.fallback := true } : State).followable = none ∧
    ({ showing with pix.bufs := [{ st := .ready }, {}, {}, {}] } : State).firstReady (fun pt => near pt showing.scheduled) = some 0 ∧
    showing.firstReady (fun pt => near pt showing.scheduled) = none ∧
    ¬ (inWords showing.comingRegs F.PIX_FALLBACK.MODE = 0 ∧ showing.maxHolds ≤ showing.pix.holds) ∧
    inWords ({ showing with pix.holds := 65535 } : State).comingRegs F.PIX_FALLBACK.MODE = 0 ∧
    ({ showing with pix.holds := 65535 } : State).maxHolds ≤ 65535 := by decide +kernel

/-- ScanFrameStarts: a start due with a frame decided on, a hold, the fallback image, with the decision still to make, in an entry, and one
not yet due. -/
theorem witness_ScanFrameStarts :
    (showing.advance 0).startDue = true ∧ showing.pwr.trans ≠ .entry ∧
    (∀ q : Quad, nth showing.scn.fits q.val = (true, showing.rd (F.SCN_QCFG.SCAN_DIR q.val))) ∧
    ({ showing with pix.decision := .show 3 } : State).pix.decision = .show 3 ∧ 3 < showing.pix.bufs.length ∧
    ({ showing with pix.decision := .show 3 } : State).startDue = true ∧
    ({ showing with pix.decision := .hold } : State).startDue = true ∧
    ({ showing with pix.decision := .fallback } : State).startDue = true ∧
    showing.decideFrame.startDue = true ∧ showing.decideFrame.pix.decision = .hold ∧
    ({ showing with pwr.trans := .entry } : State).startDue = true ∧
    ({ showing with pix.decision := .show 3, pix.bufs := [{}, {}, {}, { pt := sec 1 }] } : State).startDue = false := by decide +kernel

/-- In the frame shown: quadrants 0 and 1 in active lines, 2 at the end of them, and 3 before line 0. -/
def lines : State :=
  { showing with scn.anyFrame := true, scn.line := [0, 510, 511, 1023], pwr.rows := [true, true, true, true] }

/-- ScanLines: lines 1, 511 and 512 in their turn, one out of turn, a row whose lines are missing and one whose lines are there, a quadrant
that writes no rows, and line 0 after another quadrant's and as the first. -/
theorem witness_ScanLines :
    lines.lineNext 0 1 = true ∧ lines.lineNext 1 511 = true ∧ lines.lineNext 2 512 = true ∧ lines.lineNext 3 0 = true ∧
    lines.lineNext 0 2 = false ∧ lines.firstLine = false ∧
    ({ lines with scn.line := [1023, 1023, 1023, 1023] } : State).firstLine = true ∧
    lines.writesRows 1 = true ∧ lines.linesReady 1 511 = false ∧ showing.writesRows 1 = false ∧
    ({ lines with scn.fetched := [0, 512, 0, 0] } : State).linesReady 1 511 = true := by decide +kernel

/-- A reading of the panel records that has channel 3. -/
def reading : State := { withFields [(F.SCN_I2C.BUSY, 1)] with chk.chans := [none, none, none, some .eeprom, none, none] }

/-- PanelRecords: both sides of EE_READ, and a read that ends with a record of zeros and with none. -/
theorem witness_PanelRecords :
    (withFields [(F.SYS_ISLAND_STAT.QCLK, 15)]).allQClk = true ∧ (withFields [(F.SYS_ISLAND_STAT.QCLK, 7)]).allQClk = false ∧
    (withFields [(F.SCN_I2C.BUSY, 1)]).on F.SCN_I2C.BUSY = true ∧ State.reset.hasChannel .eeprom = false ∧
    reading.on F.SCN_I2C.BUSY = true ∧ reading.hasChannel .eeprom = true ∧ State.reset.noChannel = false ∧ State.reset.chk.waits = [] ∧
    State.reset.chk.chans.length = 6 ∧
    State.reset.on F.SCN_I2C.BUSY = false ∧ State.reset.scn.records.length = 4 ∧
    (List.replicate 256 (0#8)).length = 256 ∧
    nth [none, some (List.replicate 256 0#8), none, some (List.replicate 256 0#8)] 0 = (none : Option (List Byte)) ∧
    recordErr 1 (List.replicate 256 0#8) ≠ 0 := by decide +kernel

/-- The scan-out runs, Q0 is clocked and its glass is valid: sensing runs in Q0. -/
def sensingQ0 (s : State := showing) : State := withFields [(F.SYS_ISLAND_STAT.QCLK, 15), (F.SCN_EE_STAT.VALID 0, 1)] s

/-- One slot in the plan of Q0. -/
def planned (use : SlotUse) (s : State := sensingQ0) : State :=
  { s with sns.quads := [{ plan := [⟨0, 7, 3, use, false⟩] }, {}, {}, {}] }

/-- SenseSlotsAndSupply: plans with a sweep slot, the last of a sweep, a tuning slot and none, an overdue sweep, and comparisons below and
above the thresholds, one of them the last of PERSIST behind an unproductive burst. -/
theorem witness_SenseSlotsAndSupply :
    (planned .sweep).sensing 0 = true ∧ showing.sensing 1 = false ∧ (sensingQ0.sq 0).plan = [] ∧
    (((planned .sweep).advance 0).sq 0).plan = [⟨0, 7, 3, .sweep, false⟩] ∧
    (((planned .tuning).advance 0).sq 0).plan = [⟨0, 7, 3, .tuning, false⟩] ∧ (planned .sweep).rd (F.SNS_QSTAT.SWEEP_POS 0) + 1 < 16384 ∧
    16384 ≤ (withFields [(F.SNS_QSTAT.SWEEP_POS 0, 16383)] (planned .sweep)).rd (F.SNS_QSTAT.SWEEP_POS 0) + 1 ∧
    ({ sensingQ0 with sns.quads := [{ sweepRun := 15360000000000 }, {}, {}, {}] } : State).sensing 0 = true ∧
    15360000000000 ≤ ({ sensingQ0 with sns.quads := [{ sweepRun := 15360000000000 }, {}, {}, {}] } : State).sweepAge 0 ∧
    showing.on F.SNS_ISNS_CFG.EN = true ∧ showing.scn.running = true ∧ State.reset.scn.running = false ∧ showing.ipredFrame 0 = 0 ∧
    ¬ (showing.rd F.SNS_ISNS_CFG.ABS * max 1 (showing.rd F.SNS_ISNS_SHUNT.SHUNT) * 1 ≤ 0) ∧
    showing.rd F.SNS_ISNS_CFG.ABS * max 1 (showing.rd F.SNS_ISNS_SHUNT.SHUNT) ≤ 5000 ∧
    (({ showing with sns.quads := [{ unproductive := true, trigRun := 3 }, {}, {}, {}] } : State).sq 0).trigRun + 1
      = max 1 (showing.rd F.SNS_ISNS_CFG.PERSIST) := by decide +kernel

/-- R147 and R408 by hand: code 0x800 is 2,800.0 mV; with gain 655/65536 and offset -3 it is 2,827.7 mV. -/
theorem test_corrected : corrected ⟨0, 0⟩ 0x800 = 28000 ∧ corrected ⟨655, -3⟩ 0x800 = 28277 := by decide +kernel

/-- One measured unit of Q0 on scan line 7 at mux position 3, ADC 0 at 250.0 mV, waiting for its result. -/
def measured (use : SlotUse) (zero : Bool) (s : State := sensingQ0) : State :=
  { s with sns.inflight := [⟨0, ⟨0, 7, 3, use, zero⟩, 0, [], [2400], [2500]⟩] }

/-- The subpixel that ADC 0 measures there, as a STUCK_ON candidate. -/
def standing (s : State := sensingQ0) : State := { s with sns.quads := [{ cands := [⟨10755, 2, 0⟩] }, {}, {}, {}] }

/-- A median in every colour of Q0. -/
def referenced (s : State := sensingQ0) : State := { s with sns.quads := [{ median := [some 24000, some 24000, some 24000] }, {}, {}, {}] }

/-- SenseReadings: no unit, one of the sweep, one of a burst with a reference, and zero-current confirmations with and without their
candidate, above and below STUCK_V0. -/
theorem witness_SenseReadings :
    sensingQ0.sns.inflight = [] ∧
    (measured .sweep false).sns.inflight = [⟨0, ⟨0, 7, 3, .sweep, false⟩, 0, [], [2400], [2500]⟩] ∧
    (measured .sweep false).adcFailed 0 0 = false ∧ ((measured .sweep false).measured 0 7 3 0).1 = 10755 ∧
    (measured .burst false referenced).refOf 10755 = some 24000 ∧
    (measured (.confirm 10755 2) true).stands 10755 2 = false ∧ (measured (.confirm 10755 2) true standing).stands 10755 2 = true ∧
    nth [2500] 0 < (measured (.confirm 10755 2) true).rd F.SNS_THR_S.STUCK_V0 * 10 ∧
    (withFields [(F.SNS_THR_S.STUCK_V0, 250)] (measured (.confirm 10755 2) true)).rd F.SNS_THR_S.STUCK_V0 * 10 ≤ nth [2500] 0 ∧
    sensingQ0.sns.requests = [] ∧ (∀ e ∈ sensingQ0.sns.baseNew, e.1 < 3145728) := by
  decide +kernel

def senseHead : SenseReq := ⟨1, 0, 1, 0, 0, 0, 0, false, [5], 0, false⟩

/-- SenseRequests: accepted in an empty queue and behind another request, complete at once with sensing off, and refused for
its mode, for a field and for a full queue. -/
theorem witness_SenseRequests :
    (listening sensingQ0).gate 0x48 (request 0 [0,1,0,0,0,0,0,0,0,0,0,0] 0x62f74dce) = .run ∧
    (listening sensingQ0).gate 0x48 (request 0 [0,2,0,0,0,0,0,0,0,0,0,0] 0xde89237c) = .run ∧
    (listening sensingQ0).gate 0x48 (request 0 [4,1,0,0,0,0,0,0,0,0,0,0] 0xa7301d0e) = .run ∧
    (listening sensingQ0).gate 0x48 (request 0 [0,0,0,0,0,0,0,0,0,0,0,0] 0xf586ba0f) = .run ∧
    (listening sensingQ0).sensing 0 = true ∧ (listening sensingQ0).sns.requests = [] ∧ (listening sensingQ0).lifecycle = 2 ∧
    ({ listening sensingQ0 with sns.requests := [senseHead] } : State).sns.requests = senseHead :: [] ∧ senseHead.todo ≠ [] ∧
    256 ≤ ({ listening sensingQ0 with sns.requests := List.replicate 256 senseHead } : State).sns.requests.length ∧
    (listening sensingQ0).rectUnits 0 0 0 0 0 ≠ [] ∧ listening.sensing 0 = false := by decide +kernel

/-- ACTIVE with a clocked pixel island, buffer 0 READY, and its evaluation in progress. -/
def governed (s : State := State.reset) : State :=
  { withFields [(F.PWR_STATE.STATE, 0), (F.SYS_ISLAND_STAT.PIX_CLK, 1)] s with pix.bufs := [{ st := .ready }, {}, {}, {}], gov.eval := some 0 }

/-- A governor with a budget of 10 W and a valid curve for every colour. -/
def budgeted : State :=
  let s := withFields [(F.GOV_BUDGET.PEAK, 100), (F.GOV_CFG.EN, 1)] governed
  { s with gov.curves := List.replicate 3 (0 :: List.replicate 16 100), gov.inUse := s.regs.filter (fun e => e.1 / 0x10000 == 9) }

/-- GovernorEvaluation: with no governor, with no evaluation, with a frame that is READY no more, and with one that is, a budget that
acts and gives a power, and the update in TRIAL and not. -/
theorem witness_GovernorEvaluation :
    (State.reset.advance 0).governing = false ∧ State.reset.gov.eval = none ∧ (budgeted.advance 0).governing = true ∧ budgeted.gov.eval = some 0 ∧
    (budgeted.advance 0).inTime 0 = true ∧ (({ budgeted with pix.bufs := [{}, {}, {}, {}] } : State).advance 0).inTime 0 = false ∧
    (({ budgeted with pix.bufs := [{ st := .showing }, {}, {}, {}] } : State).advance 0).inTime 0 = true ∧
    jobFlash < 6 ∧ budgeted.forcedCopy = false ∧ ({ budgeted with flt.copies := [{ (default : LogRec) with cls := 3 }] } : State).forcedCopy = true ∧
    (budgeted.advance 0).budgetActs = true ∧ (budgeted.advance 0).pallow = some (10000 * milliwatt) ∧ governed.budgetActs = false ∧
    budgeted.rd F.UPD_STAT.STATE ≠ 5 ∧ budgeted.rd F.UPD_STAT.STATE ≠ 6 ∧ (withFields [(F.UPD_STAT.STATE, 5)] budgeted).rd F.UPD_STAT.STATE = 5 ∧
    budgeted.gov.jobs.length = 6 := by decide +kernel

/-- JobsAndStall: four frames missed, a FLASH job due for 30 minutes and one not due yet, jobs told to pause and running. -/
theorem witness_JobsAndStall :
    4 ≤ ({ State.reset with gov.missed := 4 } : State).gov.missed ∧ State.reset.on F.GOV_FLAGS.STALLED = false ∧
    ((State.reset.setJob 1 { pending := true }).job 1).dueAt + 460800000000000 ≤ ((State.reset.setJob 1 { pending := true }).advance (sec 1800)).now ∧
    ((State.reset.setJob 1 { pending := true }).job 1).forced = false ∧ ((State.reset.setJob 1 { pending := true }).job 1).pending = true ∧
    (State.reset.advance 0).now < 0 + 153600000000000 ∧ ((State.reset.setJob 1 { forced := true }).job 1).forced = true ∧
    State.reset.gov.scrubAt + 22118400000000000 ≤ (State.reset.advance (sec 86400)).now ∧
    ((State.reset.setJob 5 { running := true }).job 5).dueAt + 2560000000000 ≤ ((State.reset.setJob 5 { running := true }).advance (sec 10)).now ∧
    ((State.reset.setJob 2 { pausing := true }).job 2).pausing = true ∧ ((State.reset.setJob 1 { pausing := true }).job 1).pausing = true ∧
    ({ State.reset with sys.lifeDue := some (3, 0) } : State).sys.lifeDue = some (3, 0) ∧ State.reset.sys.lifeDue = none ∧
    ({ showing with scn.anyFrame := true, scn.line := [1023, 1023, 1023, 1023] } : State).lineNext 0 0 = true ∧
    ((governed { showing with scn.anyFrame := true }).advance 0).governing = true ∧ (governed { showing with scn.anyFrame := true }).firstLine = true ∧
    (governed { showing with scn.anyFrame := true }).ceilingsStand = false ∧ (State.reset.job 2).pausing = false ∧
    ((State.reset.setJob jobScrub { running := true }).job jobScrub).running = true ∧ (State.reset.job jobScrub).running = false := by decide +kernel

/-- PD_EN with a clocked memory island, in ACTIVE. -/
def resting : State := withFields [(F.FMC_PD.PD_EN, 1), (F.SYS_ISLAND_STAT.MEM_CLK, 1)]

/-- DramUpkeep: in self-refresh and not, a queue with an entry of bank 3 at the edge of the bank, one whose bank has a request, a full
queue, and both sides of power-down. -/
theorem witness_DramUpkeep :
    State.reset.fmc.selfRefresh = false ∧ State.reset.realTimeFirst = false ∧
    ({ (withFields [(F.SCN_LBUF.URGENT 0, 1)]) with fmc.queue := [⟨.scan 0 1 true, 0x20000040, false⟩] } : State).realTimeFirst = true ∧ ({ State.reset with fmc.selfRefresh := true } : State).fmc.selfRefresh = true ∧
    ({ State.reset with fmc.pnr := [(3, 0)] } : State).fmc.pnr.find? (fun x => x.1 == 3) = some (3, 0) ∧
    (∀ r ∈ State.reset.fmc.queue, (dramPlace State.reset.dramOrder (r.addr % 2 ^ 31)).1 ≠ 3) ∧ State.reset.urgent 0 = false ∧
    (dramPlace State.reset.dramOrder ((⟨.core, 0x3000, false⟩ : MemReq).addr % 2 ^ 31)).1 = 3 ∧
    ({ State.reset with fmc.pnr := List.replicate 16 (5, 16383) } : State).fmc.pnr.head? = some (5, 16383) ∧
    16 ≤ ({ State.reset with fmc.pnr := List.replicate 16 (5, 16383) } : State).fmc.pnr.length ∧ State.reset.fmc.pnr.length < 16 ∧
    resting.on F.FMC_PD.PD_EN = true ∧ resting.memClk = true ∧ resting.awake = true ∧
    nth resting.fmc.lastReq 1 + 320 * (if resting.rd F.FMC_PD.TIMER = 0 then 16 else resting.rd F.FMC_PD.TIMER) ≤ (resting.advance (us 400)).now ∧
    ¬ nth resting.fmc.lastReq 1 + 320 * (if resting.rd F.FMC_PD.TIMER = 0 then 16 else resting.rd F.FMC_PD.TIMER) ≤ (resting.advance 0).now ∧
    (withFields [(F.FMC_PD.PD_EN, 0)]).on F.FMC_PD.PD_EN = false := by decide +kernel

/-- A running RETRAIN job. -/
def retraining (s : State := State.reset) : State := s.setJob jobRetrain { running := true }

/-- Between two frames, with four lines of the coming one complete in every quadrant. -/
def bufferedAhead : State := { State.reset with scn.line := [600, 600, 600, 600], scn.ahead := [5, 5, 5, 5] }

/-- Retraining: due by time, by temperature and after a failure, and not due; requested in every case, a step allowed and not allowed,
and the end of a run with a request held and without. -/
theorem witness_Retraining :
    State.reset.fmc.retryAt = none ∧
    921600000000000 * max 1 (State.reset.rd F.FMC_TRAIN.INTERVAL) ≤ (State.reset.advance (sec 360000)).now - State.reset.fmc.trainAt ∧
    10 * max 1 (State.reset.rd F.FMC_TRAIN.DELTA_T)
      ≤ ((withFields [(F.THM_T.TEFF 16, 600)]).memoryTemp - signed 16 (State.reset.rd F.FMC_TRAIN_STAT.LAST_T)).natAbs ∧
    ({ State.reset with fmc.retryAt := some 5 } : State).fmc.retryAt = some 5 ∧ State.reset.on F.FMC_TRAIN_STAT.BUSY = false ∧
    (withFields [(F.FMC_TRAIN_STAT.BUSY, 1)]).on F.FMC_TRAIN_STAT.BUSY = true ∧ State.reset.job jobRetrain = { dueAt := 0 } ∧
    State.reset.gov.jobs.length = 6 ∧ retraining.gov.jobs.length = 6 ∧ (retraining.job jobRetrain).running = true ∧
    (retraining bufferedAhead).urgent 0 = false ∧ (∀ q : Quad, bufferedAhead.watermark q < bufferedAhead.bufLevel q) ∧
    (State.reset.job jobRetrain).running = false ∧
    ({ retraining with fmc.reqHeld := true } : State).fmc.reqHeld = true ∧ retraining.fmc.reqHeld = false := by decide +kernel

/-- The scan-out runs with the memory island clocked. -/
def clockedShow : State := withFields [(F.SYS_ISLAND_STAT.MEM_CLK, 1)] showing

/-- A read of the last burst of a line, and one of a core. -/
def lineRead : MemReq := ⟨.scan 1 511 true, 0x20000040, false⟩
def coreRead : MemReq := ⟨.core, 0x20000080, false⟩

/-- Quadrant 0 is urgent. -/
def pressed : State := withFields [(F.SCN_LBUF.URGENT 0, 1)] clockedShow

/-- DramReads: a queue that a read leaves, one with no read, a real-time request behind another under urgency, reads of a scan line and
of a core, in the fetch lead and before it; a request for four bytes of DRAM taken with the memory island clocked and not clocked, with a
failed burst and without, and one misaligned. -/
theorem witness_DramReads :
    (State.serveReads 1 (showing.enqueue [lineRead])).1 = some lineRead ∧ (State.serveReads 0 showing).1 = none ∧
    pressed.anyUrgent = true ∧ (servable [coreRead, lineRead] []).any realTime = true ∧
    (State.serveReads 2 (pressed.enqueue [coreRead, lineRead])).1 = some lineRead ∧
    (State.serveReads 2 (showing.enqueue [coreRead, ⟨.core, 0x20000081, false⟩])).1 = some coreRead ∧
    portLine lineRead.port = some (1, 511, true) ∧ portLine coreRead.port = none ∧ clockedShow.memClk = true ∧ showing.memClk = false ∧
    ({ State.reset with fmc.pnr := List.replicate 16 (5, 16383) } : State).fmc.pnr = (5, 16383) :: List.replicate 15 (5, 16383) ∧ showing.fmc.queue = [] ∧ showing.fmc.held = [] ∧
    State.reset.fetchLead = false ∧ (showing.advance (sec 1)).fetchLead = true ∧ State.reset.fmc.openRow.length = 32 ∧
    State.reset.fmc.pnr.length < 16 ∧
    listening.gate 0x11 (request 0x20000000 [4, 0, 0, 0] 0x19605db) = .run ∧
    memReadRange (request 0x20000000 [4, 0, 0, 0] 0x19605db) = none ∧ listening.memClk = true ∧
    (withFields [(F.SYS_ISLAND_STAT.MEM_CLK, 0)] listening).memClk = false ∧
    memReadRange (request 0x20000002 [4, 0, 0, 0] 0) = some 12 ∧ firmwareByte 0x20000000 = false ∧
    burstsOf 0x20000000 4 [(0, .failed), (1, .failed)] = [(0, .failed)] := by decide +kernel

/-- DramWrites: four bytes for the region above the tables, for the result array, and a length of three. -/
theorem witness_DramWrites :
    listening.gate 0x10 (request 0x20000000 [1, 2, 3, 4] 0xadfc409d) = .run ∧
    memWriteRange (request 0x20000000 [1, 2, 3, 4] 0xadfc409d) = none ∧
    listening.memUndefined 0x20000000 [1, 2, 3, 4] = false ∧ listening.cmp.applied.length = 2 ∧
    listening.gate 0x10 (request 0x0E000000 [1, 2, 3, 4] 0x199b7e4) = .run ∧
    memWriteRange (request 0x0E000000 [1, 2, 3, 4] 0x199b7e4) = none ∧
    listening.memUndefined 0x0E000000 [1, 2, 3, 4] = true ∧ Sparse.wf resetWord listening.regs = true ∧
    listening.memWf = true ∧
    listening.gate 0x10 (request 0x20000000 [1, 2, 3] 0x10ce1ba2) = .run ∧
    memWriteRange (request 0x20000000 [1, 2, 3] 0x10ce1ba2) = some 10 ∧
    (withFields [(F.SYS_ISLAND_STAT.MEM_CLK, 0)] listening).memClk = false ∧ listening.memClk = true := by decide +kernel

/-- Port 0 in a state of its bring-up, with REFCLK. -/
def stage (st : Nat) (s : State := State.reset) : State :=
  withFields ([(F.LNK_STAT.STATE 0, st), (F.LNK_TXCLK.REFCLK_OK, 1), (F.SYS_ISLAND_STAT.LNK_CLK, 1)]
    ++ [0, 1, 2, 3].map (fun k => (F.LNK_LSTAT.RX_STATE 0 k, 0))) s

/-- A training set of type `ty` on lane 0, and its symbols. -/
def tset (ty : Byte) : TSet := ⟨ty, 0, 1, 3, 1, 1, 1, 7, 3, 1⟩
def setWord (ty : Byte) : List Symbol := setSymbols false (tset ty)

/-- Port 0 in EXCHANGE on one lane, with the same TS3 received four times before. -/
def exchanging (w : Nat := 1) : State :=
  { withFields [(F.LNK_STAT.RX_USED 0, 1)] (stage 4) with
    lnk.ports := [{ width := w, lanes := [{ last := some (tset 0xB3), same := 4, run := 4 }, {}, {}, {}] }, {}, {}, {}] }

/-- Port 0 in TRAIN with lane 0 in sync, adapted and reported ready. -/
def readyToLock : State :=
  withFields [(F.LNK_LSTAT.SYNC 0 0, 1)] { stage 2 with lnk.ports := [{ ready := 1, lanes := [{ adapted := true }, {}, {}, {}] }, {}, {}, {}] }

/-- Port 0 in LOCK with lane 0 in sync. -/
def inSync : State := withFields [(F.LNK_LSTAT.SYNC 0 0, 1)] (stage 3)

/-- R210 and R217 by the published tables: D.0.0 is 100111 0100 at negative and 011000 1011 at positive disparity, and a set reads back,
also with its polarity inverted; one with a symbol too many ones reads as nothing. A wrong D.0.0 sets the disparity right again. -/
theorem test_line_code : dataSymbol false 0 = 0b1001110100#10 ∧ dataSymbol true 0 = 0b0110001011#10 ∧
    receive false 0b1001110100#10 = .data 0 ∧ receive true 0b1001110100#10 = .disp ∧ receive false 0b1111111111#10 = .code ∧
    receiveAll true [0b1001110100#10, 0b1001110100#10] = [.disp, .data 0] ∧
    receiveSet (setWord 0xB3) = some (tset 0xB3, false) ∧
    receiveSet ((setWord 0xB3).map (fun w => ~~~w)) = some (tset 0xB3, true) ∧
    receiveSet (0b1111111111#10 :: (setWord 0xB3).drop 1) = none := by decide +kernel

/-- PortBringUp: every stage, both results of an exchange and its undefined case, an equaliser in its middle and at its end, and both
attempt counts; a set, an erroneous one, and a lane that does not listen. -/
theorem witness_PortBringUp :
    (stage 1).portState 0 = 1 ∧ (stage 1).refclkOk = true ∧ (stage 2).portState 0 = 2 ∧ (stage 3).portState 0 = 3 ∧
    State.reset.refclkOk = false ∧ (stage 3).portState 0 ≠ 2 ∧
    (withFields [(F.LNK_LSTAT.SYNC 0 0, 1)] (stage 2)).syncLane 0 0 = true ∧ (stage 2).on (F.LNK_RX.CTLE_MODE 0) = false ∧
    (({ stage 2 with lnk.ports := [{ lanes := [{ ctleNext := 15 }, {}, {}, {}] }, {}, {}, {}] } : State).lane 0 0).ctleNext = 15 ∧
    ((stage 2).lane 0 0).ctleNext < 15 ∧ (stage 2).allAdapted 0 = true ∧ (stage 2).widthNow 0 = 0 ∧ (stage 2).lnk.ports.length = 4 ∧
    1 ≤ readyToLock.widthNow 0 ∧ readyToLock.allAdapted 0 = true ∧
    (stage 2).on (F.LNK_LSTAT.SYNC 0 3) = false ∧ ((stage 3).lport 0).maxRate = 1 ∧ (stage 3).rd (F.LNK_STAT.ATTEMPTS 0) < 2 ∧
    2 ≤ (withFields [(F.LNK_STAT.ATTEMPTS 0, 2)] (stage 3)).rd (F.LNK_STAT.ATTEMPTS 0) ∧
    State.reset.listens 0 0 = false ∧ (stage 4).listens 0 0 = true ∧ exchanging.listens 0 0 = true ∧ exchanging.portState 0 = 4 ∧
    ((stage 4).lane 0 0).last ≠ some (tset 0xB3) ∧ ((stage 4).lane 0 0).commas < 2 ∧ (exchanging.lane 0 0).last = some (tset 0xB3) ∧
    2 ≤ (({ stage 2 with lnk.ports := [{ lanes := [{ commas := 2 }, {}, {}, {}] }, {}, {}, {}] } : State).lane 0 0).commas ∧
    (stage 4).setHeard 0 0 (setWord 0xB3) = some (tset 0xB3, false) ∧ (stage 4).hears 0 0 = false ∧ (stage 4).setHeard 0 0 [] = none ∧
    (inSync).hears 0 0 = true ∧ inSync.setHeard 0 0 (setWord 0xB3) = some (tset 0xB3, false) ∧
    (inSync.hear 0 0 (setWord 0xB3)).on (F.LNK_LSTAT.SYNC 0 0) = true ∧
    ((exchanging.hear 0 0 (setWord 0xB3)).noteSet 0 0 false 0 (setWord 0xB3) (tset 0xB3)).allRx 0 (fun j =>
      decide (5 ≤ (((exchanging.hear 0 0 (setWord 0xB3)).noteSet 0 0 false 0 (setWord 0xB3) (tset 0xB3)).lane 0 j).same)) = true ∧
    (tset 0xB3).width.toNat = (exchanging.lport 0).width ∧ exchanging.rd (F.LNK_STAT.SKEW 0) < 2 ∧
    2 ≤ (withFields [(F.LNK_STAT.SKEW 0, 2)] exchanging).rd (F.LNK_STAT.SKEW 0) ∧
    (tset 0xB3).txUsed.toNat % 16 = ((exchanging.hear 0 0 (setWord 0xB3)).noteSet 0 0 false 0 (setWord 0xB3) (tset 0xB3)).ts3Lanes 0 ∧
    (tset 0xB3).version = 0x01#8 ∧ (tset 0xB3).width.toNat ≠ ((exchanging 2).lport 0).width := by decide +kernel

/-- Port 0 ACTIVE with lane 0 in use, and the same lane warned by an IDLE set. -/
def inUse : State := withFields [(F.LNK_STAT.RX_USED 0, 1), (F.LNK_LSTAT.SYNC 0 0, 1), (F.LNK_LSTAT.SYNC 0 1, 1)] (stage 5)
def warned : State := { inUse with lnk.ports := [{ lanes := [{ last := some (tset 0xB4), same := 2 }, {}, {}, {}] }, {}, {}, {}] }

/-- Four symbols in error. -/
def noise : List Symbol := List.replicate 4 0b1111111111#10

/-- PortsAndClocks: an ACTIVE port with lane 0 in use, warned and not, a lane not in use, symbols with four errors and with none, a port in
each kind of state, REFCLK present and not, and holdover. -/
theorem witness_PortsAndClocks :
    inUse.rxInUse 0 0 = true ∧ inUse.rd (F.LNK_LSTAT.RX_STATE 0 0) = 0 ∧ inUse.rxInUse 0 1 = false ∧
    inUse.listens 0 0 = true ∧ inUse.hears 0 0 = true ∧ inUse.hears 0 1 = true ∧ (stage 5).hears 0 0 = false ∧
    losesSync ((receiveAll (inUse.lane 0 0).rd noise).map isError) = true ∧ losesSync [] = false ∧ 2 ≤ (warned.lane 0 0).same ∧
    warned.selPort ≠ some 0 ∧ (stage 4).lnkClk = true ∧ State.reset.lnkClk = false ∧
    (inUse.lane 0 0).last = none ∧ (warned.lane 0 0).last = some (tset 0xB4) ∧ (tset 0xB4).ty = 0xB4#8 ∧
    (stage 5).portState 0 = 5 ∧ (stage 4).portState 0 = 4 ∧ (stage 1).portState 0 = 1 ∧ (stage 6).portState 0 = 6 ∧
    (stage 4).refclkOk = true ∧ State.reset.refclkOk = false ∧ (stage 4).portState 1 < 2 ∧
    (withFields [(F.LNK_TXCLK.HOLDOVER, 1)]).on F.LNK_TXCLK.HOLDOVER = true ∧ State.reset.on F.LNK_TXCLK.HOLDOVER = false ∧
    ({ State.reset with lnk.txTarget := some 2 } : State).lnk.txTarget ≠ none ∧ State.reset.lnk.txTarget = none := by decide +kernel

/-- Port 3 has no partner by role (OFF) once ZLP_ROLE says so; here it stands in TEST with all its lanes, in a mode. -/
def testing (mode : Nat := 4) : State :=
  withFields [(F.ZLP_ROLE.ROLE_P3, 0), (F.SYS_ISLAND_STAT.LNK_CLK, 1), (F.LNK_STAT.STATE 3, 6), (F.LNK_PAT_CFG.MODE 3, mode), (F.LNK_PAT_ERR.PSYNC 3 1, 1)]

/-- A PATTERN_TEST of mode 4 on port 3 for 1 ms. -/
def patternReq (crc : Word) : Request := request 0 [3, 4, 0, 1, 15, 0, 0, 0, 1, 0, 0, 0] crc

/-- LaneTests: errors, roles OFF and not OFF, TEST and not, every kind of mode, and the command accepted, denied, refused and at its
end. -/
theorem witness_LaneTests :
    (receiveAll false noise).countP (· == .code) = 4 ∧ (receiveAll false noise).countP (· == .disp) = 0 ∧
    (inUse.hear 0 0 noise).on (F.LNK_LSTAT.SYNC 0 0) = false ∧ (inUse.hear 0 0 []).on (F.LNK_LSTAT.SYNC 0 0) = true ∧
    testing.now < (testing.lport 3).patAt + 256000000 * pWord (patternReq 0) 8 ∧ testing.lnkClk = true ∧
    testing.role 3 = 0 ∧ State.reset.role 0 ≠ 0 ∧ testing.portState 3 = 6 ∧ State.reset.portState 0 ≠ 6 ∧
    testing.rd (F.LNK_PAT_CFG.MODE 3) = 4 ∧ (testing 2).rd (F.LNK_PAT_CFG.MODE 3) = 2 ∧ (testing 1).rd (F.LNK_PAT_CFG.MODE 3) = 1 ∧
    bitsAt (testing.rd (F.LNK_PAT_CFG.LANES 3)) 1 1 = 1 ∧ testing.lnk.ports.length = 4 ∧ (testing.lport 3).lanes.length = 4 ∧
    testing.on (F.LNK_PAT_ERR.PSYNC 3 1) = true ∧ bitsAt (4#32).toNat 0 3 = 4 ∧ bitsAt (5#32).toNat 0 3 = 5 ∧
    bitsAt (0x14#32).toNat 4 3 ≠ testing.rd (F.LNK_PAT_CFG.PATTERN 3) ∧
    (listening testing).gate 0x79 (patternReq 0xcd2339dd) = .run ∧
    listening.gate 0x79 (patternReq 0xcd2339dd) = .run ∧
    patternRange (patternReq 0) = none ∧ quadOf (pByte (patternReq 0) 0) = 3 ∧ listening.role 3 ≠ 0 ∧
    listening.gate 0x79 (request 0 [] 0xee8d60a4) = .run ∧
    ({ testing with cmd.places := [⟨0x79, patternReq 0, 5, false⟩] } : State).cmd.places = [⟨0x79, patternReq 0, 5, false⟩] ∧
    pByte (patternReq 0) 0 = 3 ∧ testing.cmd.places = [] := by decide +kernel

/-- R231: the clock pattern alternates; a checker of it is in sync after 64 bits behind the first, and an error in sync counts. -/
theorem test_checker :
    (((List.replicate 33 [true, false]).flatten.foldl (checkBit 4) ({}, false, 0)).2 = (true, 0)) ∧
    (((List.replicate 33 [true, false]).flatten ++ [false, false]).foldl (checkBit 4) ({}, false, 0)).2 = (true, 1) := by decide +kernel

/-- Port 0 ACTIVE on lane 0, which receives. -/
def receiving (s : State := stage 5) : State := withFields [(F.LNK_STAT.RX_USED 0, 1)] s

/-- A measurement of lane 0 of port 0 under way, with the EYE job admitted. -/
def measuringEye (s : State := receiving) : State :=
  { (withFields [(F.LNK_EYE_CFG.BUSY 0 0, 1)] s).setJob jobEye { running := true } with lnk.eyeDue := [(0, 0)] }

/-- An EYE_SCAN of lane 0 of port 0 at work on its last, or last but one, point. -/
def scanningEye (points : List (Nat × Nat)) : State :=
  { measuringEye with lnk.eyes := [⟨9, 1, 0, 0, 3, points, [7], true⟩], cmd.places := [⟨0x78, request 0 [] 0, 5, false⟩] }

/-- Two EYE_SCAN commands of one lane, the first on its last point. -/
def twoScans : State := { scanningEye [(1, 1)] with lnk.eyes := [⟨9, 1, 0, 0, 3, [(1, 1)], [7], true⟩, ⟨9, 2, 0, 0, 3, [(2, 2)], [], false⟩] }

/-- EyeScans: lanes in use and not, a busy lane without and with a command, its last point and one before, and EYE_SCAN accepted on a free
and on a busy lane, with an empty grid, for a bad port and without a clock. -/
theorem witness_EyeScans :
    receiving.on (F.LNK_EYE_CFG.BUSY 0 0) = false ∧ receiving.rxInUse 0 0 = true ∧ receiving.rxInUse 0 1 = false ∧
    (0x80000000#32).getLsbD 31 = true ∧ (0#32).getLsbD 31 = false ∧ receiving.job jobEye = { dueAt := 0 } ∧ receiving.gov.jobs.length = 6 ∧
    measuringEye.on (F.LNK_EYE_CFG.BUSY 0 0) = true ∧ (measuringEye.job jobEye).running = true ∧
    measuringEye.lnk.eyeDue.filter (fun e => e.1 != 0) = [] ∧ measuringEye.rd (F.LNK_EYE_CFG.BITS 0 0) ≠ 1 ∧ measuringEye.lnk.eyes = [] ∧
    (scanningEye [(1, 1)]).lnk.eyes = [⟨9, 1, 0, 0, 3, [(1, 1)], [7], true⟩] ∧ (scanningEye [(1, 1)]).on (F.LNK_EYE_CFG.BUSY 0 0) = true ∧
    (scanningEye [(1, 1), (2, 2)]).rxInUse 0 0 = true ∧
    (listening receiving).gate 0x78 (request 0 [0,0,3,0,0,1,1,0,0,0,1,0] 0x3725a4c9) = .run ∧
    (listening receiving).eyeScanRange (request 0 [0,0,3,0,0,1,1,0,0,0,1,0] 0) = none ∧ (listening receiving).lnkClk = true ∧
    eyeGrid (request 0 [0,0,3,0,0,1,1,0,0,0,1,0] 0) = [(0, 0), (0, 1)] ∧ (listening receiving).lnk.eyes = [] ∧
    (listening measuringEye).on (F.LNK_EYE_CFG.BUSY 0 0) = true ∧
    (listening receiving).gate 0x78 (request 0 [0,0,3,0,1,0,1,0,0,0,1,0] 0x161af526) = .run ∧
    eyeGrid (request 0 [0,0,3,0,1,0,1,0,0,0,1,0] 0) = [] ∧
    (listening State.reset).eyeScanRange (request 0 [0,0,3,0,0,1,1,0,0,0,1,0] 0) = some 17 ∧
    (twoScans).lnk.eyes.length = 2 := by decide +kernel

/-- RolesAndStoredConfiguration: both sides of C3_EXIT in FIELD, a role that changes to OFF and one to DOWN, and every save. -/
theorem witness_RolesAndStoredConfiguration :
    State.reset.lifecycle = 2 ∧ bitsAt (0x10#32).toNat 4 1 ≠ State.reset.rd F.FLT_CFG.C3_EXIT ∧
    bitsAt (0#32).toNat 4 1 = State.reset.rd F.FLT_CFG.C3_EXIT ∧ State.reset.role 0 ≠ bitsAt (0xFC#32).toNat (2 * 0) 2 ∧
    bitsAt (0xFC#32).toNat (2 * 0) 2 = 0 ∧ State.reset.role 1 = bitsAt (0xFC#32).toNat (2 * 1) 2 ∧
    State.reset.role 3 ≠ bitsAt (0xFC#32).toNat (2 * 3) 2 ∧ bitsAt (0xFC#32).toNat (2 * 3) 2 ≠ 0 ∧
    (stage 1).lnkClk = true ∧ (0x1FC#32).getLsbD 8 = true ∧ (0xFC#32).getLsbD 8 = false ∧
    (flashing [.fmcOrder]).inFlight .fmcOrder = true ∧ (flashing [.fmcOrder]).noChannel = false ∧
    (withFields [(F.CHK_SELFTEST.CH_FAIL, 63)] (flashing [.fmcOrder])).noChannel = true ∧ (flashing [.fmcOrder]).sys.lifeDue = none ∧
    (stage 3).portState 0 = 3 ∧ (stage 3).lnk.ports.length = 4 ∧ bitsAt (0xFE#32).toNat (2 * 0) 2 ≠ 0 ∧ State.reset.role 0 ≠ bitsAt (0xFE#32).toNat (2 * 0) 2 ∧ (flashing [.fltCfg, .tuning]).inFlight .fltCfg = true ∧
    (flashing [.zlpRole]).inFlight .zlpRole = true ∧ (flashing [.prailCfg]).inFlight .prailCfg = true ∧
    (flashing [.tuning]).inFlight .tuning = true ∧ FlashJob.isConf .tuning = true ∧ FlashJob.isConf .stress = false ∧
    ({ State.reset with gov.flash := [.fltCfg] } : State).inFlight .fltCfg = false := by decide +kernel

/-- A TIME frame with the given flags and check value. -/
def timeFrame (flags : Byte) (crc : Word) : TimeFrame := ⟨flags, 7, 1, 0, 0, 0, 0, 0, 0, 0, 0, crc⟩

/-- A TIME frame whose check value is right. -/
def goodTime (flags : Byte) : TimeFrame := timeFrame flags (BitVec.ofNat 32 (crc32c (timeBody (timeFrame flags 0))))

/-- Ports 0 (PRIMARY_UP, its stream valid and selected) and 1 (DOWN) are ACTIVE at one rate and width; port 2 (DOWN) is ACTIVE at
the other rate. -/
def linked (s : State := State.reset) : State :=
  withFields [(F.SYS_ISLAND_STAT.LNK_CLK, 1), (F.LNK_STAT.STATE 0, 5), (F.LNK_STAT.STATE 1, 5), (F.LNK_STAT.STATE 2, 5), (F.LNK_STAT.RATE 2, 0), (F.ZLP_PORT_STAT.VALID 0, 1),
    (F.ZLP_SEL_STAT.STATE, 1), (F.ZLP_SEL_STAT.PORT, 0), (F.RLN_ID.ID, 5)] s

/-- Port 0 merges upstream frames on the up output; `x` stands for the port's state. -/
def merging (x : ZlpPort) : State :=
  { withFields [(F.SYS_ISLAND_STAT.LNK_CLK, 1), (F.LNK_STAT.STATE 0, 5), (F.ZLP_PORT_STAT.TX_MODE 0, 3), (F.ZLP_PORT_STAT.UP_OUT 0, 1)] with zlp.ports := [x, {}, {}, {}] }

/-- The same in converted mode, with an empty container stored. -/
def converting (x : ZlpPort) : State :=
  { withFields [(F.SYS_ISLAND_STAT.LNK_CLK, 1), (F.LNK_STAT.STATE 0, 5), (F.ZLP_PORT_STAT.TX_MODE 0, 2), (F.ZLP_PORT_STAT.UP_OUT 0, 1)] with
    zlp.ports := [{ x with conv := [⟨[0x50#8, 0#8], 0, 0⟩] }, {}, {}, {}] }

def oneReply : Reply := ⟨1, false, 9, 5, 1, 0, 0, []⟩

/-- Port 3 (ALT_UP) forwards the PRIMARY_UP stream and is the up output only while the ALT_UP stream alone is valid; here the
ALT_UP stream on port 3 is valid and port 0's is not. -/
def altLinked : State :=
  { withFields [(F.SYS_ISLAND_STAT.LNK_CLK, 1), (F.LNK_STAT.STATE 0, 5), (F.LNK_STAT.STATE 3, 5), (F.ZLP_PORT_STAT.VALID 0, 1), (F.ZLP_PORT_STAT.VALID 3, 1)] with
    cmd.replies := [oneReply] }

/-- Two lanes of columns: a frame of a TYPE up to the next comma that says 1, behind it a comma column. -/
def passing : List Column := [.comma, .data [0x22, 1], .comma]

/-- A FRAME_END of 12 bytes in two-lane columns, and the same cut after six. -/
def ending : List Byte := 0x12 :: List.replicate 11 7
def endingCut : List Column := (sendColumns 2 ending).take 4

/-- R239 by hand: the bytes come back over every width, also behind a skip pair; a frame cut short is not whole; a run of one or three
comma columns starts a frame, and two do not. -/
theorem test_columns :
    (parseColumns (sendColumns 1 ending)).map (fun f => (f.bytes, f.whole)) = [(ending, true)] ∧
    (parseColumns (sendColumns 2 ending)).map (fun f => (f.bytes, f.whole)) = [(ending, true)] ∧
    (parseColumns (sendColumns 4 ending ++ [.comma, .comma, .comma] ++ (sendColumns 4 ending).drop 1)).map (fun f => f.bytes) = [ending, ending] ∧
    (parseColumns ((sendColumns 2 ending).take 3 ++ [.comma, .comma] ++ (sendColumns 2 ending).drop 3)).map (fun f => (f.bytes, f.whole)) = [(ending, true)] ∧
    (parseColumns (endingCut ++ [.comma])).map (fun f => (f.bytes.length, f.whole)) = [(6, false)] := by decide +kernel

/-- FramesForwarded: fed transmitters of each kind, a frame that goes on, one cut short, one to strip, a TIME frame, a container with a
reply waiting, converted and merged frames, both sides of the credit, and every upstream case. -/
theorem witness_FramesForwarded :
    linked.portActive 0 = true ∧ linked.quarantined 0 = false ∧ State.reset.portActive 0 = false ∧ parseColumns [] = [] ∧
    parseColumns passing = [⟨[.comma, .data [0x22, 1]], [0x22, 1], true⟩] ∧
    (parseColumns endingCut).map (fun f => f.whole) = [false] ∧ linked.takesFrame 0 ending = true ∧
    (parseColumns (sendColumns 4 (timeBytes (goodTime 0)))).map (fun f => (frameType f.bytes, f.whole)) = [(0x40, true)] ∧
    linked.sourceOf 1 = some 0 ∧ linked.sourceOf 2 = some 0 ∧ linked.sourceOf 0 ≠ some 0 ∧
    linked.sameSpeed 1 0 = true ∧ linked.sameSpeed 2 0 = false ∧ frameType [0x22#8, 1#8] ≠ 0x40 ∧
    frameType [0x22#8, 1#8] ≠ 0x50 ∧ linked.strips 0 [0x22#8, 1#8] = false ∧ linked.strips 0 [0x20#8, 5#8, 0#8, 0#8] = true ∧
    (parseColumns [.comma, .data [0x20, 5, 0, 0]]).map (fun f => f.bytes) = [[0x20#8, 5#8, 0#8, 0#8]] ∧
    altLinked.sourceOf 0 = some 3 ∧ altLinked.upOutput = some 0 ∧ altLinked.sameSpeed 0 3 = true ∧ altLinked.portActive 0 = true ∧
    altLinked.portActive 3 = true ∧ altLinked.quarantined 0 = false ∧ altLinked.quarantined 3 = false ∧ altLinked.zlp.turn = 0 ∧
    altLinked.cmd.replies = [oneReply] ∧ (replyFrame oneReply).length ≤ 4128 ∧
    (parseColumns [.comma, .data [0x50, 0]]).map (fun f => frameType f.bytes) = [0x50] ∧
    storedBytes (linked.zport 2).conv ≤ 59376 ∧
    59376 < storedBytes (({ linked with zlp.ports := [{}, {}, { conv := List.replicate 60 ⟨List.replicate 1000 0#8, 0, 0⟩ }, {}] }
      : State).zport 2).conv ∧
    (withFields [(F.ZLP_PORT_STAT.TX_MODE 2, 2)] linked).rd (F.ZLP_PORT_STAT.TX_MODE 2) = 2 ∧
    linked.rd (F.ZLP_PORT_STAT.TX_MODE 2) ≠ 2 ∧ linked.on (F.ZLP_PORT_STAT.UP_OUT 2) = false ∧
    linked.takesUpstream 1 = true ∧ linked.takesUpstream 3 = false ∧ linked.zlp.ports.length = 4 ∧
    (({ linked with zlp.ports := [{}, { merge := List.replicate 16 [] }, {}, {}] } : State).zport 1).merge.length = 16 ∧
    (merging { merge := [[1#8]] }).upOutput = some 0 ∧ (merging { merge := [[1#8]] }).creditOf 0 = 16 ∧
    (merging { merge := [[1#8]] }).upQueues = [(1, [1#8])] ∧ (merging { sent := 16 }).creditOf 0 = 0 ∧ (merging {}).upQueues = [] ∧
    (merging {}).on (F.ZLP_PORT_STAT.UP_OUT 0) = true ∧ (merging {}).rd (F.ZLP_PORT_STAT.TX_MODE 0) = 3 := by decide +kernel

/-- FramesForwarded, an empty container in converted mode: with an upstream frame and without. -/
theorem witness_FramesForwarded_converted :
    (converting {}).rd (F.ZLP_PORT_STAT.TX_MODE 0) = 2 ∧ (converting {}).on (F.ZLP_PORT_STAT.UP_OUT 0) = true ∧
    (((converting {}).zport 0).conv.map (fun x => frameType x.bytes)) = [0x50] ∧ frameType [0x50#8, 0#8] = 0x50 ∧
    ((converting { merge := [[1#8]] }).advance 0).upQueues.find? (fun e => decide (e.2.length ≤ 4128)) = some (1, [1#8]) ∧
    ((converting {}).advance 0).upQueues.find? (fun e => decide (e.2.length ≤ 4128)) = none := by decide +kernel

/-- Port 0 with three good TIME frames in a row, nothing selected. -/
def nearlyValid : State := { withFields [(F.SYS_ISLAND_STAT.LNK_CLK, 1), (F.LNK_STAT.STATE 0, 5)] with zlp.ports := [{ run := 3 }, {}, {}, {}] }

/-- TimeAndStreams: good and bad frames, with and without LOCAL, the fourth of a run, and a lost stream with and without another. -/
theorem witness_TimeAndStreams :
    nearlyValid.portActive 0 = true ∧ nearlyValid.quarantined 0 = false ∧ State.reset.portActive 0 = false ∧
    timeValid (goodTime 0) = true ∧ isLocal (goodTime 0) = false ∧ timeValid (goodTime 1) = true ∧ isLocal (goodTime 1) = true ∧
    timeValid (timeFrame 0 0) = false ∧ nearlyValid.role 0 = 1 ∧ nearlyValid.role 1 ≠ 1 ∧ nearlyValid.role 1 ≠ 2 ∧
    nearlyValid.streamValid 0 = false ∧ 3 ≤ (nearlyValid.zport 0).run ∧ nearlyValid.selState = 0 ∧
    nearlyValid.rd F.ZLP_TIME_STAT.STATE = 0 ∧ nearlyValid.zlp.ports.length = 4 ∧ linked.streamValid 0 = true ∧
    (linked.zport 0).lastAt + linked.lossTime ≤ (linked.advance (ms 1)).now ∧ linked.selPort = some 0 ∧ linked.selected = true ∧
    linked.upStream (if linked.role 0 = 2 then 1 else 2) = none ∧
    (withFields [(F.ZLP_PORT_STAT.VALID 3, 1)] linked).upStream (if linked.role 0 = 2 then 1 else 2) = some 3 ∧
    ¬ (altLinked.selPort = some 3 ∧ altLinked.selected = true) ∧ altLinked.streamValid 3 = true ∧
    (withFields [(F.ZLP_TIME_STAT.STATE, 2)] linked).rd F.ZLP_TIME_STAT.STATE = 2 := by decide +kernel

/-- A PING with one byte. -/
def pingReq (crc : Word) : Request := request 0 [7] crc

/-- PacketAcceptance: a packet for each end of the tests. -/
theorem witness_PacketAcceptance :
    State.reset.gate 0x01 (pingReq 0xf0dc4c08) = .notTaken ∧
    listening.gate 0x01 { pingReq 0 with len := 4097 } = .tooLong ∧ listening.gate 0x01 (pingReq 1) = .badCrc ∧
    listening.gate 0x01 { pingReq 0xf0dc4c08 with frameType := 0x21#8 } = .inconsistent ∧
    ({ listening with cmd.cache := [⟨9, [(1, oneReply)]⟩] } : State).gate 0x01 (pingReq 0xf0dc4c08) = .duplicate oneReply ∧
    ({ listening with cmd.places := [⟨0x79, patternReq 0, 5, false⟩] } : State).gate 0x01 (pingReq 0xf0dc4c08) = .inProgress ∧
    ({ listening with cmd.places := List.replicate 32 ⟨0x79, { patternReq 0 with src := 10#24 }, 5, false⟩ } : State).gate 0x01
      (pingReq 0xf0dc4c08) = .full ∧
    listening.gate 0x01 (pingReq 0xf0dc4c08) = .run ∧ listening.gate 0x7F (request 0 [] 0xc97da142) = .run ∧
    listening.gate 0x7F (request 0 [7] 0x4e3d0b98) = .run ∧ (0x80#8).toNat ∉ opcodes ∧ (0x7F#8).toNat ∈ opcodes ∧
    listening.gate 0x80 (request 0 [] 0x46a7dcb8) = .badOpcode ∧
    (({ listening with sys.fuses := { retired := true } } : State).advance 0).gate 0x05 (request 0 [] 0xc39e3855) = .denied := by
  decide +kernel

/-- Requests on SNS_CFG (0x080000) and SNS_ISNS_CFG, with every quadrant clocked. -/
def clockedQ : State := withFields [(F.SYS_ISLAND_STAT.QCLK, 15)] listening

/-- The same in COMMISSION, where the service port writes. -/
def serviced : State := { clockedQ with flash.lifeCopies := [some { state := 1 }, none] }

/-- Port 3 may be tested, and lane 0 of port 0 measured: a PATTERN_TEST and an EYE_SCAN, and each of them at work. -/
def probed : State := withFields [(F.ZLP_ROLE.ROLE_P3, 0), (F.LNK_LSTAT.SYNC 0 0, 1), (F.LNK_STAT.RX_USED 0, 1), (F.LNK_STAT.STATE 0, 5)] listening
def probedReq (op : Nat) : Request :=
  if op = 0x79 then request 0 [3, 4, 0, 1, 15, 0, 0, 0, 1, 0, 0, 0] 0xcd2339dd
  else request 0 [0, 0, 3, 0, 0, 1, 1, 0, 0, 0, 1, 0] 0x3725a4c9
def underTest : State := { probed with cmd.places := [⟨0x79, probedReq 0x79, 5, false⟩] }
def underEye : State := withFields [(F.LNK_EYE_CFG.BUSY 0 0, 1)]
  { probed with cmd.places := [⟨0x78, probedReq 0x78, 5, false⟩], lnk.eyes := [⟨9, 1, 0, 0, 3, [(0, 1)], [7], true⟩], lnk.eyeDue := [(0, 0)] }

/-- RegisterCommands: reads, writes and modifications that pass, one of each test that fails, and timeouts. -/
theorem witness_RegisterCommands :
    (clockedQ.advance 0).gate 0x02 (request 0x080000 [2, 0, 0, 0] 0x9db242e5) = .run ∧
    readRange (request 0x080000 [2, 0, 0, 0] 0) = none ∧ clockedQ.unclocked (addrs 0x080000 2) = none ∧
    readRange (request 0x080001 [2, 0, 0, 0] 0) = some 12 ∧ listening.unclocked (addrs 0x080000 2) = some 8 ∧
    clockedQ.clocked 0x080000 = true ∧ 0x080000 / 0x10000 ∈ [8, 9, 12, 17, 18] ∧
    (clockedQ.advance 0).gate 0x03 (request 0x080000 [5, 0, 0, 0] 0xb3f10d92) = .run ∧
    ([5, 0, 0, 0] : List Byte) = leBytes 4 5 ∧
    (clockedQ.advance 0).gate 0x04 (request 0x080000 [15, 0, 0, 0, 6, 0, 0, 0] 0x7ab971b5) = .run ∧
    modifyRange (request 0x080000 [15, 0, 0, 0, 6, 0, 0, 0] 0) = none ∧ openField 0x080000 = false ∧
    (clockedQ.advance 0).gate 0x03 (request 0x0E0008 [5, 0, 0, 0] 0x98b39efc) = .run ∧
    (writeList (request 0x0E0008 [5, 0, 0, 0] 0)).any (clockedQ.writeLocked (some 9)) = true ∧
    (writeList (request 0x080000 [5, 0, 0, 0] 0)).any ((clockedQ.advance 0).writeLocked (some 9)) = false ∧
    (clockedQ.advance 0).gate 0x03 (request 0x080000 [] 0x797a3a0b) = .run ∧
    writeRange (request 0x080000 [] 0) = some 10 ∧ clockedQ.saf.unlock = .closed ∧
    clockedQ.accessTest false (readRange (request 0x080000 [2, 0, 0, 0] 0)) (addrs 0x080000 2) = none ∧
    (accesses .read (request 0x080000 [2, 0, 0, 0] 0))[1]? = some 0x080004 ∧ (accesses .read (request 0x080000 [2, 0, 0, 0] 0))[2]? = none ∧
    ((clockedQ.advance 0).now < 0 + us (max 1 (clockedQ.rd F.CMD_CFG.REG_TO))) ∧
    us 1 + us (max 1 (clockedQ.rd F.CMD_CFG.REG_TO)) ≤ (clockedQ.advance (ms 2)).now ∧
    (clockedQ.advance (ms 2)).accessTest ((writeList (request 0x080000 [5, 0, 0, 0] 0)).any ((clockedQ.advance (ms 2)).writeLocked (some 9)))
      (writeRange (request 0x080000 [5, 0, 0, 0] 0)) [0x080000] = none ∧
    (clockedQ.advance (ms 2)).accessTest true none [0x080000] = some (.denied 2) ∧
    (accesses .write (request 0x080000 [5, 0, 0, 0] 0))[0]? = some 0x080000 ∧ (accesses .modify (request 0x080000 [] 0))[0]? = some 0x080000 ∧
    ((clockedQ.advance 0).taken (request 0x080000 [15, 0, 0, 0, 6, 0, 0, 0] 0)).accessTest
      (((clockedQ.advance 0).taken (request 0x080000 [15, 0, 0, 0, 6, 0, 0, 0] 0)).writeLocked (some 9) (0x080000, 6))
      (modifyRange (request 0x080000 [15, 0, 0, 0, 6, 0, 0, 0] 0)) [0x080000] = none ∧
    (accesses .overlay (request 0 [2, 0, 1, 0, 5, 0, 0, 0, 1, 0, 0, 0, 2, 0, 0, 0, 3, 0, 0, 0] 0)).length = 3 ∧
    clockedQ.svcServed = true ∧ clockedQ.allPlaces = false ∧ clockedQ.accessTest false (svcRange 0x080000) [0x080000] = none ∧
    serviced.svcServed = true ∧ serviced.allPlaces = false ∧ serviced.lifecycle ≠ 2 ∧ serviced.sys.monitor = false ∧
    serviced.accessTest (serviced.writeLocked none (0x080000, 5)) none [0x080000] = none := by decide +kernel

/-- RegisterCommands: timeouts of PATTERN_TEST and EYE_SCAN, at their start and at work. -/
theorem witness_RegisterCommands_tests :
    (probed.advance (ms 2)).gate 0x79 (probedReq 0x79) = .run ∧ (probedReq 0x79).payload.length = 12 ∧ patternRange (probedReq 0x79) = none ∧
    probed.role (quadOf (pByte (probedReq 0x79) 0)) = 0 ∧ probed.lnkClk = true ∧ (accesses .pattern (probedReq 0x79))[0]? = some (A.LNK_PAT_CFG 3) ∧
    (accesses .pattern (probedReq 0x79))[5]? = some (A.LNK_PAT_CFG 3) ∧ (Place.mk 0x79 (probedReq 0x79) 5 false).req = probedReq 0x79 ∧
    (underTest.lport 3).patAt + ms (pWord (probedReq 0x79) 8) ≤ ms 1 ∧ ms 1 + us (max 1 (underTest.rd F.CMD_CFG.REG_TO)) ≤ (underTest.advance (ms 3)).now ∧
    probed.lnk.eyes = [] ∧ (probed.advance (ms 2)).gate 0x78 (probedReq 0x78) = .run ∧ probed.eyeScanRange (probedReq 0x78) = none ∧
    (accesses .eye (probedReq 0x78))[0]? = some (A.LNK_EYE_CFG 0 0) ∧ (accesses .eye (probedReq 0x78))[3]? = some (A.LNK_EYE_CNT 0 0) ∧
    underEye.lnk.eyes = [⟨9, 1, 0, 0, 3, [(0, 1)], [7], true⟩] ∧ (probedReq 0x78).src.toNat = 9 ∧ (probedReq 0x78).tag.toNat = 1 := by decide +kernel

/-- An OVERLAY_SET of one palette entry of plane 2, and the same with a plane number of 8. -/
def paletteReq (plane : Byte) (crc : Word) : Request := request 0 [plane, 0, 1, 0, 5, 0, 0, 0, 1, 0, 0, 0, 2, 0, 0, 0, 3, 0, 0, 0] crc

/-- A scan of four bytes above the tables at its start, with its place. -/
def scanning : State :=
  { State.reset with chk.scan := some ⟨9, 1, 0x20000004, 0x20000000, 0xFFFFFFFF⟩, cmd.places := [⟨0x12, request 0 [] 0, 5, false⟩] }

/-- CommitOverlayCheck: a commit in and after the window, an OVERLAY_SET that passes, fails and meets no clock, a scan that starts,
meets each refusal, and ends. -/
theorem witness_CommitOverlayCheck :
    (listening.advance 0).gate 0x05 (request 0 [] 0xc39e3855) = .run ∧
    (listening.advance 0).gate 0x05 (request 0 [7] 0x8aa34b85) = .run ∧ listening.windowClosed = false ∧
    bitsAt (pByte (request 0 [2, 2] 0) 1) 1 1 = 1 ∧
    ({ showing with scn.anyFrame := true, scn.line := [510, 510, 510, 510] } : State).windowClosed = true ∧
    (listening.advance 0).gate 0x30 (paletteReq 2 0xb442a3c0) = .run ∧
    (listening.advance 0).gate 0x30 (paletteReq 8 0x653687a3) = .run ∧
    overlayRange (paletteReq 2 0) = none ∧ overlayRange (paletteReq 8 0) = some 16 ∧ bitsAt (pByte (paletteReq 2 0) 1) 1 1 = 0 ∧
    listening.pixClk = false ∧ (withFields [(F.SYS_ISLAND_STAT.PIX_CLK, 1)] listening).pixClk = true ∧
    listening.gate 0x12 (request 0x20000000 [4, 0, 0, 0] 0x58521d1c) = .run ∧
    readableSpan 0x20000000 4 = true ∧ listening.memClk = true ∧ listening.chk.scan = none ∧ scanning.chk.scan.isSome = true ∧
    scanning.cmd.places = [⟨0x12, request 0 [] 0, 5, false⟩] ∧ (Place.mk 0x12 (request 0 [] 0) 5 false).waits 9 1 = true ∧
    upToFailed (burstsOf 0x20000000 4 [(0, .failed)]) = [(0, .failed)] ∧ upToFailed (burstsOf 0x20000000 4 []) = [] := by decide +kernel

/-- A regenerating device 5 behind the SYNC of a frame. -/
def synced : State :=
  { withFields [(F.RLN_STAT.REGEN, 1), (F.RLN_ID.ID, 5), (F.SYS_START.STEP, 12), (F.PWR_STATE.STATE, 1), (F.SAF_STAT.LATCH, 0)] with rln.phase := .synced, pwr.trans := .none }

/-- A device asleep in bypass, VIN_AON present. -/
def asleepDevice : State := withFields [(F.RLN_STAT.REGEN, 0), (F.PWR_STATE.STATE, 3)] { synced with sys.supplies := [true, true, true, true, true] }

/-- The right check byte of a field. -/
def fieldCrc (op : Nat) (data : BitVec 24) (aux : Byte) : Byte := BitVec.ofNat 8 (crcOf crc8Set (fieldHead op data aux))

/-- ReedFields: good and bad fields of each operation, and a device that is in bypass. -/
theorem witness_ReedFields :
    synced.reedReady = true ∧ State.reset.reedReady = false ∧ asleepDevice.follows = true ∧
    ({ synced with rln.phase := .idle } : State).reedReady = false ∧ ({ synced with rln.phase := .idle } : State).follows = false ∧ synced.undef = false ∧ synced.deviceId = 5 ∧ State.reset.deviceId = 0 ∧
    fieldGood 0x01 0 0 (fieldCrc 0x01 0 0) = true ∧ fieldGood 0x02 7 0 (fieldCrc 0x02 7 0) = true ∧
    fieldGood 0x03 7 0 (fieldCrc 0x03 7 0) = true ∧ fieldGood 0x41 5 0 (fieldCrc 0x41 5 0) = true ∧
    fieldGood 0x44 0 0 (fieldCrc 0x44 0 0) = true ∧ fieldGood 0x80 0 0 (fieldCrc 0x80 0 0) = true ∧
    fieldGood 0x01 0 0 (fieldCrc 0x01 0 0 + 1) = false ∧ fieldGood 0x03 7 0 (fieldCrc 0x03 7 0 + 1) = false ∧
    0xFFFF00 ≤ (0xFFFF00#24).toNat ∧ (0x80#8).toNat ∉ reedOps ∧ (0x43#8).toNat ∈ reedOps ∧
    (withFields [(F.RLN_ID.ID, 0)] synced).deviceId = 0 ∧ (withFields [(F.RLN_ID.ID, 0)] synced).reedReady = true := by decide +kernel

/-- ReedSleepIdentifyWake: each answer to SLEEP, IDENTIFY of this and another device, and a device that wakes. -/
theorem witness_ReedSleepIdentifyWake :
    fieldGood 0x42 5 0 (fieldCrc 0x42 5 0) = true ∧ synced.reedAddressed 5 = true ∧ synced.reedAddressed 6 = false ∧
    fieldGood 0x42 6 0 (fieldCrc 0x42 6 0) = true ∧ synced.on F.RLN_CFG.SLEEP_EN = true ∧
    (withFields [(F.RLN_CFG.SLEEP_EN, 0)] synced).on F.RLN_CFG.SLEEP_EN = false ∧ synced.pwr.trans = .none ∧ synced.power ≠ 3 ∧
    (synced.advance 0).refusers ⟨true, true, 3, 0⟩ = [] ∧ synced.inTransition = false ∧
    (withFields [(F.UPD_STAT.STATE, 2), (F.SAF_STAT.LATCH, 1), (F.PWR_WAKE_EN.TIMER, 1)] synced |>.advance 0).refusers ⟨true, true, 3, 2⟩ = [1, 3, 6] ∧
    (withFields [(F.PWR_WAKE_EN.TIMER, 1)] synced).firingCodes 2 = [2] ∧ fieldGood 0x42 5 0 (fieldCrc 0x42 5 0 + 1) = false ∧
    fieldGood 0x43 5 9 (fieldCrc 0x43 5 9) = true ∧ fieldGood 0x43 6 9 (fieldCrc 0x43 6 9) = true ∧
    asleepDevice.on F.RLN_STAT.REGEN = false ∧ asleepDevice.sys.resetPin = false ∧ asleepDevice.on F.RLN_CFG.WAKE_EN = true ∧
    asleepDevice.on F.PWR_WAKE_EN.REED = true ∧ fieldGood 0x41 5 0 (fieldCrc 0x41 5 0) = true ∧ asleepDevice.reedAddressed 5 = true ∧
    asleepDevice.power = 3 ∧ asleepDevice.inTransition = false ∧ synced.on F.RLN_STAT.REGEN = true ∧
    ({ withFields [(F.RLN_STAT.REGEN, 0), (F.PWR_STATE.TARGET, 3)] synced with pwr.trans := .entry } : State).reedAddressed 5 = true := by decide +kernel

/-- ReedFrames: a device regenerating with a frame begun, one acted on, one broken, one in bypass that may leave it. -/
theorem witness_ReedFrames :
    synced.undef = false ∧ synced.rln.sleepHeld = false ∧ asleepDevice.follows = true ∧ synced.follows = false ∧ asleepDevice.rln.sleepHeld = false ∧ synced.on F.RLN_STAT.REGEN = true ∧ State.reset.on F.RLN_STAT.REGEN = false ∧
    synced.rln.phase ≠ .idle ∧ synced.power < 3 ∧ synced.tun.run = none ∧ State.reset.rln.phase = .idle ∧
    synced.on F.RLN_STAT.BREAK = false ∧ (withFields [(F.RLN_STAT.BREAK, 1)] synced).on F.RLN_STAT.BREAK = true ∧
    asleepDevice.asleep = true ∧ synced.asleep = false ∧ synced.sys.resetPin = false ∧
    ({ synced with rln.oscReady := true } : State).rln.oscReady = true ∧ ({ synced with rln.oscReady := false } : State).rln.oscReady = false ∧ synced.pwr.trans = .none := by decide +kernel

/-- A device 5 in DARK, at rest, without the safety latch. -/
def restingDark : State :=
  { withFields [(F.PWR_STATE.STATE, 1), (F.SAF_STAT.LATCH, 0)] listening with pwr.trans := .none }

/-- A device in DARK (1), STANDBY (2) or SLEEP (3) with timer and service port enabled. -/
def napping (state : Nat) : State :=
  withFields [(F.PWR_STATE.STATE, state), (F.PWR_WAKE_EN.TIMER, 1), (F.PWR_WAKE_EN.SVC, 1), (F.PWR_TIMER.SECONDS, 1)] restingDark

/-- POWER_STATE requests with their check values. -/
def powerReq (x : Byte) (crc : Word) : Request := request 0 [x, 0, 0, 0] crc

/-- PowerRequests: each request from DARK, from STANDBY, and during an entry. -/
theorem witness_PowerRequests :
    (restingDark.advance 0).gate 0x40 (powerReq 0 0xc19763fc) = .run ∧
    (restingDark.advance 0).gate 0x40 (powerReq 1 0x1cd2c944) = .run ∧
    (restingDark.advance 0).gate 0x40 (powerReq 2 0x7ef0407d) = .run ∧
    (restingDark.advance 0).gate 0x40 (powerReq 4 0xbab5520f) = .run ∧
    (restingDark.advance 0).gate 0x40 (request 0 [] 0xaf0e3bbc) = .run ∧
    restingDark.inTransition = false ∧ restingDark.power = 1 ∧ restingDark.firingCodes 0 = [] ∧
    (restingDark.advance 0).gate 0x40 (request 0 [2, 0, 5, 0] 0x23d8b9d6) = .run ∧
    (napping 1).firingCodes 2 = [2] ∧ ((napping 1).advance 0).refusers ⟨false, true, 2, 2⟩ = [1] ∧ restingDark.undef = false ∧ restingDark.tun.run = none ∧
    (restingDark.advance 0).refusers ⟨false, true, 2, 0⟩ = [] ∧
    (withFields [(F.UPD_STAT.STATE, 2)] restingDark |>.advance 0).refusers ⟨false, true, 2, 0⟩ = [3] ∧
    (withFields [(F.PWR_STATE.STATE, 2)] restingDark).power = 2 ∧
    (withFields [(F.PWR_STATE.STATE, 2)] restingDark |>.advance 0).gate 0x40 (powerReq 0 0xc19763fc) = .run ∧
    ({ restingDark with pwr.trans := .entry } : State).transTarget = 0 ∧ ({ restingDark with pwr.trans := .entry } : State).inEntry = true := by decide +kernel

/-- An entry into STANDBY (2) or SLEEP (3) that is about to be complete. -/
def entering (target : Nat) : State :=
  { withFields [(F.PWR_STATE.TARGET, target), (F.PWR_STATE.BUSY, 1)] restingDark with pwr.trans := .entry, pwr.stopped := true }

/-- An exit from STANDBY that has just begun, or one whose scan-out runs. -/
def exiting (late : Bool) : State :=
  { withFields [(F.PWR_STATE.STATE, 2), (F.PWR_STATE.BUSY, 1), (F.SYS_ISLAND_STAT.PIX_CLK, boolNat late)] restingDark with
    pwr.trans := .exit, scn.running := late }

/-- PowerTransitionsEnd: a settling valve of a lit device, entries with and without a held wake, an exit. -/
theorem witness_PowerTransitionsEnd :
    restingDark.undef = false ∧ (entering 2).pwr.trans = .entry ∧ (entering 2).pwr.stopped = true ∧ (entering 2).sys.rails = .idle ∧
    (entering 2).pwr.heldWake = [] ∧ (entering 3).replyWaits = false ∧ (entering 3).flashWriting = false ∧ (entering 3).rln.sleepHeld = false ∧
    ({ entering 3 with gov.jobs := (entering 3).gov.jobs.set jobFlash { running := true } } : State).flashWriting = true ∧ (entering 3).rd F.PWR_STATE.TARGET = 3 ∧ (entering 2).rd F.PWR_STATE.TARGET = 2 ∧
    ({ entering 2 with pwr.heldWake := [1, 3] } : State).wakeTarget ≠ 2 ∧ (exiting false).pwr.trans = .exit ∧
    (exiting false).pixClk = false ∧ (exiting false).pwr.retryAt ≤ ((exiting false).advance 0).now ∧ (exiting false).scn.running = false ∧
    (exiting true).pixClk = true ∧ (exiting true).scn.running = true ∧ restingDark.pwr.light.length = 4 ∧
    ({ restingDark with pwr.light := [.settling, .dark, .dark, .dark] } : State).lightOf 0 = .settling ∧
    (match exec (.valveSettleExpiry 0) { withFields [(F.SYS_ISLAND_STAT.SAFE_CLK, 1), (F.SAF_CFG.IN_EN, 0)] restingDark with
        pwr.light := [.settling, .dark, .dark, .dark] } with
      | .next t => t.dark 0
      | _ => true) = false := by decide +kernel

/-- WakeSources: events in each state, with each wake target, and both failures. -/
theorem witness_WakeSources :
    (napping 2).on F.PWR_WAKE_EN.TIMER = true ∧ (napping 2).rd F.PWR_TIMER.SECONDS ≠ 0 ∧ (napping 2).power = 2 ∧
    (napping 3).power = 3 ∧ (napping 3).inTransition = false ∧ (napping 2).pwr.timerDone = false ∧ (napping 2).wakeTarget ≠ 2 ∧
    (withFields [(F.PWR_CFG.WAKE_TARGET, 2)] (napping 2)).wakeTarget = 2 ∧
    (napping 2).pwr.enteredAt + 256000000000 * (napping 2).rd F.PWR_TIMER.SECONDS ≤ ((napping 2).advance (sec 1)).now ∧
    restingDark.on F.PWR_WAKE_EN.TIMER = false ∧ restingDark.on F.PWR_WAKE_EN.SVC = false ∧ (napping 2).on F.PWR_WAKE_EN.SVC = true ∧
    (napping 2).lifecycle ≠ 4 ∧ ({ napping 2 with pwr.trans := .entry } : State).inEntry = true ∧ ({ napping 2 with pwr.trans := .exit } : State).inEntry = false ∧
    ({ napping 3 with sys.waking := true, sys.starting := true } : State).sys.waking = true ∧
    (withFields [(F.SYS_START.STEP, 2)] (napping 3)).rd F.SYS_START.STEP < 4 ∧
    ({ napping 2 with pwr.trans := .exit, pwr.retried := true } : State).pixClk = false ∧ (napping 2).sameCycle = false ∧ (napping 2).pwr.retried = false ∧
    (napping 2).undef = false ∧ (napping 2).sys.resetPin = false ∧ ({ napping 2 with sys.resetPin := true } : State).on F.PWR_WAKE_EN.SVC = true := by decide +kernel

/-- A device whose first `k` sensors read 30.0 °C, sensor 0 apart from its neighbours since instant 0. -/
def monitored (k : Nat) : State :=
  { (List.range 24).foldl (fun s i => s.wr (F.THM_T.READ i) 300) restingDark with
    thm.sensors := (List.range 24).map (fun i => { has := decide (i < k), apartFrom := if i = 0 then some 0 else none })
    thm.monitorFrom := some 0 }

/-- SensorReadings: readings in and out of range, alone and apart, a stall, a cleared sensor. -/
theorem witness_SensorReadings :
    (monitored 24).undef = false ∧ (monitored 24).thm.sensors.length = 24 ∧ (monitored 24).asleep = false ∧
    asleepDevice.asleep = true ∧ asleepDevice.thm.sensors.length = 24 ∧ (monitored 24).sensorFailed 0 = false ∧
    (monitored 24).thm.monitorFrom = some 0 ∧ restingDark.thm.monitorFrom = none ∧
    max 0 (((monitored 24).sensor 0).lastAt + 10 * 256000000) ≤ ((monitored 24).advance (ms 10)).now ∧
    ((monitored 24).advance 5).now < max 0 (((monitored 24).sensor 0).lastAt + 10 * 256000000) ∧
    ((monitored 24).sensor 0).failedAt + 2560000000000 ≤ ((monitored 24).advance (sec 10)).now ∧
    ((monitored 24).advance 5).now < ((monitored 24).sensor 0).failedAt + 2560000000000 ∧
    (neighbours 0).filter (fun j => !(monitored 24).sensorFailed j && ((monitored 24).sensor j).has) = [1, 2, 7] ∧
    ((neighbours 0).filter (fun j => !(monitored 2).sensorFailed j && ((monitored 2).sensor j).has)).length < 2 ∧
    (monitored 24).reading 1 = 300 ∧ ((monitored 24).sensor 0).apartFrom = some 0 ∧
    0 + 25600000000 * max 1 ((monitored 24).rd F.THM_XCHK.TIME) ≤ ((monitored 24).advance (sec 1)).now ∧
    ((monitored 24).advance 5).now < 0 + 25600000000 * max 1 ((monitored 24).rd F.THM_XCHK.TIME) ∧
    (withFields [(F.THM_FAIL.FAILED, 1)] (monitored 24)).sensorFailed 0 = true ∧ ((monitored 24).sensor 0).cleared = false ∧
    (({ withFields [(F.THM_FAIL.FAILED, 1)] restingDark with
        thm.sensors := { cleared := true, passFrom := some 0 } :: List.replicate 23 {} } : State).sensor 0).passFrom = some 0 := by
  decide +kernel

/-- The worked example of 14_thermal.md: G1 at 72.0 °C, G0 at 61.0 and G3 at 63.0, all else cool, START 65, END 75. -/
def warmGlass : State := withFields [(F.THM_T.TEFF 20, 610), (F.THM_T.TEFF 21, 720), (F.THM_T.TEFF 23, 630)] restingDark

/-- Its throttle: 0x6333 for Q1, no other, a margin of -7 (14_thermal.md, worked example). -/
theorem test_throttle_example : (match exec .throttleTick warmGlass with
    | .next t => decide (t.ceilTherm 1 = 0x6333 ∧ t.rd F.THM_STAT.THROTTLE = 2 ∧ t.heatMargin = -7)
    | _ => false) = true := by decide +kernel

/-- A reading above every point at which the comparator of a source die may trip. -/
theorem witness_trip : warmGlass.tripPoint 9 < 1281 := by
  have h : warmGlass.hardOf 9 = 125 := by decide +kernel
  unfold State.tripPoint
  rw [h]
  omega

/-- ThrottleRiseAndShutdown: ceilings under RATE, HOLD and neither, rising and falling; the rise test on and off; a trip. -/
theorem witness_ThrottleRiseAndShutdown :
    warmGlass.undef = false ∧ warmGlass.asleep = false ∧ asleepDevice.asleep = true ∧ asleepDevice.undef = false ∧
    (warmGlass.target 1 0).1 < warmGlass.ceilTherm 1 ∧ warmGlass.ceilTherm 0 ≤ (warmGlass.target 0 0).1 ∧
    bitsAt (warmGlass.rd F.THM_STAT.RATE) 0 1 = 0 ∧ bitsAt (warmGlass.rd F.THM_STAT.HOLD) 0 1 = 0 ∧
    bitsAt ((withFields [(F.THM_STAT.RATE, 1)] warmGlass).rd F.THM_STAT.RATE) 0 1 = 1 ∧
    bitsAt ((withFields [(F.THM_STAT.HOLD, 1)] warmGlass).rd F.THM_STAT.HOLD) 0 1 = 1 ∧
    warmGlass.rd F.THM_STAT.THROTTLE = 0 ∧ warmGlass.thm.rateOn = false ∧ warmGlass.on F.THM_CFG.RATE_EN = true ∧
    ({ warmGlass with thm.rateOn := true } : State).thm.rateOn = true ∧ warmGlass.thm.monitorFrom = none ∧
    0 + 15360000000000 ≤ (({ warmGlass with thm.monitorFrom := some 0 } : State).advance (sec 60)).now ∧ warmGlass.hardOf 9 = 125 ∧ warmGlass.thm.sensors.length = 24 ∧
    warmGlass.thm.dieTrip.length = 4 ∧ warmGlass.thermalLatch = false ∧
    (withFields [(F.THM_STAT.SHUT, 1)] warmGlass).thermalLatch = true ∧ (1#32).toNat % 2 = 1 ∧ (0#32).toNat % 2 = 0 := by decide +kernel

/-- A device in DARK with its safety core running and both inputs released. -/
def guarded : State :=
  { withFields [(F.SYS_ISLAND_STAT.SAFE_CLK, 1), (F.SAF_STAT.IN_A, 1), (F.SAF_STAT.IN_B, 1)] restingDark with
    saf.released := true, saf.firstClear := false }

/-- SafetyInputs: channels that agree, disagree for a short and a long time, a first and a second failed pulse, an island that
sees nothing. -/
theorem witness_SafetyInputs :
    guarded.undef = false ∧ guarded.islandSees = true ∧ asleepDevice.islandSees = false ∧ guarded.inEn = true ∧ guarded.bcEn = false ∧
    guarded.on F.SAF_STAT.IN_A = guarded.on F.SAF_STAT.IN_B ∧ false ≠ guarded.on F.SAF_STAT.IN_A ∧
    (withFields [(F.SAF_STAT.IN_A, 0)] guarded).on F.SAF_STAT.IN_A ≠ (withFields [(F.SAF_STAT.IN_A, 0)] guarded).on F.SAF_STAT.IN_B ∧
    ({ guarded with saf.disagreeAt := some 0, saf.bothOff := true } : State).saf.disagreeAt = some 0 ∧
    (guarded.advance 5).now < 0 + 256000000 * max 10 (min 500 (guarded.rd F.SAF_CFG.DISC_MS)) + 2560000 ∧
    0 + 256000000 * max 10 (min 500 (guarded.rd F.SAF_CFG.DISC_MS)) + 2560000 ≤ (guarded.advance (ms 51)).now ∧
    ({ guarded with sys.vinSafe := false } : State).islandSees = true ∧
    (withFields [(F.SAF_CFG.IN_EN, 0)] guarded).inEn = false ∧ guarded.safeClk = true ∧ restingDark.safeClk = false ∧
    guarded.sys.vinSafe = true ∧ guarded.saf.supFails.length = 2 ∧ guarded.saf.supPasses.length = 2 ∧
    guarded.saf.supAt.length = 2 ∧ nth guarded.saf.supFails 0 = 0 ∧
    nth guarded.saf.supAt 0 + 25600000000 * max 1 (min 100 (guarded.rd F.SAF_TP.SUP_PERIOD)) ≤ (guarded.advance (sec 10)).now ∧
    ¬ nth guarded.saf.supAt 0 + 25600000000 * max 1 (min 100 (guarded.rd F.SAF_TP.SUP_PERIOD)) ≤ guarded.now ∧
    nth ([] : List Bool) (max 10 (min 50 (guarded.rd F.SAF_TP.SUP_US)) / 5 - 1) = false ∧ true ∈ [false, true].take 10 ∧
    1 ≤ nth ({ guarded with saf.supFails := [1, 0] } : State).saf.supFails 0 := by decide +kernel

/-- The guarded device with its outputs on and the feedback wait running since instant 0. -/
def energised : State := { guarded with saf.outOn := true, saf.fbWait := true, saf.fbWindow := true }

/-- SafetyOutputsAndSupervision: outputs on and off, feedback in and out of time, a released and an unreleased core. -/
theorem witness_SafetyOutputsAndSupervision :
    energised.undef = false ∧ energised.islandSees = true ∧ energised.safeClk = true ∧ restingDark.safeClk = false ∧
    energised.saf.outOn = true ∧ energised.outEnergised 0 = true ∧ energised.outEnergised 1 = true ∧
    nth ({ energised with saf.outTripped := [true, false] } : State).saf.outTripped 0 = true ∧ guarded.saf.outOn = false ∧ energised.fbEn = true ∧ energised.latched = false ∧
    energised.saf.fbWait = true ∧ energised.on F.SAF_STAT.FB_A = false ∧ energised.on F.SAF_STAT.FB_B ≠ energised.saf.outOn ∧
    (withFields [(F.SAF_STAT.FB_B, 1)] energised).on F.SAF_STAT.FB_B = energised.saf.outOn ∧
    (energised.advance 5).now ≤ energised.saf.outSince + 256000000 * max 20 (min 500 (energised.rd F.SAF_FB.TIME_MS)) ∧
    energised.saf.outSince + 256000000 * max 20 (min 500 (energised.rd F.SAF_FB.TIME_MS)) < (energised.advance (ms 101)).now ∧
    energised.saf.released = true ∧ restingDark.saf.released = false ∧ energised.saf.fbWindow = true ∧
    energised.saf.tailCap.length = 4 ∧ energised.saf.tailValid.length = 4 ∧
    nth energised.saf.tailAt 0 + 768000000 ≤ (energised.advance (ms 3)).now ∧ energised.dark 0 = true ∧ energised.inEn = true ∧
    nth energised.saf.outAt 0 + 256000000000 * max 1 (min 60 (energised.rd F.SAF_TP.PERIOD_S)) ≤ (energised.advance (sec 60)).now ∧
    nth energised.saf.outAt 1 + 256000000000 * max 1 (min 60 (energised.rd F.SAF_TP.PERIOD_S)) / 2 ≤ (energised.advance (sec 60)).now ∧
    ¬ nth energised.saf.outAt 0 + 256000000000 * max 1 (min 60 (energised.rd F.SAF_TP.PERIOD_S)) ≤ energised.now ∧
    guarded.saf.outSince < ms 1 ∧ guarded.now < guarded.saf.outSince + 2560000 * max 20 (min 100 (guarded.rd F.SAF_TP.OUT_US)) ∧ energised.demandBesideWait = false ∧
    (withFields [(F.SAF_STAT.LATCH, 1)] energised).demandBesideWait = true ∧ 1 ≤ ({ guarded with saf.pathFails := 1 } : State).saf.pathFails := by
  decide +kernel

/-- The guarded device latched, both contactors open, the black channel enabled and running. -/
def waiting : State :=
  { withFields [(F.SAF_STAT.LATCH, 1), (F.SAF_STAT.FB_A, 1), (F.SAF_STAT.FB_B, 1), (F.SAF_CFG.BC_EN, 1), (F.SAF_CFG.RST_SRC, 2),
      (F.SAF_BC_LOCAL.ID, 7), (F.SAF_BC_PEER.ID, 8)] guarded with saf.bcRun := true, saf.bcLost := false, saf.bcEdge := some 0 }

/-- A demand frame for identities 7 and 8, with its check value or with 0. -/
def demandFrame (ctrl seq : Nat) (good : Bool) : List Byte :=
  let body := [0x5A#8, BitVec.ofNat 8 ctrl] ++ leBytes 2 seq ++ List.replicate 8 0#8
  body ++ leBytes 4 (if good then crcOf crc32Set (leBytes 4 8 ++ leBytes 4 7 ++ body) else 0)

/-- RestartAndBlackChannel: edges that act and that do not, with the conditions held and not, frames for each test, a loss. -/
theorem witness_RestartAndBlackChannel :
    waiting.undef = false ∧ waiting.islandSees = true ∧ waiting.safeClk = true ∧ waiting.restartOk true true = true ∧
    waiting.restartOk true false = false ∧ waiting.saf.bcEdge = some (waiting.advance 0).now ∧ waiting.rd F.SAF_CFG.RST_SRC = 2 ∧ waiting.latched = true ∧
    waiting.saf.firstClear = false ∧ waiting.saf.coreFail = false ∧ waiting.saf.rstFrom + ms 200 ≤ (waiting.advance (ms 300)).now ∧
    waiting.saf.released = true ∧ restingDark.saf.released = false ∧ waiting.bcEn = true ∧
    waiting.bcTest (demandFrame 1 5 true) = 0 ∧ waiting.bcTest (demandFrame 1 5 false) = 2 ∧ waiting.bcTest (demandFrame 8 5 true) = 1 ∧
    ({ waiting with saf.bcLast := some 9 } : State).bcTest (demandFrame 1 5 true) = 3 ∧
    ({ waiting with saf.bcLast := some 4 } : State).bcTest (demandFrame 0 5 true) = 0 ∧ waiting.saf.bcLost = false ∧
    waiting.saf.bcAt + 256000000 * max 10 (min 2000 (waiting.rd F.SAF_BC_CFG.WD_MS)) ≤ (waiting.advance (ms 100)).now ∧
    waiting.sfDark = false := by decide +kernel

/-- The unlock sequence open for SRC_ID 9 since instant 0, in COMMISSION. -/
def unlocked : State :=
  { guarded with saf.unlock := .opened (some 9) 0, sys.fuses := { factoryDone := true }, flash.lifeCopies := [some { state := 1 }, none] }

/-- StartTestAndParameters: a core about to start, each stage of the sequence, FIELD and COMMISSION, all parameters RW. -/
theorem witness_StartTestAndParameters :
    unlocked.undef = false ∧ unlocked.lifecycle = 1 ∧ guarded.lifecycle = 2 ∧ unlocked.saf.unlock = .opened ((some 9#24).map (·.toNat)) 0 ∧
    (unlocked.advance 5).now ≤ 0 + 2560000000 ∧ 0 + 2560000000 < (unlocked.advance (ms 11)).now ∧
    unlocked.saf.released = true ∧ unlocked.safeClk = true ∧
    (withFields [(F.SYS_ISLAND_STAT.SAFE_CLK, 0)] unlocked).safeClk = false ∧
    ({ unlocked with sys.starting := false } : State).sys.starting = false ∧ unlocked.flash.conf.safParams ≠ some none ∧
    (0xFFFFFA#32).toNat = Nat.xor unlocked.deviceId 0xFFFFFF ∧
    safParamAddrs = [0x0E0008, 0x0E000C, 0x0E0010, 0x0E0014, 0x0E0020, 0x0E0024, 0x0E0028, 0x0E002C, 0x0E003C, 0x0E0030, 0x0E0034,
      0x0E0038, 0x0D0004] ∧
    ({ unlocked with saf.unlock := .first (some 9) 0 } : State).saf.unlock = .first (some 9) 0 := by decide +kernel

/-- The guarded device with its fault handling restored and some reports. -/
def reporting (l : List Report) : State := { guarded with flt.restoring := false, flt.inbox := l }

/-- The same with an unacknowledged PORT_DOWN of port 1 from an earlier cycle (16_fault_handling.md, worked example). -/
def escalating (l : List Report) : State :=
  { withFields [(F.FLT_SRC.STATE 0x21, 1), (F.FLT_SRC.REAL 0x21, 1), (F.FLT_SRC.CLASS 0x21, 2)] (reporting l) with
    flt.live := [⟨0x21, 2, 0, 0⟩] }

/-- The ladder error of Q2 of the worked example. -/
def ladderError : Report := ⟨0x59, 2, 4, 0, false, 1000⟩

/-- It escalates: applied class 3, Q2 dark, ESC (16_fault_handling.md, worked example). -/
theorem test_escalation_example : (match exec .faultRecord (escalating [ladderError]) with
    | .next t => decide (t.flt.log.map (fun e => (e.src, e.cls, e.raised, e.esc, e.quad)) = [(0x59, 3, 2, true, 4)] ∧
        t.rd F.FLT_LATCH.QUAD = 4 ∧ t.lightOf 2 = .dark)
    | _ => false) = true := by decide +kernel

/-- One record of a class waits for its copy; for class 2 the FLASH job is in flight, or not. -/
def copying (cls : Nat) (fly : Bool) : State :=
  { flashing [.logCopy] (reporting []) with
    flt.copies := [{ (default : LogRec) with src := 0x59, cls := cls }]
    gov.jobs := if fly then (flashing [.logCopy] (reporting [])).gov.jobs else (reporting []).gov.jobs }

/-- FaultCollection: reports alone and together, of clear, injected and uncleared sources, of each class; copies. -/
theorem witness_FaultCollection :
    guarded.undef = false ∧ (reporting []).flt.inbox = [] ∧ (reporting [ladderError]).flt.restoring = false ∧
    ladderError.src ∈ faultSources ∧ ladderError.cls ≤ 4 ∧ (reporting []).rd (F.FLT_SRC.STATE 0x59) = 0 ∧
    (escalating []).rd (F.FLT_SRC.STATE 0x21) = 1 ∧ (escalating []).rd (F.FLT_SRC.REAL 0x21) = 1 ∧
    (escalating []).flt.live.any (fun l => l.src != 0x59 && l.raised == 2 && Nat.ble l.cycle (escalating []).flt.cycle) = true ∧
    (0x84 ∈ faultSources ∧ 0x62 ∈ faultSources ∧ 0x90 ∈ faultSources) ∧ (reporting []).rd F.FLT_FIRST.VALID = 0 ∧
    (reporting []).rd F.FLT_LATCH.DARK_LATCH = 0 ∧ min 4 ((reporting []).rd F.FLT_CFG.PIN_CLASS) ≤ 2 ∧
    (reporting [ladderError, ⟨0x62, 0, 4, 0, false, 1001⟩]).flt.live = [] ∧ 1000 / 320 = 1001 / 320 ∧ 2000 / 320 ≠ 1000 / 320 ∧
    (reporting []).flt.log = [] ∧ (copying 2 true).inFlight .logCopy = true ∧ (copying 2 false).inFlight .logCopy = false ∧
    0 ∈ ({ copying 3 false with flt.copyFailed := [0] } : State).flt.copyFailed ∧ 0 ∉ (copying 3 false).flt.copyFailed ∧
    (copying 3 false).noChannel = false ∧ (copying 2 true).noChannel = false ∧ ((copying 3 false).job jobFlash).running = false ∧
    ((copying 3 false).job jobFlash).pausing = false ∧ ((copying 3 true).job jobFlash).running = true ∧ (copying 3 false).gov.flash ≠ [] ∧
    (copying 3 false).gov.jobs.length = 6 ∧ (copying 3 false).sys.lifeDue = none ∧
    (withFields [(F.FLT_SRC.CLASS 0x21, 3), (F.FLT_LATCH.QUAD, 1)] (escalating [])).faultDark 0 = true := by decide +kernel

/-- A listening device with two records, 0x21 RAISED. -/
def faulty : State :=
  { withFields [(F.FLT_SRC.STATE 0x21, 1), (F.FLT_SRC.REAL 0x21, 1), (F.FLT_SRC.CLASS 0x21, 2)] listening with
    flt.live := [⟨0x21, 2, 0, 0⟩], flt.log := [{ (default : LogRec) with seq := 65535 }, { (default : LogRec) with src := 0x21 }] }

/-- FaultCommands: each command on an assigned source, an unassigned one and all; a log whose numbers wrap. -/
theorem witness_FaultCommands :
    faulty.undef = false ∧ faulty.gate 0x50 (request 0 [0, 0, 1, 0] 0xa83e1b48) = .run ∧
    ([0, 0, 1, 0] : List Byte) = leBytes 2 0 ++ leBytes 2 1 ∧ 0 = (65535 + 1) % 65536 ∧
    faulty.flt.log.map (·.seq) = [65535 % 65536, (65535 + 1) % 65536] ∧ faulty.flt.log.length ≤ 1024 ∧ listening.flt.log = [] ∧
    faulty.gate 0x51 (request 0 [0x21, 0, 0, 0] 0x86bfcab1) = .run ∧ (0x21#8).toNat ∈ faultSources ∧
    (0x06#8).toNat ∉ faultSources ∧ faulty.gate 0x51 (request 0 [0, 1, 0, 0] 0x299ee6fc) = .run ∧
    faulty.gate 0x52 (request 0 [0x21, 0, 0, 0] 0xdf7bd276) = .run ∧
    faulty.gate 0x53 (request 0 [0x84, 0, 0, 0] 0xcbda6334) = .run ∧
    faulty.gate 0x51 (request 0 [] 0x4b241efd) = .run ∧ faulty.gate 0x52 (request 0 [0, 1, 0, 0] 0x705afe3b) = .run ∧
    faulty.gate 0x51 (request 0 [0, 2, 0, 0] 0xc3b0268f) = .run ∧ faulty.gate 0x52 (request 0 [0, 1, 0, 3] 0x630a0dcf) = .run ∧
    (withFields [(F.RLN_STAT.BREAK, 1)] faulty).causeHolds 0xA8 = true ∧ faulty.lifecycle = 2 ∧
    unlocked.lifecycle ≠ 2 ∧ 3 ≤ injectClass (0x84#8).toNat faulty ∧ injectClass (0x62#8).toNat faulty < 3 ∧
    faulty.rd (F.FLT_SRC.STATE 0x21) ≠ 0 ∧ faulty.causeHolds 0x21 = false ∧ faulty.rd (F.FLT_SRC.CLASS 0x21) ≤ 2 ∧
    (withFields [(F.FLT_SRC.CLASS 0x21, 3), (F.FLT_CFG.C3_EXIT, 1)] faulty).on F.FLT_CFG.C3_EXIT = true ∧
    (withFields [(F.SCN_RB_CFG.SRC_DARK 2, 1)] faulty).rd (F.SCN_RB_CFG.SRC_DARK 2) = 1 := by decide +kernel

/-- Channel 6 set to CRC-32C with "12345678" fed. -/
def channelFed : State :=
  withFields [(F.CHK_CH_VALUE.VALUE 6, crcRun crc32cSet 0xFFFFFFFF [0x31, 0x32, 0x33, 0x34, 0x35, 0x36, 0x37, 0x38])]

/-- The last write of the worked example of 17_check_values.md: VALUE 0x1CF96D7C, RESULT 0xE3069283. -/
theorem test_channel_example : (match exec (.crcChannelFeed 6 .byte 0x39) channelFed with
    | .next t => decide (t.rd (F.CHK_CH_VALUE.VALUE 6) = 0x1CF96D7C ∧ t.channelResult 6 = 0xE3069283)
    | _ => false) = true := by decide +kernel

/-- The check values of R396 over "123456789". -/
theorem test_check_values : [crc8Set, crc16Set, crc32Set, crc32cSet].map (fun k => crcOf k [0x31, 0x32, 0x33, 0x34, 0x35, 0x36, 0x37,
    0x38, 0x39]) = [0xDF, 0x29B1, 0xCBF43926, 0xE3069283] := by decide +kernel

/-- CheckEngines: a channel in the width of its set, a core released and not, with a scan running and not, an interpreter. -/
theorem witness_CheckEngines :
    channelFed.undef = false ∧ channelFed.rd (F.CHK_CH_VALUE.VALUE 6) < 2 ^ (channelFed.channelSet 6).width ∧
    channelFed.rd (F.CHK_CH_VALUE.VALUE 6) = crcRun (channelFed.channelSet 6) (channelFed.channelSet 6).init
      [0x31, 0x32, 0x33, 0x34, 0x35, 0x36, 0x37, 0x38] ∧
    guarded.saf.released = true ∧ restingDark.saf.released = false ∧ guarded.saf.imageFrom + 15360000000000 ≤ (guarded.advance (sec 60)).now ∧
    (guarded.advance 5).now < guarded.saf.imageFrom + 15360000000000 ∧ guarded.chk.scan = none ∧ scanning.chk.scan ≠ none ∧
    guarded.interpreter = true ∧ guarded.chk.testAt + 15360000000000 ≤ (guarded.advance (sec 60)).now ∧
    (guarded.advance 5).now < guarded.chk.testAt + 15360000000000 ∧ (∃ x ∈ scanning.chk.scan, x.next ≤ x.stop) ∧ State.reset.interpreter = false ∧ bitsAt (guarded.rd F.CHK_SELFTEST.CH_FAIL) 3 1 = 0 ∧
    bitsAt (8 : Fin 256).val 3 1 = 1 ∧ channelFed.channelGood 6 = true ∧ (withFields [(F.CHK_SELFTEST.CH_FAIL, 64)]).channelGood 6 = false ∧
    ({ guarded with chk.chans := [none, none, none, some .table, none, none] } : State).chk.chans.length = 6 := by decide +kernel

/-- A listening device in DARK with a valid reference. -/
def tunable : State := withFields [(F.TUN_REF.VALID, 1)] restingDark

/-- The same with a run in progress that a command asked for. -/
def tuningRun : State :=
  { tunable with tun.run := some { parts := 7, place := some (9, 1) }, cmd.places := [⟨0x70, request 0 [7, 0, 0, 0] 0, 5, false⟩] }

/-- The same with two quadrants that sense, and all its slot positions given. -/
def tRun : State :=
  { withFields [(F.SYS_ISLAND_STAT.QCLK, 15), (F.SCN_EE_STAT.VALID 0, 1), (F.SCN_EE_STAT.VALID 1, 1)] tuningRun with scn.running := true }
def tDone : State := { tRun with tun.run := some { parts := 7, place := some (9, 1), slots := [528, 528, 528, 528] } }

/-- A measurement without converters, its doublers at `d` millionths above T4. -/
def measuredOnly (d : Nat) : Measured := ⟨[], [], [], List.replicate 4 (1000000 + d, 1000000)⟩

/-- The output 901 of Q1 of the worked example of 18_tuning.md: 804.2 and 4,991.6 mV, as sums of sixteen codes of an ADC with gain correction 124 and offset −2. -/
theorem test_output_example : outResult (some ⟨771, -270⟩) ⟨124, -2⟩ ⟨2437, 9396, 58308⟩ = some ⟨789, -288⟩ := by decide +kernel

/-- A limit of R412 passed: the same output without a change limit is accepted, 0.9 % away from its previous value it is not. -/
theorem test_output_change : outResult (some ⟨3200, -270⟩) ⟨124, -2⟩ ⟨2437, 9396, 58308⟩ = none := by decide +kernel

/-- TuningAndReference: each answer to TUNE_RUN, each way a run falls due, is judged or fails, and each turn of the reference. -/
theorem witness_TuningAndReference :
    tunable.undef = false ∧ tunable.gate 0x70 (request 0 [7, 0, 0, 0] 0x568bfa73) = .run ∧
    tunable.gate 0x70 (request 0 [8, 0, 0, 0] 0xb9cf215f) = .run ∧ ([7, 0, 0, 0] : List Byte) = leBytes 4 7 ∧
    tunable.on F.TUN_REF.VALID = true ∧ tunable.power ≤ 1 ∧ tunable.tun.run = none ∧ tuningRun.tun.run ≠ none ∧
    tunable.gov.jobs.length = 6 ∧ restingDark.on F.TUN_REF.VALID = false ∧ tunable.rd F.TUN_CFG.PARTS ≠ 0 ∧
    tunable.rd F.TUN_CFG.PERIOD ≠ 0 ∧ tunable.tun.okAt + 15360000000000 * tunable.rd F.TUN_CFG.PERIOD ≤ (tunable.advance (sec 3600)).now ∧
    tunable.junctionMoved = false ∧ tunable.tun.waiting = none ∧
    (match tuningRun.tun.run with
      | some r => r.place
      | none => none) = some (9, 1) ∧
    tuningRun.cmd.places.map (Place.waits 9 1) = [true] ∧ (∀ q : Quad, tuningRun.sensing q = false) ∧
    tDone.sensing 1 = true ∧ tDone.runMeasured { parts := 7, slots := [528, 528, 528, 528] } = true ∧
    (∀ d ∈ (measuredOnly 300).doublers, d.2 < ((d.1 : Int) - d.2).natAbs * 5000) ∧ (measuredOnly 3).wf = true ∧
    doublersOk (measuredOnly 3) (fun _ => true) = true ∧ tunable.job jobTune = {} ∧
    ({ tuningRun with tun.waiting := some 2 } : State).tun.waiting = some 2 ∧ tuningRun.tun.storedAt = none ∧
    tuningRun.now < 0 + 22118400000000000 ∧ tuningRun.on F.TUN_REF.VALID = true ∧ tunable.asleep = false ∧ asleepDevice.asleep = true ∧
    ({ tunable with tun.outsideFrom := some 0 } : State).tun.outsideFrom = some 0 ∧ 0 + 2560000000 ≤ (tunable.advance (ms 10)).now ∧
    ({ tunable with tun.insideFrom := some 0 } : State).tun.insideFrom = some 0 ∧ 0 + 256000000000 ≤ (tunable.advance (sec 1)).now := by
  decide +kernel

/-- A device whose update machine is in state `st`. -/
def updating (st : Nat) : State := withFields [(F.UPD_STAT.STATE, st)] restingDark

/-- Bytes that UPDATE_STAGE may write. -/
def fourBytes : List Byte := [1, 2, 3, 4]

/-- The same with a staging write of four bytes at 0 under way. -/
def staging : State :=
  flashing [.staging] { updating 1 with cmd.places := [⟨0x60, { request 0 fourBytes 0 with tag := 2 }, 5, false⟩], upd.stale := [0, 1] }

/-- The same in CHECK, with the delivered image `h` staged and written in one piece. -/
def checking (h : ImageHeader) : State :=
  { updating 2 with
    cmd.places := [⟨0x61, request 0 [] 0, 5, false⟩], upd.written := [(0, 4096)]
    flash.areas := (updating 2).flash.areas.set (updating 2).flash.staging { (updating 2).area (updating 2).flash.staging with delivered := some h } }

/-- A header of 4096 bytes that fits the running image. -/
def fitting (cold : Bool) : ImageHeader :=
  { cold := cold, length := 4096, keySlot := 1, version := 0x02040075, rollback := 63, stateFrom := 0, stateFmt := 255
    dataFmt := (updating 2).flash.conf.fmt, migFrom := 0 }

/-- A whole staged image passes every test, hitless or cold; below the rollback floor it fails the sixth. -/
theorem test_staged_tests : (checking (fitting false)).stagedErr = 0 ∧ (checking (fitting true)).stagedErr = 0 ∧
    ({ checking { fitting false with rollback := 1 } with sys.fuses.floor := 2 } : State).stagedErr = 6 ∧
    ({ checking (fitting false) with upd.written := [(0, 4092)] } : State).stagedErr = 1 := by decide +kernel

/-- The digest of "abc" that FIPS 180-4 gives, its first and last bytes. -/
theorem test_sha_example : ((sha256 [0x61, 0x62, 0x63]).take 4, (sha256 [0x61, 0x62, 0x63]).drop 28)
    = ([0xBA, 0x78, 0x16, 0xBF], [0xF2, 0x00, 0x15, 0xAD]) := by decide +kernel

/-- UpdateStaging: each answer to staging and to activation, a write that ends well or badly, and a check. -/
theorem witness_UpdateStaging :
    (updating 0).undef = false ∧ (updating 1).undef = false ∧ (updating 0).updState = 0 ∧ (updating 1).updState = 1 ∧
    (updating 5).updState ∈ [5, 6, 8] ∧ (updating 2).updState ∈ [2, 3, 4, 7] ∧ 1 < (updating 2).updState ∧
    (updating 0).gate 0x60 (request 0 fourBytes 0x7128ea23) = .run ∧
    (updating 1).gate 0x60 (request 4 fourBytes 0xb2d28f94) = .run ∧
    (updating 2).gate 0x60 (request 4 fourBytes 0xb2d28f94) = .run ∧
    (updating 1).gate 0x60 (request 8388608 fourBytes 0xe953587b) = .run ∧
    (updating 1).gate 0x60 (request 0 [] 0x80ac68ca) = .run ∧ fourBytes.length % 4 = 0 ∧
    staging.gate 0x60 (request 4 fourBytes 0xb2d28f94) = .run ∧ staging.gov.jobs.length = 6 ∧
    ({ updating 1 with upd.written := [(0, 4)] } : State).upd.written = [(0, 4)] ∧ 0 < 2 + 4 ∧ 2 < 4 ∧
    (staging.cmd.places.filter (fun x => x.op == 0x60 && !x.answered)).map (fun p => p.req.tag.toNat) = [2] ∧
    staging.cmd.places.map (Place.waits 9 2) = [true] ∧ staging.inFlight .staging = true ∧ (updating 1).inFlight .staging = false ∧
    FlashJob.staging ∈ staging.gov.flash ∧ FlashJob.staging ∉ (updating 1).gov.flash ∧ (updating 1).job jobFlash = {} ∧
    ({ checking (fitting true) with sys.monitor := true } : State).sys.monitor = true ∧ staging.flash.staging < staging.flash.areas.length ∧
    (updating 1).gate 0x61 (request 0 [] 0x714e673c) = .run ∧ (updating 1).gate 0x61 (request 0 [0] 0x47afb79f) = .run ∧
    (checking (fitting true)).updState = 2 ∧ (checking (fitting true)).sys.monitor = false ∧
    ((checking (fitting true)).area (checking (fitting true)).flash.staging).header.cold = true ∧
    ((checking (fitting false)).area (checking (fitting false)).flash.staging).header.cold = false ∧
    (checking (fitting true)).cmd.places.map (fun p => (p.op, p.answered)) = [(0x61, false)] := by decide +kernel

/-- A governing device in state `st` of the update machine. -/
def governingIn (st : Nat) : State :=
  { withFields [(F.UPD_STAT.STATE, st), (F.GOV_FLAGS.STALLED, 1), (F.SYS_ISLAND_STAT.PIX_CLK, 1)] restingDark with upd.point := some 0 }

/-- The same in a fallback after a trip, with a checkpoint. -/
def fallingBack : State :=
  { governingIn 7 with upd.tripped := true, upd.cause := 1, upd.checkpoint := some ⟨{}, State.reset.gov, State.reset.tun, [], [], [(A.CMD_GROUP 0, 1#32)]⟩ }

/-- HandoverTrialFallback: each event in its state and outside it, deadlines met and not yet, and each answer to UPDATE_CONFIRM. -/
theorem witness_HandoverTrialFallback :
    (updating 3).undef = false ∧ (updating 3).updState = 3 ∧ (updating 3).upd.loadAt + 768000000000 ≤ ((updating 3).advance (sec 3)).now ∧
    (governingIn 4).updState = 4 ∧ ((governingIn 4).advance 0).governing = true ∧ (governingIn 4).undef = false ∧ (governingIn 4).upd.point = some 0 ∧ ((governingIn 4).advance 0).now ≤ 0 + 384000000 ∧ (updating 4).upd.point = none ∧ (updating 3).now ≤ (updating 3).upd.loadAt + 768000000000 ∧
    ((governingIn 5).advance 0).sameCycle = false ∧ ({ governingIn 5 with sys.resetAt := some 0 } : State).sameCycle = true ∧
    (governingIn 5).updState ∈ [5, 6] ∧ (governingIn 6).updState ∈ [5, 6] ∧ (governingIn 5).rd F.GOV_FLAGS.STALLED = 1 ∧
    (updating 5).rd F.GOV_FLAGS.STALLED = 0 ∧ (governingIn 5).upd.cold = false ∧
    ({ governingIn 5 with upd.cold := true } : State).upd.cold = true ∧
    (governingIn 5).upd.trialAt + 2560000000000 * max 1 ((governingIn 5).rd F.UPD_CFG.CONFIRM_S) ≤ ((governingIn 5).advance (sec 2550)).now ∧
    fallingBack.updState = 7 ∧ fallingBack.upd.tripped = true ∧
    fallingBack.upd.checkpoint.map (·.regs) = some [(A.CMD_GROUP 0, 1#32)] ∧ firmwareHeld (A.CMD_GROUP 0) = true ∧
    Sparse.wf resetWord [(A.CMD_GROUP 0, 1#32)] = true ∧ Sparse.wf resetWord fallingBack.regs = true ∧ fallingBack.comingBuffer = none ∧ (governingIn 7).upd.tripped = false ∧
    (governingIn 5).upd.trialAt + 256000000000 * max 1 ((governingIn 5).rd F.UPD_CFG.TRIAL_S) ≤ ((governingIn 5).advance (sec 10)).now ∧
    (governingIn 5).rd F.UPD_CFG.AUTO_CONFIRM = 0 ∧ (withFields [(F.UPD_CFG.AUTO_CONFIRM, 1)] (governingIn 5)).rd F.UPD_CFG.AUTO_CONFIRM = 1 ∧
    (updating 5).gate 0x62 (request 0 [] 0x62b607cf) = .run ∧ (updating 5).gate 0x62 (request 0 [0] 0xa782d37e) = .run ∧
    (withFields [(F.UPD_STAT.SELF_OK, 1)] (updating 5)).rd F.UPD_STAT.SELF_OK = 1 ∧ (updating 5).rd F.UPD_STAT.SELF_OK = 0 ∧
    (withFields [(F.UPD_STAT.SELF_OK, 1)] (updating 5)).gate 0x62 (request 0 [] 0x62b607cf) = .run ∧
    (updating 6).gate 0x62 (request 0 [] 0x62b607cf) = .run := by decide +kernel

/-- RevertStartsFallback: in trial, armed, in staging, with a payload, and in the trial of a cold image. -/
theorem witness_RevertStartsFallback :
    (updating 5).undef = false ∧ (updating 5).gate 0x63 (request 0 [] 0x90ba0a31) = .run ∧ (updating 5).updState ∈ [5, 6] ∧
    (updating 5).upd.cold = false ∧ (updating 8).updState = 8 ∧ (updating 8).gate 0x63 (request 0 [] 0x90ba0a31) = .run ∧
    (updating 1).updState ∉ [5, 6, 8] ∧ (updating 1).gate 0x63 (request 0 [] 0x90ba0a31) = .run ∧
    (updating 1).gate 0x63 (request 0 [0] 0xf8660f21) = .run ∧
    (updating 0).gate 0x61 (request 0 [] 0x714e673c) = .run ∧ (updating 0).updState = 0 ∧
    ({ updating 5 with upd.cold := true } : State).gate 0x63 (request 0 [] 0x90ba0a31) = .run ∧ State.reset.flash.boot.length = 2 ∧
    (updating 5).sameCycle = false ∧ ({ updating 5 with sys.resetAt := some 0 } : State).sameCycle = true ∧
    (updating 5).rd F.SYS_RESET_CAUSE.CAUSE ≤ 8 := by decide +kernel

/-- A device in DARK whose life-cycle transition from `a` to `b` waits for its erasures. -/
def transiting (a b : Nat) : State := { restingDark with flash.lifeCopies := [some { state := b, pending := true, source := a }, none] }

/-- A device without the supplies that are false in `l`. -/
def unsupplied (l : List Bool) : State := { restingDark with sys.supplies := l }

/-- ResetsAndSupplies: each supply coming and going, the pin both ways, the watchdog in and out of its time, and each erasure. -/
theorem witness_ResetsAndSupplies :
    restingDark.undef = false ∧ nth restingDark.sys.supplies 1 = true ∧ nth (unsupplied [true, false, true, true, true]).sys.supplies 1 = false ∧
    nth (unsupplied [false, true, true, true, true]).sys.supplies 0 = false ∧ restingDark.sys.supplies = [true, true, true, true, true] ∧
    false ∈ (unsupplied [true, false, true, true, true]).sys.supplies ∧ nth (unsupplied [true, false, true, true, true]).sys.supplies 0 = true ∧
    (withFields [(F.SYS_RESET_CAUSE.CAUSE, 4)] (unsupplied [true, false, true, true, true])).rd F.SYS_RESET_CAUSE.CAUSE = 4 ∧
    true ∉ restingDark.sys.aboveMax.set 1 (decide (nth [3600, 824, 927, 1890, 6300, 28800] 1 < 824)) ∧
    true ∈ restingDark.sys.aboveMax.set 1 (decide (nth [3600, 824, 927, 1890, 6300, 28800] 1 < 825)) ∧ restingDark.sys.byCase = false ∧
    nth [3300, 800, 900, 1800, 6000, 24000] 1 * 92 < 737 * 100 ∧ ¬nth [3300, 800, 900, 1800, 6000, 24000] 1 * 92 < 736 * 100 ∧ asleepDevice.asleep = true ∧ restingDark.inEn = true ∧
    restingDark.sys.resetPin = false ∧ ({ restingDark with sys.resetPin := true } : State).sys.resetPin = true ∧
    4 ≤ restingDark.rd F.SYS_START.STEP ∧ restingDark.asleep = false ∧ restingDark.updState ∉ [5, 6] ∧ (updating 5).updState ∈ [5, 6] ∧
    restingDark.flash.life.pending = false ∧ (transiting 0 1).flash.life.pending = true ∧ (transiting 0 1).flash.life.source = 0 ∧
    (transiting 2 1).flash.life.source ∈ [2, 3] ∧ (transiting 2 1).flash.life.state = 1 ∧ (transiting 2 4).flash.life.state = 4 ∧
    (transiting 2 3).flash.life.state ∉ [1, 4] ∧ (transiting 0 1).flashWriting = false ∧
    ({ transiting 0 1 with gov.jobs := (transiting 0 1).gov.jobs.set jobFlash { running := true } } : State).flashWriting = true ∧
    (restingDark.advance 0).sameCycle = false ∧ ({ withFields [(F.SYS_RESET_CAUSE.CAUSE, 5)] restingDark with sys.resetAt := some 0 } : State).sameCycle = true ∧
    (withFields [(F.SYS_RESET_CAUSE.CAUSE, 5)] restingDark).rd F.SYS_RESET_CAUSE.CAUSE = 5 ∧ restingDark.sys.dueReset = none := by decide +kernel

/-- A device at the start of its start, with a delivered image in CURRENT or PREVIOUS as said. -/
def startable (cur prev : Bool) : State :=
  let good : ImageArea := { bytes := [], delivered := some (fitting false) }
  let none_ : ImageArea := { bytes := [], delivered := some { fitting false with keySlot := 4 } }
  { State.reset with
    flash.areas := [if cur then good else none_, if prev then good else none_, {}], flash.boot := [some {}, none]
    flash.record := none, flash.confOld := none, sys.fuses.floor := 0 }

/-- The same after a warm reset with cause RESET_PIN. -/
def restarted : State := withFields [(F.SYS_RESET_CAUSE.CAUSE, 2)] (startable true true)

/-- The same with a staged image that may run, and its record. -/
def staged (armed confirmed : Bool) : State :=
  { restarted with
    flash.areas := restarted.flash.areas.set 2 { bytes := [], delivered := some (fitting true) }
    flash.record := some ⟨[], armed, confirmed⟩ }

/-- The rail sequencer at work: rails 0 and 1 used, waiting as said. -/
def sequencing (r : RailSeq) (w : List (Nat × Nat)) (e : Nat) : State :=
  { withFields [(F.SYS_PRAIL_STAT.EN, e), (F.SYS_START.STEP, 5)] restingDark with
    sys.rails := r, sys.pgWait := w, sys.used := 3, sys.starting := true }

/-- StartAndRails: a start held, asked for, pending, from each image and from none, with each failure; each event of the rails. -/
theorem witness_StartAndRails :
    restarted.undef = false ∧ restarted.sys.starting = true ∧ restarted.sys.resetPin = false ∧
    restarted.sys.supplies = [true, true, true, true, true] ∧ restarted.sys.startAt ≤ (restarted.advance 0).now ∧
    restarted.rd F.SYS_START.STEP = 0 ∧ restarted.sys.dueReset = none ∧ restarted.flash.life.pending = false ∧ restarted.sys.waking = false ∧
    restarted.rd F.SYS_RESET_CAUSE.CAUSE ≠ 1 ∧ ({ restarted with flash.lifeCopies := [some { pending := true }, none] } : State).flash.life.pending = true ∧
    ({ restarted with sys.dueReset := some (3, 0), sys.resetPin := true } : State).sys.dueReset = some (3, 0) ∧
    restarted.sys.dueAt + 256000000 ≤ (restarted.advance (ms 1)).now ∧ (restarted.advance 0).now < restarted.sys.dueAt + 256000000 ∧
    restarted.pwr.retryAt ≤ (restarted.advance 0).now ∧ (restarted.advance (ms 1)).sameCycle = false ∧
    (staged false true).rotates = true ∧ (staged false true).flash.boot.length = 2 ∧ (staged true false).rotates = false ∧
    (staged true false).bootable ((staged true false).area (staged true false).flash.staging) = true ∧
    ({ restingDark with pwr.trans := .exit } : State).pwr.trans = .exit ∧ restingDark.scn.running = false ∧
    (sequencing (.waitPg 0) [(0, 0)] 1).sys.pgWait.find? (fun w => w.1 == 0) = some (0, 0) ∧
    restarted.flash.record = none ∧ restarted.flash.confOld = none ∧ restarted.lifecycle ≠ 4 ∧
    (startable true true).bootable ((startable true true).area 0) = true ∧ (startable false true).bootable ((startable false true).area 0) = false ∧
    (startable false true).bootable ((startable false true).area 1) = true ∧ (startable false false).bootable ((startable false false).area 1) = false ∧
    ({ restarted with sys.fuses.retired := true } : State).lifecycle = 4 ∧
    (sequencing .idle [] 0).rd F.SYS_START.STEP ∉ [7, 8] ∧ (sequencing (.waitPg 0) [(0, 0)] 1).sys.rails = .waitPg 0 ∧
    25600000 * (sequencing (.waitPg 0) [(0, 0)] 1).rd F.SYS_PRAIL_CFG.DELAY = 0 ∧
    25600000 * (withFields [(F.SYS_PRAIL_CFG.DELAY, 3)] (sequencing (.waitPg 0) [(0, 0)] 1)).rd F.SYS_PRAIL_CFG.DELAY ≠ 0 ∧
    (withFields [(F.SYS_PRAIL_STAT.PG, 1)] (sequencing .idle [] 1)).railOn 0 = true ∧
    (withFields [(F.SYS_PRAIL_STAT.PG, 1)] (sequencing .idle [] 1)).railPg 0 = true ∧
    0 + 256000000 * max 1 ((sequencing (.waitPg 0) [(0, 0)] 1).rd F.SYS_PRAIL_CFG.PG_TO) ≤ ((sequencing (.waitPg 0) [(0, 0)] 1).advance (ms 10)).now ∧
    (sequencing (.fall 1) [] 1).sys.rails = .fall 1 ∧ (sequencing (.waitDelay 0) [] 1).sys.rails = .waitDelay 0 ∧
    (sequencing .idle [] 1).nextRail 1 = some 1 ∧ (sequencing .idle [] 1).nextRail 2 = none ∧
    (withFields [(F.SYS_START.STEP, 7)] (sequencing .idle [] 1)).rd F.SYS_START.STEP ∈ [7, 8] ∧
    ({ restarted with flash.lifeCopies := [some {}, some { state := 1, pending := true, seq := 1 }] } : State).flash.cutLife.life = {} ∧
    (withFields [(F.SYS_RESET_CAUSE.CAUSE, 4)] restarted).rd F.SYS_RESET_CAUSE.CAUSE ∈ [1, 4] ∧ restingDark.saf.released = false := by decide +kernel

/-- A payload of LIFECYCLE: the target, and an unsigned record for the device of serial 0 and nonce 0 with a PARAM_CRC. -/
def lcPayload (target : Byte) (crc : Word) : List Byte :=
  [target, 0, 0, 0, 0x41, 0x56, 0x4C, 0x43, target, 0xFF, 0, 0] ++ List.replicate 16 0 ++ leBytes 4 crc.toNat ++ List.replicate 132 0

/-- A device in SERVICE whose safety parameters are stored. -/
def atService : State :=
  { restingDark with flash.lifeCopies := [some { state := 3, source := 3 }, none], flash.conf.safParams := some (some restingDark.paramWords), sys.fuses.serial := 0 }

/-- The same with every place taken and the count of BUSY at its end. -/
def fullAt255 : State :=
  { withFields [(F.CMD_CNT_REF.BUSY, 255)] atService with cmd.places := List.replicate 32 ⟨0x20, request 0 [] 0, 5, false⟩ }

/-- A request with the CRC that device 5 finds right. -/
def requestOf (op : Nat) (arg : Word) (payload : List Byte) : Request :=
  let r := request arg payload 0#32
  { r with crc := BitVec.ofNat 32 (crc32c (foldedBytes op r restingDark ++ requestBytes op r)) }

/-- The unsigned request of SERVICE for FIELD, with the right PARAM_CRC. -/
def toField : Request := requestOf 0x7A 0 (lcPayload 2 (BitVec.ofNat 32 atService.paramCrc))

/-- The request of SERVICE for COMMISSION without a signature. -/
def toCommission : Request := requestOf 0x7A 0 (lcPayload 1 0)

/-- LifecycleAndServicePort: a transition that passes, one refused for each reason, and the port served, silent, full and locked. -/
theorem witness_LifecycleAndServicePort :
    atService.undef = false ∧ atService.gate 0x7A toField = .run ∧ atService.gate 0x7A toCommission = .run ∧ lifecycleRange toField = none ∧
    lifecycleRange toCommission = none ∧ toField.payload.length = 164 ∧ pByte toField 0 = 2 ∧ atService.lifecycle = 3 ∧ atService.updState ≤ 1 ∧
    fieldLE (toField.payload.drop 4) 8 8 = atService.sys.fuses.serial % 2 ^ 64 ∧
    fieldLE (toField.payload.drop 4) 16 8 = atService.rd F.SYS_LC_NONCE_LO.NONCE + 2 ^ 32 * atService.rd F.SYS_LC_NONCE_HI.NONCE ∧
    fieldLE (toField.payload.drop 4) 5 1 = 0xFF ∧ fieldLE (toField.payload.drop 4) 24 4 = atService.paramCrc ∧
    atService.paramsStored = true ∧ atService.power ≠ 0 ∧ atService.pwr.trans = .none ∧
    atService.gate 0x7A (requestOf 0x7A 0 []) = .run ∧ (withFields [(F.PWR_STATE.STATE, 0)] atService).power = 0 ∧
    (withFields [(F.UPD_STAT.STATE, 5)] atService).gate 0x7A toField = .run ∧ transition 3 0 = none ∧
    4 ≤ atService.rd F.SYS_START.STEP ∧ atService.asleep = false ∧ atService.cmd.places.length < 32 ∧ asleepDevice.asleep = true ∧
    32 ≤ fullAt255.cmd.places.length ∧ fullAt255.rd F.CMD_CNT_REF.BUSY = 255 ∧ min 0xFF (fullAt255.rd F.CMD_CNT_REF.BUSY + 1) = 255 ∧ 4 ≤ fullAt255.rd F.SYS_START.STEP ∧
    atService.flashWriting = false ∧ ({ atService with gov.jobs := atService.gov.jobs.set jobFlash { running := true } } : State).flashWriting = true ∧
    atService.unclocked [0x110000] = none ∧ atService.unclocked [0x080000] ≠ none ∧ (0x110000 : Nat) / 0x10000 ∈ [8, 9, 12, 17, 18] ∧
    restingDark.lifecycle = 2 ∧ ({ atService with sys.monitor := true } : State).sys.monitor = true ∧ atService.saf.unlock = .closed ∧ atService.unlockedFor none = false ∧ 
    (withFields [(F.PWR_STATE.STATE, 2)] atService).power = 2 ∧ (withFields [(F.PWR_STATE.STATE, 2)] atService).pwr.trans = .none ∧
    ({ atService with pwr.trans := .exit } : State).pwr.trans = .exit ∧ ({ atService with saf.unlock := .opened none 5 } : State).saf.unlock = .opened none 5 ∧
    safParamAddrs.contains A.SAF_CFG = true ∧ atService.writeLocked none (0x110002, 0) = false := by decide +kernel

/-- A governor that evaluates buffer `k`, which is READY. -/
def evaluating (k : Nat) : State :=
  { governingIn 0 with gov.eval := some k, pix.bufs := (governingIn 0).pix.bufs.set k { (governingIn 0).buf k with st := .ready } }

/-- GovernorStall: a frame's first line without a ceiling, four frames missed, three, STALLED already, and the next ceiling. -/
theorem witness_GovernorStall :
    ({ State.reset with scn.running := true, scn.anyFrame := true } : State).lineNext 0 0 = true ∧ State.reset.firstLine = true ∧
    State.reset.undef = false ∧ State.reset.ceilingsStand = false ∧ 4 ≤ ({ State.reset with gov.missed := 4 } : State).gov.missed ∧
    State.reset.rd F.GOV_FLAGS.STALLED = 0 ∧ ({ State.reset with gov.missed := 3 } : State).gov.missed < 4 ∧
    (withFields [(F.GOV_FLAGS.STALLED, 1)]).rd F.GOV_FLAGS.STALLED = 1 ∧ ((governingIn 0).advance 0).governing = true ∧
    (evaluating 1).gov.eval = some 1 ∧ ((evaluating 1).buf 1).st = .ready ∧ ((evaluating 1).advance 0).governing = true ∧
    (evaluating 1).undef = false := by decide +kernel

/-- The READ_REG packet of the worked example of 11_command_packets.md, with its CRC. -/
def exampleRead : Request :=
  let r : Request := ⟨0, 0x20, 0x137, 1, 0x137, 0xC00001, 0x1F40, 4, 0x00080054, [1, 0, 0, 0], 0⟩
  { r with crc := BitVec.ofNat 32 (crc32c ([0x37, 0x01, 0x00] ++ requestBytes 0x02 r)) }

/-- The device of the example: CONFIRMED 3, DROPPED 17. -/
def exampleDevice : State := { withFields [(F.RLN_ID.ID, 0x137)] clockedQ with regs := (((withFields [(F.RLN_ID.ID, 0x137)] clockedQ).setReg 0x00080054 0x00030011#32).regs) }

/-- The bytes of the example's packet, in its order. -/
theorem test_packet_bytes : requestBytes 0x02 exampleRead = [0x02, 0x01, 0x37, 0x01, 0x00, 0x01, 0x00, 0xC0, 0x40, 0x1F, 0x04, 0x00,
    0x54, 0x00, 0x08, 0x00, 0x01, 0x00, 0x00, 0x00] := by decide +kernel

/-- The example's reply, the register cleared, and the cached reply with FLAGS 0x10 to the packet resent. -/
theorem test_lost_reply : (match exec (.readReg 0 exampleRead) exampleDevice with
    | .next t => decide (t.reg 0x00080054 = 0) && (match exec (.readReg 0 exampleRead) t with
      | .next u => u.cmd.replies.map (fun r => (r.dup, r.status, r.payload)) == [(false, 0, [0x11, 0, 3, 0]), (true, 0, [0x11, 0, 3, 0])]
      | _ => false)
    | _ => false) = true := by decide +kernel

/-- StepRunsFrontCommand: a queue with a command in front, and an empty one. -/
theorem witness_StepRunsFrontCommand :
    ({ State.reset with pending := [.govStall] } : State).pending = [.govStall] ∧ State.reset.pending = [] ∧
    State.reset.undef = false := by decide +kernel

/-- EveryStepKeepsShape: the state after reset is in shape. -/
theorem witness_EveryStepKeepsShape :
    State.reset.sys.supplies.length = 5 ∧ State.reset.sys.aboveMax.length = 6 ∧ State.reset.flash.areas.length = 3 ∧
    State.reset.flash.boot.length = 2 ∧ State.reset.flash.lifeCopies.length = 2 ∧ State.reset.pix.bufs.length = 4 ∧ State.reset.chk.chans.length = 6 ∧ (State.reset.saf.supFails.length = 2 ∧ State.reset.saf.supPasses.length = 2) ∧
    (State.reset.saf.supAt.length = 2 ∧ State.reset.saf.outAt.length = 2) ∧
    (State.reset.saf.tailCap.length = 4 ∧ State.reset.saf.tailValid.length = 4) ∧
    (State.reset.thm.sensors.length = 24 ∧ State.reset.thm.dieTrip.length = 4) ∧
    State.reset.gov.jobs.length = 6 ∧ State.reset.fmc.openRow.length = 32 ∧ State.reset.fmc.lastReq.length = 2 ∧ State.reset.cmp.applied.length = 2 ∧
    State.reset.zlp.ports.length = 4 ∧ State.reset.pwr.light.length = 4 ∧ State.reset.upd.checkpoint = none := by decide +kernel

end Sys2Proof.Tests
end

/-! # Every step keeps the lengths of the state's lists (settles O59)

`State.Shape.f` says that the operation `f` answers a state in shape from a state in shape, for every operation of the model from
the register file up to `exec`, in the order of the model's files. A proof follows its operation: `h.wr.bump` for one operation
after another, `.ite` for the two sides of an `if`, `{ h with }` or `.upd` for an update of other fields, and `split` for a
`match`. A list changes only by `List.set`, by a `map`, or by a list written out with the right length. -/

namespace Sys2Proof.Machine

/- The lemmas are many and short: checking them one after another needs no thread for each. -/
set_option Elab.async false

/-- Whatever the command answers as its next state is in shape. -/
def Shaped (o : Host.Outcome State Fault Refusal) : Prop := ∀ t, o = .next t → t.Shape

theorem Shaped.ite {c : Prop} [Decidable c] {a b : Host.Outcome State Fault Refusal} (ha : Shaped a) (hb : Shaped b) :
    Shaped (if c then a else b) := by split <;> assumption

namespace State

/-- How many entries the lists have of which `Shape` tells the number. -/
def sizes (s : State) : List Nat × Option Nat :=
  ([s.sys.supplies.length, s.sys.aboveMax.length, s.flash.areas.length, s.flash.boot.length, s.flash.lifeCopies.length,
    s.saf.supFails.length, s.saf.supPasses.length, s.saf.supAt.length, s.saf.outAt.length, s.saf.tailCap.length,
    s.saf.tailValid.length, s.thm.sensors.length, s.thm.dieTrip.length, s.gov.jobs.length, s.fmc.openRow.length,
    s.fmc.lastReq.length, s.cmp.applied.length, s.pix.bufs.length, s.chk.chans.length, s.zlp.ports.length, s.pwr.light.length],
   s.upd.checkpoint.map (·.gov.jobs.length))

theorem shape_iff (s : State) : s.Shape ↔
    s.sizes.1 = [5, 6, 3, 2, 2, 2, 2, 2, 2, 4, 4, 24, 4, 6, 32, 2, 2, 4, 6, 4, 4] ∧ ∀ n, s.sizes.2 = some n → n = 6 := by
  simp only [sizes, List.cons.injEq, and_true, Option.map_eq_some_iff, forall_exists_index, and_imp]
  constructor
  · rintro ⟨supplies, areas, boots, channels, tails, sensors, others⟩
    obtain ⟨hj, ho, hl, ha, hb, hc, hz, hp, hk⟩ := others
    exact ⟨by simp only [supplies, areas, boots, channels, tails, sensors, hj, ho, hl, ha, hb, hc, hz, hp, and_self],
      fun _ c hc e => e ▸ hk c hc⟩
  · rintro ⟨h, hc⟩
    constructor <;> simp only [h, and_self, true_and]
    exact fun c e => hc _ c e rfl

/-- Lists of the same lengths. -/
theorem Shape.of_sizes {s t : State} (h : s.Shape) (e : t.sizes = s.sizes) : t.Shape := by
  rw [shape_iff] at h ⊢
  rwa [e]

/-- An update of the state that leaves the lists their lengths. -/
theorem Shape.upd {s : State} {now : Nat} {undef : Bool} {freeNo : Nat} {pending : List Instr} {regs frameRegs capRegs : List (Nat × Word)}
    {mem : List Host.Cell} {flash : FlashState} {pix : PixState} {cmp : CmpState} {hyb : HybState} {scn : ScnState}
    {sns : SnsState} {gov : GovState} {fmc : FmcState} {lnk : LnkState} {zlp : ZlpState} {cmd : CmdState} {rln : RlnState}
    {pwr : PwrState} {thm : ThmState} {saf : SafState} {flt : FltState} {chk : ChkState} {tun : TunState} {upd : UpdState}
    {sys : SysState} (h : s.Shape)
    (e : ([sys.supplies.length, sys.aboveMax.length, flash.areas.length, flash.boot.length, flash.lifeCopies.length,
      saf.supFails.length, saf.supPasses.length, saf.supAt.length, saf.outAt.length, saf.tailCap.length, saf.tailValid.length,
      thm.sensors.length, thm.dieTrip.length, gov.jobs.length, fmc.openRow.length, fmc.lastReq.length, cmp.applied.length,
      pix.bufs.length, chk.chans.length, zlp.ports.length, pwr.light.length], upd.checkpoint.map (·.gov.jobs.length))
      = s.sizes := by dsimp only [State.sizes]) :
    State.Shape ⟨now, undef, freeNo, pending, regs, frameRegs, capRegs, mem, flash, s.br, pix, cmp, hyb, scn, sns, gov, fmc, lnk, zlp,
      cmd, rln, pwr, thm, saf, flt, chk, tun, upd, sys⟩ := h.of_sizes e

theorem Shape.ite {c : Prop} [Decidable c] {a b : State} (ha : a.Shape) (hb : b.Shape) : (if c then a else b).Shape := by
  split <;> assumption

theorem Shape.ite_fst {c : Prop} [Decidable c] {α : Type} {a b : State × α} (ha : a.1.Shape) (hb : b.1.Shape) :
    (if c then a else b).1.Shape := by split <;> assumption

theorem Shape.ite_snd {c : Prop} [Decidable c] {α : Type} {a b : α × State} (ha : a.2.Shape) (hb : b.2.Shape) :
    (if c then a else b).2.Shape := by split <;> assumption

theorem Shape.foldl {α : Type} {f : State → α → State} (hf : ∀ {s}, s.Shape → ∀ a, (f s a).Shape) {l : List α} {s : State}
    (h : s.Shape) : (l.foldl f s).Shape := by
  induction l generalizing s with
  | nil => exact h
  | cons a l ih => exact ih (hf h a)

/-! ### Machine/State.lean -/

theorem Shape.reset : State.reset.Shape :=
  ⟨⟨rfl, rfl⟩, rfl, ⟨rfl, rfl⟩, ⟨rfl, rfl, rfl, rfl⟩, ⟨rfl, rfl⟩, ⟨rfl, rfl⟩,
    rfl, rfl, rfl, rfl, rfl, rfl, rfl, rfl, by rintro _ ⟨⟩⟩

/-! ### Machine/Ops.lean -/

theorem Shape.setReg {s : State} {a : Nat} {w : Word} (h : s.Shape) : (s.setReg a w).Shape :=
  { h with }

theorem Shape.wr {s : State} {f : Fld} {v : Nat} (h : s.Shape) : (s.wr f v).Shape :=
  h.setReg

theorem Shape.wrB {s : State} {f : Fld} {b : Bool} (h : s.Shape) : (s.wrB f b).Shape :=
  h.wr

theorem Shape.bumpBy {s : State} {f : Fld} {n : Nat} (h : s.Shape) : (s.bumpBy f n).Shape :=
  h.wr

theorem Shape.bump {s : State} {f : Fld} (h : s.Shape) : (s.bump f).Shape :=
  h.bumpBy

theorem Shape.fillArrays {s : State} (h : s.Shape) : s.fillArrays.Shape :=
  { h with }

theorem Shape.writeByte {s : State} {a : Nat} {b : Byte} (h : s.Shape) : (s.writeByte a b).Shape :=
  .ite (.upd h (by simp [sizes])) { h with }

theorem Shape.writeBytes {s : State} {a : Nat} {bs : List Byte} (h : s.Shape) : (s.writeBytes a bs).Shape := by
  induction bs generalizing s a with
  | nil => exact h
  | cons b bs ih => exact ih h.writeByte

theorem Shape.writeLE {s : State} {a n v : Nat} (h : s.Shape) : (s.writeLE a n v).Shape :=
  h.writeBytes

theorem Shape.draw {s : State} (h : s.Shape) : s.draw.2.Shape :=
  { h with }

theorem Shape.report {s : State} {src cls quad data : Nat} (h : s.Shape) : (s.report src cls quad data).Shape :=
  { h with }

theorem Shape.fault {s : State} {src cls : Nat} (h : s.Shape) : (s.fault src cls).Shape :=
  h.report

theorem Shape.faultQ {s : State} {src cls : Nat} {q : Quad} (h : s.Shape) : (s.faultQ src cls q).Shape :=
  h.report

theorem Shape.undefCase {s : State} (h : s.Shape) : s.undefCase.Shape :=
  { h with }

theorem Shape.lastingCase {s : State} (h : s.Shape) : s.lastingCase.Shape :=
  { h with }

theorem Shape.afterReset {x s : State} (h : x.Shape) (hs : s.Shape) : (x.afterReset s).Shape :=
  { h with supplies := ⟨h.supplies.1, hs.supplies.2⟩ }

theorem Shape.forQ {f : Quad → State → State} {s : State} (hf : ∀ {s}, s.Shape → ∀ q, (f q s).Shape) (h : s.Shape) :
    (forQ f s).Shape :=
  hf (hf (hf (hf h 0) 1) 2) 3

/-! ### Machine/Mute.lean -/

theorem Shape.clearLatch {s : State} (h : s.Shape) : s.clearLatch.Shape :=
  { h with }

theorem Shape.setLatch {s : State} (h : s.Shape) : s.setLatch.Shape :=
  { h with }

theorem Shape.latchDemand {s : State} (h : s.Shape) : s.latchDemand.Shape :=
  .ite h.setLatch h

theorem Shape.autoClear {s : State} (h : s.Shape) : s.autoClear.Shape :=
  .ite h.clearLatch h

theorem Shape.driveOutputs {s : State} (h : s.Shape) : s.driveOutputs.Shape :=
  .ite h { h with }

theorem Shape.setLight {s : State} {q : Quad} {l : Light} (h : s.Shape) : (s.setLight q l).Shape :=
  .upd h (by simp [sizes])

theorem Shape.stepTen {s : State} (h : s.Shape) : s.stepTen.Shape :=
  .ite h.wr h

theorem Shape.driveLight {q : Quad} {s : State} (h : s.Shape) : (driveLight q s).Shape :=
  .ite h.setLight (.ite (.upd h.setLight.stepTen) h)

theorem length_fitTo {α : Type} [Inhabited α] (n : Nat) (l : List α) : (fitTo n l).length = n := by simp [fitTo]

theorem Shape.havoc {s : State} (h : s.Shape) : s.havoc.Shape :=
  { h with
    others := by
      refine ⟨length_fitTo .., length_fitTo .., length_fitTo .., length_fitTo .., length_fitTo .., length_fitTo .., length_fitTo ..,
        length_fitTo .., fun c hc => ?_⟩
      obtain ⟨d, -, rfl⟩ := Option.map_eq_some_iff.1 hc
      exact length_fitTo .. }

theorem Shape.settle {s : State} (h : s.Shape) : s.settle.Shape :=
  .forQ (fun h _ => h.driveLight) (.driveOutputs (.autoClear (.latchDemand (.ite h.havoc h))))

end State

theorem Shaped.done {s : State} (h : s.Shape) : Shaped (Machine.done s) := by
  rintro _ ⟨⟩
  exact h.settle

namespace State

/-! ### Machine/Operands.lean -/

theorem Shape.send {s : State} {r : Request} {p : Reply} (h : s.Shape) : (s.send r p).Shape :=
  .ite { h with } h

theorem Shape.touchSource {s : State} {src : Nat} (h : s.Shape) : (s.touchSource src).Shape := by
  unfold State.touchSource
  split
  · exact { h with }
  · split
    · exact .fault (.bump { h with })
    · exact { h with }

theorem Shape.remember {s : State} {src tag : Nat} {p : Reply} (h : s.Shape) : (s.remember src tag p).Shape :=
  { h with }

theorem Shape.finishUnder {s : State} {id op : Nat} {r : Request} {a : Answer} (h : s.Shape) : (s.finishUnder id op r a).Shape :=
  .ite h.send.remember h.send

theorem Shape.finish {s : State} {op : Nat} {r : Request} {a : Answer} (h : s.Shape) : (s.finish op r a).Shape :=
  h.finishUnder

theorem Shape.complete {s : State} {src tag : Nat} {a : Answer} (h : s.Shape) : (s.complete src tag a).Shape := by
  unfold State.complete
  split
  · exact h
  · exact .finishUnder { h with }

theorem Shape.workDone {op : Nat} {s : State} (h : s.Shape) : (workDone op s).Shape :=
  { h with }

theorem Shape.replySent {s : State} (h : s.Shape) : s.replySent.Shape := by
  unfold State.replySent
  split
  · exact h
  · exact { h with }

theorem Shape.taken {s : State} {r : Request} (h : s.Shape) : (s.taken r).Shape :=
  h.bump.touchSource

theorem Shape.command {op : Nat} {r : Request} {body : State → State × Verdict} {s : State}
    (hb : ∀ {s}, s.Shape → (body s).1.Shape) (h : s.Shape) : (command op r body s).Shape := by
  unfold Machine.command
  split
  · exact h
  · exact h.bump.send
  · exact h.bump.bump.fault.send
  · exact h.bump.bump.fault
  · exact h.bump.bump.send
  · exact h.bump.bump
  · exact h.bump.bump.fault.send
  · exact h.taken.bump.finish
  · exact h.taken.finish
  · have hx := hb (h.taken (r := r))
    split <;> rename_i e <;> rw [e] at hx
    · exact hx.finishUnder
    · exact { hx with }
    · exact .ite (.upd hx.finishUnder) hx.finishUnder

theorem Shape.answer {a : Answer} {s : State} (h : s.Shape) : (answer a s).1.Shape :=
  h

theorem Shape.withLen {n : Nat} {r : Request} {k : State → State × Verdict} {s : State} (hk : ∀ {s}, s.Shape → (k s).1.Shape)
    (h : s.Shape) : (withLen n r k s).1.Shape :=
  .ite_fst h (hk h)

theorem Shape.withZeros {r : Request} {lo n : Nat} {k : State → State × Verdict} {s : State}
    (hk : ∀ {s}, s.Shape → (k s).1.Shape) (h : s.Shape) : (withZeros r lo n k s).1.Shape := by
  unfold Machine.withZeros
  split
  · exact h
  · exact hk h

/-! ### Machine/Shared.lean -/

theorem Shape.store {s : State} {a v : Nat} (h : s.Shape) : (s.store a v).Shape :=
  h.setReg

theorem Shape.channelWork {s : State} {c : Nat} (h : s.Shape) : (s.channelWork c).Shape :=
  h.draw.wr.wr

theorem Shape.checkRecord {s : State} (h : s.Shape) : s.checkRecord.Shape := by
  unfold State.checkRecord
  split
  · exact h.channelWork
  · exact h

theorem Shape.serveWaits {s : State} (h : s.Shape) : s.serveWaits.Shape := by
  unfold State.serveWaits
  split
  · exact .upd h (by simp [sizes])
  · exact h

theorem Shape.takeChannel {s : State} {u : ChanUser} (h : s.Shape) : (s.takeChannel u).Shape :=
  .serveWaits { h with }

theorem Shape.leaveChannel {s : State} {u : ChanUser} (h : s.Shape) : (s.leaveChannel u).Shape := by
  unfold State.leaveChannel
  refine .serveWaits ?_
  split
  · exact .upd h.channelWork (by simp [sizes]; rfl)
  · exact { h with }

theorem Shape.moveChannels {s : State} (h : s.Shape) : s.moveChannels.Shape :=
  .foldl (fun h _ => h.serveWaits) (.upd h (by simp [sizes, h.others]))

theorem Shape.advance {s : State} {t : Nat} (h : s.Shape) : (s.advance t).Shape :=
  { h with }

theorem Shape.setJob {s : State} {j : Nat} {x : Job} (h : s.Shape) : (s.setJob j x).Shape :=
  .upd h (by simp [sizes])

theorem Shape.jobDue {s : State} {j : Nat} (h : s.Shape) : (s.jobDue j).Shape :=
  .ite h h.setJob

theorem Shape.forceJob {s : State} {j : Nat} (h : s.Shape) : (s.forceJob j).Shape :=
  .ite h h.setJob.bump.fault

theorem Shape.jobEnd {s : State} {j : Nat} (h : s.Shape) : (s.jobEnd j).Shape :=
  h.setJob

theorem Shape.addFlash {s : State} {w : FlashJob} (h : s.Shape) : (s.addFlash w).Shape :=
  .jobDue { h with }

theorem Shape.queueFlash {s : State} {w : FlashJob} (h : s.Shape) : (s.queueFlash w).Shape :=
  .ite h h.addFlash

theorem Shape.flashIdle {s : State} (h : s.Shape) : s.flashIdle.Shape := by
  unfold State.flashIdle
  split
  · exact .upd h (by simp [sizes, FlashState.setLife])
  · exact h

theorem Shape.flashDone {s : State} (h : s.Shape) : s.flashDone.Shape := by
  unfold State.flashDone
  dsimp only
  split
  · exact .flashIdle (.jobEnd { h with })
  · exact .flashIdle (.setJob { h with })

theorem Shape.judgeUrgency {q : Quad} {s : State} (h : s.Shape) : (judgeUrgency q s).Shape :=
  h.wr.wrB

theorem Shape.countUrgency {s : State} (h : s.Shape) : s.countUrgency.Shape := by
  unfold State.countUrgency
  split
  · exact { h with }
  · exact { h with }
  · exact h

/-! ### Machine/Thermal.lean -/

theorem Shape.setSensor {s : State} {i : Nat} {x : Sensor} (h : s.Shape) : (s.setSensor i x).Shape :=
  h.of_sizes (by simp [sizes, State.setSensor])

theorem Shape.refreshOne {s : State} {i : Nat} (h : s.Shape) : (s.refreshOne i).Shape :=
  h.wr.setSensor

theorem Shape.refreshTeff {s : State} (h : s.Shape) : s.refreshTeff.Shape :=
  .foldl (fun h _ => h.refreshOne) h

theorem Shape.refreshHold {s : State} (h : s.Shape) : s.refreshHold.Shape :=
  h.wr

theorem Shape.judgeBlind {s : State} {i : Nat} (h : s.Shape) : (s.judgeBlind i).Shape :=
  .ite h.setSensor.report h.setSensor

theorem Shape.refreshAll {s : State} (h : s.Shape) : s.refreshAll.Shape :=
  .refreshHold (.refreshTeff (.foldl (fun h _ => h.judgeBlind) h))

theorem Shape.failSensor {s : State} {i : Nat} {last : Option Int} (h : s.Shape) : (s.failSensor i last).Shape :=
  h.report.setSensor.wr

theorem Shape.followApart {prev : Int} {who : Nat} {s : State} {i : Nat} (h : s.Shape) : (followApart prev who s i).Shape :=
  .ite (.ite h h.setSensor) h.setSensor

theorem Shape.judgeSensor {s : State} {i : Nat} (h : s.Shape) : (s.judgeSensor i).Shape :=
  .ite h (.ite (.ite h (.ite h.setSensor h.failSensor)) (.ite h.failSensor h))

theorem Shape.execSensorConversion {t : Nat} {i : Fin 24} {c : Conversion} {s : State} (h : s.Shape) : Shaped (execSensorConversion t i c
    s) :=
  .ite (.done h.advance) (.done (.refreshAll (.foldl (fun h _ => h.judgeSensor) (.foldl (fun h _ => h.followApart) (.ite
      h.advance.wr.setSensor.failSensor h.advance.wr.setSensor)))))

theorem Shape.execSensorStall {n : At (Fin 24)} {s : State} (h : s.Shape) : Shaped (execSensorStall n s) :=
  .ite (.done h.advance) (.ite (.done h.advance.setSensor) (.done h.advance.setSensor.failSensor.refreshAll))

theorem Shape.execSubstituteFloorEnd {n : At (Fin 24)} {s : State} (h : s.Shape) : Shaped (execSubstituteFloorEnd n s) :=
  .ite (.done h.advance.setSensor.refreshAll) (.done h.advance)

theorem Shape.clearSensor {s : State} {i : Nat} (h : s.Shape) : (s.clearSensor i).Shape :=
  .ite h.setSensor h

theorem Shape.sensorsCleared {s : State} (h : s.Shape) : s.sensorsCleared.Shape :=
  .foldl (fun h _ => h.clearSensor) h

theorem Shape.execSensorRecovery {t : Nat} {i : Fin 24} {s : State} (h : s.Shape) : Shaped (execSensorRecovery t i s) :=
  .ite (.done h.advance.wr.setSensor.refreshAll) (.done h.advance)

theorem Shape.throttleQuad {q : Quad} {s : State} (h : s.Shape) : (throttleQuad q s).Shape :=
  h.wr.wr

theorem Shape.execThrottleTick {s : State} (h : s.Shape) : Shaped (execThrottleTick s) :=
  .ite (.done h) (.done (.ite (.fault (.wr (.wr (.forQ (fun h _ => h.throttleQuad) h)))) (.wr (.wr (.forQ (fun h _ =>
      h.throttleQuad) h)))))

theorem Shape.rateSample {s : State} {i : Nat} (h : s.Shape) : (s.rateSample i).Shape :=
  .ite h.setSensor h.setSensor.setSensor

theorem Shape.execRateTick {t : Nat} {s : State} (h : s.Shape) : Shaped (execRateTick t s) := by
  unfold Machine.execRateTick
  extract_lets _ s1
  have h1 : s1.Shape := .foldl (fun h _ => h.rateSample) h.advance
  clear_value s1
  exact .ite (.done h.advance) (.ite (.done (.upd (.wr (.foldl (fun h _ => h.report) h1)))) (.done h1))

theorem Shape.execRateTestEnable {s : State} (h : s.Shape) : Shaped (execRateTestEnable s) := by
  unfold Machine.execRateTestEnable
  split
  · exact .done (.upd h.advance)
  · exact .done h

theorem Shape.writeThmCfg {v : Nat} {s : State} (h : s.Shape) : (writeThmCfg v s).Shape :=
  .ite h.store (.upd h.store.wr)

theorem Shape.execThmCfgWrite {value : Word} {s : State} (h : s.Shape) : Shaped (execThmCfgWrite value s) :=
  .done h.writeThmCfg

theorem Shape.trip {s : State} {i : Nat} (h : s.Shape) : (s.trip i).Shape := by
  unfold State.trip
  extract_lets s1 thm s2
  have h1 : s1.Shape := .ite h h.wr.wr
  clear_value s1
  have h2 : s2.Shape := .ite (.upd h1 (by simp [sizes, thm])) h1
  exact h2.report

theorem Shape.execHardLimitTrip {level : TripLevel} {s : State} (h : s.Shape) : Shaped (execHardLimitTrip level s) :=
  .ite (.done h) (.done (.ite h.trip h))

/-! ### Machine/Safety.lean -/

theorem Shape.countDemand {before after : State} (_ : before.Shape) (hafter : after.Shape) : (before.countDemand after).Shape :=
  .ite hafter.bump hafter

theorem Shape.discExpire {s : State} (h : s.Shape) : s.discExpire.Shape := by
  unfold State.discExpire
  split
  · exact h
  · exact .ite (.report (.upd h.wr.setLatch)) h

theorem Shape.judgeAgreement {before s : State} (_ : before.Shape) (hs : s.Shape) : (before.judgeAgreement s).Shape :=
  .ite (.ite (.upd (.ite hs.wr hs)) (.upd hs)) (.ite (.upd hs) hs)

theorem Shape.execSafeInputChange {ch : Fin 2} {on : Bool} {t : Nat} {s : State} (h : s.Shape) : Shaped (execSafeInputChange ch on t s)
    := by
  unfold Machine.execSafeInputChange
  extract_lets _ _ _ _ s1
  have h1 : s1.Shape := .upd h.advance.discExpire
  clear_value s1
  exact .ite (.done (.countDemand h1 (.judgeAgreement h1 h1.wrB))) (.done h.advance)

theorem Shape.execDiscrepancyTimeout {t : Nat} {s : State} (h : s.Shape) : Shaped (execDiscrepancyTimeout t s) :=
  .done (.ite h.advance.discExpire h.advance)

theorem Shape.supplyTest {s : State} {ch : Nat} {pass : Bool} (h : s.Shape) : (s.supplyTest ch pass).Shape := by
  unfold State.supplyTest
  extract_lets fails passes saf s1
  have h1 : s1.Shape := .upd h (by simp [sizes, saf])
  exact .ite (.report (.setLatch h1.wr)) (.ite h1.wr h1)

theorem Shape.execSupplyTestPulse {t : Nat} {ch : Fin 2} {own : PulseSamples} {other : List Bool} {s : State} (h : s.Shape) : Shaped
    (execSupplyTestPulse t ch own other s) :=
  .ite (.done (.supplyTest (.upd h.advance (by simp [sizes])))) (.done h.advance)

theorem Shape.execOutputTestPulse {t : Nat} {ch : Fin 2} {pulse : PulseLevels} {outside vin : Nat} {s : State} (h : s.Shape) :
    Shaped (execOutputTestPulse t ch pulse outside vin s) := by
  unfold Machine.execOutputTestPulse
  extract_lets s1 saf s2 on _ _ _ s3
  have h1 : s1.Shape := h.advance
  have h2 : s2.Shape := .upd h1 (by simp [sizes, saf])
  have h3 : s3.Shape := .upd h2
  exact .ite (.done h1) (.ite (.done (.upd h2.bump)) (.ite (.done h2.fault) (.ite (.done h2) (.done (.ite h3 h3.fault)))))

theorem Shape.execSafeOutOvercurrent {ch : Fin 2} {s : State} (h : s.Shape) : Shaped (execSafeOutOvercurrent ch s) :=
  .ite (.done (.fault { h with })) (.done h)

theorem Shape.execFeedbackInputChange {ch : Fin 2} {on : Bool} {t : Nat} {s : State} (h : s.Shape) : Shaped (execFeedbackInputChange ch
    on t s) := by
  unfold Machine.execFeedbackInputChange
  extract_lets _ _ _ _ _ s1
  have h1 : s1.Shape := .ite h.advance.wrB.fault h.advance.wrB
  clear_value s1
  exact .ite (.ite (.done h.advance.wrB) (.done (.ite (.upd h1) h1))) (.done h.advance)

theorem Shape.execFeedbackTimeout {t : Nat} {s : State} (h : s.Shape) : Shaped (execFeedbackTimeout t s) :=
  .ite (.done (.ite (.upd h.advance) (.fault (.upd h.advance)))) (.done h.advance)

theorem Shape.restartEdge {s : State} {rawA rawB : Bool} (h : s.Shape) : (s.restartEdge rawA rawB).Shape :=
  .ite (.ite h.clearLatch h) h.bump

theorem Shape.execRestartEdge {ev : RestartEvent} {rawA rawB : Bool} {t : Nat} {s : State} (h : s.Shape) :
    Shaped (execRestartEdge ev rawA rawB t s) := by
  unfold Machine.execRestartEdge
  extract_lets s1 _ s2 due _ s3
  have h1 : s1.Shape := h.advance
  have h2 : s2.Shape := .upd h1
  clear_value s2
  have h3 : s3.Shape := .upd h2
  refine .ite (.done h1) ?_
  split
  · exact .done (.ite h3.restartEdge h3)
  · exact .ite (.done h2) (.ite (.done (.upd h2.bump)) (.ite (.done h2) (.done h2.restartEdge)))

theorem Shape.execHeartbeatTimeout {s : State} (h : s.Shape) : Shaped (execHeartbeatTimeout s) :=
  .ite (.done (.fault { h with })) (.done h)

theorem Shape.execLockstepMismatch {s : State} (h : s.Shape) : Shaped (execLockstepMismatch s) :=
  .ite (.done (.fault { h with })) (.done h)

theorem Shape.execMutePathCheck {valves emits path1 path2 : Fin 16} {outA filters : Bool} {s : State} (h : s.Shape) : Shaped
    (execMutePathCheck valves emits path1 path2 outA filters s) :=
  .ite (.done h) (.done (.ite (.fault { h with }) { h with }))

theorem Shape.takeCap {valid : Fin 16} {cap : Nat} {q : Quad} {s : State} (h : s.Shape) : (takeCap valid cap q s).Shape :=
  .ite (.upd h (by simp [sizes])) h

theorem Shape.execCapWordSend {valid : Fin 16} {t : Nat} {s : State} (h : s.Shape) : Shaped (execCapWordSend valid t s) :=
  .ite (.done (.forQ (fun h _ => h.takeCap) (.upd h.advance))) (.done h.advance)

theorem Shape.execCapWordTimeout {q : Quad} {t : Nat} {s : State} (h : s.Shape) : Shaped (execCapWordTimeout q t s) :=
  .ite (.done (.upd h.advance (by simp [sizes]))) (.done h.advance)

theorem Shape.judgeCap {s : State} {q : Quad} {missing : Bool} {latched inForce : Nat} (h : s.Shape) : (s.judgeCap q missing latched
    inForce).Shape :=
  .ite (.faultQ { h with }) { h with }

theorem Shape.judgeCurrent {s : State} {q : Quad} {samples : List Nat} {saturated : Bool} (h : s.Shape) : (s.judgeCurrent q samples
    saturated).Shape :=
  .ite h (.ite (.faultQ { h with }) { h with })

theorem Shape.setTx {s : State} {i : Nat} {ws : List Word} (h : s.Shape) : (s.setTx i ws).Shape := by
  induction ws generalizing i s with
  | nil => exact h
  | cons w ws ih => exact ih h.setReg

theorem Shape.newStatus {s : State} (h : s.Shape) : s.newStatus.Shape :=
  .upd h.setTx

theorem Shape.bcAccept {s : State} {f : List Byte} (h : s.Shape) : (s.bcAccept f).Shape :=
  { h with }

theorem Shape.bcFrame {s : State} {f : List Byte} (h : s.Shape) : (s.bcFrame f).Shape := by
  unfold State.bcFrame
  refine .ite h ?_
  split
  · exact .newStatus (.driveOutputs (.countDemand h h.bcAccept.latchDemand))
  · exact h.bump
  · exact h.bump

theorem Shape.execBcDemandFrame {w0 w1 w2 w3 : Word} {t : Nat} {s : State} (h : s.Shape) : Shaped (execBcDemandFrame w0 w1 w2 w3 t s) :=
    by
  unfold Machine.execBcDemandFrame
  exact .done h.advance.bcFrame

theorem Shape.execBcLossTimeout {t : Nat} {s : State} (h : s.Shape) : Shaped (execBcLossTimeout t s) :=
  .ite (.done (.fault (.countDemand h.advance (.setLatch (.bump (.upd h.advance)))))) (.done h.advance)

theorem Shape.execBcStatusRefresh {t : Nat} {s : State} (h : s.Shape) : Shaped (execBcStatusRefresh t s) :=
  .ite (.done h.advance.newStatus) (.done h.advance)

theorem Shape.startTest {s : State} {comparators lockstep paths supA supB : Bool} (h : s.Shape) : (s.startTest comparators lockstep paths
    supA supB).Shape := by
  unfold State.startTest
  extract_lets s1 s2 s3
  have h1 : s1.Shape := .ite h h.fault
  clear_value s1
  have h2 : s2.Shape := .ite h1 h1.fault
  clear_value s2
  have h3 : s3.Shape := .ite h2 h2.fault
  clear_value s3
  exact .ite h (.wr (.supplyTest (.supplyTest (.ite h3.fault h3))))

theorem Shape.unlockKey {s : State} {src : Option Nat} {key : Nat} (h : s.Shape) : (s.unlockKey src key).Shape :=
  .ite h { h with }

theorem Shape.unlockUsed {s : State} {src : Option Nat} (h : s.Shape) : (s.unlockUsed src).Shape := by
  unfold State.unlockUsed
  split
  · exact .ite { h with } h
  · exact h

theorem Shape.execSafetyUnlockKey {src : Option (BitVec 24)} {key : Word} {t : Nat} {s : State} (h : s.Shape) : Shaped
    (execSafetyUnlockKey src key t s) :=
  .done h.advance.unlockKey

theorem Shape.execUnlockTimeout {t : Nat} {s : State} (h : s.Shape) : Shaped (execUnlockTimeout t s) :=
  .done (.ite (.upd h.advance) h.advance)

theorem Shape.writeSafParam {s : State} {a v : Nat} (h : s.Shape) : (s.writeSafParam a v).Shape :=
  .queueFlash (.countDemand h (.latchDemand (.upd h.store)))

theorem Shape.execSafetyParamWrite {p : Fin 13} {value : Word} {src : Option (BitVec 24)} {t : Nat} {s : State} (h : s.Shape) : Shaped
    (execSafetyParamWrite p value src t s) :=
  .ite (.done h.advance.unlockUsed.writeSafParam) (.done h.advance)

theorem Shape.loadSafParams {s : State} (h : s.Shape) : s.loadSafParams.Shape := by
  unfold State.loadSafParams
  split
  · exact .ite h (.foldl (fun h _ => h.setReg) h)
  · exact h

/-! ### Machine/Budget.lean -/

theorem Shape.setCredit {s : State} {e : Nat} (h : s.Shape) : (s.setCredit e).Shape :=
  { h with }

theorem Shape.updateCredit {s : State} {period : Nat} (h : s.Shape) : (s.updateCredit period).Shape := by
  unfold State.updateCredit
  split
  · exact h
  · exact h.setCredit

theorem Shape.commitCurves {s : State} {m : Nat → Word} (h : s.Shape) : (s.commitCurves m).Shape :=
  .ite (.fault { h with }) { h with }

theorem Shape.beginEvaluation {s : State} (h : s.Shape) : s.beginEvaluation.Shape :=
  .ite (.setCredit (.wrB { h with })) (.wrB { h with })

theorem Shape.keepTaken {s t : State} (_ : s.Shape) (ht : t.Shape) : (s.keepTaken t).Shape :=
  .ite (.upd ht) ht

theorem Shape.fillCredit {s : State} (h : s.Shape) : s.fillCredit.Shape :=
  .keepTaken h h.beginEvaluation.setCredit

/-! ### Machine/Dram.lean -/

theorem Shape.runNeighbour {s : State} {e : Nat × Nat} (h : s.Shape) : (s.runNeighbour e).Shape :=
  .upd h.bump (by simp [sizes])

theorem Shape.activate {s : State} {bank row : Nat} (h : s.Shape) : (s.activate bank row).Shape := by
  have h1 : ({ s with fmc.openRow := s.fmc.openRow.set bank (some row) } : State).Shape := .upd h (by simp [sizes])
  unfold State.activate
  refine .ite h1 (.ite h1.draw ?_)
  split
  · exact .runNeighbour (.upd h1.draw)
  · exact .upd h1.draw

theorem Shape.wakeRank {s : State} {r : Nat} (h : s.Shape) : (s.wakeRank r).Shape := by
  have h1 : ({ s with fmc.lastReq := s.fmc.lastReq.set r s.now } : State).Shape := .upd h (by simp [sizes])
  exact .ite h1 h1.wr

theorem Shape.touchDram {s : State} {a : Nat} (h : s.Shape) : (s.touchDram a).Shape :=
  .ite h.wakeRank h.wakeRank.activate

theorem Shape.touchSpan {s : State} {a n : Nat} (h : s.Shape) : (s.touchSpan a n).Shape :=
  .foldl (fun h _ => h.touchDram) h

/-! ### Machine/Stream.lean -/

theorem Shape.setZport {s : State} {p : Nat} {x : ZlpPort} (h : s.Shape) : (s.setZport p x).Shape :=
  .upd h (by simp [sizes])

theorem Shape.setLport {s : State} {p : Nat} {x : LinkPort} (h : s.Shape) : (s.setLport p x).Shape :=
  { h with }

theorem Shape.setLane {s : State} {p k : Nat} {x : LaneState} (h : s.Shape) : (s.setLane p k x).Shape :=
  h.setLport

theorem Shape.stopDrift {s : State} (h : s.Shape) : s.stopDrift.Shape :=
  { h with }

theorem Shape.startDrift {s : State} (h : s.Shape) : s.startDrift.Shape :=
  .ite { h with } h

theorem Shape.txHoldover {s : State} (h : s.Shape) : s.txHoldover.Shape :=
  .upd h.stopDrift.wr.wr.fault

theorem Shape.txAim {s : State} {p : Option Nat} (h : s.Shape) : (s.txAim p).Shape :=
  { h with }

theorem Shape.timeHoldover {s : State} (h : s.Shape) : s.timeHoldover.Shape :=
  .ite { h with } h

theorem Shape.setLaneTx {s : State} {p k st : Nat} (h : s.Shape) : (s.setLaneTx p k st).Shape :=
  .ite h.wr.setLane (.ite h.wr.setLane h.wr)

theorem Shape.laneIdle {p : Port} {sending : Bool} {s : State} {k : Lane} (h : s.Shape) : (laneIdle p sending s k).Shape :=
  .ite h.setLaneTx h

theorem Shape.useTx {s : State} {p : Port} {sending : Bool} (h : s.Shape) : (s.useTx p sending).Shape :=
  .foldl (fun h _ => h.laneIdle) h

theorem Shape.quietRx {s : State} {p : Port} (h : s.Shape) : (s.quietRx p).Shape :=
  .foldl (fun h _ => .ite h.wr h) h

theorem Shape.refreshMode {s : State} {p : Port} (h : s.Shape) : (s.refreshMode p).Shape :=
  .ite (.quietRx (.useTx (.wrB (.wr (.wr (.ite h.setZport h)))))) (.useTx (.wrB (.wr (.wr (.ite h.setZport h)))))

theorem Shape.refreshModes {s : State} (h : s.Shape) : s.refreshModes.Shape :=
  .foldl (fun h _ => h.refreshMode) h.wrB.wrB

theorem Shape.moveLt {s : State} {d : Int} (h : s.Shape) : (s.moveLt d).Shape :=
  { h with }

theorem Shape.showTime {s : State} {p : Port} (h : s.Shape) : (s.showTime p).Shape :=
  h.wr.wr.wr.wr

theorem Shape.selectPort {s : State} {p : Port} (h : s.Shape) : (s.selectPort p).Shape := by
  refine .showTime (.upd (h.wr (f := F.ZLP_SEL_STAT.STATE) (v := s.selCode p)).wr ?_)
  simp [sizes, ports, h.others]

theorem Shape.spliceDown {s : State} (h : s.Shape) : s.spliceDown.Shape :=
  .upd h (by simp [sizes, ports, h.others])

theorem Shape.switchTo {s : State} {p : Port} (h : s.Shape) : (s.switchTo p).Shape :=
  .upd h.selectPort.spliceDown.bump.fault.txHoldover

theorem Shape.streamUp {s : State} {p : Port} (h : s.Shape) : (s.streamUp p).Shape := by
  unfold State.streamUp
  exact .refreshModes (.ite h.wr.setZport.selectPort.txAim (.ite (.ite (.ite h.wr.setZport.selectPort h.wr.setZport.selectPort.txAim)
      h.wr.setZport.switchTo) h.wr.setZport))

theorem Shape.streamLost {s : State} {p : Port} (h : s.Shape) : (s.streamLost p).Shape := by
  unfold State.streamLost
  extract_lets _ _ s1
  have h1 : s1.Shape := by
    unfold s1
    refine .ite ?_ h.wr.setZport
    split
    · exact h.wr.setZport.switchTo
    · exact h.wr.setZport.wr.fault.timeHoldover
  clear_value s1
  exact .ite h1.refreshModes.quietRx h1.refreshModes

theorem Shape.portLeaves {s : State} {p : Port} (h : s.Shape) : (s.portLeaves p).Shape := by
  unfold State.portLeaves
  extract_lets _ s1
  have h1 : s1.Shape := .ite h.streamLost h.setZport
  clear_value s1
  exact .refreshModes (.ite (.upd (.ite h1 h1.txHoldover)) h1)

/-! ### Machine/Lanes.lean -/

theorem Shape.clearLane {p : Nat} {s : State} {k : Lane} (h : s.Shape) : (clearLane p s k).Shape :=
  h.setLane.wr.wr.wr.wr

theorem Shape.enterDetect {s : State} {p : Nat} (h : s.Shape) : (s.enterDetect p).Shape :=
  .foldl (fun h _ => h.clearLane) (.wr (.wr (.wr (.wr (.ite h.setLport.wr.wr h.setLport)))))

theorem Shape.freshDetect {s : State} {p : Nat} (h : s.Shape) : (s.freshDetect p).Shape := by
  unfold State.freshDetect
  exact h.wr.wr.enterDetect

theorem Shape.recordPartner {s : State} {p : Nat} (h : s.Shape) : (s.recordPartner p).Shape := by
  unfold State.recordPartner
  split
  · split
    · exact h.wr.wr
    · exact h
  · exact h

theorem Shape.failAttempt {s : State} {p cause : Nat} (h : s.Shape) : (s.failAttempt p cause).Shape := by
  unfold State.failAttempt
  extract_lets s1
  have h1 : s1.Shape := .wr (.ite h.recordPartner h)
  clear_value s1
  exact .enterDetect (.ite (.ite h1.wr.wr.bump h1.wr.wr) h1.wr)

theorem Shape.enterOff {s : State} {p : Nat} (h : s.Shape) : (s.enterOff p).Shape :=
  .foldl (fun h _ => h.wr.wr.wr) h.setLport.wr.wr.wr.wr

theorem Shape.trainLane {p mask : Nat} {s : State} {k : Lane} (h : s.Shape) : (trainLane p mask s k).Shape := by
  unfold State.trainLane
  extract_lets s1
  have h1 : s1.Shape := .ite h.wr.wr h
  clear_value s1
  exact .ite h1.wr.setLane h1.wr.setLane

theorem Shape.enterTrain {s : State} {p mask : Nat} (h : s.Shape) : (s.enterTrain p mask).Shape :=
  .foldl (fun h _ => h.trainLane) h.wr.setLport

theorem Shape.rxOff {s : State} {p k : Nat} (h : s.Shape) : (s.rxOff p k).Shape :=
  h.wr.wr.setLane

theorem Shape.fixRx {s : State} {p partnerTx : Nat} (h : s.Shape) : (s.fixRx p partnerTx).Shape :=
  .foldl (fun h _ => .ite h.wr h.rxOff) h.setLport.wr

theorem Shape.enterLock {s : State} {p : Nat} (h : s.Shape) : (s.enterLock p).Shape :=
  .foldl (fun h _ => h.setLane.wr) h.setLport.wr.wr.fixRx

theorem Shape.tryLock {s : State} {p : Nat} (h : s.Shape) : (s.tryLock p).Shape :=
  .ite h.enterLock h

theorem Shape.tryExchange {s : State} {p : Nat} (h : s.Shape) : (s.tryExchange p).Shape :=
  .ite h.wr.wr h

theorem Shape.judgeQuarantine {s : State} {p : Port} (h : s.Shape) : (s.judgeQuarantine p).Shape :=
  .ite (.ite h.wr.fault.streamLost h.wr.fault) h

theorem Shape.enterActive {s : State} {p : Port} (h : s.Shape) : (s.enterActive p).Shape := by
  unfold State.enterActive
  extract_lets _ _ s1 _ _ _ _ s2
  have h1 : s1.Shape := .ite h.wr.wr.wr.fault h.wr.wr.wr
  clear_value s1
  have h2 : s2.Shape := .refreshModes (.wr (.judgeQuarantine (.wr (.setZport (.ite h1.fault h1)))))
  clear_value s2
  exact .ite h2.quietRx h2

theorem Shape.tryActive {s : State} {p : Port} {t : TSet} (h : s.Shape) : (s.tryActive p t).Shape :=
  .ite (.ite (.ite h.recordPartner.enterActive.lastingCase h.recordPartner.enterActive) h.failAttempt) h

theorem Shape.eyeOver {s : State} {p k : Nat} (h : s.Shape) : (s.eyeOver p k).Shape := by
  unfold State.eyeOver
  dsimp only
  split
  · exact .jobEnd { h with }
  · exact { h with }
  · exact .setJob { h with }

theorem Shape.eyeAbort {p : Nat} {s : State} {k : Nat} (h : s.Shape) : (eyeAbort p s k).Shape :=
  .ite (.foldl (fun h _ => h.complete) (.upd h.wr.wr.eyeOver)) h

theorem Shape.portDown {s : State} {p : Port} {cause : Nat} (h : s.Shape) : (s.portDown p cause).Shape := by
  unfold State.portDown
  exact .portLeaves (.wr (.freshDetect (.foldl (fun h _ => h.eyeAbort) (.ite h.wr.bump.fault h.wr))))

theorem Shape.execDetectPulse {p : Port} {found : Fin 16} {s : State} (h : s.Shape) : Shaped (execDetectPulse p found s) := by
  unfold Machine.execDetectPulse
  extract_lets _ s1
  have h1 : s1.Shape := .foldl (fun h _ => h.wr) h
  clear_value s1
  exact .ite (.done (.ite h1 h1.enterTrain)) (.done h)

theorem Shape.takeComma {s : State} {p k : Nat} {inverted : Bool} {offset : Nat} (h : s.Shape) : (s.takeComma p k inverted offset).Shape
    :=
  .ite h (.ite h.setLane.wr.wrB h.setLane)

theorem Shape.hear {s : State} {p : Port} {k : Nat} {ws : List Symbol} (h : s.Shape) : (s.hear p k ws).Shape :=
  .ite h (.ite (.ite h.wr.setLane.portDown h.wr.setLane) h.setLane)

theorem Shape.takeSet {s : State} {p k : Nat} {t : TSet} (h : s.Shape) : (s.takeSet p k t).Shape :=
  .ite h.wr.setLane h.setLane

theorem Shape.takePreset {s : State} {p k : Nat} (h : s.Shape) : (s.takePreset p k).Shape :=
  .ite h.wr h

theorem Shape.takeReady {s : State} {p : Nat} {t : TSet} (h : s.Shape) : (s.takeReady p t).Shape :=
  .ite h.setLport h

theorem Shape.takeIdle {s : State} {p : Port} {k : Nat} (h : s.Shape) : (s.takeIdle p k).Shape :=
  .ite h (.ite h.portDown (.ite h.wr h))

theorem Shape.takeTs1 {s : State} {p : Port} {k : Nat} {t : TSet} (h : s.Shape) : (s.takeTs1 p k t).Shape :=
  .ite h.enterTrain.takeReady (.ite h.takeReady.tryLock (.ite (.ite h.portDown.enterTrain h.portDown) h))

theorem Shape.takeTs2 {s : State} {p : Port} {k : Nat} {t : TSet} (h : s.Shape) : (s.takeTs2 p k t).Shape :=
  .ite h.wr (.ite h.fixRx.tryExchange h)

theorem Shape.useSet {s : State} {p : Port} {k : Nat} {t : TSet} (h : s.Shape) : (s.useSet p k t).Shape :=
  .ite h.takeIdle (.ite h.takePreset.takeTs1 (.ite h.takePreset.takeTs2 (.ite h.takePreset.tryActive h.takePreset)))

theorem Shape.breakRow {s : State} {p k : Nat} (h : s.Shape) : (s.breakRow p k).Shape :=
  h.setLane

theorem Shape.noteSet {s : State} {p k : Nat} {inverted : Bool} {offset : Nat} {ws : List Symbol} {x : TSet} (h : s.Shape) : (s.noteSet p
    k inverted offset ws x).Shape :=
  .takeSet (.ite h.takeComma.setLane h.takeComma)

theorem Shape.execTrainingSetReceive {t : Nat} {p : Port} {k : Lane} {symbols : List Symbol} {offset : Nat} {s : State} (h : s.Shape) :
    Shaped (execTrainingSetReceive t p k symbols offset s) := by
  unfold Machine.execTrainingSetReceive
  refine .ite (.done h.advance) ?_
  dsimp only
  split
  · exact .done h.advance.hear.breakRow
  · exact .done (.ite h.advance.hear.noteSet.useSet h.advance.hear.noteSet)

theorem Shape.execCtleStep {p : Port} {k : Lane} {height : Nat} {s : State} (h : s.Shape) : Shaped (execCtleStep p k height s) :=
  .ite (.ite (.done h.setLane.wr.tryLock) (.done h.setLane.wr)) (.done h)

theorem Shape.execReadyStable {p : Port} {s : State} (h : s.Shape) : Shaped (execReadyStable p s) :=
  .ite (.done h.setLport.tryLock) (.done h)

theorem Shape.execLaneSyncTimeout {p : Port} {k : Lane} {s : State} (h : s.Shape) : Shaped (execLaneSyncTimeout p k s) :=
  .ite (.done h.wr.tryLock) (.done h)

theorem Shape.execPortStageTimeout {p : Port} {s : State} (h : s.Shape) : Shaped (execPortStageTimeout p s) :=
  .ite (.done h.failAttempt) (.ite (.done h.failAttempt) (.ite (.done h.failAttempt) (.done h)))

theorem Shape.execLaneSyncLost {p : Port} {heard : LaneSymbols} {s : State} (h : s.Shape) : Shaped (execLaneSyncLost p heard s) :=
  .done (.ite h.hear h)

theorem Shape.execLaneIdleDetect {p : Port} {k : Lane} {s : State} (h : s.Shape) : Shaped (execLaneIdleDetect p k s) :=
  .ite (.done h.portDown) (.done h)

theorem Shape.execDeskewMismatch {p : Port} {s : State} (h : s.Shape) : Shaped (execDeskewMismatch p s) :=
  .ite (.done h.portDown) (.done h)

theorem Shape.execLaneErrorWindow {t : Nat} {p : Port} {k : Lane} {symbols : List Symbol} {s : State} (h : s.Shape) : Shaped
    (execLaneErrorWindow t p k symbols s) :=
  .ite (.done h.advance) (.done (.hear (.ite h.advance.bumpBy.bumpBy.report h.advance.bumpBy.bumpBy)))

theorem Shape.retrain {s : State} {p : Port} (h : s.Shape) : (s.retrain p).Shape :=
  .ite h.portDown (.ite h.failAttempt (.ite h.enterDetect h))

theorem Shape.execPortRetrain {p : Port} {s : State} (h : s.Shape) : Shaped (execPortRetrain p s) :=
  .done h.retrain

theorem Shape.txRequest {p : Port} {v : Nat} {s : State} {k : Lane} (h : s.Shape) : (txRequest p v s k).Shape :=
  .ite h.wr (.ite h.wr.setLaneTx (.ite h.wr h.wr.setLaneTx))

theorem Shape.writeLp {s : State} {p : Port} {v : Nat} (h : s.Shape) : (s.writeLp p v).Shape :=
  .foldl (fun h _ => h.txRequest) h.wr

theorem Shape.execTxPowerRequest {p : Port} {value : Word} {s : State} (h : s.Shape) : Shaped (execTxPowerRequest p value s) :=
  .done h.writeLp

theorem Shape.eyeBegin {s : State} {p k : Nat} (h : s.Shape) : (s.eyeBegin p k).Shape :=
  .ite (.jobDue (.wr (.wr { h with }))) h.wr.wr

theorem Shape.writeEye {s : State} {p k v : Nat} (h : s.Shape) : (s.writeEye p k v).Shape :=
  .ite (.ite h h.undefCase) (.ite h.wr.wr.wr.eyeBegin h.wr.wr.wr)

theorem Shape.execEyeStart {p : Port} {k : Lane} {value : Word} {s : State} (h : s.Shape) : Shaped (execEyeStart p k value s) :=
  .done h.writeEye

theorem Shape.eyePoint {s : State} {p k : Nat} (h : s.Shape) : (s.eyePoint p k).Shape := by
  unfold State.eyePoint
  split
  · exact h
  · split
    · exact h
    · exact .eyeBegin { h with }

theorem Shape.eyeNext {s : State} {p k : Nat} (h : s.Shape) : (s.eyeNext p k).Shape := by
  unfold State.eyeNext
  split
  · exact h
  · exact .ite (.eyePoint (.complete { h with })) h.eyePoint

theorem Shape.execEyeScanDone {p : Port} {k : Lane} {count : Nat} {s : State} (h : s.Shape) : Shaped (execEyeScanDone p k count s) :=
  .ite (.done (.eyeNext (.upd h.eyeOver.wr.wr))) (.done h)

theorem Shape.eyeScanBody {r : Request} {x1 : State} (h : x1.Shape) : (eyeScanBody r x1).1.Shape := by
  unfold Machine.eyeScanBody
  refine .withLen ?_ h
  intro _ h
  split
  · exact h.answer
  · exact .ite_fst h.answer (.ite_fst h (.ite { h with } (.eyeNext { h with })))

theorem Shape.execEyeScan {r : Request} {s : State} (h : s.Shape) : Shaped (execEyeScan r s) :=
  .done (.command (fun h => h.eyeScanBody) h)

theorem Shape.restartPattern {p : Nat} {s : State} {k : Lane} (h : s.Shape) : (restartPattern p s k).Shape :=
  h.wr.setLane

theorem Shape.writePattern {s : State} {p : Port} {v : Nat} (h : s.Shape) : (s.writePattern p v).Shape := by
  unfold State.writePattern
  extract_lets _ _ _ _ _ s1
  have h1 : s1.Shape := .ite (.foldl (fun h _ => h.restartPattern) h.wr.wr.wr.wr) h.wr.wr.wr.wr
  clear_value s1
  exact .ite h1.wr (.ite (.foldl (fun h _ => .ite h.wr.wr h) (.wr (.ite (.foldl (fun h _ => h.restartPattern) (.wr (.ite h1.wr h1))) (.wr
      (.ite h1.wr h1))))) (.ite (.foldl (fun h _ => h.wr) (.enterOff (.wr (.ite h1.wr h1)))) (.wr (.ite h1.wr h1))))

theorem Shape.injectOne {s : State} {p : Port} (h : s.Shape) : (s.injectOne p).Shape :=
  .foldl (fun h _ => .ite h.setLane h) h

theorem Shape.writePatCfg {s : State} {p : Port} {v : Nat} (h : s.Shape) : (s.writePatCfg p v).Shape :=
  .ite h.writePattern.injectOne h.writePattern

theorem Shape.execPatternModeWrite {p : Port} {value : Word} {s : State} (h : s.Shape) : Shaped (execPatternModeWrite p value s) :=
  .done h.writePatCfg

theorem Shape.execInjectOne {p : Port} {s : State} (h : s.Shape) : Shaped (execInjectOne p s) :=
  .done h.injectOne

theorem Shape.generate {s : State} {p k n : Nat} (h : s.Shape) : (s.generate p k n).2.Shape :=
  .ite_snd h.setLane h

theorem Shape.checkBits {s : State} {p k : Nat} {bits : List Bool} (h : s.Shape) : (s.checkBits p k bits).Shape :=
  h.setLane.wrB.bumpBy

theorem Shape.execPatternCheckerSync {t : Nat} {p : Port} {k : Lane} {bits : List Bool} {s : State} (h : s.Shape) : Shaped
    (execPatternCheckerSync t p k bits s) :=
  .done (.ite h.advance.generate.checkBits h.advance.generate)

theorem Shape.patternBody {r : Request} {x1 : State} (h : x1.Shape) : (patternBody r x1).1.Shape := by
  unfold Machine.patternBody
  refine .withLen ?_ h
  intro _ h
  split
  · exact h.answer
  · exact .ite_fst h.answer (.ite_fst h.answer h.writePattern.setLport)

theorem Shape.execPatternTest {r : Request} {s : State} (h : s.Shape) : Shaped (execPatternTest r s) :=
  .done (.command (fun h => h.patternBody) h)

theorem Shape.execPatternTestEnd {port : At Port} {s : State} (h : s.Shape) : Shaped (execPatternTestEnd port s) := by
  unfold Machine.execPatternTestEnd
  dsimp only
  split
  · exact .done h.advance
  · exact .ite (.done h.advance) (.done (.complete (.writePattern (.foldl (fun h _ => .ite h.wr h) h.advance))))

theorem Shape.refclkStop {s : State} {p : Port} (h : s.Shape) : (s.refclkStop p).Shape :=
  .ite h.failAttempt h

theorem Shape.execRefclkLost {s : State} (h : s.Shape) : Shaped (execRefclkLost s) :=
  .ite (.done (.foldl (fun h _ => h.refclkStop) h.stopDrift.wr.fault)) (.done h)

theorem Shape.execRefclkRestored {s : State} (h : s.Shape) : Shaped (execRefclkRestored s) :=
  .done (.ite h.wr.startDrift h)

theorem Shape.execTxclkHoldoverExpiry {s : State} (h : s.Shape) : Shaped (execTxclkHoldoverExpiry s) :=
  .ite (.done (.startDrift { h with })) (.done h)

theorem Shape.execTxclkLocked {offset : Int} {s : State} (h : s.Shape) : Shaped (execTxclkLocked offset s) :=
  .ite (.done h) (.done { h with })

/-! ### Machine/Zlp.lean -/

theorem Shape.noteSent {s : State} {p : Port} {lt : Nat} (h : s.Shape) : (s.noteSent p lt).Shape :=
  h.setZport

theorem Shape.sendOn {s : State} {p : Port} {cols : List Column} (h : s.Shape) : (s.sendOn p cols).Shape :=
  h.setZport

theorem Shape.transmit {s : State} {p : Port} {b : List Byte} (h : s.Shape) : (s.transmit p b).Shape :=
  h.sendOn

theorem Shape.popUp {s : State} {n : Nat} (h : s.Shape) : (s.popUp n).Shape :=
  .ite (.replySent { h with }) (.setZport { h with })

theorem Shape.passFrame {s : State} {p : Port} {b : List Byte} (h : s.Shape) : (s.passFrame p b).2.Shape := by
  unfold State.passFrame
  refine .ite_snd ?_ h
  split
  · exact h.popUp
  · exact h

theorem Shape.forwardOn {src : Port} {f : RxFrame} {strip : Bool} {s : State} {p : Port} (h : s.Shape) : (forwardOn src f strip s
    p).Shape :=
  .ite h (.ite (.ite h.setZport.refreshMode (.ite h.setZport.refreshMode.bump.fault (.ite h.setZport.refreshMode.setZport
      h.setZport.refreshMode))) (.ite h.setZport.refreshMode.sendOn h.setZport.refreshMode.passFrame.sendOn))

theorem Shape.forwardFrame {p : Port} {s : State} {f : RxFrame} (h : s.Shape) : (forwardFrame p s f).Shape :=
  .ite h (.foldl (fun h _ => h.forwardOn) (.ite (.bump (.ite h.bump h)) (.ite h.bump h)))

theorem Shape.execFrameForward {t : Nat} {p : Port} {cols : List Column} {s : State} (h : s.Shape) : Shaped (execFrameForward t p cols s)
    :=
  .ite (.done h.advance) (.done (.foldl (fun h _ => h.forwardFrame) h.advance))

theorem Shape.execConvertedFrameSend {t : Nat} {p : Port} {s : State} (h : s.Shape) : Shaped (execConvertedFrameSend t p s) := by
  unfold Machine.execConvertedFrameSend
  refine .ite (.done h.advance) ?_
  split
  · exact .done h.advance
  · exact .ite (.done h.advance.setZport.transmit.noteSent) (.done h.advance.setZport.passFrame.transmit)

theorem Shape.execUpstreamFrameReceive {p : Port} {b : List Byte} {s : State} (h : s.Shape) : Shaped (execUpstreamFrameReceive p b s) :=
    by
  unfold Machine.execUpstreamFrameReceive
  exact .ite (.done h) (.ite (.done h.bump.fault) (.done h.setZport))

theorem Shape.refreshCredit {s : State} {p : Nat} (h : s.Shape) : (s.refreshCredit p).Shape :=
  h.wr

theorem Shape.execMergeFrameSend {s : State} (h : s.Shape) : Shaped (execMergeFrameSend s) := by
  unfold Machine.execMergeFrameSend
  split
  · exact .done h
  · refine .ite ?_ (.done h)
    split
    · exact .done h
    · exact .done h.useTx.popUp.transmit.setZport.refreshCredit.useTx

theorem Shape.execLocalTimeFrameSend {t : Nat} {p : Port} {s : State} (h : s.Shape) : Shaped (execLocalTimeFrameSend t p s) :=
  .ite (.done h.advance) (.done h.advance.useTx.setZport.transmit.noteSent.useTx)

theorem Shape.takeDelay {s : State} {p : Port} {t4 : Nat} {f : TimeFrame} (h : s.Shape) : (s.takeDelay p t4 f).Shape :=
  .ite h h.setZport.wr

theorem Shape.steer {s : State} {p : Port} (h : s.Shape) : (s.steer p).Shape :=
  .upd h.moveLt

theorem Shape.acquire {s : State} {e : Int} {fault : Bool} (h : s.Shape) : (s.acquire e fault).Shape :=
  .upd (.ite h.moveLt.wr.fault h.moveLt.wr) (by simp [sizes])

theorem Shape.timeBase {s : State} {p : Port} {e : Int} (h : s.Shape) : (s.timeBase p e).Shape :=
  .ite h.acquire (.ite (.ite { h with } h.acquire) (.ite (.steer (.wr { h with })) (.ite (.acquire { h with }) (.steer { h with
      }))))

theorem Shape.rootTime {s : State} {p : Port} {t4 : Nat} {f : TimeFrame} (h : s.Shape) : (s.rootTime p t4 f).Shape := by
  unfold State.rootTime
  extract_lets _ _ _ s1
  have h1 : s1.Shape := .ite h.setZport.streamUp h.setZport
  clear_value s1
  exact .ite h1.timeBase.showTime h1

theorem Shape.forwardTime {src : Port} {arrived : Nat} {f : TimeFrame} {residence : Nat} {s : State} {p : Port} (h : s.Shape) :
    (forwardTime src arrived f residence s p).Shape :=
  .ite h (.ite (.ite h.setZport.refreshMode.bump.fault h.setZport.refreshMode.setZport) h.setZport.refreshMode.transmit.noteSent)

theorem Shape.execTimeFrameReceive {t : Nat} {p : Port} {f : TimeFrame} {residence : Nat} {s : State} (h : s.Shape) : Shaped
    (execTimeFrameReceive t p f residence s) := by
  unfold Machine.execTimeFrameReceive
  extract_lets _ _ s1
  have h1 : s1.Shape := .foldl (fun h _ => h.forwardTime) h.advance
  clear_value s1
  exact .ite (.done h.advance) (.ite (.done h1.setZport.bump) (.ite (.done h1.setZport.refreshCredit.takeDelay.setZport.rootTime) (.done
      h1.setZport.refreshCredit.takeDelay.setZport)))

theorem Shape.execStreamLossTimeout {t : Nat} {p : Port} {s : State} (h : s.Shape) : Shaped (execStreamLossTimeout t p s) :=
  .ite (.done h.advance.streamLost) (.done h.advance)

theorem Shape.execRecentre {p : Port} {shorten : Bool} {run : Nat} {s : State} (h : s.Shape) : Shaped (execRecentre p shorten run s) :=
  .done h.setZport

theorem Shape.latchTime {s : State} (h : s.Shape) : s.latchTime.Shape :=
  { h with }

theorem Shape.execTimeLoRead {s : State} (h : s.Shape) : Shaped (execTimeLoRead s) :=
  .done h.latchTime

theorem Shape.leaveRole {v : Nat} {s : State} {p : Port} (h : s.Shape) : (leaveRole v s p).Shape :=
  .ite h (.ite h.portDown h.wr)

theorem Shape.enterRole {old : Nat} {s : State} {p : Port} (h : s.Shape) : (enterRole old s p).Shape :=
  .ite h (.ite h.wr.enterOff (.ite h.wr (.ite h.wr.wr.failAttempt (.ite h.wr.wr.enterDetect h.wr.wr.freshDetect))))

theorem Shape.saveRoles {s : State} (h : s.Shape) : s.saveRoles.Shape :=
  h.wr.queueFlash

theorem Shape.writeRoles {v : Nat} {s : State} (h : s.Shape) : (writeRoles v s).Shape := by
  unfold State.writeRoles
  extract_lets _ _ _ _ s1
  have h1 : s1.Shape := .refreshModes (.foldl (fun h _ => h.judgeQuarantine) (.foldl (fun h _ => h.enterRole) (.store (.foldl (fun h _ =>
      h.leaveRole) h))))
  clear_value s1
  exact .ite h1.saveRoles h1

theorem Shape.execPortRoleWrite {value : Word} {s : State} (h : s.Shape) : Shaped (execPortRoleWrite value s) :=
  .done h.writeRoles

theorem Shape.execRoleSave {s : State} (h : s.Shape) : Shaped (execRoleSave s) :=
  .done h.saveRoles

theorem Shape.tryRevert {s : State} {filling : Bool} (h : s.Shape) : (s.tryRevert filling).Shape := by
  unfold State.tryRevert
  split
  · exact .ite (.refreshModes (.upd h.selectPort.bump.txHoldover)) h
  · exact h

theorem Shape.noteAlt {s : State} {p : Port} {ended : Bool} (h : s.Shape) : (s.noteAlt p ended).Shape :=
  .ite { h with } h

/-! ### Machine/Pixel.lean -/

theorem Shape.notePixel {s : State} {k : Nat} {q : Quad} {x y w : Nat} (h : s.Shape) : (s.notePixel k q x y w).Shape :=
  .upd h (by simp [sizes])

theorem Shape.writePixel {s : State} {k : Nat} {q : Quad} {x y w : Nat} (h : s.Shape) : (s.writePixel k q x y w).Shape :=
  h.writeLE.notePixel

theorem Shape.writeRun {s : State} {k : Nat} {q : Quad} {x y n w : Nat} (h : s.Shape) : (s.writeRun k q x y n w).Shape :=
  .foldl (fun h _ => h.writePixel) h.touchDram

theorem Shape.writeBlock {s : State} {k : Nat} {q : Quad} {scale dx dy w : Nat} (h : s.Shape) : (s.writeBlock k q scale dx dy w).Shape :=
    by
  unfold State.writeBlock
  exact .foldl (fun h _ => h.writeRun) h

theorem Shape.setBuf {s : State} {k : Nat} {b : FrameBuf} (h : s.Shape) : (s.setBuf k b).Shape :=
  .upd h (by simp [sizes])

theorem Shape.setBank {s : State} {k : Nat} {b : LinBank} (h : s.Shape) : (s.setBank k b).Shape :=
  { h with }

theorem Shape.linEnd {s : State} {err : Nat} (h : s.Shape) : (s.linEnd err).Shape := by
  unfold State.linEnd
  extract_lets _ _ s1
  have h1 : s1.Shape := .leaveChannel { h with }
  clear_value s1
  exact .ite h1.wr h1

theorem Shape.linBegin {s : State} {op : LinOp} (h : s.Shape) : (s.linBegin op).Shape :=
  .upd h.setBank

theorem Shape.linBuild {s : State} (h : s.Shape) : s.linBuild.Shape := by
  unfold State.linBuild
  refine .ite h.wr ?_
  dsimp only
  split
  · exact .ite h.linBegin h.setBank.linEnd
  · exact h.setBank.linEnd

theorem Shape.linLoad {s : State} (h : s.Shape) : s.linLoad.Shape :=
  .ite h.wr (.ite h.linBegin.takeChannel h.setBank.linEnd)

theorem Shape.execLinBuild {s : State} (h : s.Shape) : Shaped (execLinBuild s) :=
  .done h.linBuild

theorem Shape.execLinLoad {s : State} (h : s.Shape) : Shaped (execLinLoad s) :=
  .done h.linLoad

theorem Shape.execLinOpDone {s : State} (h : s.Shape) : Shaped (execLinOpDone s) := by
  unfold Machine.execLinOpDone
  split
  · exact .done h
  · exact .done h.setBank.linEnd
  · exact .ite (.done h.touchSpan) (.ite (.done h.touchSpan.setBank.linEnd) (.done h.touchSpan.linEnd))

theorem Shape.capturePixels {k fmt depth : Nat} {px : List Byte} {l : List (Quad × Nat × Nat × Nat)} {room : Nat} {s : State} (h :
    s.Shape) :
    (State.capturePixels k fmt depth px l room s).2.Shape := by
  induction l generalizing room s with
  | nil => exact h
  | cons e l ih => exact .ite_snd (ih h) (.ite_snd h (ih h.writeBlock.setBuf))

theorem Shape.execSegmentCapture {p : Port} {b : List Byte} {room : Nat} {s : State} (h : s.Shape) : Shaped (execSegmentCapture p b room
    s) := by
  unfold Machine.execSegmentCapture
  refine .ite (.done h) (.ite (.done h.bump.bump) (.ite (.done h.bump) ?_))
  split
  · exact .done h
  · exact .ite (.done h) (.done (.ite h.capturePixels.bump.fault h.capturePixels))

theorem Shape.applyCapture {s : State} {vals : List (Nat × Word)} (h : s.Shape) : (s.applyCapture vals).Shape :=
  { h with }

theorem Shape.takeCommits {l : List (Nat × List (Nat × Word))} {s : State} (h : s.Shape) : (State.takeCommits l s).2.Shape := by
  induction l generalizing s with
  | nil => exact { h with }
  | cons e l ih => exact .ite_snd (ih h.applyCapture) (.ite_snd (ih h.draw.applyCapture) { h with })

theorem Shape.selectBank {s : State} (h : s.Shape) : s.selectBank.Shape :=
  .ite h (.ite h.wr h.fault)

theorem Shape.closeFilling {s : State} (h : s.Shape) : s.closeFilling.Shape := by
  unfold State.closeFilling
  split
  · exact h
  · exact h.setBuf

theorem Shape.openFrame {s : State} {k no pt : Nat} (h : s.Shape) : (s.openFrame k no pt).Shape :=
  .wr (.setBuf (.ite (.selectBank (.ite h.takeCommits.wr h.takeCommits)) (.ite h.takeCommits.wr h.takeCommits)))

theorem Shape.frameStart {s : State} {no pt : Nat} (h : s.Shape) : (s.frameStart no pt).Shape := by
  unfold State.frameStart
  extract_lets same s1
  clear_value same
  split
  · split
    · exact h
    · exact h.fault.closeFilling
  · have h1 : s1.Shape := h.closeFilling
    split
    · exact h1.openFrame
    · exact h1.bump.fault

theorem Shape.execFrameStartReceive {t : Nat} {p : Port} {b : List Byte} {s : State} (h : s.Shape) : Shaped (execFrameStartReceive t p b
    s) :=
  .ite (.done h.advance) (.ite (.done (.ite h.advance.bump h.advance)) (.done (.ite (.frameStart (.noteAlt (.ite
      h.advance.tryRevert h.advance))) (.noteAlt (.ite h.advance.tryRevert h.advance)))))

theorem Shape.execFrameEndReceive {p : Port} {b : List Byte} {s : State} (h : s.Shape) : Shaped (execFrameEndReceive p b s) :=
  .ite (.done h) (.ite (.done (.ite h.bump h)) (.done (.ite h.noteAlt.closeFilling h.noteAlt)))

theorem Shape.execClosingDeadline {t : Nat} {s : State} (h : s.Shape) : Shaped (execClosingDeadline t s) :=
  .done (.ite h.advance.closeFilling h.advance)

theorem Shape.fillRow {k : Nat} {q : Quad} {s : State} {y : Nat} (h : s.Shape) : (fillRow k q s y).Shape := by
  unfold State.fillRow
  refine .touchDram ?_
  split
  · exact h.touchDram
  · exact h

theorem Shape.fillQuad {k : Nat} {b : FrameBuf} {q : Quad} {s : State} (h : s.Shape) : (fillQuad k b q s).Shape :=
  .foldl (fun h _ => h.writePixel) (.foldl (fun h _ => h.fillRow) h)

theorem Shape.startEvaluation {s : State} (h : s.Shape) : s.startEvaluation.Shape := by
  unfold State.startEvaluation
  split
  · exact .ite (.upd h.beginEvaluation) h
  · exact h

theorem Shape.tryReady {s : State} {k : Nat} (h : s.Shape) : (s.tryReady k).Shape :=
  .ite (.ite (.bump (.setBuf { h with })) (.startEvaluation (.setBuf { h with }))) h

theorem Shape.execFrameFillDone {k : Fin 4} {t : Nat} {s : State} (h : s.Shape) : Shaped (execFrameFillDone k t s) :=
  .ite (.done h.advance) (.ite (.done h.advance.wr.setBuf) (.done (.tryReady (.setBuf (.ite h.advance.wr (.fault (.bump (.forQ (fun
      h _ => h.fillQuad) h.advance.wr))))))))

theorem Shape.writeOutside {k : Nat} {b : FrameBuf} {q : Quad} {s : State} (h : s.Shape) : (writeOutside k b q s).Shape :=
  .foldl (fun h _ => h.writeBlock) h

theorem Shape.execOutsideWritesDone {k : Fin 4} {t : Nat} {s : State} (h : s.Shape) : Shaped (execOutsideWritesDone k t s) :=
  .ite (.done (.tryReady (.setBuf (.forQ (fun h _ => h.writeOutside) h.advance)))) (.done h.advance)

theorem Shape.setRegion {s : State} {lo hi : Nat} {cs : List Host.Cell} (h : s.Shape) : (s.setRegion lo hi cs).Shape :=
  { h with }

theorem Shape.loadOverlay {s : State} (h : s.Shape) : s.loadOverlay.Shape :=
  h.touchSpan.setRegion

theorem Shape.queueOverlay {s : State} {j : FlashJob} (h : s.Shape) : (s.queueOverlay j).Shape :=
  .ite h h.wr.queueFlash

theorem Shape.execOverlaySave {s : State} (h : s.Shape) : Shaped (execOverlaySave s) :=
  .done (.ite h h.queueOverlay)

theorem Shape.execOverlayRestore {s : State} (h : s.Shape) : Shaped (execOverlayRestore s) :=
  .done h.queueOverlay

theorem Shape.execOverlaySaveDone {s : State} (h : s.Shape) : Shaped (execOverlaySaveDone s) := by
  have stored {s : State} (h : s.Shape) (o : List (Nat × Byte)) : ({ s with flash.overlay := o } : State).Shape := { h with }
  unfold Machine.execOverlaySaveDone
  exact .ite (.done (.flashDone (.wr (stored h.touchSpan _)))) (.done h)

theorem Shape.execOverlayRestoreDone {s : State} (h : s.Shape) : Shaped (execOverlayRestoreDone s) :=
  .ite (.done h.loadOverlay.wr.flashDone) (.done h)

/-! ### Machine/Comp.lean -/

theorem Shape.putApplied {s : State} {k : Nat} {w : Table → Word} (h : s.Shape) : (s.putApplied k w).Shape :=
  .upd h.touchDram.touchDram (by simp [sizes, h.touchDram.touchDram.others])

theorem Shape.ageFactors {s : State} (h : s.Shape) : s.ageFactors.Shape :=
  { h with }

theorem Shape.readFactors {s : State} (h : s.Shape) : s.readFactors.Shape :=
  h.touchSpan.ageFactors

theorem Shape.execAgeFactorTick {t : Nat} {s : State} (h : s.Shape) : Shaped (execAgeFactorTick t s) :=
  .ite (.done (.readFactors (.upd h.advance))) (.done h.advance)

theorem Shape.stepFactor {s : State} {i : Nat} (h : s.Shape) : (s.stepFactor i).Shape :=
  h.wr

theorem Shape.stepFactors {s : State} (h : s.Shape) : s.stepFactors.Shape :=
  .foldl (fun h _ => h.stepFactor) h

theorem Shape.stressUpdate {s : State} {p : Nat → Nat} {tq : Quad → Int} (h : s.Shape) : (s.stressUpdate p tq).Shape :=
  .touchSpan (.upd (.foldl (fun h _ => .ite h h.writeLE) h))

theorem Shape.stressFrame {s : State} (h : s.Shape) : s.stressFrame.Shape :=
  .ite { h with } { h with }

theorem Shape.activateTable {s : State} {a : Nat} {place : Option (Nat × Nat)} (h : s.Shape) : (s.activateTable a place).1.Shape :=
  .ite_fst h.wr (.ite_fst h.wr (.ite_fst h.wr (.takeChannel { h with })))

theorem Shape.tableActivateBody {r : Request} {s : State} (h : s.Shape) : (tableActivateBody r s).1.Shape := by
  refine .withLen (fun {s} h => .ite_fst h.answer ?_) h
  have ht := h.activateTable (a := r.arg.toNat) (place := some (r.src.toNat, r.tag.toNat))
  split <;> rename_i e <;> rw [e] at ht <;> exact ht

theorem Shape.execTableActivate {r : Request} {s : State} (h : s.Shape) : Shaped (execTableActivate r s) :=
  .done (.command (fun h => h.tableActivateBody) (.ite h.wr h))

theorem Shape.activateFromSrc {s : State} (h : s.Shape) : s.activateFromSrc.Shape :=
  h.activateTable

theorem Shape.execCmpTblActivate {s : State} (h : s.Shape) : Shaped (execCmpTblActivate s) :=
  .done h.activateFromSrc

theorem Shape.startRebuild {s : State} (h : s.Shape) : s.startRebuild.Shape :=
  .ite { h with } h

theorem Shape.tableChecked {s : State} {a err : Nat} (h : s.Shape) : (s.tableChecked a err).Shape := by
  have ended {s : State} (h : s.Shape) : ({ s with cmp.checking := none } : State).Shape := { h with }
  have next {s : State} (h : s.Shape) (x : Table) :
    ({ s with cmp.next := x, cmp.kind := .activation } : State).Shape := { h with }
  have h1 := (ended (h.touchSpan (a := a) (n := tableFileBytes) |>.wr (f := F.CMP_TBL_STAT.ERR) (v := err))).leaveChannel (u := .table)
  unfold State.tableChecked
  exact .ite (next h1.wr.wr _) h1.wr.fault.startRebuild

theorem Shape.execTableCheckDone {s : State} (h : s.Shape) : Shaped (execTableCheckDone s) := by
  unfold Machine.execTableCheckDone
  split
  · exact .done h
  · refine .ite (.done h) (.done ?_)
    split
    · exact h.tableChecked.complete
    · exact h.tableChecked

theorem Shape.setCalCopy {s : State} {i : Nat} {c : CalCopy} (h : s.Shape) : (s.setCalCopy i c).Shape :=
  .ite { h with } { h with }

theorem Shape.revertTable {s : State} (h : s.Shape) : s.revertTable.Shape := by
  unfold State.revertTable
  refine .ite h (.ite h.wr ?_)
  split
  · exact h.wr
  · exact { h with }

theorem Shape.execTableRevert {s : State} (h : s.Shape) : Shaped (execTableRevert s) :=
  .done h.revertTable

theorem Shape.schedule {s : State} {ev : DueEvent} (h : s.Shape) : (s.schedule ev).Shape :=
  { h with }

theorem Shape.buildBounds {s : State} (h : s.Shape) : s.buildBounds.Shape :=
  by
  unfold State.buildBounds
  exact .upd h

theorem Shape.beginSlide {s : State} (h : s.Shape) : s.beginSlide.Shape :=
  { h with }

theorem Shape.queueTable {s : State} (h : s.Shape) : s.queueTable.Shape :=
  .ite (.addFlash { h with }) (.queueFlash { h with })

theorem Shape.queueBaselines {s : State} (h : s.Shape) : s.queueBaselines.Shape :=
  .ite h.addFlash h.queueFlash

theorem Shape.endSlide {s : State} (h : s.Shape) : s.endSlide.Shape :=
  .startRebuild (.buildBounds (.ite { h with } (.queueTable { h with })))

theorem Shape.slideFrame {s : State} (h : s.Shape) : s.slideFrame.Shape :=
  .ite (.ite h.wr h.endSlide) h

theorem Shape.execTableFlashSaved {s : State} (h : s.Shape) : Shaped (execTableFlashSaved s) :=
  .ite (.done h) (.done (.flashDone (.upd (.ite h.checkRecord.setCalCopy.wr.wr h.checkRecord.setCalCopy.wr))))

theorem Shape.execStressWritebackDue {t : Nat} {s : State} (h : s.Shape) : Shaped (execStressWritebackDue t s) :=
  .ite (.done h.advance.queueFlash) (.done h.advance)

theorem Shape.execForceSave {s : State} (h : s.Shape) : Shaped (execForceSave s) :=
  .done h.queueFlash

theorem Shape.setDefects {s : State} {t : List Nat} (h : s.Shape) : (s.setDefects t).Shape :=
  .wr { h with }

theorem Shape.stuckFaults {s : State} {q : Quad} (h : s.Shape) : (s.stuckFaults q).Shape :=
  .ite h.faultQ.faultQ h.faultQ

theorem Shape.entryFaults {s : State} {k kind : Nat} (h : s.Shape) : (s.entryFaults k kind).Shape :=
  .ite h.stuckFaults h.faultQ

theorem Shape.autoEntry {s : State} {k kind action src : Nat} (h : s.Shape) : (s.autoEntry k kind action src).Shape := by
  unfold State.autoEntry
  dsimp only
  split
  · exact .ite h (.ite h h.setDefects.entryFaults)
  · refine .ite h.setDefects.entryFaults ?_
    split
    · exact h.setDefects.entryFaults
    · exact h.bump.fault

theorem Shape.ageLimitEntries {s : State} {t : Table} {rr : List Nat} (h : s.Shape) : (s.ageLimitEntries t rr).Shape :=
  .foldl (fun h _ => h.autoEntry) h

theorem Shape.writeCopy {s : State} {n : Nat} {t : Table} (h : s.Shape) : (s.writeCopy n t).Shape :=
  .upd h.ageLimitEntries.touchSpan (by simp [sizes])

theorem Shape.execTableBuildDone {s : State} (h : s.Shape) : Shaped (execTableBuildDone s) :=
  .ite (.done h.writeCopy.buildBounds.schedule) (.done h)

theorem Shape.afterWriteback {s : State} (h : s.Shape) : s.afterWriteback.Shape := by
  unfold State.afterWriteback
  extract_lets _ _ s1
  have h1 : s1.Shape := .ageLimitEntries { h with }
  exact .ite h1 (.startRebuild (.upd h1))

theorem Shape.execStressWritebackDone {ok : Bool} {s : State} (h : s.Shape) : Shaped (execStressWritebackDone ok s) := by
  have region {s : State} (h : s.Shape) (l : List (Option StressRec)) : ({ s with flash.stress := l } : State).Shape := { h with }
  have saved {s : State} (h : s.Shape) (l : List (Option StressRec)) :
    ({ s with flash.stress := l, cmp.unsaved := 0 } : State).Shape := { h with }
  have h1 := h.checkRecord.flashDone.touchSpan (a := 0x16000000) (n := 0x600000) |>.touchSpan (a := 0x17000000) (n := 0x10000)
  unfold Machine.execStressWritebackDone
  exact .ite (.done h) (.ite (.done (saved h1 _).wr.afterWriteback) (.done (region h1 _).fault))

theorem Shape.defectEditBody {r : Request} {s : State} (h : s.Shape) : (defectEditBody r s).1.Shape := by
  unfold Machine.defectEditBody
  refine .ite_fst h.answer ?_
  split
  · exact h.answer
  · exact .ite_fst { h with } h.answer

theorem Shape.execDefectEdit {r : Request} {s : State} (h : s.Shape) : Shaped (execDefectEdit r s) :=
  .done (.command (fun h => h.defectEditBody) h)

theorem Shape.concealWords {s : State} {t : List Nat} (h : s.Shape) : (s.concealWords t).Shape :=
  .foldl (fun h _ => h.putApplied) h

theorem Shape.shadowDefects {s : State} (h : s.Shape) : s.shadowDefects.Shape :=
  h.touchSpan.setRegion.concealWords.schedule

theorem Shape.newStuck {s : State} {old t : List Nat} (h : s.Shape) : (s.newStuck old t).Shape :=
  .foldl (fun h _ => h.stuckFaults) h

theorem Shape.execDefectEditComplete {s : State} (h : s.Shape) : Shaped (execDefectEditComplete s) := by
  unfold Machine.execDefectEditComplete
  split
  · exact .done h.shadowDefects
  · dsimp only
    split
    · exact .done (.complete (.shadowDefects (.newStuck (.setDefects { h with }))))
    · exact .done (.complete (.shadowDefects { h with }))

theorem Shape.applyDefects {s : State} {t : List Nat} (h : s.Shape) : (s.applyDefects t).Shape :=
  .foldl (fun h _ => h.putApplied) { h with }

/-! ### Machine/Hybrid.lean -/

theorem Shape.startLadder {s : State} {set : LadderSet} (h : s.Shape) : (s.startLadder set).Shape :=
  { h with }

theorem Shape.writeLadder {s : State} {b : LadderSet} (h : s.Shape) : (s.writeLadder b).Shape :=
  .schedule { h with }

theorem Shape.execLadderBuildDone {s : State} (h : s.Shape) : Shaped (execLadderBuildDone s) := by
  unfold Machine.execLadderBuildDone
  split
  · exact .done h.writeLadder
  · exact .done h

theorem Shape.exchangeLadder {s : State} (h : s.Shape) : s.exchangeLadder.Shape := by
  unfold State.exchangeLadder
  split
  · exact h
  · exact { h with }

theorem Shape.ladderCorr {s : State} {q : Quad} (h : s.Shape) : (s.ladderCorr q).Shape :=
  .faultQ { h with }

theorem Shape.ladderErr {s : State} {q : Quad} (h : s.Shape) : (s.ladderErr q).Shape :=
  .faultQ { h with }

theorem Shape.execLadderRewriteDone {q : Quad} {s : State} (h : s.Shape) : Shaped (execLadderRewriteDone q s) :=
  .done { h with }

theorem Shape.kneeWritten {s : State} {c v : Nat} (h : s.Shape) : (s.kneeWritten c v).Shape :=
  h.wr

theorem Shape.setSweeps {s : State} {period : Nat} (h : s.Shape) : (s.setSweeps period).Shape :=
  { h with }

/-! ### Machine/Present.lean -/

theorem Shape.setRow {s : State} {q : Quad} {y : Nat} {r : RowCodes} (h : s.Shape) : (s.setRow q y r).Shape :=
  { h with }

/-! ### Machine/Governor.lean -/

theorem Shape.standingJobs {s : State} (h : s.Shape) : s.standingJobs.Shape :=
  .foldl (fun h _ => .ite h h.setJob) h

theorem Shape.decideJobs {m : Int} {l : List Nat} {head : Option Int} {p : Nat} {s : State} (h : s.Shape) :
    (State.decideJobs m l head p s).2.Shape := by
  induction l generalizing head p s with
  | nil => exact h
  | cons j l ih => exact .ite_snd (ih h) (.ite_snd (ih h.setJob) (.ite_snd (ih h.setJob) (.ite_snd (ih h.setJob) (ih h))))

theorem Shape.writeCeil {cs causes : List Nat} {mds : List QuadModel} {s : State} (h : s.Shape) : (writeCeil cs causes mds s).Shape :=
  .foldl (fun h _ => h.wr.wr.wr) h

theorem Shape.applyCeilings {s : State} {mds : List QuadModel} {cs causes : List Nat} (h : s.Shape) :
    (s.applyCeilings mds cs causes).Shape := by
  unfold State.applyCeilings
  extract_lets led head s1
  have h1 : s1.Shape := h.writeCeil
  have h2 := h1.standingJobs.decideJobs (m := s1.heatMargin) (l := [0, 1, 2, 3, 4, 5]) (head := head) (p := 0)
  generalize State.decideJobs s1.heatMargin [0, 1, 2, 3, 4, 5] head 0 s1.standingJobs = r at h2
  obtain ⟨pj, s2⟩ := r
  exact .upd h2.wr.wr

theorem Shape.evaluate {s : State} {x : Scene} (h : s.Shape) : (s.evaluate x).Shape :=
  .wr (.applyCeilings (.ite h.bump h))

theorem Shape.lateCeilings {s : State} (h : s.Shape) : s.lateCeilings.Shape :=
  h.applyCeilings.wr.bump.fault

theorem Shape.takeCheckpoint {s : State} (h : s.Shape) : s.takeCheckpoint.Shape := by
  refine .ite { h with others := ?_ } h
  obtain ⟨hj, ho, hl, ha, hb, hc, hz, hp, -⟩ := h.others
  refine ⟨hj, ho, hl, ha, hb, hc, hz, hp, ?_⟩
  rintro _ ⟨⟩
  exact hj

theorem Shape.evaluateApart {s : State} {f : State → State} (hf : ∀ {s}, s.Shape → (f s).Shape) (h : s.Shape) :
    (s.evaluateApart f).Shape :=
  .takeCheckpoint (.keepTaken h (hf h.beginEvaluation))

theorem Shape.governFrame {s : State} {governor : Bool} (h : s.Shape) : (s.governFrame governor).Shape :=
  .startEvaluation (.upd (.ite h (.ite { h with } (.ite (.evaluateApart (fun h => h.evaluate) h) (.evaluateApart (fun h =>
      h.lateCeilings) h)))))

theorem Shape.evaluationDone {s : State} {k : Nat} (h : s.Shape) : (s.evaluationDone k).Shape :=
  .ite (.startEvaluation (.upd (.takeCheckpoint (.evaluate { h with })))) (.startEvaluation { h with })

theorem Shape.execGovEvaluationDone {t : Nat} {s : State} (h : s.Shape) : Shaped (execGovEvaluationDone t s) := by
  unfold Machine.execGovEvaluationDone
  dsimp only
  split
  · exact .done h.advance.evaluationDone
  · exact .done h.advance

theorem Shape.execGovStall {s : State} (h : s.Shape) : Shaped (execGovStall s) :=
  .ite (.done h.wr.fault) (.done h)

theorem Shape.execJobForceTimeout {t : Nat} {j : Fin 6} {s : State} (h : s.Shape) : Shaped (execJobForceTimeout t j s) := by
  unfold Machine.execJobForceTimeout
  dsimp only
  split
  · exact .done (.ite h.advance.forceJob h.advance)
  · exact .done h.advance

theorem Shape.execJobPausePoint {j : Fin 6} {s : State} (h : s.Shape) : Shaped (execJobPausePoint j s) :=
  .done (.ite (.ite h.setJob.flashIdle h.setJob) h)

theorem Shape.execScrubPassDone {t : Nat} {s : State} (h : s.Shape) : Shaped (execScrubPassDone t s) :=
  .ite (.done (.jobEnd (.upd h.advance))) (.done h.advance)

theorem Shape.checkCodeCurrent {s : State} (h : s.Shape) : s.checkCodeCurrent.Shape := by
  unfold State.checkCodeCurrent
  extract_lets _ _ _ _ _ s1
  have h1 : s1.Shape := .upd (.foldl (fun h _ => h.wr) h)
  clear_value s1
  exact .ite h1.fault h1

/-! ### Machine/Fault.lean -/

theorem Shape.forceCopy {s : State} (h : s.Shape) : s.forceCopy.Shape :=
  .ite (.upd h.bump.fault.setJob) h.bump.fault

theorem Shape.record {s : State} {src cls raised : Nat} {inj esc first : Bool} {quad data : Nat} (h : s.Shape) : (s.record src cls raised
    inj esc first quad data).Shape :=
  .ite (.forceCopy (.upd h)) (.ite (.addFlash (.upd h)) (.upd h))

theorem Shape.latchQuad {src mask : Nat} {q : Quad} {s : State} (h : s.Shape) : (latchQuad src mask q s).Shape :=
  .ite h.wr.wr h

theorem Shape.latch {s : State} {src cls quad : Nat} (h : s.Shape) : (s.latch src cls quad).Shape :=
  .ite (.forQ (fun h _ => h.latchQuad) h) (.ite h.wr.wr h)

theorem Shape.relatchQuad {q : Quad} {s : State} (h : s.Shape) : (relatchQuad q s).Shape := by
  unfold State.relatchQuad
  refine .ite h ?_
  split
  · exact .wr { h with }
  · exact .ite h h.wr

theorem Shape.rearmFirst {s : State} (h : s.Shape) : s.rearmFirst.Shape :=
  .ite h h.setReg

theorem Shape.countRaise {s : State} {r : Raise} {cls : Nat} (h : s.Shape) : (s.countRaise r cls).Shape :=
  .ite h.bumpBy.bumpBy.bumpBy.bumpBy (.ite h.bumpBy.bumpBy.bumpBy.bumpBy h.bumpBy.bumpBy.bumpBy)

theorem Shape.repeatRaise {s : State} {r : Raise} (h : s.Shape) : (s.repeatRaise r).Shape :=
  .ite (.latch (.upd h.countRaise)) h.countRaise

theorem Shape.recordRaise {cycle : Nat} {s : State} {r : Raise} {esc : Bool} (h : s.Shape) : (recordRaise cycle s r esc).Shape := by
  unfold State.recordRaise
  extract_lets _ _ _ _ _ _ _ _ _ s1 s2
  have h1 : s1.Shape := .ite (.bump (.record (.upd h.countRaise.wr.wrB.wr))) (.ite (.bump (.record (.upd h.countRaise.wr.wrB.wr))) (.ite
      (.bump (.record (.upd h.countRaise.wr.wrB.wr))) (.record (.upd h.countRaise.wr.wrB.wr))))
  clear_value s1
  have h2 : s2.Shape := .ite h1.bump h1
  clear_value s2
  exact .latch (.ite h2.wr.wrB.wr.wr.wr h2)

theorem Shape.collect {s : State} {reps : List Report} (h : s.Shape) : (s.collect reps).Shape :=
  .foldl (fun h _ => h.recordRaise) (.foldl (fun h _ => h.repeatRaise) { h with })

theorem Shape.execFaultRecord {s : State} (h : s.Shape) : Shaped (execFaultRecord s) := by
  unfold Machine.execFaultRecord
  split
  · exact .done h
  · exact .ite (.done h) (.done (.collect { h with }))

theorem Shape.restoreSource {s : State} {src cls quad : Nat} (h : s.Shape) : (s.restoreSource src cls quad).Shape :=
  { h with }

theorem Shape.restoreQuad {q : Quad} {s : State} (h : s.Shape) : (restoreQuad q s).Shape :=
  .ite h.restoreSource h

theorem Shape.restoreFaults {s : State} (h : s.Shape) : s.restoreFaults.Shape := by
  unfold State.restoreFaults
  extract_lets s1
  have h1 : s1.Shape := .forQ (fun h _ => h.restoreQuad) h
  clear_value s1
  exact .upd (.ite h1.restoreSource h1)

theorem Shape.writeFltCfg {v : Nat} {s : State} (h : s.Shape) : (writeFltCfg v s).Shape :=
  h.wr.wr.wr.wr.queueFlash

theorem Shape.execFltCfgWrite {value : Word} {s : State} (h : s.Shape) : Shaped (execFltCfgWrite value s) :=
  .ite (.done h) (.done h.writeFltCfg)

theorem Shape.copyOne {s : State} {r : LogRec} (h : s.Shape) : (s.copyOne r).Shape :=
  { h with }

theorem Shape.resumeFlash {s : State} (h : s.Shape) : s.resumeFlash.Shape :=
  .ite h (.ite h.flashIdle (.ite (.upd h.flashIdle) (.setJob (.upd h.flashIdle))))

theorem Shape.copyOver {s : State} {r : LogRec} (h : s.Shape) : (s.copyOver r).Shape :=
  .ite (.resumeFlash { h with }) (.flashDone { h with })

theorem Shape.execFaultLogCopyDone {ok : Bool} {s : State} (h : s.Shape) : Shaped (execFaultLogCopyDone ok s) := by
  unfold Machine.execFaultLogCopyDone
  split
  · exact .done h
  · exact .ite (.done h) (.ite (.done h.checkRecord.copyOver.copyOne) (.ite (.done h.checkRecord.copyOver.fault) (.done (.upd
        h.checkRecord))))

theorem Shape.ackSource {s : State} {src : Nat} (h : s.Shape) : (s.ackSource src).Shape :=
  .ite h.wr h

theorem Shape.ackBody {r : Request} {x1 : State} (h : x1.Shape) : (ackBody r x1).1.Shape := by
  unfold Machine.ackBody
  refine .withLen ?_ h
  intro _ h
  split
  · exact h.answer
  · exact .withZeros (fun h => .answer (.foldl (fun h _ => h.ackSource) h)) h

theorem Shape.injectBody {r : Request} {s : State} (h : s.Shape) : (injectBody r s).1.Shape :=
  .ite_fst h.answer (.withLen (fun h => .ite_fst h.answer (.withZeros (fun h => .answer { h with }) h)) h)

theorem Shape.readBody {r : Request} {x1 : State} (h : x1.Shape) : (readBody r x1).1.Shape :=
  .withLen (fun h => .ite_fst h.answer h.answer) h

theorem Shape.execFaultRead {r : Request} {s : State} (h : s.Shape) : Shaped (execFaultRead r s) :=
  .done (.command (fun h => h.readBody) h)

theorem Shape.execFaultAck {r : Request} {s : State} (h : s.Shape) : Shaped (execFaultAck r s) :=
  .done (.command (fun h => h.ackBody) h)

theorem Shape.execFaultInject {r : Request} {s : State} (h : s.Shape) : Shaped (execFaultInject r s) :=
  .done (.command (fun h => h.injectBody) h)

/-! ### Machine/Rails.lean -/

theorem Shape.setRailEn {s : State} {k : Nat} {on : Bool} (h : s.Shape) : (s.setRailEn k on).Shape :=
  h.wr

theorem Shape.switchOn {s : State} {k : Nat} (h : s.Shape) : (s.switchOn k).Shape :=
  .ite h.setRailEn (.upd h.setRailEn)

theorem Shape.switchOff {s : State} {k : Nat} (h : s.Shape) : (s.switchOff k).Shape :=
  .upd h.setRailEn

theorem Shape.sequenceFrom {n k : Nat} {s : State} (h : s.Shape) : (State.sequenceFrom n k s).Shape := by
  induction n generalizing k s with
  | zero => exact { h with }
  | succ n ih =>
    unfold State.sequenceFrom
    split
    · exact { h with }
    · exact .ite (.ite (ih h.switchOn) (.upd h.switchOn)) (.upd h.switchOn)

theorem Shape.railsOn {s : State} (h : s.Shape) : s.railsOn.Shape :=
  .sequenceFrom { h with }

theorem Shape.offBelow {n k : Nat} {s : State} (h : s.Shape) : (State.offBelow n k s).Shape := by
  induction n generalizing k s with
  | zero => exact { h with }
  | succ n ih =>
    unfold State.offBelow
    split
    · exact { h with }
    · exact .ite (.upd h.switchOff) (ih h.switchOff)

theorem Shape.railsOff {s : State} (h : s.Shape) : s.railsOff.Shape :=
  .offBelow { h with }

theorem Shape.railFault {s : State} {k : Nat} (h : s.Shape) : (s.railFault k).Shape :=
  h.wr.report

theorem Shape.pgChange {s : State} {k : Fin 6} {high : Bool} (h : s.Shape) : (s.pgChange k high).Shape :=
  .ite (.ite (.ite (.sequenceFrom { h with }) { h with }) { h with }) (.ite h.wr.offBelow (.ite h.wr.railFault h.wr))

theorem Shape.pgTimeout {s : State} {k : Fin 6} (h : s.Shape) : (s.pgTimeout k).Shape := by
  unfold State.pgTimeout
  extract_lets _ s1
  have h1 : s1.Shape := .railFault { h with }
  refine .ite (.ite h.offBelow h) ?_
  split
  · exact .ite h (.ite h1.sequenceFrom h1)
  · exact h

theorem Shape.delayExpiry {s : State} (h : s.Shape) : s.delayExpiry.Shape := by
  unfold State.delayExpiry
  split
  · exact .ite h.sequenceFrom h
  · exact h

theorem Shape.writePrailCfg {s : State} {v : Nat} (h : s.Shape) : (s.writePrailCfg v).Shape :=
  h.store.wr.queueFlash

theorem Shape.execPrailCfgWrite {value : Word} {s : State} (h : s.Shape) : Shaped (execPrailCfgWrite value s) :=
  .done h.writePrailCfg

theorem Shape.ledRail {s : State} {was : Bool} {q : Quad} (h : s.Shape) : (s.ledRail was q).Shape :=
  .ite h (.ite (.ite h.switchOn h) h.switchOff)

/-! ### Machine/Sense.lean -/

theorem Shape.setSq {s : State} {q : Nat} {x : SnsQuad} (h : s.Shape) : (s.setSq q x).Shape :=
  { h with }

theorem Shape.planQuad {period blank : Nat} {q : Quad} {s : State} (h : s.Shape) : (planQuad period blank q s).Shape :=
  .ite h.setSq (.wrB (.wrB (.setSq { h with })))

theorem Shape.planFrame {s : State} {period blank : Nat} (h : s.Shape) : (s.planFrame period blank).Shape :=
  .upd (.forQ (fun h _ => h.planQuad) h)

theorem Shape.sweepEnd {s : State} {q : Quad} (h : s.Shape) : (s.sweepEnd q).Shape :=
  h.setSq.wr.wr.wr

theorem Shape.sweepStep {s : State} {q : Quad} (h : s.Shape) : (s.sweepStep q).Shape :=
  .ite h.sweepEnd h.wr

theorem Shape.touchReading {s : State} {k : Nat} (h : s.Shape) : (s.touchReading k).Shape :=
  .ite h.touchDram h.touchDram.touchDram

theorem Shape.measure {s : State} {q : Quad} {slot : Slot} {raw1 raw2 : List (BitVec 12)} (h : s.Shape) : (s.measure q slot raw1
    raw2).Shape := by
  unfold State.measure
  extract_lets _ _ _ _ s1
  have h1 : s1.Shape := .upd (.ite h (.foldl (fun h _ => h.touchReading) h))
  clear_value s1
  exact .ite h1.sweepStep h1

theorem Shape.tuneSlot {s : State} {q : Quad} (h : s.Shape) : (s.tuneSlot q).Shape :=
  { h with }

theorem Shape.execSenseSlot {t : Nat} {q : Quad} {raw1 raw2 : List (BitVec 12)} {s : State} (h : s.Shape) : Shaped (execSenseSlot t q
    raw1 raw2 s) := by
  unfold Machine.execSenseSlot
  dsimp only
  split
  · exact .done (.ite h.advance.setSq.tuneSlot h.advance.setSq.measure)
  · exact .done h.advance

theorem Shape.addCandidate {s : State} {k kind wait : Nat} (h : s.Shape) : (s.addCandidate k kind wait).Shape :=
  .ite h (.ite h.bump h.setSq)

theorem Shape.dropCandidate {s : State} {k : Nat} (h : s.Shape) : (s.dropCandidate k).Shape :=
  h.setSq

theorem Shape.confirmKind {s : State} {k kind : Nat} (h : s.Shape) : (s.confirmKind k kind).Shape :=
  .ite h.dropCandidate.bump.faultQ.setSq.autoEntry h.dropCandidate.bump.faultQ.setSq

theorem Shape.judgeRepeat {s : State} {k was kind wait : Nat} (h : s.Shape) : (s.judgeRepeat k was kind wait).Shape :=
  .ite h.confirmKind (.ite h.dropCandidate.bump h.dropCandidate.bump.addCandidate)

theorem Shape.judgeReading {s : State} {use : SlotUse} {wait k v1 v2 : Nat} {v2t ref : Int} (h : s.Shape) : (s.judgeReading use wait k v1
    v2 v2t ref).Shape := by
  unfold State.judgeReading
  extract_lets _ _ s1 s2
  have h1 : s1.Shape := { h with }
  clear_value s1
  have h2 : s2.Shape := .ite h1 h1.addCandidate
  clear_value s2
  split
  · exact .ite h1.judgeRepeat h2
  · exact h2

theorem Shape.takeReading {r : SlotResult} {s : State} {g : Nat} (h : s.Shape) : (takeReading r s g).Shape := by
  unfold State.takeReading
  extract_lets _ _ _ _ _ s1 _ s2
  have h1 : s1.Shape := h.touchDram.writeLE.touchDram
  clear_value s1
  have h2 : s2.Shape := .ite h1.setSq h1
  clear_value s2
  refine .ite h ?_
  split
  · exact h2.judgeReading
  · exact h2.setSq

theorem Shape.takeZero {s : State} {r : SlotResult} {k : Nat} (h : s.Shape) : (s.takeZero r k).Shape := by
  unfold State.takeZero
  refine .ite h ?_
  split
  · exact .ite h.confirmKind h.dropCandidate.bump
  · exact h.dropCandidate.bump

theorem Shape.judgeWaiting {s : State} {q : Nat} (h : s.Shape) : (s.judgeWaiting q).Shape := by
  unfold State.judgeWaiting
  refine .foldl ?_ h.setSq
  intro _ h _
  split
  · exact h.judgeReading
  · exact h

theorem Shape.crossCheck {s : State} {q : Quad} {c : Colour} (h : s.Shape) : (s.crossCheck q c).Shape := by
  unfold State.crossCheck
  refine .ite h ?_
  split
  · exact h
  · exact .ite (.faultQ { h with }) { h with }

theorem Shape.sweepDone {s : State} {q : Quad} (h : s.Shape) : (s.sweepDone q).Shape :=
  .judgeWaiting (.setSq (.ite (.foldl (fun h _ => h.crossCheck) h.touchSpan) h.touchSpan))

theorem Shape.sweepArrived {s : State} {q : Quad} (h : s.Shape) : (s.sweepArrived q).Shape :=
  .ite h.setSq.sweepDone h.setSq

theorem Shape.endBurst {s : State} {q : Quad} (h : s.Shape) : (s.endBurst q).Shape := by
  unfold State.endBurst
  dsimp only
  split
  · exact .ite h.setSq.wr h
  · exact h

theorem Shape.setBaselines {s : State} {q : Quad} (h : s.Shape) : (s.setBaselines q).Shape :=
  .judgeWaiting (.queueBaselines (.upd (.wr (.wr (.wr (.foldl (fun h _ => h.touchDram.writeLE) h))))))

theorem Shape.dropStopped {s : State} (h : s.Shape) : s.dropStopped.Shape :=
  .upd (.ite { h with } h)

theorem Shape.finishRequests {n : Nat} {s : State} (h : s.Shape) : (State.finishRequests n s).Shape := by
  induction n generalizing s with
  | zero => exact h
  | succ n ih =>
    unfold State.finishRequests
    split
    · exact h
    · have gone {s : State} (h : s.Shape) (l : List SenseReq) (f : Fld) (v : Nat) :
        (({ s with sns.requests := l } : State).wr f v).Shape := .wr { h with }
      exact .ite (ih (gone h _ _ _)) (.ite h (.ite { h with } (.ite (ih (gone h.setBaselines _ _ _)) (ih (gone h _ _ _)))))

theorem Shape.settleRequests {s : State} (h : s.Shape) : s.settleRequests.Shape :=
  h.dropStopped.finishRequests

theorem Shape.keepBaseline {s : State} {r : SlotResult} (h : s.Shape) : (s.keepBaseline r).Shape := by
  unfold State.keepBaseline
  split
  · exact h
  · exact .ite { h with } h

theorem Shape.execSenseResult {t : Nat} {s : State} (h : s.Shape) : Shaped (execSenseResult t s) := by
  unfold Machine.execSenseResult
  dsimp only
  split
  · exact .done h.advance
  · refine .done (.settleRequests (.endBurst (.ite (.sweepArrived (.keepBaseline ?_)) (.keepBaseline ?_))))
    · split
      · exact .takeZero (.upd h.advance)
      · exact .foldl (fun h _ => h.takeReading) (.upd h.advance)
    · split
      · exact .takeZero (.upd h.advance)
      · exact .foldl (fun h _ => h.takeReading) (.upd h.advance)

theorem Shape.execSweepDeadline {q : Quad} {s : State} (h : s.Shape) : Shaped (execSweepDeadline q s) :=
  .ite (.done h.setSq.faultQ) (.done h)

theorem Shape.judgeSupply {s : State} {q : Quad} {hit missing : Bool} (h : s.Shape) : (s.judgeSupply q hit missing).Shape :=
  .ite (.ite h.faultQ.setSq.faultQ h.faultQ.setSq) h.setSq

theorem Shape.execIsnsCompareDone {q : Quad} {nV : Nat} {saturated : Bool} {s : State} (h : s.Shape) : Shaped (execIsnsCompareDone q nV
    saturated s) :=
  .ite (.done h) (.done h.wr.wr.judgeSupply)

theorem Shape.senseRequestBody {r : Request} {x1 : State} (h : x1.Shape) : (senseRequestBody r x1).1.Shape :=
  .ite_fst h.answer (.ite_fst h.answer (.ite_fst h.answer (.ite_fst h.answer (.ite_fst h.answer (.ite_fst h.answer (.ite_fst
      h.answer (.ite_fst h.answer (.ite_fst h.answer (.ite_fst h.answer (.ite_fst h.answer (.settleRequests { h with })))))))))))

theorem Shape.execSenseRequest {r : Request} {s : State} (h : s.Shape) : Shaped (execSenseRequest r s) :=
  .done (.command (fun h => h.senseRequestBody) h)

/-! ### Machine/Tune.lean -/

theorem Shape.setCorrection {s : State} {i : Nat} {c : Correction} (h : s.Shape) : (s.setCorrection i c).Shape :=
  .ite h.setReg (.ite h.touchDram.writeLE (.ite h.setReg h))

theorem Shape.setCorrections {s : State} {l : Corrections} (h : s.Shape) : (s.setCorrections l).Shape :=
  .foldl (fun h _ => h.setCorrection) h

theorem Shape.beginRun {s : State} {parts : Nat} {place : Option (Nat × Nat)} (h : s.Shape) : (s.beginRun parts place).Shape :=
  .jobDue { h with }

theorem Shape.nextRun {s : State} (h : s.Shape) : s.nextRun.Shape := by
  unfold State.nextRun
  split
  · exact .ite (.beginRun { h with }) h
  · exact h

theorem Shape.closeRun {s : State} {a : Answer} (h : s.Shape) : (s.closeRun a).Shape := by
  unfold State.closeRun
  dsimp only
  split
  · exact .complete (.jobEnd { h with })
  · exact .jobEnd { h with }

theorem Shape.failRun {s : State} {result : Nat} (h : s.Shape) : (s.failRun result).Shape :=
  .ite h h.wr.bump.fault.closeRun

theorem Shape.judgeConverter {s : State} {e : Nat × Option Correction} (h : s.Shape) : (s.judgeConverter e).Shape := by
  unfold State.judgeConverter
  extract_lets _ _ s1
  have h1 : s1.Shape := { h with }
  clear_value s1
  exact .ite h1 (.ite h1.bump.faultQ.faultQ h1.bump.faultQ)

theorem Shape.runComplete {s : State} {l : List (Nat × Option Correction)} {start : Bool} (h : s.Shape) : (s.runComplete l start).Shape
    := by
  unfold State.runComplete
  extract_lets _ _ _ s1
  have h1 : s1.Shape := .upd (.bump (.wr (.foldl (fun h _ => h.judgeConverter) h)))
  clear_value s1
  exact .ite h1.queueFlash h1

theorem Shape.slideTo {s : State} {new : Corrections} (h : s.Shape) : (s.slideTo new).Shape :=
  .ite h (.ite { h with } { h with })

theorem Shape.tuneSlideEnd {s : State} (h : s.Shape) : s.tuneSlideEnd.Shape := by
  unfold State.tuneSlideEnd
  split
  · refine .ite h ?_
    split
    · exact { h with }
    · exact .slideTo { h with }
  · exact h

theorem Shape.tuneSlideFrame {s : State} (h : s.Shape) : s.tuneSlideFrame.Shape := by
  unfold State.tuneSlideFrame
  extract_lets _ _ s1
  have h1 : s1.Shape := .tuneSlideEnd (.upd h.setCorrections)
  clear_value s1
  split
  · exact h1
  · exact .upd h1.setCorrections

theorem Shape.adcSlide {s : State} {q : Quad} (h : s.Shape) : (s.adcSlide q).Shape := by
  unfold State.adcSlide
  extract_lets _ _ _ s1
  have h1 : s1.Shape := .upd h.setCorrections
  clear_value s1
  exact .ite h1.tuneSlideEnd h1

theorem Shape.execTuneRunDone {t : Nat} {m : Measured} {s : State} (h : s.Shape) : Shaped (execTuneRunDone t m s) := by
  unfold Machine.execTuneRunDone
  dsimp only
  split
  · exact .done h.advance
  · exact .ite (.done h.advance) (.ite (.done h.advance.failRun.nextRun) (.ite (.done h.advance.failRun.nextRun) (.done
        h.advance.runComplete.slideTo.closeRun.nextRun)))

theorem Shape.startTune {s : State} {m : Measured} (h : s.Shape) : (s.startTune m).Shape :=
  .ite h.setCorrections (.ite h.setCorrections.wr.bump.fault h.setCorrections.runComplete.setCorrections)

theorem Shape.tuneRunBody {r : Request} {x1 : State} (h : x1.Shape) : (tuneRunBody r x1).1.Shape :=
  .withLen (fun h => .ite_fst h.answer (.ite_fst h.answer (.ite_fst h.answer h.beginRun))) h

theorem Shape.execTuneRun {r : Request} {s : State} (h : s.Shape) : Shaped (execTuneRun r s) :=
  .done (.command (fun h => h.tuneRunBody) h)

theorem Shape.execTuneRunDue {t : Nat} {s : State} (h : s.Shape) : Shaped (execTuneRunDue t s) :=
  .ite (.done h.advance) (.ite (.done (.ite h.advance (.upd h.advance))) (.ite (.done h.advance.beginRun) (.done h.advance)))

theorem Shape.execTuneStaleTimeout {t : Nat} {s : State} (h : s.Shape) : Shaped (execTuneStaleTimeout t s) :=
  .done (.ite h.advance.fault h.advance)

theorem Shape.refInvalid {s : State} (h : s.Shape) : s.refInvalid.Shape :=
  .ite h.wr.fault.failRun h

theorem Shape.execRefMonitorTick {t tenths : Nat} {agree : Bool} {s : State} (h : s.Shape) : Shaped (execRefMonitorTick t tenths agree s)
    :=
  .ite (.done h.advance) (.ite (.done (.refInvalid (.upd h.advance.wr))) (.ite (.done (.nextRun (.wr (.upd h.advance.wr)))) (.done
      (.upd h.advance.wr))))

/-! ### Machine/Scan.lean -/

theorem Shape.holdOrFall {s : State} (h : s.Shape) : s.holdOrFall.Shape :=
  .ite (.fault (.bump { h with })) (.fault (.bump { h with }))

theorem Shape.decideShow {s : State} {k : Nat} (h : s.Shape) : (s.decideShow k).Shape :=
  .ite h { h with }

theorem Shape.decideFrame {s : State} (h : s.Shape) : s.decideFrame.Shape := by
  unfold State.decideFrame
  refine .ite ?_ ?_
  · split
    · exact h.decideShow
    · exact { h with }
  · split
    · exact h.decideShow
    · exact h.holdOrFall

theorem Shape.execDecisionInstant {t : Nat} {s : State} (h : s.Shape) : Shaped (execDecisionInstant t s) :=
  .done (.ite h.advance.decideFrame h.advance)

theorem Shape.applyDue {s : State} {e : DueEvent} (h : s.Shape) : (s.applyDue e).Shape := by
  unfold State.applyDue
  split
  · exact .forQ (fun h _ => h.judgeWaiting) { h with }
  · exact h.beginSlide
  · exact h.exchangeLadder
  · exact h.applyDefects

theorem Shape.applyComing {s : State} (h : s.Shape) : s.applyComing.Shape :=
  .foldl (fun h _ => h.applyDue) { h with }

theorem Shape.applyAll {s : State} (h : s.Shape) : s.applyAll.Shape :=
  .foldl (fun h _ => h.applyDue) { h with }

theorem Shape.frameTiming {s : State} (h : s.Shape) : s.frameTiming.Shape :=
  .setSweeps (.upd h.wrB.wrB.wr.wr.wr.wr)

theorem Shape.endFrame {s : State} {samples : List (List Nat)} {saturated : Fin 16} (h : s.Shape) : (s.endFrame samples saturated).Shape
    := by
  unfold State.endFrame
  extract_lets _ s1
  have h1 : s1.Shape := .forQ (fun h _ => h.judgeCurrent) h.updateCredit.checkCodeCurrent
  clear_value s1
  exact .ite h (.upd (.ite (.wr (.ite h1.stressUpdate h1)) (.bump (.wr (.ite h1.stressUpdate h1)))))

theorem Shape.firstLight {s : State} (h : s.Shape) : s.firstLight.Shape :=
  .ite { h with } h

theorem Shape.judgeGlass {s : State} {q : Quad} (h : s.Shape) : (s.judgeGlass q).Shape :=
  .ite h h.lastingCase

theorem Shape.lightFrame {q : Quad} {s : State} (h : s.Shape) : (lightFrame q s).Shape := by
  unfold State.lightFrame
  split
  · exact .ite h.setLight.wr h.setLight
  · exact .judgeGlass (.firstLight (.upd h.setLight))
  · exact h

theorem Shape.emitDrop {s : State} (h : s.Shape) : s.emitDrop.Shape :=
  .upd h (by simp [sizes, h.others])

theorem Shape.activeRows {s : State} (h : s.Shape) : s.activeRows.Shape :=
  { h with }

theorem Shape.frameLight {s : State} (h : s.Shape) : s.frameLight.Shape :=
  .ite h.emitDrop (.ite (.activeRows (.forQ (fun h _ => h.lightFrame) h)) h)

theorem Shape.showBuffer {s : State} {k : Nat} (h : s.Shape) : (s.showBuffer k).Shape :=
  .upd (.wr (.setBuf (.upd h (by simp [sizes]))))

theorem Shape.present {s : State} (h : s.Shape) : s.present.Shape := by
  unfold State.present
  dsimp only
  split
  · exact .upd (.showBuffer (.wrB (.wr { h with })))
  · exact { h with }
  · exact { h with }

theorem Shape.framePlanes {s : State} (h : s.Shape) : s.framePlanes.Shape :=
  .foldl (fun h _ => .ite h h.report) { h with }

theorem Shape.sendRamps {s : State} (h : s.Shape) : s.sendRamps.Shape :=
  { h with }

theorem Shape.frameUpdates {s : State} (h : s.Shape) : s.frameUpdates.Shape :=
  .upd h.slideFrame.stepFactors.stressFrame.tuneSlideFrame.sendRamps.framePlanes.planFrame.wr

theorem Shape.stopScan {s : State} (h : s.Shape) : s.stopScan.Shape := by
  unfold State.stopScan
  have h1 := h.emitDrop.applyAll
  generalize s.emitDrop.applyAll = s1 at h1
  exact .railsOff (.settleRequests (.upd h1 (by simp [sizes, h.others, h1.others])))

theorem Shape.startScan {s : State} (h : s.Shape) : s.startScan.Shape :=
  { h with }

theorem Shape.execScanFrameStart {t : Nat} {samples : List (List Nat)} {saturated : Fin 16} {s : State} (h : s.Shape) : Shaped
    (execScanFrameStart t samples saturated s) :=
  .ite (.done h.advance) (.ite (.done (.ite h.advance.endFrame.stopScan h.advance)) (.done (.ite (.frameUpdates (.frameTiming
      (.frameLight (.present (.applyComing (.endFrame (.ite h.advance.decideFrame h.advance))))))) h.advance)))

/-! ### Machine/Fmc.lean -/

theorem Shape.enqueue {s : State} {l : List MemReq} (h : s.Shape) : (s.enqueue l).Shape :=
  { h with }

theorem Shape.neighbourFirst {s : State} (h : s.Shape) : s.neighbourFirst.Shape := by
  unfold State.neighbourFirst
  split
  · exact .ite (.runNeighbour { h with }) h
  · exact h

theorem Shape.arbitrate {s t : State} {r : MemReq} (h : s.Shape) (e : s.arbitrate = some (r, t)) : t.Shape := by
  unfold State.arbitrate at e
  dsimp only at e
  split at e
  · obtain ⟨_, -, ⟨⟩⟩ := Option.map_eq_some_iff.1 e
    exact { h with }
  · split at e
    · obtain ⟨_, -, ⟨⟩⟩ := Option.map_eq_some_iff.1 e
      exact { h with }
    · cases e

theorem Shape.serve {s : State} {r : MemReq} (h : s.Shape) : (s.serve r).Shape :=
  .enqueue (.touchDram { h with })

theorem Shape.serveReads {n : Nat} {s : State} (h : s.Shape) : (State.serveReads n s).2.Shape := by
  induction n generalizing s with
  | zero => exact h
  | succ n ih =>
    unfold State.serveReads
    split
    · exact h.neighbourFirst
    · next e => exact .ite_snd (ih (h.neighbourFirst.arbitrate e).serve) (h.neighbourFirst.arbitrate e).serve

theorem Shape.execNeighbourRefreshRun {bank : Fin 32} {s : State} (h : s.Shape) : Shaped (execNeighbourRefreshRun bank s) := by
  unfold Machine.execNeighbourRefreshRun
  split
  · exact .done h
  · exact .done (.runNeighbour { h with })

theorem Shape.execDramRefreshDue {bank : Fin 32} {busy : Bool} {s : State} (h : s.Shape) : Shaped (execDramRefreshDue bank busy s) :=
  .ite (.done h) (.ite (.done { h with }) (.done (.upd h (by simp [sizes]))))

theorem Shape.execMr4Poll {rank0 rank1 : Mr4} {s : State} (h : s.Shape) : Shaped (execMr4Poll rank0 rank1 s) :=
  .done { h with }

theorem Shape.execRankPowerDown {rank : At (Fin 2)} {s : State} (h : s.Shape) : Shaped (execRankPowerDown rank s) :=
  .ite (.done h.advance.wr) (.done h.advance)

theorem Shape.readFailed {s : State} {a : Nat} (h : s.Shape) : (s.readFailed a).Shape :=
  h.bump.wr.report

theorem Shape.readCorrected {s : State} (h : s.Shape) : s.readCorrected.Shape :=
  { h with }

theorem Shape.readCame {s : State} {a : Nat} {res : ReadResult} (h : s.Shape) : (s.readCame a res).Shape := by
  unfold State.readCame
  split
  · exact h
  · exact h.readCorrected
  · exact h.readFailed

theorem Shape.burstsCame {s : State} {a : Nat} {l : BurstReads} (h : s.Shape) : (s.burstsCame a l).Shape :=
  .foldl (fun h _ => h.readCame) h

theorem Shape.lineRead {s : State} {q : Quad} {n : Nat} {last failed : Bool} (h : s.Shape) : (s.lineRead q n last failed).Shape :=
  .ite { h with } { h with }

theorem Shape.deliver {s : State} {r : MemReq} {res : ReadResult} (h : s.Shape) : (s.deliver r res).Shape := by
  unfold State.deliver
  dsimp only
  split
  · exact h.readCame
  · exact h.readCame.lineRead.judgeUrgency.countUrgency

theorem Shape.execDramReadReturn {t : Nat} {arrive : List MemReq} {first again : ReadResult} {s : State} (h : s.Shape) :
    Shaped (execDramReadReturn t arrive first again s) := by
  unfold Machine.execDramReadReturn
  extract_lets s1
  have h1 : s1.Shape := h.advance.enqueue
  have hr := h1.serveReads (n := s1.fmc.queue.length)
  refine .ite (.done h1) ?_
  split <;> rename_i e <;> rw [e] at hr
  · exact .done hr
  · exact .done hr.deliver

theorem Shape.execCorrRateCheck {s : State} (h : s.Shape) : Shaped (execCorrRateCheck s) :=
  .done (.ite (.fault { h with }) { h with })

theorem Shape.askRetrain {s : State} (h : s.Shape) : s.askRetrain.Shape :=
  .ite h h.jobDue.forceJob

theorem Shape.execRetrainDue {t : Nat} {s : State} (h : s.Shape) : Shaped (execRetrainDue t s) :=
  .ite (.done h.advance.askRetrain) (.done h.advance)

theorem Shape.trainRequest {s : State} (h : s.Shape) : s.trainRequest.Shape :=
  .ite { h with } h.askRetrain

theorem Shape.execFmcTrainReq {s : State} (h : s.Shape) : Shaped (execFmcTrainReq s) :=
  .done h.trainRequest

theorem Shape.execRetrainStep {s : State} (h : s.Shape) : Shaped (execRetrainStep s) :=
  .ite (.done { h with }) (.done h)

theorem Shape.dramTrained {s : State} (h : s.Shape) : s.dramTrained.Shape :=
  { h with }

theorem Shape.execRetrainDone {t : Nat} {ok : Bool} {s : State} (h : s.Shape) : Shaped (execRetrainDone t ok s) := by
  unfold Machine.execRetrainDone
  extract_lets s1 _ _ _ s2
  have h1 : s1.Shape := h.advance.jobEnd.wr
  clear_value s1
  have h2 : s2.Shape := .ite h1.dramTrained (.upd h1.wr.fault)
  clear_value s2
  exact .ite (.done h) (.done (.ite h2.askRetrain h2))

theorem Shape.execWckOscRead {osc0 osc1 : Fin 65536} {s : State} (h : s.Shape) : Shaped (execWckOscRead osc0 osc1 s) :=
  .done { h with }

theorem Shape.writeFmcOrder {v : Nat} {s : State} (h : s.Shape) : (writeFmcOrder v s).Shape :=
  h.wr.wr.queueFlash

theorem Shape.execFmcOrderWrite {value : Word} {s : State} (h : s.Shape) : Shaped (execFmcOrderWrite value s) :=
  .done h.writeFmcOrder

/-! ### Machine/Line.lean -/

theorem Shape.latchLine {s : State} {q : Quad} {capLost : Bool} (h : s.Shape) : (s.latchLine q capLost).Shape :=
  .judgeCap { h with }

theorem Shape.noteCurrent {s : State} {q : Quad} {n : Nat} {r : RowCodes} (h : s.Shape) : (s.noteCurrent q n r).Shape :=
  { h with }

theorem Shape.underrun {s : State} {q : Quad} {n : Nat} (h : s.Shape) : (s.underrun q n).Shape :=
  .faultQ (.noteCurrent { h with })

theorem Shape.ladderReads {s : State} {q : Quad} {corr uncorr : Nat} (h : s.Shape) : (s.ladderReads q corr uncorr).Shape :=
  .foldl (fun h _ => h.ladderErr) (.foldl (fun h _ => h.ladderCorr) h)

theorem Shape.writeRow {s : State} {q : Quad} {n corr uncorr : Nat} (h : s.Shape) : (s.writeRow q n corr uncorr).Shape :=
  .upd h.noteCurrent.ladderReads.setRow

theorem Shape.sourceFail {s : State} {q : Quad} {o : Nat} (h : s.Shape) : (s.sourceFail q o).Shape :=
  .ite h (.report (.bump (.wr (.ite { h with } (.wr { h with })))))

theorem Shape.checkSource {s : State} {q : Quad} {n phase g raw : Nat} (h : s.Shape) : (s.checkSource q n phase g raw).Shape :=
  .ite (.sourceFail { h with }) { h with }

theorem Shape.readBack {q : Quad} {n : Nat} {l : List SourceRead} {phase : Nat} {s : State} {g : Nat} (h : s.Shape) : (readBack q n l
    phase s g).Shape := by
  unfold State.readBack
  split
  · exact h.checkSource
  · exact { h with }
  · exact h

theorem Shape.readBacks {s : State} {q : Quad} {n : Nat} {l : List SourceRead} (h : s.Shape) : (s.readBacks q n l).Shape :=
  .foldl (fun h _ => h.readBack) (.foldl (fun h _ => h.readBack) h)

theorem Shape.checkSignal {q : Quad} {s : State} {i : Nat} {ok : Bool} (h : s.Shape) : (checkSignal q s i ok).Shape :=
  .ite { h with } (.settleRequests (.report { h with }))

theorem Shape.checkPad {q : Quad} {n : Nat} {s : State} {m : PadRead} (h : s.Shape) : (checkPad q n s m).Shape :=
  h.checkSignal

theorem Shape.checkRamp {q : Quad} {s : State} {m : RampRead} (h : s.Shape) : (checkRamp q s m).Shape :=
  .ite h.checkSignal h

theorem Shape.failAdc {q : Quad} {s : State} {g : Nat} (h : s.Shape) : (failAdc q s g).Shape :=
  .ite h (.report (.ite h.wr h.wr))

theorem Shape.checkTaps {s : State} {q : Quad} {taps : List (Fin 48 × BitVec 12)} (h : s.Shape) : (s.checkTaps q taps).Shape :=
  .foldl (fun h _ => h.failAdc) h.setSq

theorem Shape.activeLine {s : State} {q : Quad} {n : Nat} {inp : LineInput} (h : s.Shape) : (s.activeLine q n inp).Shape :=
  .ite h (.ite h.underrun (.ite h.writeRow.readBacks h.writeRow))

theorem Shape.execScanLineStart {t : Nat} {q : Quad} {line : Fin 768} {inp : LineInput} {s : State} (h : s.Shape) : Shaped
    (execScanLineStart t q line inp s) := by
  unfold Machine.execScanLineStart
  extract_lets _ _ s1 _ _ s2 s3 _ _ s4
  have h1 : s1.Shape := .ite h.advance.governFrame h.advance
  clear_value s1
  have h2 : s2.Shape := .upd (.ite h1.latchLine h1)
  clear_value s2
  have h3 : s3.Shape := .ite h2.activeLine h2
  clear_value s3
  have h4 : s4.Shape := .foldl (fun h _ => h.checkRamp) (.foldl (fun h _ => h.checkPad) (.ite h3.adcSlide h3))
  clear_value s4
  exact .ite (.done h.advance) (.done (.countUrgency (.judgeUrgency (.ite h4.checkTaps h4))))

/-! ### Machine/Glass.lean -/

theorem Shape.takeRecord {recs : List (Option (List Byte))} {q : Quad} {s : State} (h : s.Shape) : (takeRecord recs q s).Shape :=
  .ite (.wr (.wr (.wr (.wrB (.wr { h with }))))) (.report (.wr (.wr (.wr (.wrB (.wr { h with }))))))

theorem Shape.glassIdentity {s : State} (h : s.Shape) : s.glassIdentity.Shape :=
  .ite h.wr.wr.fault h.wr.wr

theorem Shape.takeRecords {s : State} {recs : List (Option (List Byte))} (h : s.Shape) : (s.takeRecords recs).Shape :=
  .glassIdentity (.forQ (fun h _ => h.takeRecord) h)

theorem Shape.eeRead {s : State} (h : s.Shape) : s.eeRead.Shape :=
  .ite h.wr.takeChannel h

theorem Shape.execEeRead {s : State} (h : s.Shape) : Shaped (execEeRead s) :=
  .done h.eeRead

theorem Shape.execEepromReadDone {recs : List (Option (List Byte))} {s : State} (h : s.Shape) : Shaped (execEepromReadDone recs s) :=
  .ite (.done h) (.done (.settleRequests (.forQ (fun h _ => h.ledRail) h.wr.leaveChannel.takeRecords)))

/-! ### Machine/Reset.lean -/

theorem Shape.restart {keep : Nat → Bool} {s : State} (h : s.Shape) : (restart keep s).Shape := by
  refine .afterReset (.wr (.wr (.wr (.wr ?_)))) h
  exact { Shape.reset with
    supplies := ⟨h.supplies.1, rfl⟩, areas := h.areas, boots := h.boots, sensors := ⟨rfl, h.sensors.2⟩ }

theorem Shape.beginStart {s : State} {target : Nat} (h : s.Shape) : (s.beginStart target).Shape :=
  { h with }

theorem Shape.resetNow {s : State} {cause detail delay : Nat} (h : s.Shape) : (s.resetNow cause detail delay).Shape :=
  .upd (.wr (.wr (.ite h.restart.setReg h.restart)))

theorem Shape.warmReset {s : State} {cause detail delay : Nat} (h : s.Shape) : (s.warmReset cause detail delay).Shape :=
  .ite h.bump.resetNow (.ite h.resetNow h)

theorem Shape.askReset {s : State} (h : s.Shape) : s.askReset.Shape :=
  .ite h { h with }

theorem Shape.powerOnReset {s : State} (h : s.Shape) : s.powerOnReset.Shape :=
  .afterReset { Shape.reset with supplies := ⟨h.supplies.1, rfl⟩, areas := h.areas, boots := h.boots } h

theorem Shape.wakeStart {s : State} (h : s.Shape) : s.wakeStart.Shape := by
  unfold State.wakeStart
  extract_lets x1 _ sys x2
  have h1 : x1.Shape := h.restart
  clear_value x1
  have h2 : x2.Shape := .upd h1 (by simp [sizes, sys, h1.others, h.others])
  exact h2.beginStart.wr

/-! ### Machine/Power.lean -/

theorem Shape.refuse {s : State} {a : Asking} {rs : List Nat} (h : s.Shape) : (s.refuse a rs).Shape :=
  .report (.wr (.wr (.wr (.foldl (fun h _ => h.bump) h))))

theorem Shape.enterAwake {s : State} {target : Nat} (h : s.Shape) : (s.enterAwake target).Shape :=
  .ite h.wr.fillCredit h.wr

theorem Shape.beginEntry {s : State} {target : Nat} (h : s.Shape) : (s.beginEntry target).Shape :=
  .upd h.failRun.wr.wr

theorem Shape.setIslands {s : State} {on : Bool} (h : s.Shape) : (s.setIslands on).Shape :=
  h.wrB.wrB.wr.wr

theorem Shape.beginExit {s : State} {target : Nat} (h : s.Shape) : (s.beginExit target).Shape :=
  { h with }

theorem Shape.exitScan {s : State} (h : s.Shape) : s.exitScan.Shape :=
  .ite h.startScan h

theorem Shape.exitClock {s : State} (h : s.Shape) : s.exitClock.Shape :=
  .exitScan (.railsOn (.dramTrained (.setIslands { h with })))

theorem Shape.dramSleep {s : State} (h : s.Shape) : s.dramSleep.Shape :=
  .upd (h.wr (f := F.FMC_PD.IN_PD) (v := 0)) (by simp [sizes, h.others])

theorem Shape.quietPort {quiet : Bool} {s : State} {p : Port} (h : s.Shape) : (quietPort quiet s p).Shape :=
  .foldl (fun h _ => .ite (.wrB (.ite h.wrB h)) (.ite h.wrB h)) h

theorem Shape.quietPorts {s : State} (h : s.Shape) : s.quietPorts.Shape :=
  .refreshModes (.foldl (fun h _ => h.quietPort) h)

theorem Shape.wakePorts {s : State} (h : s.Shape) : s.wakePorts.Shape :=
  .refreshModes (.foldl (fun h _ => h.quietPort) h)

theorem Shape.cutOff {s : State} (h : s.Shape) : s.cutOff.Shape :=
  .upd (.wr (.wr (.wr (.wr (.wr (.wr (.wr (.upd { h with }))))))))

theorem Shape.noteWake {s : State} {code : Nat} (h : s.Shape) : (s.noteWake code).Shape :=
  h.wr

theorem Shape.wakeEvent {s : State} {code : Nat} (h : s.Shape) : (s.wakeEvent code).Shape := by
  unfold State.wakeEvent
  extract_lets _ s1
  have h1 : s1.Shape := { h with }
  clear_value s1
  exact .ite h (.ite (.upd h1) (.ite h1.noteWake.wakeStart (.ite h1.noteWake.beginExit h.noteWake)))

theorem Shape.releaseWakes {s : State} (h : s.Shape) : s.releaseWakes.Shape :=
  .foldl (fun h _ => h.wakeEvent) { h with }

theorem Shape.grant {s : State} {a : Asking} (h : s.Shape) : (s.grant a).Shape :=
  .ite (.ite h.noteWake.beginExit h.enterAwake) (.ite { h with } h.beginEntry)

theorem Shape.powerRequest {s : State} {a : Asking} (h : s.Shape) : (s.powerRequest a).1.Shape := by
  unfold State.powerRequest
  refine .ite_fst (.ite_fst h h.refuse) (.ite_fst h (.ite_fst h.grant ?_))
  split
  · exact h.grant
  · exact .refuse (.ite h.queueFlash h)

theorem Shape.requestWith {s : State} {a : Asking} (h : s.Shape) : (s.requestWith a).1.Shape :=
  .foldl (fun h _ => .ite h.wakeEvent h) h.powerRequest

theorem Shape.powerBody {firing : Nat} {r : Request} {s : State} (h : s.Shape) : (powerBody firing r s).1.Shape := by
  refine .withLen (fun {s} h => .ite_fst h (.withZeros (fun {s} h => ?_) h)) h
  dsimp only
  split <;> exact h.requestWith

theorem Shape.execPowerState {c : AonCycle} {r : Request} {s : State} (h : s.Shape) : Shaped (execPowerState c r s) :=
  .done (.command (fun h => h.powerBody) h.advance)

theorem Shape.valveSettled {q : Quad} {s : State} (h : s.Shape) : (valveSettled q s).Shape :=
  .ite h.setLight h

theorem Shape.execValveSettleExpiry {t : Nat} {s : State} (h : s.Shape) : Shaped (execValveSettleExpiry t s) :=
  .done (.forQ (fun h _ => h.valveSettled) h.advance)

theorem Shape.entryDone {s : State} {target : Nat} (h : s.Shape) : (s.entryDone target).Shape := by
  unfold State.entryDone
  extract_lets _ _ _ s1
  have h1 : s1.Shape := .workDone (.quietPorts (.upd h.setIslands.dramSleep.wr.wr))
  clear_value s1
  exact .releaseWakes (.ite h1.cutOff h1)

theorem Shape.execPowerEntryDone {t : Nat} {s : State} (h : s.Shape) : Shaped (execPowerEntryDone t s) :=
  .done (.ite h.advance.entryDone h.advance)

theorem Shape.exitDone {s : State} (h : s.Shape) : s.exitDone.Shape :=
  .workDone (.wakePorts (.upd h.enterAwake.wr))

theorem Shape.execStandbyExitComplete {t : Nat} {s : State} (h : s.Shape) : Shaped (execStandbyExitComplete t s) :=
  .done (.ite h.advance (.ite (.ite h.advance.exitClock h.advance) (.ite h.advance.exitDone h.advance)))

theorem Shape.execWakeTimer {t : Nat} {s : State} (h : s.Shape) : Shaped (execWakeTimer t s) :=
  .done (.ite (.wakeEvent (.upd h.advance)) h.advance)

theorem Shape.execSvcWake {t : Nat} {s : State} (h : s.Shape) : Shaped (execSvcWake t s) :=
  .done (.ite h.advance.wakeEvent h.advance)

theorem Shape.wakeFail {s : State} (h : s.Shape) : s.wakeFail.Shape :=
  .upd h.bump.warmReset

theorem Shape.execWakeRetry {t : Nat} {s : State} (h : s.Shape) : Shaped (execWakeRetry t s) :=
  .ite (.done h.advance) (.ite (.done h.advance.wakeFail) (.done (.fault (.upd h.advance.bump))))

theorem Shape.openPads {s : State} (h : s.Shape) : s.openPads.Shape :=
  h.wr.wr.wr.wr

theorem Shape.execPadRelease {s : State} (h : s.Shape) : Shaped (execPadRelease s) :=
  .done h.openPads

/-! ### Machine/Update.lean -/

theorem Shape.setUpd {s : State} {st : Nat} (h : s.Shape) : (s.setUpd st).Shape :=
  h.wr

theorem Shape.setStagingArea {s : State} {a : ImageArea} (h : s.Shape) : (s.setStagingArea a).Shape :=
  .upd h (by simp [sizes])

theorem Shape.stageSession {s : State} (h : s.Shape) : s.stageSession.Shape :=
  .upd h.setUpd.wr

theorem Shape.updateStageBody {r : Request} {s : State} (h : s.Shape) : (updateStageBody r s).1.Shape :=
  .ite_fst h.answer (.ite_fst h.answer (.ite_fst h.answer (.queueFlash (.ite h.stageSession h))))

theorem Shape.execUpdateStage {r : Request} {s : State} (h : s.Shape) : Shaped (execUpdateStage r s) :=
  .done (.command (fun h => h.updateStageBody) h)

theorem Shape.eraseStale {s : State} {o e : Nat} (h : s.Shape) : (s.eraseStale o e).Shape :=
  .upd h.setStagingArea

theorem Shape.programStage {s : State} {r : Request} (h : s.Shape) : (s.programStage r).Shape :=
  h.eraseStale.setStagingArea

theorem Shape.execStageWriteDone {ok : Bool} {s : State} (h : s.Shape) : Shaped (execStageWriteDone ok s) := by
  unfold Machine.execStageWriteDone
  split
  · exact .done h
  · exact .done h
  · exact .ite (.done (.complete (.upd (.ite h.programStage.flashDone h.programStage)))) (.done (.complete (.fault (.upd (.ite
        h.programStage.flashDone h.programStage)))))

theorem Shape.updateActivateBody {r : Request} {x1 : State} (h : x1.Shape) : (updateActivateBody r x1).1.Shape := by
  unfold Machine.updateActivateBody
  refine .withLen ?_ h
  intro _ h
  split
  · exact h.answer
  · exact h.setUpd
  · exact h
  · exact h
  · exact h
  · exact h.answer

theorem Shape.execUpdateActivate {r : Request} {s : State} (h : s.Shape) : Shaped (execUpdateActivate r s) :=
  .done (.command (fun h => h.updateActivateBody) h)

theorem Shape.answerActivate {s : State} {a : Answer} (h : s.Shape) : (s.answerActivate a).Shape := by
  unfold State.answerActivate
  split
  · exact h.complete
  · exact h

theorem Shape.monitorInstall {s : State} (h : s.Shape) : s.monitorInstall.Shape :=
  .askReset (.upd h (by simp [sizes, FlashState.setBoot]))

theorem Shape.checkPassed {s : State} (h : s.Shape) : s.checkPassed.Shape :=
  .ite (.setUpd (.monitorInstall { h with })) (.ite (.bump (.setUpd { h with })) (.upd (.setUpd { h with })))

theorem Shape.execUpdateCheckDone {t : Nat} {s : State} (h : s.Shape) : Shaped (execUpdateCheckDone t s) :=
  .ite (.done h.advance) (.done (.answerActivate (.ite h.advance.wr.wr.checkPassed h.advance.wr.wr.setUpd.fault)))

theorem Shape.execStandbyCoreReady {t : Nat} {s : State} (h : s.Shape) : Shaped (execStandbyCoreReady t s) :=
  .done (.ite (.upd h.advance.setUpd) h.advance)

theorem Shape.updateAbort {s : State} {err : Nat} (h : s.Shape) : (s.updateAbort err).Shape :=
  h.setUpd.wr.fault

theorem Shape.execLoadTimeout {t : Nat} {s : State} (h : s.Shape) : Shaped (execLoadTimeout t s) :=
  .done (.ite h.advance.updateAbort h.advance)

theorem Shape.exchangeCores {s : State} (h : s.Shape) : s.exchangeCores.Shape :=
  { h with }

theorem Shape.enterTrial {s : State} {cold : Bool} (h : s.Shape) : (s.enterTrial cold).Shape :=
  .upd h.setUpd.wr

theorem Shape.execHandoverPoint {ok : Bool} {t : Nat} {s : State} (h : s.Shape) : Shaped (execHandoverPoint ok t s) :=
  .ite (.done h.advance) (.ite (.done h.advance.exchangeCores.enterTrial.bump.takeCheckpoint) (.done h.advance.updateAbort))

theorem Shape.unconfirm {s : State} (h : s.Shape) : s.unconfirm.Shape :=
  { h with }

theorem Shape.fellBack {s : State} {cause : Nat} (h : s.Shape) : (s.fellBack cause).Shape :=
  h.wr.bump.fault

theorem Shape.startFallback {s : State} {cause : Nat} {tripped : Bool} (h : s.Shape) : (s.startFallback cause tripped).Shape :=
  .ite h.unconfirm.warmReset.fellBack (.upd h.setUpd)

theorem Shape.execSupervisorTrip {cause : Fin 3} {t : Nat} {s : State} (h : s.Shape) : Shaped (execSupervisorTrip cause t s) :=
  .ite (.done h.advance) (.ite (.done h.advance.startFallback) (.ite (.done (.upd h.advance)) (.done h.advance)))

theorem Shape.execConfirmTimeout {t : Nat} {s : State} (h : s.Shape) : Shaped (execConfirmTimeout t s) :=
  .done (.ite h.advance.startFallback h.advance)

theorem Shape.resumeCheckpoint {s : State} (h : s.Shape) : s.resumeCheckpoint.Shape := by
  obtain ⟨-, ho, hl, ha, hb, hc, hz, hp, hk⟩ := h.others
  unfold State.resumeCheckpoint
  split
  · exact h
  · next c e => exact { h with others := ⟨hk c e, ho, hl, ha, hb, hc, hz, hp, hk⟩ }

theorem Shape.execFallbackDone {t : Nat} {s : State} (h : s.Shape) : Shaped (execFallbackDone t s) := by
  unfold Machine.execFallbackDone
  extract_lets s1 s2 s3
  have h1 : s1.Shape := h.advance
  have h2 : s2.Shape := .ite h1.resumeCheckpoint h1
  have h3 : s3.Shape := h2.exchangeCores.setUpd.wr.unconfirm.fellBack
  clear_value s3
  refine .ite (.done h1) (.done (.startEvaluation (.workDone { h3 with others := ?_ })))
  obtain ⟨hj, ho, hl, ha, hb, hc, hz, hp, -⟩ := h3.others
  exact ⟨hj, ho, hl, ha, hb, hc, hz, hp, by rintro _ ⟨⟩⟩

theorem Shape.updateRevertBody {r : Request} {x1 : State} (h : x1.Shape) : (updateRevertBody r x1).1.Shape := by
  unfold Machine.updateRevertBody
  refine .withLen ?_ h
  intro _ h
  split
  · exact h.startFallback
  · exact h.startFallback
  · exact .upd h.setUpd
  · exact h.answer

theorem Shape.execUpdateRevert {r : Request} {s : State} (h : s.Shape) : Shaped (execUpdateRevert r s) :=
  .done (.command (fun h => h.updateRevertBody) h)

theorem Shape.confirm {s : State} (h : s.Shape) : s.confirm.Shape :=
  .upd h.setUpd

theorem Shape.updateConfirmBody {r : Request} {x1 : State} (h : x1.Shape) : (updateConfirmBody r x1).1.Shape :=
  .withLen (fun h => .ite_fst h.answer (.ite_fst h.confirm.answer h.answer)) h

theorem Shape.execUpdateConfirm {r : Request} {s : State} (h : s.Shape) : Shaped (execUpdateConfirm r s) :=
  .done (.command (fun h => h.updateConfirmBody) h)

theorem Shape.execTrialTimeElapsed {ok : Bool} {t : Nat} {s : State} (h : s.Shape) : Shaped (execTrialTimeElapsed ok t s) :=
  .ite (.done (.ite h.advance.wr.confirm h.advance.wr)) (.done h.advance)

/-! ### Machine/Boot.lean -/

theorem Shape.rotate {s : State} (h : s.Shape) : s.rotate.Shape :=
  .upd h (by simp [sizes, FlashState.setBoot])

theorem Shape.bootCurrent {s : State} (h : s.Shape) : s.bootCurrent.1.Shape := by
  unfold State.bootCurrent
  refine .ite_fst ?_ (.ite_fst (.fault ?_) ?_)
  · split
    · exact { h with }
    · exact h
  · split
    · exact { h with }
    · exact h
  · split
    · exact { h with }
    · exact h

theorem Shape.bootCheck {s : State} (h : s.Shape) : s.bootCheck.1.Shape := by
  unfold State.bootCheck
  refine .ite_fst h ?_
  split
  · exact .ite_fst h.rotate.bootCurrent (.ite_fst { h with } h.bootCurrent)
  · exact h.bootCurrent

theorem Shape.stagedVersion {s : State} (h : s.Shape) : s.stagedVersion.Shape :=
  .ite h h.wr

theorem Shape.updateAtStart {s : State} {b : Booted} (h : s.Shape) : (s.updateAtStart b).Shape := by
  unfold State.updateAtStart
  refine .ite h.stagedVersion.enterTrial ?_
  split
  · exact .upd h.stagedVersion.setUpd
  · exact h.stagedVersion.setUpd

theorem Shape.runImage {s : State} {b : Booted} (h : s.Shape) : (s.runImage b).Shape := by
  unfold State.runImage
  extract_lets _ _ _ s1
  have h1 : s1.Shape := .upd h.updateAtStart.wrB.wrB
  clear_value s1
  exact .ite (.ite h1 h1.fault) (.upd h.updateAtStart.wrB.wrB)

theorem Shape.migrate {s : State} (h : s.Shape) : s.migrate.Shape := by
  unfold State.migrate
  extract_lets f s1 _ s2
  have h1 : s1.Shape := by
    unfold s1
    split
    · exact h
    · split
      · exact .ite h h.setCalCopy
      · exact h
  clear_value s1
  have h2 : s2.Shape := by
    unfold s2
    split
    · exact .ite h1 (.upd h1)
    · exact h1
  exact .ite h2 (.upd h2)

theorem Shape.setStep {s : State} {n : Nat} (h : s.Shape) : (s.setStep n).Shape :=
  h.wr

theorem Shape.renewNonce {s : State} (h : s.Shape) : s.renewNonce.Shape :=
  h.draw.draw.wr.wr

theorem Shape.resetFaults {s : State} (h : s.Shape) : s.resetFaults.Shape :=
  .ite h (.ite h.report.fault (.ite h.report.fault (.ite h.report.fault h.report)))

theorem Shape.stepTwo {s : State} (h : s.Shape) : s.stepTwo.Shape :=
  .setStep (.resetFaults (.renewNonce (.beginStart (.ite (.openPads { h with }) { h with }))))

theorem Shape.startPorts {s : State} (h : s.Shape) : s.startPorts.Shape := by
  unfold State.startPorts
  refine .refreshModes (.foldl (fun h _ => .ite h h.freshDetect) ?_)
  split
  · exact h.store
  · exact h

theorem Shape.loadConf {s : State} (h : s.Shape) : s.loadConf.Shape := by
  unfold State.loadConf
  extract_lets s1
  have h1 : s1.Shape := by
    unfold s1
    split
    · exact h.store
    · exact h.fault
    · exact h
  split
  · exact h1.store
  · exact h1

theorem Shape.stepFour {s : State} {b : Booted} (h : s.Shape) : (s.stepFour b).Shape :=
  h.runImage.wr.loadConf.startPorts.setStep

theorem Shape.loadOrder {s : State} (h : s.Shape) : s.loadOrder.Shape := by
  unfold State.loadOrder
  split
  · exact h.wr.wr
  · exact h

theorem Shape.wipeRows {s : State} (h : s.Shape) : s.wipeRows.Shape := by
  have h1 : ({ s with fmc.openRow := List.replicate 32 none, fmc.pnr := [] } : State).Shape :=
    .upd h (by simp [sizes, h.others])
  exact .ite h1.draw.bumpBy h1

theorem Shape.stepFive {s : State} {i : StartInput} (h : s.Shape) : (s.stepFive i).Shape := by
  unfold State.stepFive
  extract_lets _ s1 s2 s3 s4
  have h1 : s1.Shape := .setIslands (.upd h.loadOrder)
  clear_value s1
  have h2 : s2.Shape := .ite h1.dramTrained.wipeRows h1.wr.fault
  clear_value s2
  have h3 : s3.Shape := .ite h2.wrB.wr h2
  clear_value s3
  have h4 : s4.Shape := .ite h3.wr.fault h3
  clear_value s4
  exact .setStep (.ite h4 h4.fault)

theorem Shape.selfTest {s : State} {scanOk : Bool} {channels : Nat} (h : s.Shape) : (s.selfTest scanOk channels).Shape := by
  unfold State.selfTest
  extract_lets _ s1 s2
  have h1 : s1.Shape := { h with }
  clear_value s1
  have h2 : s2.Shape := .ite h1 h1.wr.fault
  clear_value s2
  exact .ite h2 h2.wr.fault.moveChannels

theorem Shape.stepSix {s : State} {b : Booted} {i : StartInput} (h : s.Shape) : (s.stepSix b i).Shape :=
  .setStep (.ite h.selfTest (.ite h.selfTest.fault (.loadSafParams (.upd h.selfTest))))

theorem Shape.loadStress {s : State} (h : s.Shape) : s.loadStress.Shape := by
  have held {s : State} (h : s.Shape) (l : List Nat) : ({ s with cmp.tailDefects := l } : State).Shape := { h with }
  unfold State.loadStress
  split
  · exact h.fault
  · exact .wr (.setRegion (.setDefects (held (.foldl (fun h _ => h.wr) h.touchSpan.setRegion) _)))

theorem Shape.loadCalibration {s : State} (h : s.Shape) : s.loadCalibration.Shape := by
  unfold State.loadCalibration
  split
  · exact .fault { h with }
  · split
    · exact h
    · exact .setRegion (.touchSpan (.foldl (fun h _ => h.wrB.wr.wr) (.wr (.wr { h with }))))

theorem Shape.firstBuild {s : State} (h : s.Shape) : s.firstBuild.Shape := by
  unfold State.firstBuild
  extract_lets rr _ s1
  have h1 : s1.Shape := .touchSpan (.ageLimitEntries (.upd h))
  clear_value s1
  exact .buildBounds (.upd h1 (by simp [sizes, h1.others]))

theorem Shape.firstReference {s : State} {i : StartInput} (h : s.Shape) : (s.firstReference i).Shape :=
  .ite h.wr.wr h.wr.fault

theorem Shape.stepSeven {s : State} {i : StartInput} (h : s.Shape) : (s.stepSeven i).Shape :=
  h.touchSpan.touchSpan.fillArrays.loadStress.loadCalibration.firstBuild.loadOverlay.firstReference.takeRecords.startTune.setStep

theorem Shape.firstLadder {s : State} (h : s.Shape) : s.firstLadder.Shape :=
  { h with }

theorem Shape.endStart {s : State} (h : s.Shape) : s.endStart.Shape :=
  { h with }

theorem Shape.wakeToStandby {s : State} (h : s.Shape) : s.wakeToStandby.Shape :=
  h.endStart.wr.beginEntry.railsOff

theorem Shape.stepNine {s : State} (h : s.Shape) : s.stepNine.Shape := by
  unfold State.stepNine
  extract_lets _ _ _ _ _ s1 s2
  have h1 : s1.Shape := .upd h.openPads.setStep.wr
  clear_value s1
  have h2 : s2.Shape := h1.startScan.enterAwake.endStart
  clear_value s2
  exact .ite h1.startScan.enterAwake (.ite h1.wakeToStandby (.ite h2.beginEntry h2))

theorem Shape.tryFinish {s : State} (h : s.Shape) : s.tryFinish.Shape :=
  .ite (.stepNine (.ite h.setStep h)) (.ite h.setStep h)

theorem Shape.migrationFailed {s : State} (h : s.Shape) : s.migrationFailed.Shape :=
  h.unconfirm.bump.resetNow.fault.fellBack

theorem Shape.stepsFromFive {s : State} {b : Booted} {i : StartInput} (h : s.Shape) : (s.stepsFromFive b i).Shape :=
  .ite h.stepFive.restoreFaults (.ite h.stepFive.restoreFaults.migrationFailed (.tryFinish (.railsOn (.firstLadder (.stepSeven
      (.stepSix (.ite h.stepFive.restoreFaults.migrate h.stepFive.restoreFaults)))))))

theorem Shape.takeReset {s : State} (h : s.Shape) : s.takeReset.Shape := by
  unfold State.takeReset
  split
  · exact .ite h.warmReset h
  · exact h

theorem Shape.runStart {s : State} {i : StartInput} (h : s.Shape) : (s.runStart i).Shape := by
  unfold State.runStart
  extract_lets s1 s2
  have h1 : s1.Shape := .ite h.stepTwo h
  have h2 : s2.Shape := .ite (.upd h1 (by simp [sizes, FlashState.cutLife])) h1
  exact .ite h2 (.ite (.upd h2 (by simp [sizes, FlashState.cutBoot])) h2.bootCheck.stepFour.stepsFromFive)

theorem Shape.execStartSequence {t : Nat} {inp : StartInput} {s : State} (h : s.Shape) : Shaped (execStartSequence t inp s) :=
  .done (.ite h.advance.takeReset.runStart h.advance.takeReset)

theorem Shape.execSafetyStartTestDone {comparators lockstep paths supA supB : Bool} {t : Nat} {s : State} (h : s.Shape) : Shaped
    (execSafetyStartTestDone comparators lockstep paths supA supB t s) :=
  .done h.advance.startTest.tryFinish

theorem Shape.execPrailPgChange {k : Fin 6} {high : Bool} {t : Nat} {s : State} (h : s.Shape) : Shaped (execPrailPgChange k high t s) :=
    by
  unfold Machine.execPrailPgChange
  exact .done h.advance.pgChange.tryFinish.exitScan

theorem Shape.execPrailPgTimeout {k : Fin 6} {t : Nat} {s : State} (h : s.Shape) : Shaped (execPrailPgTimeout k t s) :=
  .done h.advance.pgTimeout.tryFinish.exitScan

theorem Shape.execPrailDelayExpiry {t : Nat} {s : State} (h : s.Shape) : Shaped (execPrailDelayExpiry t s) :=
  .done h.advance.delayExpiry.tryFinish.exitScan

theorem Shape.judgeRange {s : State} {v : SupplyLevel} (h : s.Shape) : (s.judgeRange v).Shape :=
  .upd h (by simp [sizes])

theorem Shape.execSupplyGood {level : SupplyLevel} {t : Nat} {s : State} (h : s.Shape) : Shaped (execSupplyGood level t s) := by
  unfold Machine.execSupplyGood
  extract_lets s1 k sys s2 s3
  have h1 : s1.Shape := h.advance.judgeRange
  have h2 : s2.Shape := .upd h1 (by simp [sizes, sys])
  have h3 : s3.Shape := .ite h2.powerOnReset h2
  clear_value s3
  exact .ite (.done { h1 with }) (.ite (.done h1) (.done (.ite { h3 with } h3)))

theorem Shape.safeSupplyLost {s : State} (h : s.Shape) : s.safeSupplyLost.Shape :=
  .countDemand h (.judgeAgreement h (.wr (.wr (.wr (.wr { h with })))))

theorem Shape.execSupplyLost {k : Fin 6} {t : Nat} {s : State} (h : s.Shape) : Shaped (execSupplyLost k t s) := by
  unfold Machine.execSupplyLost
  extract_lets s1 held sys s2 detail
  have h1 : s1.Shape := h.advance
  have h2 : s2.Shape := .upd h1 (by simp [sizes, sys])
  exact .ite (.done h1.safeSupplyLost) (.ite (.done h2.powerOnReset) (.ite (.done h2) (.done (.ite h2.wr h2.warmReset))))

theorem Shape.execResetPin {low : Bool} {t : Nat} {s : State} (h : s.Shape) : Shaped (execResetPin low t s) := by
  unfold Machine.execResetPin
  extract_lets _ _ s1
  have h1 : s1.Shape := .upd h.advance
  clear_value s1
  exact .ite (.done h.advance) (.ite (.done (.ite (.upd h.advance) (.warmReset (.upd h.advance)))) (.done (.ite h1.warmReset (.upd h1))))

theorem Shape.resetRequest {s : State} {key : Nat} (h : s.Shape) : (s.resetRequest key).Shape :=
  .ite h.askReset h

theorem Shape.execResetRequest {key : Word} {s : State} (h : s.Shape) : Shaped (execResetRequest key s) :=
  .done h.resetRequest

theorem Shape.execWatchdogTimeout {t : Nat} {s : State} (h : s.Shape) : Shaped (execWatchdogTimeout t s) :=
  .done (.ite h.advance.warmReset h.advance)

/-! ### Machine/Check.lean -/

theorem Shape.readOut {s : State} {a n : Nat} (h : s.Shape) : (s.readOut a n).2.Shape :=
  .ite_snd h.draw h

theorem Shape.scanTo {s : State} {x : Scan} {a : Nat} (h : s.Shape) : (s.scanTo x a).Shape :=
  .upd h.touchSpan.readOut.wr.wr

theorem Shape.scanSomewhere {s : State} (h : s.Shape) : s.scanSomewhere.Shape := by
  unfold State.scanSomewhere
  split
  · exact h
  · exact h.draw.scanTo

theorem Shape.checkBody {r : Request} {x1 : State} (h : x1.Shape) : (checkBody r x1).1.Shape :=
  .withLen (fun h => .ite_fst h.answer (.ite_fst h.answer (.ite_fst h.answer (.ite_fst h.answer (.ite_fst h.answer { h with }))))) h

theorem Shape.execCheckRegion {r : Request} {s : State} (h : s.Shape) : Shaped (execCheckRegion r s) :=
  .done (.command (fun h => h.checkBody) h)

theorem Shape.scanFree {s : State} (h : s.Shape) : s.scanFree.Shape :=
  { h with }

theorem Shape.execCheckRegionDone {res : BurstReads} {s : State} (h : s.Shape) : Shaped (execCheckRegionDone res s) := by
  unfold Machine.execCheckRegionDone
  split
  · exact .done h
  · dsimp only
    split
    · exact .done h.scanTo.burstsCame.scanFree.complete
    · exact .done h.scanTo.burstsCame.scanFree.wr.complete

theorem Shape.execSafetyImageCheck {ok : Bool} {t : Nat} {s : State} (h : s.Shape) : Shaped (execSafetyImageCheck ok t s) := by
  unfold Machine.execSafetyImageCheck
  extract_lets _ _ s1 s2
  have h1 : s1.Shape := .upd h.advance
  clear_value s1
  have h2 : s2.Shape := .ite h1.scanSomewhere.bump h1
  clear_value s2
  exact .ite (.done h.advance) (.ite (.done h2) (.done (.fault (.upd h2))))

theorem Shape.execEngineSelfTest {t : Nat} {found : SelfTest} {s : State} (h : s.Shape) : Shaped (execEngineSelfTest t found s) :=
  .ite (.done h.advance.selfTest) (.done h.advance)

theorem Shape.onChannel {s : State} {c : Nat} {f : State → State} (hf : ∀ {s}, s.Shape → (f s).Shape) (h : s.Shape) :
    (s.onChannel c f).Shape :=
  .ite (hf h) h

theorem Shape.channelConfig {s : State} {c v : Nat} (h : s.Shape) : (s.channelConfig c v).Shape :=
  .onChannel (fun h => h.wr.wr) h

theorem Shape.channelValue {s : State} {c v : Nat} (h : s.Shape) : (s.channelValue c v).Shape :=
  .onChannel (fun h => h.wr) h

theorem Shape.channelFeed {s : State} {c n v : Nat} (h : s.Shape) : (s.channelFeed c n v).Shape :=
  .onChannel (fun h => h.wr) h

theorem Shape.execCrcChannelConfig {c : Fin 8} {value : Word} {s : State} (h : s.Shape) : Shaped (execCrcChannelConfig c value s) :=
  .done h.channelConfig

theorem Shape.execCrcChannelFeed {c : Fin 8} {size : FeedSize} {value : Word} {s : State} (h : s.Shape) : Shaped (execCrcChannelFeed c
    size value s) :=
  .done h.channelFeed

/-! ### Machine/Lifecycle.lean -/

theorem Shape.blowFuses {s : State} {l : LifeRec} (h : s.Shape) : (s.blowFuses l).Shape :=
  { h with }

theorem Shape.towardDark {s : State} (h : s.Shape) : s.towardDark.Shape := by
  unfold State.towardDark
  extract_lets _ s1
  have h1 : s1.Shape := { h with }
  clear_value s1
  split
  · exact .ite h1.enterAwake (.ite h1.beginExit h1)
  · exact h1.wr
  · exact .upd h1.wr
  · exact .ite h1.beginExit.railsOn.exitScan (.workDone (.upd h1.enterAwake.wr))

theorem Shape.beginTransition {s : State} {target : Nat} {auth : List Byte} (h : s.Shape) : (s.beginTransition target auth).Shape :=
  .ite (.upd h.towardDark) (.flashIdle (.upd h.towardDark))

theorem Shape.lifecycleBody {r : Request} {s : State} (h : s.Shape) : (lifecycleBody r s).1.Shape :=
  .ite_fst h.renewNonce.beginTransition h.renewNonce.fault.answer

theorem Shape.execLifecycle {r : Request} {s : State} (h : s.Shape) : Shaped (execLifecycle r s) :=
  .done (.command (fun h => h.lifecycleBody) h)

/-- What a life-cycle transition erases keeps its three areas and two copies (R456). -/
theorem lengths_eraseFor {source target : Nat} {f : FlashState} {fmt : Nat} (ha : f.areas.length = 3)
    (hb : f.boot.length = 2 ∧ f.lifeCopies.length = 2) :
    (eraseFor source target f fmt).areas.length = 3 ∧ (eraseFor source target f fmt).boot.length = 2 ∧
      (eraseFor source target f fmt).lifeCopies.length = 2 := by
  unfold eraseFor
  split_ifs
  · exact ⟨rfl, rfl, hb.2⟩
  · exact ⟨ha, rfl, hb.2⟩
  · exact ⟨ha, hb⟩
  · exact ⟨ha, hb⟩

theorem Shape.execLifecycleEraseDone {t : Nat} {s : State} (h : s.Shape) : Shaped (execLifecycleEraseDone t s) := by
  unfold Machine.execLifecycleEraseDone
  extract_lets s1 l f
  have h1 : s1.Shape := h.advance
  obtain ⟨ha, hb, hl⟩ := lengths_eraseFor (source := l.source) (target := l.state) (fmt := s1.flash.conf.fmt) h1.areas h1.boots
  refine .ite (.done h1) (.done (.warmReset { h1 with areas := ha, boots := ⟨hb, ?_⟩ }))
  simpa [FlashState.setLife] using hl

/-! ### Machine/Reed.lean -/

theorem Shape.reedActed {op : Nat} {data : BitVec 24} {aux crc : Byte} {res : Nat} {s : State} (h : s.Shape) : (reedActed op data aux crc
    res s).Shape :=
  { h with }

theorem Shape.reedField {op : Nat} {data : BitVec 24} {aux crc : Byte} {act : State → State × Nat} {s : State}
    (ha : ∀ {s}, s.Shape → (act s).1.Shape) (h : s.Shape) : (reedField op data aux crc act s).Shape :=
  .ite { h with } (.ite h (.ite h.bump.fault.reedActed (ha h).reedActed))

theorem Shape.execReedNop {data : BitVec 24} {aux crc : Byte} {s : State} (h : s.Shape) : Shaped (execReedNop data aux crc s) :=
  .done (.reedField (fun h => h) h)

theorem Shape.assignId {data : BitVec 24} {s : State} (h : s.Shape) : (assignId data s).1.Shape :=
  .ite_fst h h.wr

theorem Shape.execReedAssign {data : BitVec 24} {aux crc : Byte} {s : State} (h : s.Shape) : Shaped (execReedAssign data aux crc s) :=
  .done (.reedField (fun h => h.assignId) h)

theorem Shape.assignKeep {data : BitVec 24} {s : State} (h : s.Shape) : (assignKeep data s).1.Shape :=
  .ite_fst h (.ite_fst h.assignId h.draw)

theorem Shape.execReedAssignKeep {data : BitVec 24} {aux crc : Byte} {s : State} (h : s.Shape) : Shaped (execReedAssignKeep data aux crc
    s) :=
  .done (.reedField (fun h => h.assignKeep) h)

theorem Shape.execReedWake {data : BitVec 24} {aux crc : Byte} {s : State} (h : s.Shape) : Shaped (execReedWake data aux crc s) :=
  .done (.reedField (fun h => h) h)

theorem Shape.reedSleepAct {firing : Nat} {data : BitVec 24} {s : State} (h : s.Shape) : (reedSleepAct firing data s).1.Shape :=
  .ite_fst h (.ite_fst h h.requestWith)

theorem Shape.execReedSleep {c : AonCycle} {data : BitVec 24} {aux crc : Byte} {s : State} (h : s.Shape) : Shaped (execReedSleep c data
    aux crc s) :=
  .done (.reedField (fun h => h.reedSleepAct) h.advance)

theorem Shape.identifyFor {seconds : Nat} {s : State} (h : s.Shape) : (identifyFor seconds s).Shape :=
  .ite { h with } { h with }

theorem Shape.execReedIdentify {t : Nat} {data : BitVec 24} {aux crc : Byte} {s : State} (h : s.Shape) : Shaped (execReedIdentify t data
    aux crc s) :=
  .done (.reedField (fun h => .ite_fst h.identifyFor h) h.advance)

theorem Shape.execReedStatus {data : BitVec 24} {aux crc : Byte} {s : State} (h : s.Shape) : Shaped (execReedStatus data aux crc s) :=
  .done (.reedField (fun h => h) h)

theorem Shape.execReedNoField {op : Byte} {data : BitVec 24} {aux crc : Byte} {s : State} (h : s.Shape) : Shaped (execReedNoField op data
    aux crc s) :=
  .ite (.done h) (.done (.reedField (fun h => h) h))

theorem Shape.reedEnd {s : State} (h : s.Shape) : s.reedEnd.Shape :=
  .ite (.upd (.wr (.beginEntry { h with }))) { h with }

theorem Shape.execReedSyncReceive {sending : Bool} {s : State} (h : s.Shape) : Shaped (execReedSyncReceive sending s) :=
  .ite (.done { h with }) (.ite (.done h) (.ite (.done h.bump.fault.reedEnd) (.done (.upd h.reedEnd))))

theorem Shape.execReedFrameEnd {t : Nat} {rest : List (List Byte)} {s : State} (h : s.Shape) : Shaped (execReedFrameEnd t rest s) :=
  .ite (.done (.upd h.advance)) (.ite (.done h.advance) (.done (.reedEnd (.upd h.advance.wr))))

theorem Shape.execReedFrameDiscard {s : State} (h : s.Shape) : Shaped (execReedFrameDiscard s) :=
  .done (.ite h.reedEnd h)

theorem Shape.execReedLineBreak {s : State} (h : s.Shape) : Shaped (execReedLineBreak s) :=
  .ite (.done h) (.done h.wr.bump.fault.reedEnd)

theorem Shape.execReedBreakClear {s : State} (h : s.Shape) : Shaped (execReedBreakClear s) :=
  .done h.wr

theorem Shape.execReedBypassExit {s : State} (h : s.Shape) : Shaped (execReedBypassExit s) :=
  .ite (.done h) (.done { h with })

theorem Shape.execReedWakeDetect {t : Nat} {data : BitVec 24} {aux crc : Byte} {s : State} (h : s.Shape) : Shaped (execReedWakeDetect t
    data aux crc s) := by
  unfold Machine.execReedWakeDetect
  extract_lets _ _ _ s1
  have h1 : s1.Shape := .ite (.upd h.advance) h.advance
  clear_value s1
  exact .done (.ite h1.wakeEvent h1)

theorem Shape.execIdentifyToggle {t : Nat} {s : State} (h : s.Shape) : Shaped (execIdentifyToggle t s) := by
  unfold Machine.execIdentifyToggle
  dsimp only
  split
  · exact .done (.ite (.upd h.advance) h.advance)
  · exact .done h.advance

theorem Shape.execIdentifyEnd {t : Nat} {s : State} (h : s.Shape) : Shaped (execIdentifyEnd t s) := by
  unfold Machine.execIdentifyEnd
  dsimp only
  split
  · exact .done (.ite (.upd h.advance) h.advance)
  · exact .done h.advance

/-! ### Machine/RegRead.lean -/

theorem Shape.clearFields {s : State} {a : Nat} (h : s.Shape) : (s.clearFields a).Shape :=
  h.setReg

theorem Shape.beforeRead {s : State} {a : Nat} (h : s.Shape) : (s.beforeRead a).Shape :=
  .ite h.scanSomewhere (.ite h.latchTime h)

theorem Shape.readReg {s : State} {own a : Nat} (h : s.Shape) : (s.readReg own a).2.Shape :=
  .ite_snd h.beforeRead.draw.clearFields h.beforeRead.clearFields

theorem Shape.readRegs {own n a : Nat} {s : State} (h : s.Shape) : (State.readRegs own n a s).2.Shape := by
  induction n generalizing a s with
  | zero => exact h
  | succ n ih => exact ih h.readReg

theorem Shape.execRegisterReadClear {a : Word} {s : State} (h : s.Shape) : Shaped (execRegisterReadClear a s) :=
  .ite (.done h.readReg) (.done h)

/-! ### Machine/RegWrite.lean -/

theorem Shape.onSet {v : Nat} {f : Fld} {k : State → State} {s : State} (hk : ∀ {s}, s.Shape → (k s).Shape) (h : s.Shape) :
    (onSet v f k s).Shape :=
  .ite (hk h) h

theorem Shape.firstSet {v : Nat} {f g : Fld} {k l : State → State} {s : State} (hk : ∀ {s}, s.Shape → (k s).Shape)
    (hl : ∀ {s}, s.Shape → (l s).Shape) (h : s.Shape) : (firstSet v f k g l s).Shape :=
  .ite (hk h) (.onSet hl h)

theorem Shape.guardIdle {s : State} {idle : Bool} {v : Nat} {fs : List Fld} (h : s.Shape) : (s.guardIdle idle v fs).Shape :=
  .ite h.undefCase h

theorem Shape.writeSys {s : State} {a v : Nat} (h : s.Shape) : (s.writeSys a v).Shape :=
  .ite h.resetRequest (.ite h.writePrailCfg h.store)

theorem Shape.writeLnk {s : State} {a v : Nat} (h : s.Shape) : (s.writeLnk a v).Shape := by
  unfold State.writeLnk
  dsimp only
  split
  · exact .ite (.onSet (fun h => h.retrain) h.store) (.ite h.writeLp (.ite h.writePatCfg (.ite h.writeEye h.store)))
  · exact h.store

theorem Shape.writeCmd {s : State} {a v : Nat} (h : s.Shape) : (s.writeCmd a v).Shape :=
  .ite h.store h.store

theorem Shape.writePix {s : State} {a v : Nat} (h : s.Shape) : (s.writePix a v).Shape :=
  .ite h.guardIdle.store (.ite (.firstSet (fun h => h.linBuild) (fun h => h.linLoad) h) (.ite (.firstSet (fun h => h.queueOverlay)
      (fun h => h.queueOverlay) h) h.store))

theorem Shape.writeCmp {s : State} {a v : Nat} (h : s.Shape) : (s.writeCmp a v).Shape :=
  .ite h.guardIdle.store (.ite (.firstSet (fun h => h.activateFromSrc) (fun h => h.revertTable) h) (.ite (.onSet (fun h =>
      h.queueFlash) h) h.store))

theorem Shape.writeHyb {s : State} {a v : Nat} (h : s.Shape) : (s.writeHyb a v).Shape :=
  .ite h.store.kneeWritten h.store

theorem Shape.writeScn {s : State} {a v : Nat} (h : s.Shape) : (s.writeScn a v).Shape :=
  .ite h.guardIdle.store (.ite h.store.judgeUrgency.countUrgency (.ite (.onSet (fun h => h.eeRead) h.store) h.store))

theorem Shape.writeFmc {s : State} {a v : Nat} (h : s.Shape) : (s.writeFmc a v).Shape :=
  .ite h.writeFmcOrder (.ite (.onSet (fun h => h.trainRequest) h.store) h.store)

theorem Shape.writeChk {s : State} {a v : Nat} (h : s.Shape) : (s.writeChk a v).Shape :=
  .ite (.ite h.channelConfig (.ite h.channelValue (.ite h.channelFeed (.ite h.channelFeed (.ite h.channelFeed h.store))))) h.store

theorem Shape.writePlain {s : State} {a v : Nat} (h : s.Shape) : (s.writePlain a v).Shape := by
  unfold State.writePlain
  split
  · exact h.writeSys
  · exact h.writeLnk
  · exact .ite h.writeRoles h.store
  · exact h.writeCmd
  · exact h.writePix
  · exact h.writeCmp
  · exact h.writeHyb
  · exact h.writeScn
  · exact h.writeFmc
  · exact .ite (.onSet (fun h => h.openPads) h) h.store
  · exact .ite h.writeThmCfg h.store
  · exact .ite h.writeFltCfg h.store
  · exact h.writeChk
  · exact h.store

theorem Shape.writeReg {w : Writer} {s : State} {a v : Nat} (h : s.Shape) : (writeReg w s a v).Shape :=
  .ite (.ite h.unlockKey h) (.ite (.ite h.writeSafParam h) h.writePlain)

theorem Shape.writeRegs {w : Writer} {s : State} {l : List (Nat × Nat)} (h : s.Shape) : (writeRegs w s l).Shape :=
  .foldl (fun h _ => h.writeReg) h

theorem Shape.writeAll {w : Writer} {s : State} {l : List (Nat × Nat)} (h : s.Shape) : (writeAll w s l).Shape :=
  .ite h.bcFrame h.writeRegs

theorem Shape.execRegisterWrite {a value : Word} {s : State} (h : s.Shape) : Shaped (execRegisterWrite a value s) :=
  .ite (.done h.writeReg) (.done h)

/-! ### Machine/Access.lean -/

theorem Shape.tested {t : Option Answer} {k : State → State × Verdict} {s : State} (hk : ∀ {s}, s.Shape → (k s).1.Shape)
    (h : s.Shape) : (tested t k s).1.Shape := by
  unfold Machine.tested
  split
  · exact h
  · exact hk h

theorem Shape.readRegBody {n : Nat} {r : Request} {s : State} (h : s.Shape) : (readRegBody n r s).1.Shape :=
  .tested (fun h => h.readRegs.answer) h

theorem Shape.execReadReg {t : Nat} {r : Request} {s : State} (h : s.Shape) : Shaped (execReadReg t r s) :=
  .done (.command (fun h => h.readRegBody) h.advance)

theorem Shape.writeTested {r : Request} {k : Writer → State → State × Verdict} {s : State}
    (hk : ∀ {s}, s.Shape → ∀ w, (k w s).1.Shape) (h : s.Shape) : (writeTested r k s).1.Shape :=
  .tested (fun h => hk h _) h.unlockUsed

theorem Shape.writeRegBody {r : Request} {x1 : State} (h : x1.Shape) : (writeRegBody r x1).1.Shape :=
  .writeTested (fun h _ => h.writeAll.answer) h

theorem Shape.execWriteReg {t : Nat} {r : Request} {s : State} (h : s.Shape) : Shaped (execWriteReg t r s) :=
  .done (.command (fun h => h.writeRegBody) h.advance)

theorem Shape.modifyTested {r : Request} {k : Writer → State → State × Verdict} {s : State}
    (hk : ∀ {s}, s.Shape → ∀ w, (k w s).1.Shape) (h : s.Shape) : (modifyTested r k s).1.Shape :=
  .tested (fun h => hk h _) h.unlockUsed

theorem Shape.modifyRegBody {r : Request} {x1 : State} (h : x1.Shape) : (modifyRegBody r x1).1.Shape :=
  .modifyTested (fun h _ => h.readReg.writeReg.answer) h

theorem Shape.execModifyReg {t : Nat} {r : Request} {s : State} (h : s.Shape) : Shaped (execModifyReg t r s) :=
  .done (.command (fun h => h.modifyRegBody) h.advance)

theorem Shape.svcReply {s : State} {status : Nat} {data : Word} (h : s.Shape) : (s.svcReply status data).Shape :=
  { h with }

theorem Shape.svcRefuseRead {s : State} {status : Nat} (h : s.Shape) : (s.svcRefuseRead status).Shape :=
  h.draw.svcReply

theorem Shape.countFull {s : State} (h : s.Shape) : s.countFull.Shape :=
  h.bump.fault

theorem Shape.svcReadTested {a : Nat} {k : State → State} {s : State} (hk : ∀ {s}, s.Shape → (k s).Shape) (h : s.Shape) :
    (svcReadTested a k s).Shape := by
  unfold State.svcReadTested
  refine .ite { h with } (.ite h.countFull.svcRefuseRead ?_)
  split
  · exact h.svcRefuseRead
  · exact hk h

theorem Shape.svcWriteTested {a v : Nat} {k : Writer → State → State} {s : State} (hk : ∀ {s}, s.Shape → ∀ w, (k w s).Shape)
    (h : s.Shape) : (svcWriteTested a v k s).Shape := by
  unfold State.svcWriteTested
  refine .ite { h with } (.ite h.countFull.svcReply (.ite h.svcReply (.ite h.svcReply ?_)))
  dsimp only
  split
  · exact h.unlockUsed.svcReply
  · exact hk h.unlockUsed _

theorem Shape.execSvcRead {t : Nat} {a : Word} {s : State} (h : s.Shape) : Shaped (execSvcRead t a s) :=
  .done (.svcReadTested (fun h => h.readReg.svcReply) h.advance)

theorem Shape.execSvcWrite {t : Nat} {a value : Word} {s : State} (h : s.Shape) : Shaped (execSvcWrite t a value s) :=
  .done (.svcWriteTested (fun h _ => h.writeReg.svcReply) h.advance)

/-! ### Machine/Bridge.lean -/

theorem Shape.setBridgeEnd {s : State} {q : Quad} {toDie : Bool} {e : BridgeEnd} (h : s.Shape) : (s.setBridgeEnd q toDie e).Shape :=
  .ite { h with } { h with }

theorem Shape.execBridgeFlitReceive {q : Quad} {toDie : Bool} {seq : Nat} {bits : BitVec 128} {code : BitVec 8} {s : State} (h : s.Shape)
    : Shaped (execBridgeFlitReceive q toDie seq bits code s) :=
  .ite (.done h) (.ite (.done h.setBridgeEnd) (.done (.ite h.bump.setBridgeEnd.faultQ h.bump.setBridgeEnd)))

/-! ### Machine/Command.lean -/

theorem Shape.execPing {r : Request} {s : State} (h : s.Shape) : Shaped (execPing r s) :=
  .done (.command (fun h => h.answer) h)

theorem Shape.execIdentify {r : Request} {s : State} (h : s.Shape) : Shaped (execIdentify r s) :=
  .done (.command (fun h => .withLen (fun h => h.answer) h) h)

theorem Shape.execBadOpcode {op : Byte} {r : Request} {s : State} (h : s.Shape) : Shaped (execBadOpcode op r s) :=
  .ite (.done h) (.done (.command (fun h => h.answer) h))

theorem Shape.takeCaptureEn {s : State} (h : s.Shape) : s.takeCaptureEn.Shape :=
  { h with }

theorem Shape.commitAll {s : State} (h : s.Shape) : s.commitAll.Shape :=
  .ite (.startLadder (.commitCurves (.ite (.fault (.wr (.schedule (.takeCaptureEn { h with })))) (.schedule (.takeCaptureEn { h
      with }))))) (.commitCurves (.ite (.fault (.wr (.schedule (.takeCaptureEn { h with })))) (.schedule (.takeCaptureEn { h with }))))

theorem Shape.execCommit {t : Nat} {r : Request} {s : State} (h : s.Shape) : Shaped (execCommit t r s) :=
  .done (.command (fun h => .withLen (fun h => h.commitAll.answer) h) h.advance)

theorem Shape.overlaySetBody {r : Request} {s : State} (h : s.Shape) : (overlaySetBody r s).1.Shape :=
  .tested (fun h => .answer (.ite (.commitAll (.foldl (fun h _ => h.store) h)) (.foldl (fun h _ => h.store) h))) h

theorem Shape.execOverlaySet {t : Nat} {r : Request} {s : State} (h : s.Shape) : Shaped (execOverlaySet t r s) :=
  .done (.command (fun h => h.overlaySetBody) h.advance)

theorem Shape.memStore {s : State} {a : Nat} {bs : List Byte} (h : s.Shape) : (s.memStore a bs).Shape := by
  unfold State.memStore
  refine .writeBytes (.touchSpan (.ite (.undefCase ?_) ?_))
  · split
    · exact .ite h.scanSomewhere h
    · exact h
  · split
    · exact .ite h.scanSomewhere h
    · exact h

theorem Shape.memWriteBody {r : Request} {s : State} (h : s.Shape) : (memWriteBody r s).1.Shape :=
  .tested (fun h => h.memStore.answer) h

theorem Shape.execMemWrite {r : Request} {s : State} (h : s.Shape) : Shaped (execMemWrite r s) :=
  .done (.command (fun h => h.memWriteBody) h)

theorem Shape.memReadBody {r : Request} {res : BurstReads} {s : State} (h : s.Shape) : (memReadBody r res s).1.Shape :=
  .tested (fun h => h.touchSpan.readOut.burstsCame.answer) h

theorem Shape.execMemRead {r : Request} {res : BurstReads} {s : State} (h : s.Shape) : Shaped (execMemRead r res s) :=
  .done (.command (fun h => h.memReadBody) h)

/-! ### Machine/Clear.lean -/

theorem Shape.afterClear {s : State} {src : Nat} (h : s.Shape) : (s.afterClear src).Shape :=
  .ite h.wr (.ite h.sensorsCleared (.ite { h with } h))

theorem Shape.clearSource {s : State} {src : Nat} (h : s.Shape) : (s.clearSource src).Shape :=
  .ite (.afterClear (.rearmFirst (.forQ (fun h _ => h.relatchQuad) { h with }))) h

theorem Shape.clearBody {r : Request} {x1 : State} (h : x1.Shape) : (clearBody r x1).1.Shape := by
  unfold Machine.clearBody
  refine .withLen ?_ h
  intro _ h
  split
  · exact h.answer
  · exact .withZeros (fun h => .answer (.foldl (fun h _ => h.clearSource) h)) h

theorem Shape.execFaultClear {r : Request} {s : State} (h : s.Shape) : Shaped (execFaultClear r s) :=
  .done (.command (fun h => h.clearBody) h)

/-! ### Machine/Store.lean -/

theorem Shape.markStored {s : State} {w : FlashJob} (h : s.Shape) : (s.markStored w).Shape := by
  unfold State.markStored
  split
  · exact h.wr
  · exact h.wr
  · exact h.wr
  · exact h.wr
  · exact { h with }
  · exact h

theorem Shape.execConfigStoreDone {s : State} (h : s.Shape) : Shaped (execConfigStoreDone s) := by
  unfold Machine.execConfigStoreDone
  split
  · exact .ite (.done (.flashDone (.markStored (.upd h.checkRecord)))) (.done h)
  · exact .done h

/-! ### Machine/Timeout.lean -/

theorem Shape.timedOut {a : Nat} {s : State} (h : s.Shape) : (timedOut a s).1.Shape :=
  h.fault.answer

theorem Shape.timeoutBody {op : RegOp} {r : Request} {i a : Nat} {s : State} (h : s.Shape) : (timeoutBody op r i a s).1.Shape := by
  unfold Machine.timeoutBody
  split
  · exact .tested (fun h => h.readRegs.timedOut) h
  · exact .writeTested (fun h _ => .timedOut (.ite h h.writeRegs)) h
  · exact .tested (fun h => .timedOut (.foldl (fun h _ => h.store) h)) h
  · exact .ite_fst h.timedOut h.patternBody
  · exact .ite_fst h.timedOut h.eyeScanBody
  · exact .modifyTested (fun h _ => h.timedOut) h

theorem Shape.workTimedOut {s : State} {r : Request} {a : Nat} (h : s.Shape) : (s.workTimedOut r a).Shape :=
  h.fault.complete

theorem Shape.patternTimedOut {s : State} {r : Request} {at_ a : Nat} (h : s.Shape) : (s.patternTimedOut r at_ a).Shape :=
  .ite h.workTimedOut h

theorem Shape.eyeTimedOut {s : State} {r : Request} {i a : Nat} (h : s.Shape) : (s.eyeTimedOut r i a).Shape := by
  unfold State.eyeTimedOut
  split
  · exact h
  · exact .ite (.workTimedOut (.ite (.eyeOver (.wr { h with })) { h with })) (.eyePoint (.workTimedOut (.ite (.eyeOver (.wr { h with }))
        { h with })))

theorem Shape.endTimedOut {s : State} {op : RegOp} {r : Request} {i at_ a : Nat} (h : s.Shape) : (s.endTimedOut op r i at_ a).Shape := by
  unfold State.endTimedOut
  split
  · exact .svcReadTested (fun h => h.fault.svcRefuseRead) h
  · exact .svcWriteTested (fun h _ => h.fault.svcReply) h
  · exact .ite (.command (fun h => h.timeoutBody) h) h.patternTimedOut
  · exact .ite (.command (fun h => h.timeoutBody) h) h.eyeTimedOut
  · exact .command (fun h => h.timeoutBody) h

theorem Shape.execRegAccessTimeout {t : Nat} {op : RegOp} {r : Request} {access : At Nat} {s : State} (h : s.Shape) : Shaped
    (execRegAccessTimeout t op r access s) := by
  unfold Machine.execRegAccessTimeout
  dsimp only
  split
  · exact .done (.ite h.advance.endTimedOut h.advance)
  · exact .done h.advance

/-! ### Machine/Dispatch.lean -/

theorem Shape.exec {i : Instr} {s : State} (h : s.Shape) : Shaped (exec i s) := by
  unfold Machine.exec
  split
  · exact h.execBridgeFlitReceive
  · exact h.execSegmentCapture
  · exact h.execFrameStartReceive
  · exact h.execOutsideWritesDone
  · exact h.execFrameEndReceive
  · exact h.execClosingDeadline
  · exact h.execFrameFillDone
  · exact h.execDecisionInstant
  · exact h.execScanFrameStart
  · exact h.execLinBuild
  · exact h.execLinLoad
  · exact h.execLinOpDone
  · exact h.execOverlaySave
  · exact h.execOverlayRestore
  · exact h.execOverlaySaveDone
  · exact h.execOverlayRestoreDone
  · exact h.execTableActivate
  · exact h.execCmpTblActivate
  · exact h.execTableRevert
  · exact h.execTableCheckDone
  · exact h.execTableBuildDone
  · exact h.execTableFlashSaved
  · exact h.execAgeFactorTick
  · exact h.execStressWritebackDue
  · exact h.execForceSave
  · exact h.execStressWritebackDone
  · exact h.execDefectEdit
  · exact h.execDefectEditComplete
  · exact h.execLadderBuildDone
  · exact h.execLadderRewriteDone
  · exact h.execScanLineStart
  · exact h.execEeRead
  · exact h.execEepromReadDone
  · exact h.execSenseSlot
  · exact h.execSenseResult
  · exact h.execSweepDeadline
  · exact h.execIsnsCompareDone
  · exact h.execSenseRequest
  · exact h.execGovEvaluationDone
  · exact h.execGovStall
  · exact h.execJobForceTimeout
  · exact h.execJobPausePoint
  · exact h.execScrubPassDone
  · exact h.execDramRefreshDue
  · exact h.execMr4Poll
  · exact h.execNeighbourRefreshRun
  · exact h.execRetrainDue
  · exact h.execFmcTrainReq
  · exact h.execRetrainStep
  · exact h.execRetrainDone
  · exact h.execWckOscRead
  · exact h.execDramReadReturn
  · exact h.execCorrRateCheck
  · exact h.execFmcOrderWrite
  · exact h.execConfigStoreDone
  · exact h.execDetectPulse
  · exact h.execTrainingSetReceive
  · exact h.execCtleStep
  · exact h.execReadyStable
  · exact h.execLaneSyncTimeout
  · exact h.execPortStageTimeout
  · exact h.execLaneSyncLost
  · exact h.execLaneIdleDetect
  · exact h.execDeskewMismatch
  · exact h.execLaneErrorWindow
  · exact h.execPortRetrain
  · exact h.execTxPowerRequest
  · exact h.execEyeStart
  · exact h.execEyeScanDone
  · exact h.execPatternModeWrite
  · exact h.execInjectOne
  · exact h.execPatternTest
  · exact h.execPatternTestEnd
  · exact h.execRefclkLost
  · exact h.execRefclkRestored
  · exact h.execTxclkHoldoverExpiry
  · exact h.execTxclkLocked
  · exact h.execFrameForward
  · exact h.execConvertedFrameSend
  · exact h.execUpstreamFrameReceive
  · exact h.execMergeFrameSend
  · exact h.execLocalTimeFrameSend
  · exact h.execTimeFrameReceive
  · exact h.execStreamLossTimeout
  · exact h.execRecentre
  · exact h.execPortRoleWrite
  · exact h.execRoleSave
  · exact h.execPing
  · exact h.execReadReg
  · exact h.execWriteReg
  · exact h.execModifyReg
  · exact h.execCommit
  · exact h.execMemWrite
  · exact h.execMemRead
  · exact h.execCheckRegion
  · exact h.execCheckRegionDone
  · exact h.execOverlaySet
  · exact h.execPowerState
  · exact h.execFaultRead
  · exact h.execFaultAck
  · exact h.execFaultClear
  · exact h.execFaultInject
  · exact h.execUpdateStage
  · exact h.execStageWriteDone
  · exact h.execUpdateActivate
  · exact h.execUpdateConfirm
  · exact h.execUpdateRevert
  · exact h.execTuneRun
  · exact h.execEyeScan
  · exact h.execLifecycle
  · exact h.execIdentify
  · exact h.execRegAccessTimeout
  · exact h.execRegisterWrite
  · exact h.execRegisterReadClear
  · exact h.execTimeLoRead
  · exact h.execReedSyncReceive
  · exact h.execReedNop
  · exact h.execReedAssign
  · exact h.execReedAssignKeep
  · exact h.execReedWake
  · exact h.execReedSleep
  · exact h.execReedIdentify
  · exact h.execReedStatus
  · exact h.execReedFrameEnd
  · exact h.execReedLineBreak
  · exact h.execReedBreakClear
  · exact h.execReedBypassExit
  · exact h.execReedWakeDetect
  · exact h.execIdentifyToggle
  · exact h.execIdentifyEnd
  · exact h.execValveSettleExpiry
  · exact h.execPowerEntryDone
  · exact h.execWakeTimer
  · exact h.execSvcWake
  · exact h.execWakeRetry
  · exact h.execPadRelease
  · exact h.execSensorConversion
  · exact h.execSensorStall
  · exact h.execSubstituteFloorEnd
  · exact h.execSensorRecovery
  · exact h.execThrottleTick
  · exact h.execRateTick
  · exact h.execRateTestEnable
  · exact h.execThmCfgWrite
  · exact h.execHardLimitTrip
  · exact h.execSafeInputChange
  · exact h.execDiscrepancyTimeout
  · exact h.execSupplyTestPulse
  · exact h.execOutputTestPulse
  · exact h.execFeedbackInputChange
  · exact h.execFeedbackTimeout
  · exact h.execRestartEdge
  · exact h.execBcDemandFrame
  · exact h.execBcLossTimeout
  · exact h.execBcStatusRefresh
  · exact h.execHeartbeatTimeout
  · exact h.execLockstepMismatch
  · exact h.execMutePathCheck
  · exact h.execCapWordSend
  · exact h.execCapWordTimeout
  · exact h.execSafetyStartTestDone
  · exact h.execSafetyUnlockKey
  · exact h.execUnlockTimeout
  · exact h.execSafetyParamWrite
  · exact h.execSafeOutOvercurrent
  · exact h.execFaultRecord
  · exact h.execFaultLogCopyDone
  · exact h.execFltCfgWrite
  · exact h.execSafetyImageCheck
  · exact h.execEngineSelfTest
  · exact h.execCrcChannelConfig
  · exact h.execCrcChannelFeed
  · exact h.execRefMonitorTick
  · exact h.execTuneRunDue
  · exact h.execTuneRunDone
  · exact h.execTuneStaleTimeout
  · exact h.execUpdateCheckDone
  · exact h.execStandbyCoreReady
  · exact h.execLoadTimeout
  · exact h.execHandoverPoint
  · exact h.execSupervisorTrip
  · exact h.execConfirmTimeout
  · exact h.execTrialTimeElapsed
  · exact h.execFallbackDone
  · exact h.execSupplyGood
  · exact h.execSupplyLost
  · exact h.execResetPin
  · exact h.execResetRequest
  · exact h.execWatchdogTimeout
  · exact h.execStartSequence
  · exact h.execLifecycleEraseDone
  · exact h.execPrailPgChange
  · exact h.execPrailPgTimeout
  · exact h.execPrailDelayExpiry
  · exact h.execPrailCfgWrite
  · exact h.execSvcRead
  · exact h.execSvcWrite
  · exact h.execBadOpcode
  · exact h.execStandbyExitComplete
  · exact h.execRankPowerDown
  · exact h.execPatternCheckerSync
  · exact h.execReedNoField
  · exact h.execReedFrameDiscard

/-! ### Machine/Step.lean -/

theorem Shape.idle {s : State} (h : s.Shape) : s.idle.Shape :=
  h.advance.settle

theorem Shape.step {s : State} (h : s.Shape) : Shaped (step s) := by
  unfold Machine.step
  split
  · rintro _ ⟨⟩
    exact h.idle
  · exact .exec { h with }

end State

/-- Settles O59: no operation that a step is made of changes the length of a list. -/
theorem everyStepKeepsShape : Obligations.EveryStepKeepsShape := fun _ t h e => h.step t e

end Sys2Proof.Machine

/-! # A write that answers another command before its own ends in TIMEOUT (settles O32)

The timeout clause of `RegisterCommands` says of every WRITE_REG that exactly one reply is added, its own. A WRITE_REG may set
LNK_CFG.RETRAIN before the access that gets no answer: that port goes down, which ends an EYE_SCAN at work on one of its lanes and
answers it with the counts it has (09_serial_lanes.md R226, R230; 11_command_packets.md R291). What the write did before stays done
(R287), so two replies are added. -/

namespace Sys2Proof.Machine

/-- A request to device 5 on port 0 for a reply, from source `src`. -/
def replyRequest (src : BitVec 24) (arg : Word) (payload : List Byte) (crc : Word) : Request :=
  ⟨0, 0x20#8, 5#24, 1#8, 5#24, src, 1#16, BitVec.ofNat 16 payload.length, arg, payload, crc⟩

/-- A WRITE_REG of source 9 to LNK_CFG of port 1, its RETRAIN bit set, and to LNK_TX behind it. -/
def retrainWrite : Request := replyRequest 9 0x011000 [0, 0, 0, 0x80, 0, 0, 0, 0] 0x91FB4C3E

/-- The EYE_SCAN of source 10 on lane 0 of port 1: one point counted, and one being measured. -/
def eyeAtWork : EyeCmd := ⟨10, 1, 1, 0, 3, [(0, 1)], [7], true⟩

/-- Device 5 takes commands on port 0, and port 1 is ACTIVE while `eyeAtWork` measures there and holds its place. -/
def duringEyeScan : State :=
  let fields := [(F.SYS_START.STEP, 12), (F.RLN_ID.ID, 5), (F.ZLP_SEL_STAT.STATE, 3), (F.ZLP_SEL_STAT.PORT, 0),
    (F.SYS_ISLAND_STAT.LNK_CLK, 1), (F.LNK_STAT.STATE 0, 5), (F.LNK_STAT.STATE 1, 5), (F.LNK_EYE_CFG.BUSY 1 0, 1)]
  { fields.foldl (fun s e => s.wr e.1 e.2) State.reset with
    cmd.places := [⟨0x78, replyRequest 10 0 [1, 0, 3, 0, 0, 1, 1, 0, 0, 0, 1, 0] 0, 5, false⟩]
    lnk.eyes := [eyeAtWork], lnk.eyeDue := [(4, 0)] }

/-- The access to LNK_TX, made at instant 0, has had no answer after 2 ms, more than REG_TO: its command passes every test. -/
theorem retrainWrite_accepted :
    (duringEyeScan.advance (ms 2)).gate 0x03 retrainWrite = .run ∧
    (duringEyeScan.advance (ms 2)).accessTest ((writeList retrainWrite).any ((duringEyeScan.advance (ms 2)).writeLocked (some retrainWrite.src.toNat)))
      (writeRange retrainWrite) ((writeList retrainWrite).map (·.1)) = none ∧
    (accesses .write retrainWrite)[1]? = some 0x011004 ∧
    0 + us (max 1 (duringEyeScan.rd F.CMD_CFG.REG_TO)) ≤ (duringEyeScan.advance (ms 2)).now := by decide +kernel

/-- The opcodes of the replies that wait to be sent in the state an outcome gives. -/
def repliesOf : Host.Outcome State Fault Refusal → List Nat
  | .next t => t.cmd.replies.map (·.opcode)
  | _ => []

/-- The EYE_SCAN is answered by the port going down, and then the WRITE_REG by its timeout. -/
theorem repliesOf_retrainWrite :
    repliesOf (exec (.regAccessTimeout (ms 2) .write retrainWrite ⟨0, 1⟩) duringEyeScan) = [0x78, 0x03] := by decide +kernel

/-- Refutes O32: a WRITE_REG that retrains a port under an EYE_SCAN and then ends in TIMEOUT leaves two replies, not one. -/
theorem not_registerCommands : ¬ Obligations.RegisterCommands := by
  unfold Obligations.RegisterCommands
  intro h
  obtain ⟨run, passes, access, due⟩ := retrainWrite_accepted
  obtain ⟨-, -, -, -, -, -, -, timeouts⟩ := h duringEyeScan (ms 2) (by decide)
  obtain ⟨t, ht, -, write, -⟩ := timeouts .write retrainWrite 1 0 0x011004 due access
  obtain ⟨answered, -⟩ := write rfl run passes
  have two : repliesOf (.next t) = [0x78, 0x03] := ht ▸ repliesOf_retrainWrite
  have one : repliesOf (.next t) = [0x03] := congrArg (List.map Reply.opcode) answered
  cases two.symm.trans one

end Sys2Proof.Machine

/-! # What a bridge end makes of a flit (settles O1)

A flit received with its bridge up ends in one of two states before the wires act: the one with the bridge end moved on, or
`State.refuseFlit` (R17, R18). Its rules say what `State.setBridgeEnd` and `State.refuseFlit` write and what they leave alone. -/

namespace Sys2Proof.Machine

/-! ### The bridge ends -/

section
variable (s : State) (q : Quad) (toDie : Bool) (e : BridgeEnd)

@[simp] theorem setBridgeEnd_regs : (s.setBridgeEnd q toDie e).regs = s.regs := by cases toDie <;> rfl
@[simp] theorem setBridgeEnd_now : (s.setBridgeEnd q toDie e).now = s.now := by cases toDie <;> rfl
@[simp] theorem setBridgeEnd_undef : (s.setBridgeEnd q toDie e).undef = s.undef := by cases toDie <;> rfl
@[simp] theorem setBridgeEnd_flt : (s.setBridgeEnd q toDie e).flt = s.flt := by cases toDie <;> rfl

/-- The ends after the update depend on no other part of the state. -/
theorem setBridgeEnd_br_congr {s t : State} (h : t.br = s.br) : (t.setBridgeEnd q toDie e).br = (s.setBridgeEnd q toDie e).br := by
  cases toDie <;> simp [State.setBridgeEnd, h]

theorem frame_setBridgeEnd : s.Frame (s.setBridgeEnd q toDie e) [] [.br] := by
  unfold State.setBridgeEnd
  split <;> exact .of_regs rfl fun p hp => by
    cases p <;> simp_all [State.Same, State.readByte, State.appliedWord, State.unlisted]

end

/-! ### The counters of SYS_QBR_ERR -/

theorem retryField_addr (q : Quad) : (retryField q).addr = A.SYS_QBR_ERR := by revert q; decide

theorem retryField_fits (q : Quad) : (retryField q).lo + (retryField q).len ≤ 32 := by revert q; decide

theorem retryField_max (q : Quad) : 2 ^ (retryField q).len - 1 = 255 := by revert q; decide

theorem rd_bump_retryField (s : State) (q : Quad) : (s.bump (retryField q)).rd (retryField q) = min 255 (s.rd (retryField q) + 1) := by
  rw [rd_bump_same s (retryField_fits q), retryField_max]

/-! ### A flit that is not good -/

/-- A flit fails at its bridge end: it is counted, the run of failures grows, and the eighth in a row raises the bridge's fault. -/
def State.refuseFlit (s : State) (q : Quad) (toDie : Bool) : State :=
  let e := s.bridgeEnd q toDie
  let u := (s.bump (retryField q)).setBridgeEnd q toDie { e with fails := e.fails + 1 }
  if e.fails + 1 = 8 then u.faultQ (8 + q.val) 3 q else u

section
variable (s : State) (q : Quad) (toDie : Bool)

theorem refuseFlit_undef : (s.refuseFlit q toDie).undef = s.undef := by
  unfold State.refuseFlit; dsimp only; split <;> simp

/-- The count is all that is written to the registers. -/
theorem refuseFlit_regs : (s.refuseFlit q toDie).regs = (s.bump (retryField q)).regs := by
  unfold State.refuseFlit; dsimp only; split <;> simp

theorem refuseFlit_br : (s.refuseFlit q toDie).br
    = (s.setBridgeEnd q toDie { s.bridgeEnd q toDie with fails := (s.bridgeEnd q toDie).fails + 1 }).br := by
  unfold State.refuseFlit
  dsimp only
  split <;> exact setBridgeEnd_br_congr _ _ _ (bump_br s _)

theorem refuseFlit_inbox : (s.refuseFlit q toDie).flt.inbox
    = s.flt.inbox ++ (if (s.bridgeEnd q toDie).fails + 1 = 8 then [⟨8 + q.val, 3, 2 ^ q.val, 0, false, s.now⟩] else []) := by
  unfold State.refuseFlit
  dsimp only
  split
  · simp [State.faultQ, report_flt]
  · simp

theorem frame_refuseFlit : s.Frame (s.refuseFlit q toDie) [A.SYS_QBR_ERR] [.br, .flt] := by
  have counted : s.Frame (s.bump (retryField q)) [A.SYS_QBR_ERR] [.br, .flt] :=
    (State.Frame.refl s _ _).thenBump _ (by simp [retryField_addr])
  have failed (e : BridgeEnd) : s.Frame ((s.bump (retryField q)).setBridgeEnd q toDie e) [A.SYS_QBR_ERR] [.br, .flt] :=
    counted.trans ((frame_setBridgeEnd _ q toDie e).mono (by simp) (by simp))
  unfold State.refuseFlit
  dsimp only
  split
  · exact (failed _).thenFaultQ _ _ _ (by simp)
  · exact failed _

end

/-! ### The command -/

section
variable {s : State} {q : Quad} {toDie : Bool} {seq : Nat} {bits : BitVec 128} {code : BitVec 8}

theorem exec_bridgeFlitReceive_good (up : s.bridgeUp q = true) (good : flitGood (s.bridgeEnd q toDie) seq bits code = true) :
    exec (.bridgeFlitReceive q toDie seq bits code) s = done (s.setBridgeEnd q toDie ⟨Config.nextFlit seq, 0⟩) := by
  simp [exec, execBridgeFlitReceive, up, good]

theorem exec_bridgeFlitReceive_wrong (up : s.bridgeUp q = true) (wrong : flitGood (s.bridgeEnd q toDie) seq bits code = false) :
    exec (.bridgeFlitReceive q toDie seq bits code) s = done (s.refuseFlit q toDie) := by
  simp [exec, execBridgeFlitReceive, State.refuseFlit, up, wrong]

end

/-- Settles O1, by the two states a flit leaves, on which the wires change nothing that the statement speaks of. -/
theorem bridgeFlits : Obligations.BridgeFlits := by
  unfold Obligations.BridgeFlits
  intro s q toDie seq bits code hu up
  cases h : flitGood (s.bridgeEnd q toDie) seq bits code with
  | true =>
    have du : (s.setBridgeEnd q toDie ⟨Config.nextFlit seq, 0⟩).undef = false := by simp [hu]
    exact ⟨_, exec_bridgeFlitReceive_good up h,
      fun _ => ⟨settle_br du, (frame_setBridgeEnd s q toDie _).settled du⟩, nofun⟩
  | false =>
    have du : (s.refuseFlit q toDie).undef = false := (refuseFlit_undef s q toDie).trans hu
    have count : (s.refuseFlit q toDie).settle.rd (retryField q) = min 255 (s.rd (retryField q) + 1) := by
      rw [rd_settle du (by rw [retryField_addr]; decide) (by rw [retryField_addr]; decide), rd_of_regs (refuseFlit_regs s q toDie), rd_bump_retryField]
    refine ⟨_, exec_bridgeFlitReceive_wrong up h, nofun, fun _ => ⟨count, ?_, ?_, (frame_refuseFlit s q toDie).settled du⟩⟩
    · rw [settle_br du, refuseFlit_br]
    · rw [settle_flt du, refuseFlit_inbox]

end Sys2Proof.Machine

/-! # Frame rules

What a frame needs to know of an update of one part of the state; what a command writes to DRAM, as a frame with a region; and the
frames of what several commands share: requests to the DRAM, and the start of an evaluation. A proof follows its operation, one rule
for each update of it. -/

namespace Sys2Proof.Machine

/-! ### One part changes -/

section
variable {s t : State} {l : List Nat} {ps : List Part} (h : s.Frame t l ps)
include h

/-- One part other than DRAM changes. -/
theorem State.Frame.thenPart {u : State} (q : Part) (hq : q ∈ ps) (hr : u.regs = t.regs) (he : ∀ p, p ≠ q → t.Same u p) :
    s.Frame u l ps := h.thenUpd hr fun p hp => he p (by rintro rfl; exact hp hq)

theorem State.Frame.setFreeNo {x : Nat} (hp : Part.freeNo ∈ ps) : s.Frame { t with freeNo := x } l ps :=
  h.thenPart .freeNo hp rfl fun p hq => by cases p <;> simp_all [State.Same, State.readByte, State.appliedWord, State.unlisted]
theorem State.Frame.setFrameRegs {x : List (Nat × Word)} (hp : Part.frameRegs ∈ ps) : s.Frame { t with frameRegs := x } l ps :=
  h.thenPart .frameRegs hp rfl fun p hq => by cases p <;> simp_all [State.Same, State.readByte, State.appliedWord, State.unlisted]
theorem State.Frame.setCapRegs {x : List (Nat × Word)} (hp : Part.capRegs ∈ ps) : s.Frame { t with capRegs := x } l ps :=
  h.thenPart .capRegs hp rfl fun p hq => by cases p <;> simp_all [State.Same, State.readByte, State.appliedWord, State.unlisted]
theorem State.Frame.setPix {x : PixState} (hp : Part.pix ∈ ps) : s.Frame { t with pix := x } l ps :=
  h.thenPart .pix hp rfl fun p hq => by cases p <;> simp_all [State.Same, State.readByte, State.appliedWord, State.unlisted]
theorem State.Frame.setHyb {x : HybState} (hp : Part.hyb ∈ ps) : s.Frame { t with hyb := x } l ps :=
  h.thenPart .hyb hp rfl fun p hq => by cases p <;> simp_all [State.Same, State.readByte, State.appliedWord, State.unlisted]
theorem State.Frame.setScn {x : ScnState} (hp : Part.scn ∈ ps) : s.Frame { t with scn := x } l ps :=
  h.thenPart .scn hp rfl fun p hq => by cases p <;> simp_all [State.Same, State.readByte, State.appliedWord, State.unlisted]
theorem State.Frame.setGov {x : GovState} (hp : Part.gov ∈ ps) : s.Frame { t with gov := x } l ps :=
  h.thenPart .gov hp rfl fun p hq => by cases p <;> simp_all [State.Same, State.readByte, State.appliedWord, State.unlisted]
theorem State.Frame.setFmc {x : FmcState} (hp : Part.fmc ∈ ps) : s.Frame { t with fmc := x } l ps :=
  h.thenPart .fmc hp rfl fun p hq => by cases p <;> simp_all [State.Same, State.readByte, State.appliedWord, State.unlisted]
theorem State.Frame.setCmd {x : CmdState} (hp : Part.cmd ∈ ps) : s.Frame { t with cmd := x } l ps :=
  h.thenPart .cmd hp rfl fun p hq => by cases p <;> simp_all [State.Same, State.readByte, State.appliedWord, State.unlisted]
theorem State.Frame.setPwr {x : PwrState} (hp : Part.pwr ∈ ps) : s.Frame { t with pwr := x } l ps :=
  h.thenPart .pwr hp rfl fun p hq => by cases p <;> simp_all [State.Same, State.readByte, State.appliedWord, State.unlisted]
theorem State.Frame.setSaf {x : SafState} (hp : Part.saf ∈ ps) : s.Frame { t with saf := x } l ps :=
  h.thenPart .saf hp rfl fun p hq => by cases p <;> simp_all [State.Same, State.readByte, State.appliedWord, State.unlisted]
theorem State.Frame.setFlt {x : FltState} (hp : Part.flt ∈ ps) : s.Frame { t with flt := x } l ps :=
  h.thenPart .flt hp rfl fun p hq => by cases p <;> simp_all [State.Same, State.readByte, State.appliedWord, State.unlisted]
theorem State.Frame.setChk {x : ChkState} (hp : Part.chk ∈ ps) : s.Frame { t with chk := x } l ps :=
  h.thenPart .chk hp rfl fun p hq => by cases p <;> simp_all [State.Same, State.readByte, State.appliedWord, State.unlisted]
theorem State.Frame.setTun {x : TunState} (hp : Part.tun ∈ ps) : s.Frame { t with tun := x } l ps :=
  h.thenPart .tun hp rfl fun p hq => by cases p <;> simp_all [State.Same, State.readByte, State.appliedWord, State.unlisted]
theorem State.Frame.setSys {x : SysState} (hp : Part.sys ∈ ps) : s.Frame { t with sys := x } l ps :=
  h.thenPart .sys hp rfl fun p hq => by cases p <;> simp_all [State.Same, State.readByte, State.appliedWord, State.unlisted]

/-- An update of the tables' part that leaves the applied words alone. -/
theorem State.Frame.setCmp {x : CmpState} (hp : Part.cmp ∈ ps) (ha : x.applied = t.cmp.applied) (hb : x.built = t.cmp.built) :
    s.Frame { t with cmp := x } l ps :=
  h.thenPart .cmp hp rfl fun p hq => by cases p <;> simp_all [State.Same, State.readByte, State.appliedWord, State.unlisted]

/-- An update of the sensing part after which unwritten bytes read as before. -/
theorem State.Frame.setSns {x : SnsState} (hp : Part.sns ∈ ps) (hf : x.filled = t.sns.filled) : s.Frame { t with sns := x } l ps :=
  h.thenPart .sns hp rfl fun p hq => by cases p <;> simp_all [State.Same, State.readByte, State.appliedWord, State.unlisted]

/-- A write to DRAM. -/
theorem State.Frame.setMem {x : List Host.Cell} (hp : Part.mem ∈ ps) : s.Frame { t with mem := x } l ps :=
  h.thenPart .mem hp rfl fun p hq => by cases p <;> simp_all [State.Same]

theorem State.Frame.ite {c : Prop} [Decidable c] {u : State} (k : s.Frame u l ps) : s.Frame (if c then t else u) l ps := by
  split <;> assumption
end

/-- A frame of every step of a loop is a frame of the loop. -/
theorem State.Frame.foldl {α : Type} {f : State → α → State} {l : List Nat} {ps : List Part} {xs : List α}
    (hf : ∀ u : State, ∀ x ∈ xs, u.Frame (f u x) l ps) (s : State) : s.Frame (xs.foldl f s) l ps := by
  induction xs generalizing s with
  | nil => exact .refl _ _ _
  | cons x xs ih => exact (hf s x List.mem_cons_self).trans (ih (fun u y hy => hf u y (List.mem_cons_of_mem _ hy)) _)

theorem State.Frame.forQ {f : Quad → State → State} {l : List Nat} {ps : List Part} (hf : ∀ q (u : State), u.Frame (f q u) l ps) (s : State) :
    s.Frame (Machine.forQ f s) l ps := ((hf 0 s).trans (hf 1 _)).trans ((hf 2 _).trans (hf 3 _))

theorem State.Frame.undef {s t : State} {l : List Nat} {ps : List Part} (h : s.Frame t l ps) (hu : s.undef = false)
    (hp : Part.undef ∉ ps := by decide) : t.undef = false := (h.parts .undef hp).trans hu

/-! ### What is written to DRAM -/

/-- A frame in which the bytes of DRAM outside `A` stay as they were. -/
structure State.FrameIn (A : Nat → Prop) (s t : State) (l : List Nat) (ps : List Part) : Prop where
  frame : s.Frame t l ps
  bytes : ∀ a, ¬ A a → t.readByte a = s.readByte a

section
variable {A : Nat → Prop} {s t u : State} {l l' : List Nat} {ps ps' : List Part}

theorem State.Frame.inside (h : s.Frame t l ps) (hm : Part.mem ∉ ps := by decide) : s.FrameIn A t l ps :=
  ⟨h, fun a _ => h.parts .mem hm a⟩

theorem State.FrameIn.refl (A : Nat → Prop) (s : State) (l : List Nat) (ps : List Part) : s.FrameIn A s l ps :=
  ⟨.refl _ _ _, fun _ _ => rfl⟩

theorem State.FrameIn.trans (h : s.FrameIn A t l ps) (k : t.FrameIn A u l ps) : s.FrameIn A u l ps :=
  ⟨h.frame.trans k.frame, fun a ha => (k.bytes a ha).trans (h.bytes a ha)⟩

theorem State.FrameIn.mono (h : s.FrameIn A t l ps) (hl : l ⊆ l') (hp : ps ⊆ ps') : s.FrameIn A t l' ps' :=
  ⟨h.frame.mono hl hp, h.bytes⟩

theorem State.FrameIn.foldl {α : Type} {f : State → α → State} {xs : List α} (hf : ∀ u : State, ∀ x ∈ xs, u.FrameIn A (f u x) l ps) (s : State) :
    s.FrameIn A (xs.foldl f s) l ps := by
  induction xs generalizing s with
  | nil => exact .refl _ _ _ _
  | cons x xs ih => exact (hf s x List.mem_cons_self).trans (ih (fun u y hy => hf u y (List.mem_cons_of_mem _ hy)) _)

theorem State.FrameIn.forQ {f : Quad → State → State} (hf : ∀ q (u : State), u.FrameIn A (f q u) l ps) (s : State) :
    s.FrameIn A (Machine.forQ f s) l ps := ((hf 0 s).trans (hf 1 _)).trans ((hf 2 _).trans (hf 3 _))
end

theorem frame_writeBytes {s : State} {a : Nat} {bs : List Byte} (h : plainSpan s a bs.length) : s.Frame (s.writeBytes a bs) [] [.mem] := by
  induction bs generalizing s a with
  | nil => exact .refl _ _ _
  | cons b bs ih =>
    have h0 : ¬ tableByte s a := by simpa using h 0 (by simp)
    have first : s.Frame (s.writeByte a b) [] [.mem] := by
      rw [writeByte_plain b h0]
      exact (State.Frame.refl s _ _).setMem (by decide)
    refine first.trans (ih fun i hi => ?_)
    rw [tableByte, writeByte_cmp s a b h0, show a + 1 + i = a + (i + 1) by omega]
    exact h (i + 1) (by simpa using hi)

@[simp] theorem length_leBytes (n v : Nat) : (leBytes n v).length = n := by
  induction n generalizing v with
  | zero => rfl
  | succ n ih => simp [leBytes, ih]

/-- A number of `n` bytes is written at `a`, outside the applied tables. -/
theorem frameIn_writeLE (s : State) {A : Nat → Prop} {a n : Nat} (v : Nat) (ht : ∀ i, i < n → inTables (a + i) = false)
    (hA : ∀ i, i < n → A (a + i)) : s.FrameIn A (s.writeLE a n v) [] [.mem] := by
  have plain : plainSpan s a (leBytes n v).length := fun i hi => by
    rw [length_leBytes] at hi
    simp [tableByte, ht i hi]
  refine ⟨frame_writeBytes plain, fun c hc => readByte_writeBytes_other s a _ plain ?_⟩
  rw [length_leBytes]
  by_contra hin
  exact hc (by have := hA (c - a) (by omega); rwa [show a + (c - a) = c by omega] at this)

/-! ### Requests to the DRAM -/

theorem frame_wakeRank (s : State) (r : Nat) : s.Frame (s.wakeRank r) dramRegs dramParts := by
  have asked := (State.Frame.refl s dramRegs dramParts).setFmc (x := { s.fmc with lastReq := s.fmc.lastReq.set r s.now }) (by decide)
  unfold State.wakeRank
  exact .ite asked (asked.thenWr _ _ (by decide))

theorem frame_runNeighbour (s : State) (e : Nat × Nat) : s.Frame (s.runNeighbour e) dramRegs dramParts :=
  ((State.Frame.refl s dramRegs dramParts).thenBump F.FMC_CNT_PNR.RUNS (by decide)).setFmc (by decide)

theorem frame_activate (s : State) (bank row : Nat) : s.Frame (s.activate bank row) dramRegs dramParts := by
  have opened := (State.Frame.refl s dramRegs dramParts).setFmc (x := { s.fmc with openRow := s.fmc.openRow.set bank (some row) }) (by decide)
  have drawn := opened.setFreeNo (x := s.freeNo + 1) (by decide)
  unfold State.activate
  refine .ite opened (.ite drawn ?_)
  split
  · exact (drawn.setFmc (by decide)).trans (frame_runNeighbour _ _)
  · exact drawn.setFmc (by decide)

theorem frame_touchDram (s : State) (a : Nat) : s.Frame (s.touchDram a) dramRegs dramParts :=
  .ite (frame_wakeRank s _) ((frame_wakeRank s _).trans (frame_activate _ _ _))

theorem frame_touchSpan (s : State) (a n : Nat) : s.Frame (s.touchSpan a n) dramRegs dramParts :=
  .foldl (fun u _ _ => frame_touchDram u _) s

/-! ### The start of an evaluation -/

theorem frame_setCredit (s : State) (e : Nat) : s.Frame (s.setCredit e) [A.GOV_STAT] [.gov] :=
  ((State.Frame.refl s [A.GOV_STAT] [.gov]).thenWr F.GOV_STAT.CREDIT _ (by decide)).setGov (by decide)

theorem frame_beginEvaluation (s : State) : s.Frame s.beginEvaluation [A.GOV_STAT, A.GOV_FLAGS] [.gov] := by
  have taken := ((State.Frame.refl s [A.GOV_STAT, A.GOV_FLAGS] [.gov]).setGov (x := { s.gov with
    inUse := s.regs.filter (fun e => e.1 / 0x10000 == 9), curves := s.gov.curvesNext
    caps := (List.range 4).map (fun q => s.tailCap (quadOf q)) }) (by decide)).thenWrB F.GOV_FLAGS.NO_CURVE
      (State.noCurve { s with gov := { s.gov with
        inUse := s.regs.filter (fun e => e.1 / 0x10000 == 9), curves := s.gov.curvesNext
        caps := (List.range 4).map (fun q => s.tailCap (quadOf q)) } }) (by decide)
  exact .ite (taken.trans ((frame_setCredit _ _).mono (by decide) (by decide))) taken

end Sys2Proof.Machine

/-! # An overlay save that a life-cycle transition waits for (settles O2)

The clause of `LinearisationAndOverlay` about the end of an overlay save says that nothing changes but the save's own traces. A
LIFECYCLE command accepted while the save was in flight waits for its end, and then writes the life-cycle record: in the flash, and
with it the note that it waits is gone (20_start_up.md R456). -/

namespace Sys2Proof.Machine

/-- Where no flash write is in flight any more no life-cycle transition waits for one. -/
theorem flashIdle_lifeDue (s : State) : s.flashIdle.sys.lifeDue = none := by
  unfold State.flashIdle
  split
  · rfl
  · assumption

theorem flashDone_lifeDue (s : State) : s.flashDone.sys.lifeDue = none := by
  unfold State.flashDone
  dsimp only
  split <;> exact flashIdle_lifeDue _

theorem flashIdle_undef (s : State) : s.flashIdle.undef = s.undef := by
  unfold State.flashIdle
  split <;> rfl

theorem flashDone_undef (s : State) : s.flashDone.undef = s.undef := by
  unfold State.flashDone
  dsimp only
  split <;> exact flashIdle_undef _

/-- The overlay store has been written to flash: the save is over. -/
def State.overlaySaved (s : State) : State :=
  ({ s with flash.overlay := s.region overlayLo overlayHi }.wr F.PIX_OVL_SAVE.BUSY 0).flashDone

theorem overlaySaved_undef (s : State) : s.overlaySaved.undef = s.undef := flashDone_undef _

theorem overlaySaved_lifeDue (s : State) : s.overlaySaved.sys.lifeDue = none := flashDone_lifeDue _

theorem exec_overlaySaveDone {s : State} (flying : s.inFlight .overlaySave = true) :
    exec .overlaySaveDone s = done (s.touchSpan overlayLo (overlayHi - overlayLo)).overlaySaved := by
  simp only [exec, execOverlaySaveDone]
  rw [if_pos flying]
  rfl

/-- The FLASH job writes the overlay store, and a transition to FIELD waits for it. -/
def savingOverlay : State :=
  { State.reset with
    gov.flash := [.overlaySave], gov.flashDue := [0], gov.jobs := [{}, { running := true }, {}, {}, {}, {}], sys.lifeDue := some (2, 0) }

/-- Refutes O2: the overlay save in flight ends while a life-cycle transition waits for it, which then goes ahead. -/
theorem not_linearisationAndOverlay : ¬ Obligations.LinearisationAndOverlay := by
  unfold Obligations.LinearisationAndOverlay
  intro h
  obtain ⟨-, -, -, -, saved, -⟩ := h.2 savingOverlay rfl
  obtain ⟨t, ht, -, -, -, frame⟩ := saved (by decide)
  have read := (frame_touchSpan savingOverlay overlayLo (overlayHi - overlayLo)).undef rfl
  rw [exec_overlaySaveDone (by decide)] at ht
  generalize savingOverlay.touchSpan overlayLo (overlayHi - overlayLo) = u at read ht
  obtain rfl : u.overlaySaved.settle = t := Host.Outcome.next.inj ht
  have still : u.overlaySaved.settle.sys = savingOverlay.sys := frame.parts .sys (by decide)
  rw [settle_sys ((overlaySaved_undef u).trans read)] at still
  cases (overlaySaved_lifeDue u).symm.trans (congrArg SysState.lifeDue still)

end Sys2Proof.Machine

/-! # A frame-start where no buffer stands (settles O3)

`CanvasFrameMarkers` says of every state that the buffer a frame-start is accepted into is FILLING after it. It does not ask that the
state has its four frame buffers (`State.Shape`), and a buffer that is not there reads as FREE, so that the frame is accepted into
one that cannot take it. -/

namespace Sys2Proof.Machine

/-- Port 0, in role ALT_UP, carries the stream followed, whose selection is LOST; capture runs and is enabled. No frame buffer stands. -/
def capturingNowhere : State :=
  let fields := [(F.SYS_ISLAND_STAT.PIX_CLK, 1), (F.SYS_ISLAND_STAT.LNK_CLK, 1), (F.ZLP_SEL_STAT.STATE, 3), (F.ZLP_SEL_STAT.PORT, 0),
    (F.LNK_STAT.STATE 0, 5)]
  { (fields.foldl (fun s e => s.wr e.1 e.2) State.reset).setReg A.ZLP_ROLE 2 with
    scn.running := true, capRegs := [(A.PIX_CANVAS, 0x80000000#32)], pix.bufs := [] }

/-- The FRAME_START of frame 5, of presentation time 0. -/
def startOfFrame5 : List Byte := [0x11, 0, 5, 0, 0, 0, 0, 0, 0, 0, 0, 0, 0, 0, 0, 0] ++ [0x04, 0xC9, 0xAC, 0xA7]

/-- The frame-start passes its check on the port captured, and is accepted into buffer 0. -/
theorem startOfFrame5_accepted :
    (capturingNowhere.advance 0).receives 0 = true ∧ markerCheck startOfFrame5 20 = true ∧ capturingNowhere.role 0 = 2 ∧
    (capturingNowhere.advance 0).capturing = true ∧ (capturingNowhere.advance 0).captures 0 = true ∧
    (capturingNowhere.advance 0).closeFilling.acceptsStart (fieldLE startOfFrame5 8 8) = some 0 := by decide +kernel

/-- The frame buffers of the state an outcome gives. -/
def bufsOf : Host.Outcome State Fault Refusal → List FrameBuf
  | .next t => t.pix.bufs
  | _ => []

/-- The frame-start makes no buffer. -/
theorem bufsOf_startOfFrame5 : bufsOf (exec (.frameStartReceive 0 0 startOfFrame5) capturingNowhere) = [] := by decide +kernel

/-- Refutes O3: without frame buffers a frame-start is accepted into buffer 0, which is not FILLING after it. -/
theorem not_canvasFrameMarkers : ¬ Obligations.CanvasFrameMarkers := by
  unfold Obligations.CanvasFrameMarkers
  intro h
  obtain ⟨receives, check, role, capturing, captures, accepted⟩ := startOfFrame5_accepted
  obtain ⟨-, -, -, -, starts⟩ := h capturingNowhere 0 startOfFrame5 (by decide)
  obtain ⟨t, ht, taken, -⟩ := starts 0 (capturingNowhere.advance 0) receives check (by rw [role]; rfl) capturing captures (by decide)
  obtain ⟨filling, -⟩ := taken 0 accepted
  have none : t.pix.bufs = [] := (congrArg bufsOf ht).symm.trans bufsOf_startOfFrame5
  rw [State.buf, none] at filling
  cases filling

end Sys2Proof.Machine

/-! # The decision instant (settles O11)

A decision shows a buffer, holds, enters the fallback image or stays with it (R54, R62): what each of these changes, and by what the
choice among them is made. -/

namespace Sys2Proof.Machine

/-! ### What a decision changes -/

theorem frame_decideShow (s : State) (k : Nat) : s.Frame (s.decideShow k) [] [.pix, .scn] :=
  .ite (.refl _ _ _) (((State.Frame.refl s [] [.pix, .scn]).setPix (x := { s.pix with decision := .show k }) (by decide)).setScn
    (x := { s.scn with ahead := [0, 0, 0, 0], aheadBad := [] }) (by decide))

theorem decideShow_new {s : State} {k : Nat} (h : s.pix.decision ≠ .show k) :
    s.decideShow k = { s with pix.decision := .show k, scn.ahead := [0, 0, 0, 0], scn.aheadBad := [] } := if_neg h

/-- After MAX_FRAMES holds in fallback mode 0 the fallback image follows. -/
def State.holdsOver (s : State) : Prop := inWords s.comingRegs F.PIX_FALLBACK.MODE = 0 ∧ s.maxHolds ≤ s.pix.holds

/-- The fallback image is decided on. -/
def State.fall (s : State) : State :=
  ({ s with pix.decision := .fallback, pix.feedLost := true }.bump F.PIX_CNT_FRAME.FALLBACK_ENTRIES).fault 0x42 2

/-- One more hold is decided on. -/
def State.hold (s : State) : State :=
  ({ s with pix.decision := .hold, pix.holds := s.pix.holds + 1 }.bump F.PIX_CNT_FRAME.HELD).fault 0x41 1

theorem holdOrFall_over {s : State} (h : s.holdsOver) : s.holdOrFall = s.fall := if_pos h

theorem holdOrFall_held {s : State} (h : ¬ s.holdsOver) : s.holdOrFall = s.hold := if_neg h

theorem frame_fall (s : State) : s.Frame s.fall [A.PIX_CNT_FRAME] [.pix, .flt] :=
  (((State.Frame.refl s [A.PIX_CNT_FRAME] [.pix, .flt]).setPix (by decide)).thenBump F.PIX_CNT_FRAME.FALLBACK_ENTRIES (by decide)).thenFault _ _ (by decide)

theorem frame_hold (s : State) : s.Frame s.hold [A.PIX_CNT_FRAME] [.pix, .flt] :=
  (((State.Frame.refl s [A.PIX_CNT_FRAME] [.pix, .flt]).setPix (by decide)).thenBump F.PIX_CNT_FRAME.HELD (by decide)).thenFault _ _ (by decide)

theorem fall_counts (s : State) :
    s.fall.rd F.PIX_CNT_FRAME.FALLBACK_ENTRIES = min 0xFF (s.rd F.PIX_CNT_FRAME.FALLBACK_ENTRIES + 1) :=
  rd_bump_same { s with pix.decision := .fallback, pix.feedLost := true } (f := F.PIX_CNT_FRAME.FALLBACK_ENTRIES) (by decide)

theorem hold_counts (s : State) : s.hold.rd F.PIX_CNT_FRAME.HELD = min 0xFF (s.rd F.PIX_CNT_FRAME.HELD + 1) :=
  rd_bump_same { s with pix.decision := .hold, pix.holds := s.pix.holds + 1 } (f := F.PIX_CNT_FRAME.HELD) (by decide)

theorem frame_holdOrFall (s : State) : s.Frame s.holdOrFall [A.PIX_CNT_FRAME] [.pix, .flt] := .ite (frame_fall s) (frame_hold s)

/-! ### The choice -/

/-- The presentation times that may be decided on: in the fallback image those whose own instant is reached, else those near the
scheduled start. -/
def State.eligible (s : State) : Nat → Bool := if s.pix.fallback then s.followable else fun pt => near pt s.scheduled

theorem decideFrame_ready {s : State} {k : Nat} (h : s.firstReady s.eligible = some k) : s.decideFrame = s.decideShow k := by
  unfold State.eligible at h
  unfold State.decideFrame
  cases hf : s.pix.fallback <;> simp only [hf, Bool.false_eq_true, if_true, if_false] at h ⊢ <;> rw [h]

theorem decideFrame_stay {s : State} (hf : s.pix.fallback = true) (h : s.firstReady s.followable = none) :
    s.decideFrame = { s with pix.decision := .fallback } := by
  unfold State.decideFrame
  rw [if_pos hf, h]

theorem decideFrame_none {s : State} (hf : s.pix.fallback = false) (h : s.firstReady (fun pt => near pt s.scheduled) = none) :
    s.decideFrame = s.holdOrFall := by
  unfold State.decideFrame
  rw [if_neg (by simp [hf]), h]

theorem frame_decideFrame (s : State) : s.Frame s.decideFrame [A.PIX_CNT_FRAME] [.pix, .scn, .flt] := by
  have shown (k : Nat) : s.Frame (s.decideShow k) [A.PIX_CNT_FRAME] [.pix, .scn, .flt] := (frame_decideShow s k).mono (by decide) (by decide)
  unfold State.decideFrame
  split <;> split
  · exact shown _
  · exact (State.Frame.refl s [A.PIX_CNT_FRAME] [.pix, .scn, .flt]).setPix (by decide)
  · exact shown _
  · exact (frame_holdOrFall s).mono (by decide) (by decide)

/-! ### The command -/

theorem exec_decisionInstant_due {s : State} {n : Nat} (h : s.mayDecide = true) (hd : (s.advance n).decisionDue = true) :
    exec (.decisionInstant n) s = done (s.advance n).decideFrame := by
  have hm : (s.advance n).mayDecide = true := h
  simp only [exec, execDecisionInstant, hm, hd, Bool.and_self, if_true]

theorem exec_decisionInstant_early {s : State} {n : Nat} (h : s.mayDecide = false ∨ (s.advance n).decisionDue = false) :
    exec (.decisionInstant n) s = done (s.advance n) := by
  have hm : ((s.advance n).mayDecide && (s.advance n).decisionDue) = false := by
    rcases h with h | h
    · rw [show (s.advance n).mayDecide = false from h, Bool.false_and]
    · rw [h, Bool.and_false]
  simp only [exec, execDecisionInstant, hm, Bool.false_eq_true, if_false]

/-- Settles O11, by the three choices of `State.decideFrame`. -/
theorem scanDecision : Obligations.ScanDecision := by
  unfold Obligations.ScanDecision
  intro s n hu
  have hu' : (s.advance n).undef = false := hu
  refine ⟨fun may due => ⟨_, exec_decisionInstant_due may due, fun k ready new => ?_, fun hf noReady => ?_, fun hf noReady => ?_⟩,
    fun early => ⟨_, exec_decisionInstant_early early, (State.Frame.refl _ _ _).settled hu'⟩⟩
  · rw [decideFrame_ready (s := s.advance n) ready]
    have frame := frame_decideShow (s.advance n) k
    have du := frame.undef hu'
    refine ⟨?_, ?_, frame.settled du⟩
    · rw [settle_pix du, decideShow_new (s := s.advance n) new]
      rfl
    · rw [settle_scn du, decideShow_new (s := s.advance n) new]
      rfl
  · rw [decideFrame_stay (s := s.advance n) hf noReady]
    have du : ({ s.advance n with pix.decision := .fallback } : State).undef = false := hu
    exact ⟨settle_pix du, ((State.Frame.refl (s.advance n) [] [.pix]).setPix (by decide)).settled du⟩
  · rw [decideFrame_none (s := s.advance n) hf noReady]
    have du := (frame_holdOrFall (s.advance n)).undef hu'
    refine ⟨(frame_holdOrFall _).settled du, fun past => ?_, fun room => ?_⟩
    · rw [holdOrFall_over (s := s.advance n) past] at du ⊢
      refine ⟨settle_pix du, ?_, ?_⟩
      · rw [rd_settle du (by decide) (by decide), fall_counts]
        rfl
      · rw [settle_flt du]
        rfl
    · rw [holdOrFall_held (s := s.advance n) room] at du ⊢
      refine ⟨settle_pix du, ?_, ?_⟩
      · rw [rd_settle du (by decide) (by decide), hold_counts]
        rfl
      · rw [settle_flt du]
        rfl

end Sys2Proof.Machine

/-! # The frame buffers

The bytes of the device pixels of a frame buffer, and what writing them leaves alone: DRAM outside them, every other buffer, and
everything else but what requests to the DRAM touch (R39, R50, R200). -/

namespace Sys2Proof.Machine

/-! ### Numbers in DRAM -/

theorem ofLE_leBytes (n v : Nat) : ofLE (leBytes n v) = v % 256 ^ n := by
  induction n generalizing v with
  | zero => simp [leBytes, ofLE, Nat.mod_one]
  | succ n ih =>
    rw [leBytes, ofLE, ih, BitVec.toNat_ofNat]
    exact ((congrArg (v % ·) Nat.pow_succ').trans Nat.mod_mul).symm

theorem readBytes_congr {s t : State} {a n : Nat} (h : ∀ i, i < n → t.readByte (a + i) = s.readByte (a + i)) :
    t.readBytes a n = s.readBytes a n := by
  induction n generalizing a with
  | zero => rfl
  | succ n ih =>
    rw [State.readBytes, State.readBytes, show t.readByte a = s.readByte a by simpa using h 0 (by omega),
      ih fun i hi => by have := h (i + 1) (by omega); rwa [show a + (i + 1) = a + 1 + i by omega] at this]

theorem readLE_congr {s t : State} {a n : Nat} (h : ∀ i, i < n → t.readByte (a + i) = s.readByte (a + i)) :
    t.readLE a n = s.readLE a n := congrArg ofLE (readBytes_congr h)

theorem readLE_writeLE (s : State) {a n : Nat} (v : Nat) (ht : ∀ i, i < n → inTables (a + i) = false) :
    (s.writeLE a n v).readLE a n = v % 256 ^ n := by
  have plain : plainSpan s a (leBytes n v).length := fun i hi => by
    rw [length_leBytes] at hi
    simp [tableByte, ht i hi]
  have back := readBytes_writeBytes s a (leBytes n v) plain
  rw [length_leBytes] at back
  rw [State.readLE, State.writeLE, back, ofLE_leBytes]

/-- What holds of every index after its own step, and is kept by the steps of the others, holds of all after a loop. -/
theorem foldl_range_each {f : State → Nat → State} {P : Nat → State → Prop} {n : Nat} (own : ∀ u i, i < n → P i (f u i))
    (keep : ∀ u i j, i < n → j < n → i ≠ j → P i u → P i (f u j)) (s : State) : ∀ i, i < n → P i ((List.range n).foldl f s) := by
  induction n with
  | zero => exact fun i hi => absurd hi (Nat.not_lt_zero i)
  | succ n ih =>
    intro i hi
    rw [List.range_succ, List.foldl_append]
    rcases Nat.lt_succ_iff_lt_or_eq.mp hi with lt | rfl
    · exact keep _ i n hi (by omega) (by omega)
        (ih (fun u i hi => own u i (by omega)) (fun u i j hi hj => keep u i j (by omega) (by omega)) i lt)
    · exact own _ i hi

/-! ### The bytes of a frame buffer -/

/-- Byte `a` belongs to frame buffer `k`. -/
def inBuffer (k a : Nat) : Prop := bufBase k ≤ a ∧ a < bufBase k + 0x800000

/-- Byte `a` belongs to device pixel (x, y) of quadrant q in buffer k. -/
def inPixel (k : Nat) (q : Quad) (x y a : Nat) : Prop := pixelAddr k q x y ≤ a ∧ a < pixelAddr k q x y + 8

/-- Byte `a` belongs to a device pixel that window pixel (dx, dy) of quadrant q covers at scale `n`. -/
def inBlock (k : Nat) (q : Quad) (n dx dy a : Nat) : Prop := ∃ x y, x < n ∧ y < n ∧ inPixel k q (dx * n + x) (dy * n + y) a

section
variable {k : Nat} {q q' : Quad} {x y x' y' a : Nat}

theorem not_inBuffer (h : a < bufBase k ∨ bufBase k + 0x800000 ≤ a) : ¬ inBuffer k a := fun ⟨_, _⟩ => by omega

theorem inPixel.inBuffer (hx : x < 512) (hy : y < 512) (h : inPixel k q x y a) : inBuffer k a := by
  obtain ⟨lo, hi⟩ := h
  unfold pixelAddr at lo hi
  exact ⟨by omega, by omega⟩

theorem inTables_inBuffer (hk : k < 4) (h : inBuffer k a) : inTables a = false := by
  obtain ⟨lo, hi⟩ := h
  unfold bufBase at lo hi
  simp only [inTables, Bool.and_eq_false_iff, decide_eq_false_iff_not]
  omega

/-- Two device pixels have no byte in common. -/
theorem inPixel_unique (hx : x < 512) (hy : y < 512) (hx' : x' < 512) (hy' : y' < 512) (h : inPixel k q x y a) (h' : inPixel k q' x' y' a) :
    q = q' ∧ x = x' ∧ y = y' := by
  obtain ⟨lo, hi⟩ := h
  obtain ⟨lo', hi'⟩ := h'
  unfold pixelAddr at lo hi lo' hi'
  have hq : q.val = q'.val := by omega
  have hy : y = y' := by omega
  exact ⟨Fin.ext hq, by omega, hy⟩

theorem readLE_pixel_other {s t : State} (h : ∀ a, inPixel k q x y a → t.readByte a = s.readByte a) :
    t.readLE (pixelAddr k q x y) 8 = s.readLE (pixelAddr k q x y) 8 := readLE_congr fun i hi => h _ ⟨by omega, by omega⟩
end

/-! ### Scales and windows -/

theorem scaleOf_cases (g : List (Nat × Word)) (q : Quad) : scaleOf g q ∈ [1, 2, 4, 8] := by
  have two (v : Nat) (h : v < 4) : 2 ^ v ∈ [1, 2, 4, 8] := by interval_cases v <;> decide
  unfold scaleOf
  split
  · exact two _ (Nat.mod_lt _ (by decide))
  · exact two _ (Nat.mod_lt _ (by decide))

theorem scaleOf_le (g : List (Nat × Word)) (q : Quad) : scaleOf g q ≤ 8 := by
  have := scaleOf_cases g q
  simp only [List.mem_cons, List.not_mem_nil, or_false] at this
  omega

/-- The device pixels of a window pixel lie in the quadrant. -/
theorem device_lt {g : List (Nat × Word)} {q : Quad} {d i : Nat} (hd : d < windowSide g q) (hi : i < scaleOf g q) :
    d * scaleOf g q + i < 512 :=
  calc d * scaleOf g q + i < (d + 1) * scaleOf g q := by rw [Nat.succ_mul]; omega
    _ ≤ windowSide g q * scaleOf g q := Nat.mul_le_mul_right _ hd
    _ ≤ 512 := Nat.div_mul_le_self _ _

/-- A device pixel lies in one window pixel only. -/
theorem device_unique {n d d' i i' : Nat} (hi : i < n) (hi' : i' < n) (h : d * n + i = d' * n + i') : d = d' ∧ i = i' := by
  have hd : d = d' := by
    have e (a b : Nat) (hb : b < n) : (a * n + b) / n = a := by
      rw [Nat.mul_comm, Nat.mul_add_div (by omega), Nat.div_eq_of_lt hb, Nat.add_zero]
    rw [← e d i hi, ← e d' i' hi', h]
  subst hd
  exact ⟨rfl, by omega⟩

/-! ### Writing pixels -/

/-- The frame buffers with the coverage `c` and the statistics `m` in buffer k. -/
def State.repaint (s : State) (k : Nat) (c : List (Nat × Bool)) (m : List (Nat × (Nat × Nat))) : PixState :=
  { s.pix with bufs := s.pix.bufs.set k { s.buf k with covered := c, bins := m } }

/-- From `s` to `t` device pixels of buffer k are written, in the bytes `A`. -/
structure State.Painted (A : Nat → Prop) (k : Nat) (s t : State) : Prop where
  drawn : s.FrameIn A t dramRegs (.mem :: .pix :: dramParts)
  stats : ∃ m, t.pix = s.repaint k (s.buf k).covered m

theorem set_same_nth (l : List FrameBuf) (k : Nat) : l.set k (nth l k) = l := by
  refine List.ext_getElem (by simp) fun i hi _ => ?_
  rw [List.getElem_set]
  split
  next h => subst h; simp only [List.length_set] at hi; simp [nth, hi]
  next => rfl

theorem nth_set (l : List FrameBuf) (k j : Nat) (b : FrameBuf) : nth (l.set k b) j = if j = k ∧ k < l.length then b else nth l j := by
  unfold nth
  rw [List.getD_eq_getElem?_getD, List.getD_eq_getElem?_getD, List.getElem?_set]
  by_cases hj : k = j
  · subst hj
    by_cases hk : k < l.length
    · simp [hk]
    · simp [hk]
  · simp [hj, Ne.symm hj]

section
variable {A B : Nat → Prop} {k : Nat} {s t u : State}

theorem buf_repaint {c : List (Nat × Bool)} {m : List (Nat × (Nat × Nat))} (h : t.pix = s.repaint k c m) (hk : k < s.pix.bufs.length) :
    t.buf k = { s.buf k with covered := c, bins := m } := by
  rw [State.buf, h]
  exact (nth_set _ _ _ _).trans (if_pos ⟨rfl, hk⟩)

/-- A buffer the state does not hold is not painted. -/
theorem pix_repaint_beyond {c : List (Nat × Bool)} {m : List (Nat × (Nat × Nat))} (h : t.pix = s.repaint k c m) (hk : ¬ k < s.pix.bufs.length) :
    t.pix = s.pix := by
  rw [h, State.repaint, List.set_eq_of_length_le (by omega)]

theorem repaint_repaint {c c' : List (Nat × Bool)} {m m' : List (Nat × (Nat × Nat))} (h : t.pix = s.repaint k c m) :
    t.repaint k c' m' = s.repaint k c' m' := by
  by_cases hk : k < s.pix.bufs.length
  · rw [State.repaint, buf_repaint h hk, h]
    simp [State.repaint, List.set_set]
  · have e := pix_repaint_beyond h hk
    simp [State.repaint, State.buf, e]

theorem repaint_self (s : State) (k : Nat) : s.repaint k (s.buf k).covered (s.buf k).bins = s.pix :=
  congrArg (fun l => { s.pix with bufs := l }) (set_same_nth s.pix.bufs k)

theorem State.Painted.refl (A : Nat → Prop) (k : Nat) (s : State) : State.Painted A k s s :=
  ⟨.refl _ _ _ _, _, (repaint_self s k).symm⟩

/-- Writing pixels changes a buffer in its statistics only. -/
theorem State.Painted.buf (h : State.Painted A k s t) : t.buf k = { s.buf k with bins := (t.buf k).bins } := by
  obtain ⟨m, hm⟩ := h.stats
  by_cases hk : k < s.pix.bufs.length
  · rw [buf_repaint hm hk]
  · simp [State.buf, pix_repaint_beyond hm hk]

theorem State.Painted.trans (h : State.Painted A k s t) (j : State.Painted A k t u) : State.Painted A k s u := by
  obtain ⟨m, hm⟩ := h.stats
  obtain ⟨m', hm'⟩ := j.stats
  exact ⟨h.drawn.trans j.drawn, m', by rw [hm', h.buf, repaint_repaint hm]⟩

theorem State.Painted.mono (h : State.Painted A k s t) (hA : ∀ a, A a → B a) : State.Painted B k s t :=
  ⟨⟨h.drawn.frame, fun a ha => h.drawn.bytes a fun hb => ha (hA a hb)⟩, h.stats⟩

theorem State.Painted.foldl {α : Type} {f : State → α → State} {xs : List α} (hf : ∀ u : State, ∀ x ∈ xs, State.Painted A k u (f u x))
    (s : State) : State.Painted A k s (xs.foldl f s) := by
  induction xs generalizing s with
  | nil => exact .refl _ _ _
  | cons x xs ih => exact (hf s x List.mem_cons_self).trans (ih (fun u y hy => hf u y (List.mem_cons_of_mem _ hy)) _)

theorem State.Painted.forQ {f : Quad → State → State} (hf : ∀ q (u : State), State.Painted A k u (f q u)) (s : State) :
    State.Painted A k s (Machine.forQ f s) := ((hf 0 s).trans (hf 1 _)).trans ((hf 2 _).trans (hf 3 _))

/-- The frame buffers after the writing, with the statistics read from it. -/
theorem State.Painted.pix (h : State.Painted A k s t) :
    t.pix = { s.pix with bufs := s.pix.bufs.set k { s.buf k with bins := (t.buf k).bins } } := by
  obtain ⟨m, hm⟩ := h.stats
  by_cases hk : k < s.pix.bufs.length
  · rw [buf_repaint hm hk, hm]
    rfl
  · rw [pix_repaint_beyond hm hk, List.set_eq_of_length_le (by omega)]

theorem painted_touchDram (s : State) (A : Nat → Prop) (k a : Nat) : State.Painted A k s (s.touchDram a) := by
  have frame := frame_touchDram s a
  have pix : (s.touchDram a).pix = s.pix := frame.parts .pix (by decide)
  exact ⟨⟨frame.mono (fun _ h => h) (by decide), fun a _ => frame.parts .mem (by decide) a⟩, _, by rw [pix, repaint_self]⟩
end

theorem readByte_notePixel (s : State) (k : Nat) (q : Quad) (x y w a : Nat) : (s.notePixel k q x y w).readByte a = s.readByte a := rfl

/-- The statistics of buffer k after a pixel of word `w` (R174). -/
def State.binsAfter (s : State) (k : Nat) (q : Quad) (x y w : Nat) : List (Nat × (Nat × Nat)) :=
  [0, 1, 2].foldl (fun m c => s.noteValue (q.val * 3 + c) x y (bitsAt w (20 * c) 20) m) (s.buf k).bins

theorem notePixel_eq (s : State) (k : Nat) (q : Quad) (x y w : Nat) :
    s.notePixel k q x y w = { s with pix := s.repaint k (s.buf k).covered (s.binsAfter k q x y w) } := rfl

theorem frame_notePixel (s : State) (k : Nat) (q : Quad) (x y w : Nat) :
    s.Frame (s.notePixel k q x y w) dramRegs (.mem :: .pix :: dramParts) := by
  rw [notePixel_eq]
  exact (State.Frame.refl s _ _).setPix (by simp)

section
variable {k : Nat} (hk : k < 4) (q : Quad) {x y : Nat}
include hk

theorem inTables_inPixel (hx : x < 512) (hy : y < 512) {i : Nat} (hi : i < 8) : inTables (pixelAddr k q x y + i) = false :=
  inTables_inBuffer hk (inPixel.inBuffer (q := q) hx hy ⟨by omega, by omega⟩)

theorem painted_writePixel (s : State) (w : Nat) (hx : x < 512) (hy : y < 512) :
    State.Painted (inPixel k q x y) k s (s.writePixel k q x y w) := by
  have written := frameIn_writeLE s (A := inPixel k q x y) (a := pixelAddr k q x y) (n := 8) w
    (fun i hi => inTables_inPixel hk q hx hy hi) (fun i hi => ⟨by omega, by omega⟩)
  have pix : (s.writeLE (pixelAddr k q x y) 8 w).pix = s.pix := written.frame.parts .pix (by decide)
  rw [State.writePixel]
  generalize s.writeLE (pixelAddr k q x y) 8 w = u at written pix
  refine ⟨⟨(written.frame.mono (by simp) (by decide)).trans (frame_notePixel u k q x y w), fun a ha =>
    (readByte_notePixel u k q x y w a).trans (written.bytes a ha)⟩, u.binsAfter k q x y w, ?_⟩
  simp only [notePixel_eq, State.repaint, State.buf, pix]

theorem readLE_writePixel (s : State) (w : Nat) (hx : x < 512) (hy : y < 512) :
    (s.writePixel k q x y w).readLE (pixelAddr k q x y) 8 = w % 2 ^ 64 :=
  (readLE_congr fun _ _ => readByte_notePixel _ _ _ _ _ _ _).trans
    (readLE_writeLE s w fun _ hi => inTables_inPixel hk q hx hy hi)
end

end Sys2Proof.Machine

/-! # The fill of a frame (settles O10)

Writing a block of device pixels, the fill of missing pixels, the writes outside the canvas, and a buffer that becomes READY or is
given up (R43, R54, R56, R57). -/

namespace Sys2Proof.Machine

/-! ### Blocks -/

section
variable {k : Nat} (hk : k < 4) (q : Quad) {n dx dy : Nat}
include hk

/-- One row of the block of a window pixel is written. -/
theorem painted_writeRun (s : State) (w : Nat) {j : Nat} (hx : ∀ i, i < n → dx * n + i < 512) (hy : dy * n + j < 512) :
    State.Painted (fun a => ∃ i, i < n ∧ inPixel k q (dx * n + i) (dy * n + j) a) k s (s.writeRun k q (dx * n) (dy * n + j) n w) := by
  refine (painted_touchDram s _ k _).trans (.foldl (fun u i hi => ?_) _)
  have hi := List.mem_range.mp hi
  exact (painted_writePixel hk q u w (hx i hi) hy).mono fun a ha => ⟨i, hi, ha⟩

theorem painted_writeBlock (s : State) (w : Nat) (hx : ∀ i, i < n → dx * n + i < 512) (hy : ∀ j, j < n → dy * n + j < 512) :
    State.Painted (inBlock k q n dx dy) k s (s.writeBlock k q n dx dy w) := by
  refine .foldl (fun u j hj => ?_) s
  have hj := List.mem_range.mp hj
  exact (painted_writeRun hk q u w hx (hy j hj)).mono fun a ⟨i, hi, ha⟩ => ⟨i, j, hi, hj, ha⟩

/-- Every device pixel of the row reads the word written. -/
theorem readLE_writeRun (s : State) (w : Nat) {j : Nat} (hx : ∀ i, i < n → dx * n + i < 512) (hy : dy * n + j < 512) :
    ∀ i, i < n → (s.writeRun k q (dx * n) (dy * n + j) n w).readLE (pixelAddr k q (dx * n + i) (dy * n + j)) 8 = w % 2 ^ 64 := by
  refine foldl_range_each (P := fun i u => u.readLE (pixelAddr k q (dx * n + i) (dy * n + j)) 8 = w % 2 ^ 64)
    (fun u i hi => readLE_writePixel hk q u w (hx i hi) hy) (fun u i i' hi hi' ne held => ?_) _
  refine (readLE_pixel_other fun a ha => (painted_writePixel hk q u w (hx i' hi') hy).drawn.bytes a fun ha' => ne ?_).trans held
  have := (inPixel_unique (hx i hi) hy (hx i' hi') hy ha ha').2.1
  omega

/-- Every device pixel of the block reads the word written. -/
theorem readLE_writeBlock (s : State) (w : Nat) (hx : ∀ i, i < n → dx * n + i < 512) (hy : ∀ j, j < n → dy * n + j < 512) :
    ∀ j, j < n → ∀ i, i < n →
      (s.writeBlock k q n dx dy w).readLE (pixelAddr k q (dx * n + i) (dy * n + j)) 8 = w % 2 ^ 64 := by
  refine foldl_range_each (P := fun j u => ∀ i, i < n → u.readLE (pixelAddr k q (dx * n + i) (dy * n + j)) 8 = w % 2 ^ 64)
    (fun u j hj => readLE_writeRun hk q u w hx (hy j hj)) (fun u j j' hj hj' ne held i hi => ?_) s
  refine (readLE_pixel_other fun a ha => (painted_writeRun hk q u w hx (hy j' hj')).drawn.bytes a ?_).trans (held i hi)
  rintro ⟨i', hi', ha'⟩
  have := (inPixel_unique (hx i hi) (hy j hj) (hx i' hi') (hy j' hj') ha ha').2.2
  omega
end

/-- The block of a window pixel lies in its buffer. -/
theorem inBlock.inBuffer {g : List (Nat × Word)} {k : Nat} {q : Quad} {dx dy a : Nat} (hx : dx < windowSide g q) (hy : dy < windowSide g q)
    (h : inBlock k q (scaleOf g q) dx dy a) : inBuffer k a := by
  obtain ⟨x, y, hx', hy', ha⟩ := h
  exact ha.inBuffer (device_lt hx hx') (device_lt hy hy')

/-! ### The fill -/

theorem mem_windowPixels {g : List (Nat × Word)} {q : Quad} {p : Nat × Nat} (h : p ∈ windowPixels g q) :
    p.1 < windowSide g q ∧ p.2 < windowSide g q := by
  simp only [windowPixels, List.mem_flatMap, List.mem_map, List.mem_range] at h
  obtain ⟨dy, hy, dx, hx, rfl⟩ := h
  exact ⟨hx, hy⟩

theorem mem_missingDevice {b : FrameBuf} {q : Quad} {p : Nat × Nat} (h : p ∈ missingDevice b q) : p.1 < 512 ∧ p.2 < 512 := by
  simp only [missingDevice, List.mem_flatMap, List.mem_map, List.mem_range] at h
  obtain ⟨d, hd, j, hj, i, hi, rfl⟩ := h
  obtain ⟨hx, hy⟩ := mem_windowPixels (List.mem_of_mem_filter hd)
  exact ⟨device_lt hx hi, device_lt hy hj⟩

theorem painted_fillRow (k : Nat) (q : Quad) (s : State) (y : Nat) : State.Painted (inBuffer k) k s (State.fillRow k q s y) := by
  unfold State.fillRow
  split
  · exact (painted_touchDram _ _ _ _).trans (painted_touchDram _ _ _ _)
  · exact painted_touchDram _ _ _ _

theorem painted_fillQuad {k : Nat} (hk : k < 4) (b : FrameBuf) (q : Quad) (s : State) :
    State.Painted (inBuffer k) k s (State.fillQuad k b q s) := by
  refine (State.Painted.foldl (fun u y _ => painted_fillRow k q u y) s).trans (.foldl (fun u p hp => ?_) _)
  obtain ⟨hx, hy⟩ := mem_missingDevice hp
  exact (painted_writePixel hk q u _ hx hy).mono fun a ha => ha.inBuffer hx hy

theorem painted_writeOutside {k : Nat} (hk : k < 4) (b : FrameBuf) (q : Quad) (s : State) :
    State.Painted (inBuffer k) k s (State.writeOutside k b q s) := by
  refine .foldl (fun u p hp => ?_) s
  obtain ⟨hx, hy⟩ : p.1 < windowSide b.geom q ∧ p.2 < windowSide b.geom q := by
    unfold outsidePixels at hp
    split at hp
    · exact mem_windowPixels (List.mem_of_mem_filter hp)
    · exact absurd hp List.not_mem_nil
  exact (painted_writeBlock hk q u _ (fun _ hi => device_lt hx hi) (fun _ hj => device_lt hy hj)).mono fun a ha => ha.inBuffer hx hy

/-! ### The timing of the frames to come -/

/-- The parts that the timing of the frames to come is read from (R26, R54). -/
def timingParts : List Part := [.now, .zlp, .scn, .frameRegs]

section
variable {s t : State} {l : List Nat} {ps : List Part} (h : s.Frame t l ps) (hp : ∀ p ∈ timingParts, p ∉ ps)
include h hp

theorem State.Frame.lt : t.lt = s.lt := by
  have now : t.now = s.now := h.parts .now (hp _ (by decide))
  have zlp : t.zlp = s.zlp := h.parts .zlp (hp _ (by decide))
  rw [State.lt, State.lt, now, zlp]

theorem State.Frame.regsAfter (f : Due → Bool) : t.regsAfter f = s.regsAfter f := by
  have scn : t.scn = s.scn := h.parts .scn (hp _ (by decide))
  have regs : t.frameRegs = s.frameRegs := h.parts .frameRegs (hp _ (by decide))
  rw [State.regsAfter, State.regsAfter, scn, regs]

theorem State.Frame.scheduled : t.scheduled = s.scheduled := by
  have scn : t.scn = s.scn := h.parts .scn (hp _ (by decide))
  rw [State.scheduled, State.scheduled, State.period, State.period, scn, h.lt hp]

theorem State.Frame.frameAhead (n : Nat) : t.frameAhead n = s.frameAhead n := by
  have scn : t.scn = s.scn := h.parts .scn (hp _ (by decide))
  induction n with
  | zero => rw [State.frameAhead, State.frameAhead, h.scheduled hp, scn, State.comingRegs, State.comingRegs, h.regsAfter hp]
  | succ n ih => rw [State.frameAhead, State.frameAhead, ih, h.regsAfter hp]

theorem State.Frame.lineFor (pt : Nat) : t.lineFor pt = s.lineFor pt := by
  rw [State.lineFor, State.lineFor, show t.frameAhead = s.frameAhead from funext (h.frameAhead hp)]

theorem State.Frame.decisionStart (pt : Nat) : t.decisionStart pt = s.decisionStart pt := by
  rw [State.decisionStart, State.decisionStart, h.scheduled hp]

theorem State.Frame.tooLate (pt : Nat) : t.tooLate pt = s.tooLate pt := by
  rw [State.tooLate, State.tooLate, State.decisionLead, State.decisionLead, h.lt hp, h.decisionStart hp, h.lineFor hp]
end

/-! ### A buffer becomes READY -/

/-- A buffer whose fill and outside writes are complete. -/
def FrameBuf.complete (b : FrameBuf) : Prop := b.st = .closing ∧ b.filled ∧ !b.outside

theorem frame_setBuf (s : State) (k : Nat) (b : FrameBuf) : s.Frame (s.setBuf k b) [] [.pix] :=
  (State.Frame.refl s [] [.pix]).setPix (by decide)

/-- Buffer k is the fill source and goes to state `st`. -/
def State.leaveClosing (s : State) (k : Nat) (st : BufState) : State :=
  { s with pix := { s.pix with fillSrc := some k, bufs := s.pix.bufs.set k { s.buf k with st := st } } }

/-- Buffer k becomes READY. -/
def State.makeReady (s : State) (k : Nat) : State := (s.leaveClosing k .ready).startEvaluation

/-- Buffer k comes too late (R54). -/
def State.giveUp (s : State) (k : Nat) : State := (s.leaveClosing k .free).bump F.PIX_CNT_FRAME.LATE

theorem frame_leaveClosing (s : State) (k : Nat) (st : BufState) : s.Frame (s.leaveClosing k st) [] [.pix] :=
  (State.Frame.refl s [] [.pix]).setPix (by decide)

theorem rd_leaveClosing (s : State) (k : Nat) (st : BufState) (f : Fld) : (s.leaveClosing k st).rd f = s.rd f := rfl

theorem buf_leaveClosing {s : State} {k : Nat} (hk : k < s.pix.bufs.length) (st : BufState) :
    (s.leaveClosing k st).buf k = { s.buf k with st := st } := (nth_set _ _ _ _).trans (if_pos ⟨rfl, hk⟩)

theorem tryReady_incomplete {s : State} {k : Nat} (h : ¬ (s.buf k).complete) : s.tryReady k = s := if_neg h

theorem tryReady_complete {s : State} {k : Nat} (h : (s.buf k).complete) :
    s.tryReady k = if s.tooLate (s.buf k).pt then s.giveUp k else s.makeReady k := by
  have sourced : s.Frame { s with pix.fillSrc := some k } [] [.pix] := (State.Frame.refl s _ _).setPix (by decide)
  rw [← sourced.tooLate (by decide)]
  exact if_pos h

theorem frame_startEvaluation (s : State) : s.Frame s.startEvaluation [A.GOV_STAT, A.GOV_FLAGS] [.gov] := by
  unfold State.startEvaluation
  split
  · exact .ite ((frame_beginEvaluation s).setGov (by decide)) (.refl _ _ _)
  · exact .refl _ _ _

theorem pix_startEvaluation (s : State) : s.startEvaluation.pix = s.pix := (frame_startEvaluation s).parts .pix (by decide)

theorem frame_makeReady (s : State) (k : Nat) : s.Frame (s.makeReady k) [A.GOV_STAT, A.GOV_FLAGS] [.pix, .gov] :=
  ((frame_leaveClosing s k _).mono (by simp) (by decide)).trans ((frame_startEvaluation _).mono (by simp) (by decide))

theorem pix_makeReady (s : State) (k : Nat) : (s.makeReady k).pix = (s.leaveClosing k .ready).pix := pix_startEvaluation _

theorem frame_giveUp (s : State) (k : Nat) : s.Frame (s.giveUp k) [A.PIX_CNT_FRAME] [.pix] :=
  ((frame_leaveClosing s k _).mono (by simp) (by decide)).thenBump F.PIX_CNT_FRAME.LATE (by decide)

theorem late_giveUp (s : State) (k : Nat) : (s.giveUp k).rd F.PIX_CNT_FRAME.LATE = min 0xFF (s.rd F.PIX_CNT_FRAME.LATE + 1) := by
  rw [State.giveUp, rd_bump_same _ (by decide), rd_leaveClosing]
  rfl

theorem frame_tryReady (s : State) (k : Nat) : s.Frame (s.tryReady k) [A.PIX_CNT_FRAME, A.GOV_STAT, A.GOV_FLAGS] [.pix, .gov] := by
  by_cases h : (s.buf k).complete
  · rw [tryReady_complete h]
    exact .ite ((frame_giveUp s k).mono (by simp) (by decide)) ((frame_makeReady s k).mono (by simp) (by decide))
  · rw [tryReady_incomplete h]
    exact .refl _ _ _

/-! ### The fill is done -/

/-- The missing pixels of buffer `b` are filled into buffer k, if there are any. -/
def State.fillMissing (s : State) (k : Nat) (b : FrameBuf) : State :=
  if missingCount b = 0 then s else ((forQ (State.fillQuad k b) s).bump F.PIX_CNT_SEG.FRAMES_FILLED).fault 0x40 1

/-- PIX_HELD_PIXELS shows the missing pixels of `b`. -/
def State.showMissing (s : State) (b : FrameBuf) : State := s.wr F.PIX_HELD_PIXELS.LAST (min 0xFFFFF (missingCount b))

/-- Buffer k is filled. -/
def State.markFilled (s : State) (k : Nat) : State := s.setBuf k { s.buf k with filled := true }

section
variable (s : State) (k : Nat) (b : FrameBuf)

theorem frame_showMissing : s.Frame (s.showMissing b) [A.PIX_HELD_PIXELS] [] := (State.Frame.refl s _ _).thenWr _ _ (by decide)

theorem last_showMissing : (s.showMissing b).rd F.PIX_HELD_PIXELS.LAST = min 0xFFFFF (missingCount b) :=
  rd_wr_fits s (by decide) (lt_of_le_of_lt (Nat.min_le_left _ _) (by decide))

theorem fillMissing_none {b : FrameBuf} (h : missingCount b = 0) : s.fillMissing k b = s := if_pos h

theorem fillMissing_some {b : FrameBuf} (h : missingCount b ≠ 0) :
    s.fillMissing k b = ((forQ (State.fillQuad k b) s).bump F.PIX_CNT_SEG.FRAMES_FILLED).fault 0x40 1 := if_neg h
end

theorem painted_fillQuads {k : Nat} (hk : k < 4) (b : FrameBuf) (s : State) :
    State.Painted (inBuffer k) k s (forQ (State.fillQuad k b) s) := .forQ (painted_fillQuad hk b) s

/-- A buffer that is in use is one the state holds. -/
theorem buf_held {s : State} {k : Nat} (h : (s.buf k).st ≠ .free) : k < s.pix.bufs.length := by
  by_contra hk
  refine h ?_
  rw [State.buf, nth, List.getD_eq_default _ _ (by omega)]
  rfl

/-- The buffers after the pixels of buffer k have been written and the buffer replaced. -/
theorem pix_setBuf_painted {s t : State} {k : Nat} {m : List (Nat × (Nat × Nat))} (h : t.pix = s.repaint k (s.buf k).covered m) (b : FrameBuf) :
    (t.setBuf k b).pix = { s.pix with bufs := s.pix.bufs.set k b } := by
  simp only [State.setBuf, h, State.repaint, List.set_set]

section
variable {s : State} {k : Nat} (hk : k < 4) (b : FrameBuf)
include hk

theorem frameIn_fillMissing : s.FrameIn (inBuffer k) (s.fillMissing k b) (A.PIX_CNT_SEG :: dramRegs) (.flt :: .mem :: .pix :: dramParts) := by
  by_cases none : missingCount b = 0
  · rw [fillMissing_none s k none]
    exact .refl _ _ _ _
  · rw [fillMissing_some s k none]
    have drawn := (painted_fillQuads hk b s).drawn
    exact ⟨((drawn.frame.mono (by simp) (by simp)).thenBump F.PIX_CNT_SEG.FRAMES_FILLED (by simp [F.PIX_CNT_SEG.FRAMES_FILLED])).thenFault _ _
      (by simp), drawn.bytes⟩

theorem pix_fillMissing : ∃ m, (s.fillMissing k b).pix = s.repaint k (s.buf k).covered m := by
  by_cases none : missingCount b = 0
  · rw [fillMissing_none s k none]
    exact (State.Painted.refl (inBuffer k) k s).stats
  · rw [fillMissing_some s k none]
    exact (painted_fillQuads hk b s).stats

theorem inbox_fillMissing :
    (s.fillMissing k b).flt.inbox = s.flt.inbox ++ (if missingCount b = 0 then [] else [⟨0x40, 1, 0, 0, false, s.now⟩]) := by
  by_cases none : missingCount b = 0
  · rw [fillMissing_none s k none, if_pos none, List.append_nil]
  · have frame := (painted_fillQuads hk b s).drawn.frame
    have flt : (forQ (State.fillQuad k b) s).flt = s.flt := frame.parts .flt (by decide)
    have now : (forQ (State.fillQuad k b) s).now = s.now := frame.parts .now (by decide)
    rw [fillMissing_some s k none, if_neg none, ← flt, ← now]
    rfl

theorem filled_fillMissing : (s.fillMissing k b).rd F.PIX_CNT_SEG.FRAMES_FILLED =
    if missingCount b = 0 then s.rd F.PIX_CNT_SEG.FRAMES_FILLED else min 0xFFFF (s.rd F.PIX_CNT_SEG.FRAMES_FILLED + 1) := by
  by_cases none : missingCount b = 0
  · rw [fillMissing_none s k none, if_pos none]
  · rw [fillMissing_some s k none, if_neg none,
      ← (painted_fillQuads hk b s).drawn.frame.rd (f := F.PIX_CNT_SEG.FRAMES_FILLED) (by decide) (by decide) (by decide)]
    exact rd_bump_same _ (f := F.PIX_CNT_SEG.FRAMES_FILLED) (by decide)
end

/-! ### The frame is filled -/

/-- The missing pixels of buffer k are counted and filled. -/
def State.fillDone (s : State) (k : Nat) : State := ((s.showMissing (s.buf k)).fillMissing k (s.buf k)).markFilled k

/-- What the count and the fill may change. -/
def fillRegs : List Nat := [A.PIX_HELD_PIXELS, A.PIX_CNT_SEG] ++ dramRegs
def fillParts : List Part := [.flt, .mem, .pix] ++ dramParts

section
variable {s : State} {k : Nat} (hk : k < 4)
include hk

theorem frameIn_fillDone : s.FrameIn (inBuffer k) (s.fillDone k) fillRegs fillParts :=
  (((frame_showMissing s (s.buf k)).inside.mono (by decide) (by simp)).trans ((frameIn_fillMissing hk _).mono (by decide) (by decide))).trans
    ((frame_setBuf _ _ _).inside.mono (by simp) (by decide))

theorem pix_fillDone : ∃ m, (s.fillDone k).pix = { s.pix with bufs := s.pix.bufs.set k { s.buf k with filled := true, bins := m } } := by
  obtain ⟨m, hm⟩ := pix_fillMissing (s := s.showMissing (s.buf k)) hk (s.buf k)
  by_cases hl : k < s.pix.bufs.length
  · exact ⟨m, by rw [State.fillDone, State.markFilled, pix_setBuf_painted hm, buf_repaint hm hl]; rfl⟩
  · have pix : ((s.showMissing (s.buf k)).fillMissing k (s.buf k)).pix = s.pix := pix_repaint_beyond hm hl
    exact ⟨m, by
      simp only [State.fillDone, State.markFilled, State.setBuf, pix]
      rw [List.set_eq_of_length_le (by omega), List.set_eq_of_length_le (by omega)]⟩

theorem buf_fillDone (hl : k < s.pix.bufs.length) :
    (s.fillDone k).buf k = { s.buf k with filled := true, bins := ((s.fillDone k).buf k).bins } := by
  obtain ⟨m, hm⟩ := pix_fillDone (s := s) hk
  have e : (s.fillDone k).buf k = { s.buf k with filled := true, bins := m } := by
    rw [State.buf, hm]
    exact (nth_set _ _ _ _).trans (if_pos ⟨rfl, hl⟩)
  rw [e]

theorem pix_fillDone_bins (hl : k < s.pix.bufs.length) : (s.fillDone k).pix =
    { s.pix with bufs := s.pix.bufs.set k { s.buf k with filled := true, bins := ((s.fillDone k).buf k).bins } } := by
  obtain ⟨m, hm⟩ := pix_fillDone (s := s) hk
  have e : ((s.fillDone k).buf k).bins = m := by
    rw [State.buf, hm]
    exact congrArg FrameBuf.bins ((nth_set _ _ _ _).trans (if_pos ⟨rfl, hl⟩))
  rw [e, hm]

theorem last_fillDone : (s.fillDone k).rd F.PIX_HELD_PIXELS.LAST = min 0xFFFFF (missingCount (s.buf k)) :=
  ((frameIn_fillMissing hk (s.buf k)).frame.rd (f := F.PIX_HELD_PIXELS.LAST) (by decide) (by decide) (by decide)).trans
    (last_showMissing s (s.buf k))

theorem inbox_fillDone : (s.fillDone k).flt.inbox =
    s.flt.inbox ++ (if missingCount (s.buf k) = 0 then [] else [⟨0x40, 1, 0, 0, false, s.now⟩]) :=
  inbox_fillMissing (s := s.showMissing (s.buf k)) hk (s.buf k)

theorem filled_fillDone : (s.fillDone k).rd F.PIX_CNT_SEG.FRAMES_FILLED =
    if missingCount (s.buf k) = 0 then s.rd F.PIX_CNT_SEG.FRAMES_FILLED else min 0xFFFF (s.rd F.PIX_CNT_SEG.FRAMES_FILLED + 1) := by
  rw [← (frame_showMissing s (s.buf k)).rd (f := F.PIX_CNT_SEG.FRAMES_FILLED) (by decide) (by decide) (by decide)]
  exact filled_fillMissing (s := s.showMissing (s.buf k)) hk (s.buf k)
end

/-! ### The commands -/

/-- The pixels of buffer k outside the canvas are written. -/
def State.outsideDone (s : State) (k : Nat) : State :=
  (forQ (State.writeOutside k (s.buf k)) s).setBuf k { (forQ (State.writeOutside k (s.buf k)) s).buf k with outside := false }

section
variable {s : State} {k : Fin 4} {n : Nat}

theorem maxHeld_showMissing (s : State) (b : FrameBuf) : (s.showMissing b).maxHeld = s.maxHeld := by
  rw [State.maxHeld, State.maxHeld, (frame_showMissing s b).rd (by decide) (by decide) (by decide)]

theorem exec_frameFillDone_lost (hst : (s.buf k.val).st = .closing) (hf : (s.buf k.val).filled = false)
    (hm : s.maxHeld < missingCount (s.buf k.val)) : exec (.frameFillDone k n) s =
      done (((s.advance n).showMissing (s.buf k.val)).setBuf k.val { s.buf k.val with st := .free }) := by
  have held : ((s.advance n).showMissing (s.buf k.val)).maxHeld < missingCount (s.buf k.val) := by
    rw [maxHeld_showMissing]
    exact hm
  have going : ¬ (((s.advance n).buf k.val).st ≠ .closing ∨ ((s.advance n).buf k.val).filled = true) := by
    rw [show (s.advance n).buf k.val = s.buf k.val from rfl]
    simp [hst, hf]
  exact (if_neg going).trans (if_pos held)

theorem exec_frameFillDone_filled (hst : (s.buf k.val).st = .closing) (hf : (s.buf k.val).filled = false)
    (hm : missingCount (s.buf k.val) ≤ s.maxHeld) : exec (.frameFillDone k n) s =
      done (((s.advance n).fillDone k.val).tryReady k.val) := by
  have held : ¬ ((s.advance n).showMissing (s.buf k.val)).maxHeld < missingCount (s.buf k.val) := by
    rw [maxHeld_showMissing]
    exact Nat.not_lt.mpr hm
  have going : ¬ (((s.advance n).buf k.val).st ≠ .closing ∨ ((s.advance n).buf k.val).filled = true) := by
    rw [show (s.advance n).buf k.val = s.buf k.val from rfl]
    simp [hst, hf]
  exact (if_neg going).trans (if_neg held)

theorem exec_frameFillDone_other (h : (s.buf k.val).st ≠ .closing ∨ (s.buf k.val).filled = true) :
    exec (.frameFillDone k n) s = done (s.advance n) := if_pos h

theorem exec_outsideWritesDone (ho : (s.buf k.val).outside = true) (hst : (s.buf k.val).st = .filling ∨ (s.buf k.val).st = .closing) :
    exec (.outsideWritesDone k n) s = done (((s.advance n).outsideDone k.val).tryReady k.val) := by
  have going : ((s.buf k.val).outside && ((s.buf k.val).st == .filling || (s.buf k.val).st == .closing)) = true := by
    rcases hst with h | h <;> rw [ho, h] <;> rfl
  exact if_pos going
end

/-! ### The filled frame, READY or given up -/

section
variable {s : State} {k : Nat} (hk : k < 4) (hst : (s.buf k).st = .closing)
include hk hst

theorem buf_fillDone_closing : (s.fillDone k).buf k = { s.buf k with filled := true, bins := ((s.fillDone k).buf k).bins } :=
  buf_fillDone hk (buf_held (by rw [hst]; decide))

theorem complete_fillDone : ((s.fillDone k).buf k).complete ↔ (s.buf k).outside = false := by
  rw [buf_fillDone_closing hk hst]
  simp [FrameBuf.complete, hst]

theorem tryReady_fillDone_waits (ho : (s.buf k).outside = true) : (s.fillDone k).tryReady k = s.fillDone k :=
  tryReady_incomplete (by rw [complete_fillDone hk hst]; simp [ho])

theorem tooLate_fillDone : (s.fillDone k).tooLate ((s.fillDone k).buf k).pt = s.tooLate (s.buf k).pt := by
  rw [(frameIn_fillDone hk).frame.tooLate (by decide), buf_fillDone_closing hk hst]

theorem tryReady_fillDone_ready (ho : (s.buf k).outside = false) (hl : s.tooLate (s.buf k).pt = false) :
    (s.fillDone k).tryReady k = (s.fillDone k).makeReady k := by
  rw [tryReady_complete ((complete_fillDone hk hst).mpr ho), tooLate_fillDone hk hst, hl]
  rfl

theorem tryReady_fillDone_late (ho : (s.buf k).outside = false) (hl : s.tooLate (s.buf k).pt = true) :
    (s.fillDone k).tryReady k = (s.fillDone k).giveUp k := by
  rw [tryReady_complete ((complete_fillDone hk hst).mpr ho), tooLate_fillDone hk hst, hl]
  rfl

theorem held_fillDone : k < (s.fillDone k).pix.bufs.length := by
  obtain ⟨m, hm⟩ := pix_fillDone (s := s) hk
  rw [hm, List.length_set]
  exact buf_held (by rw [hst]; decide)
end

theorem frameIn_tryReady_fillDone {s : State} {k : Nat} (hk : k < 4) : s.FrameIn (inBuffer k) ((s.fillDone k).tryReady k)
    ([A.PIX_HELD_PIXELS, A.PIX_CNT_SEG, A.PIX_CNT_FRAME, A.GOV_STAT, A.GOV_FLAGS] ++ dramRegs) ([.pix, .mem, .flt, .gov] ++ dramParts) :=
  ((frameIn_fillDone hk).mono (by decide) (by decide)).trans ((frame_tryReady _ k).inside.mono (by decide) (by decide))

/-- The registers of the fill that making the buffer READY leaves alone. -/
theorem rd_tryReady (s : State) (k : Nat) {f : Fld} (h : f.addr ∉ [A.PIX_CNT_FRAME, A.GOV_STAT, A.GOV_FLAGS] := by decide)
    (h1 : f.addr ≠ A.SAF_STAT := by decide) (h2 : f.addr ≠ A.SYS_START := by decide) : (s.tryReady k).rd f = s.rd f :=
  (frame_tryReady s k).rd h h1 h2

theorem flt_tryReady (s : State) (k : Nat) : (s.tryReady k).flt = s.flt := (frame_tryReady s k).parts .flt (by decide)

theorem outside_tryReady {s : State} {k : Nat} (hl : k < s.pix.bufs.length) (ho : (s.buf k).outside = false) :
    ((s.tryReady k).buf k).outside = false := by
  by_cases h : (s.buf k).complete
  · rw [tryReady_complete h]
    split
    · exact (congrArg FrameBuf.outside (buf_leaveClosing hl .free)).trans ho
    · rw [State.buf, pix_makeReady]
      exact (congrArg FrameBuf.outside (buf_leaveClosing hl .ready)).trans ho
  · rw [tryReady_incomplete h, ho]

section
variable {s : State} {k : Nat} (hk : k < 4)
include hk

theorem painted_writeOutsides : State.Painted (inBuffer k) k s (forQ (State.writeOutside k (s.buf k)) s) := .forQ (painted_writeOutside hk _) s

theorem frameIn_outsideDone : s.FrameIn (inBuffer k) (s.outsideDone k) dramRegs (.mem :: .pix :: dramParts) :=
  (painted_writeOutsides hk).drawn.trans ((frame_setBuf _ _ _).inside.mono (by simp) (by simp))

theorem pix_outsideDone (hl : k < s.pix.bufs.length) : (s.outsideDone k).pix =
    { s.pix with bufs := s.pix.bufs.set k { s.buf k with outside := false, bins := ((s.outsideDone k).buf k).bins } } := by
  obtain ⟨m, hm⟩ := (painted_writeOutsides (s := s) hk).stats
  have pix : (s.outsideDone k).pix = { s.pix with bufs := s.pix.bufs.set k { s.buf k with outside := false, bins := m } } := by
    rw [State.outsideDone, pix_setBuf_painted hm, buf_repaint hm hl]
  have bins : ((s.outsideDone k).buf k).bins = m := by
    rw [State.buf, pix]
    exact congrArg FrameBuf.bins ((nth_set _ _ _ _).trans (if_pos ⟨rfl, hl⟩))
  rw [bins, pix]

theorem buf_outsideDone (hl : k < s.pix.bufs.length) : (s.outsideDone k).buf k =
    { s.buf k with outside := false, bins := ((s.outsideDone k).buf k).bins } := by
  generalize hb : ((s.outsideDone k).buf k).bins = m
  rw [State.buf, pix_outsideDone hk hl, hb]
  exact (nth_set _ _ _ _).trans (if_pos ⟨rfl, hl⟩)
end

theorem buf_settle {s : State} (hu : s.undef = false) (k : Nat) : s.settle.buf k = s.buf k := by
  rw [State.buf, settle_pix hu]
  rfl

/-- A buffer that is filled and has no outside writes to come is the fill source. -/
theorem fillSrc_tryReady_fillDone {s : State} {k : Nat} (hk : k < 4) (hst : (s.buf k).st = .closing) (ho : (s.buf k).outside = false) :
    ((s.fillDone k).tryReady k).pix.fillSrc = some k := by
  rw [tryReady_complete ((complete_fillDone hk hst).mpr ho)]
  split
  · rfl
  · rw [pix_makeReady]
    rfl

/-- Settles O10, by the cases of the fill and of the buffer it leaves. -/
theorem frameFill : Obligations.FrameFill := by
  unfold Obligations.FrameFill
  intro s n k hu
  have hu' : (s.advance n).undef = false := hu
  refine ⟨fun hst hf => ?_, fun h => ⟨_, exec_frameFillDone_other h, (State.Frame.refl _ _ _).settled hu'⟩, fun ho hst => ?_⟩
  · rcases Nat.lt_or_ge s.maxHeld (missingCount (s.buf k.val)) with lost | kept
    · have shown : (s.advance n).Frame ((s.advance n).showMissing (s.buf k.val)) [A.PIX_HELD_PIXELS] [.pix] :=
        (frame_showMissing _ _).mono (by simp) (by simp)
      have frame := shown.trans ((frame_setBuf _ k.val { s.buf k.val with st := .free }).mono (List.nil_subset _) (by simp))
      have du := frame.undef hu'
      refine ⟨_, exec_frameFillDone_lost hst hf lost, ?_, fun a _ => ?_, fun _ => ⟨?_, frame.settled du⟩, fun room => absurd lost (by omega)⟩
      · exact (rd_settle du (by decide) (by decide)).trans (last_showMissing (s.advance n) _)
      · exact (readByte_settle du a).trans (frame.parts .mem (by decide) a)
      · rw [settle_pix du]
        rfl
    · have frame := frameIn_tryReady_fillDone (s := s.advance n) k.isLt
      have du := frame.frame.undef hu'
      refine ⟨_, exec_frameFillDone_filled hst hf kept, ?_, fun a ha => ?_, fun past => absurd past (by omega), fun _ =>
        ⟨frame.frame.settled du, ?_, ?_, fun ho => ?_, fun ho => ?_⟩⟩
      · rw [rd_settle du (by decide) (by decide), rd_tryReady, last_fillDone k.isLt]
        rfl
      · exact (readByte_settle du a).trans (frame.bytes a (not_inBuffer ha))
      · rw [settle_flt du, flt_tryReady, inbox_fillDone k.isLt]
        rfl
      · rw [rd_settle du (by decide) (by decide), rd_tryReady, filled_fillDone k.isLt]
        rfl
      · rw [tryReady_fillDone_waits (s := s.advance n) k.isLt hst ho] at du ⊢
        refine ⟨(settle_gov du).trans ((frameIn_fillDone k.isLt).frame.parts .gov (by decide)), ?_⟩
        rw [buf_settle du, settle_pix du]
        exact pix_fillDone_bins (s := s.advance n) k.isLt (buf_held (s := s) (by rw [hst]; decide))
      · have hl := held_fillDone (s := s.advance n) k.isLt hst
        refine ⟨?_, fun late => ?_, fun late => ?_⟩
        · rw [settle_pix du]
          exact fillSrc_tryReady_fillDone k.isLt hst ho
        · rw [buf_settle du, tryReady_fillDone_ready (s := s.advance n) k.isLt hst ho late, State.buf, pix_makeReady]
          exact congrArg FrameBuf.st (buf_leaveClosing hl .ready)
        · rw [tryReady_fillDone_late (s := s.advance n) k.isLt hst ho late] at du ⊢
          refine ⟨(congrArg FrameBuf.st (buf_settle du k.val)).trans (congrArg FrameBuf.st (buf_leaveClosing hl .free)), ?_, ?_⟩
          · rw [settle_gov du, (frame_giveUp _ _).parts .gov (by decide)]
            exact (frameIn_fillDone k.isLt).frame.parts .gov (by decide)
          · rw [rd_settle du (by decide) (by decide), late_giveUp,
              (frameIn_fillDone k.isLt).frame.rd (f := F.PIX_CNT_FRAME.LATE) (by decide) (by decide) (by decide)]
            rfl
  · have hl : k.val < (s.advance n).pix.bufs.length := buf_held (s := s) (by rcases hst with h | h <;> rw [h] <;> decide)
    have drawn : (s.advance n).FrameIn (inBuffer k.val) ((s.advance n).outsideDone k.val)
        ([A.PIX_CNT_FRAME, A.GOV_STAT, A.GOV_FLAGS] ++ dramRegs) ([.pix, .mem, .gov] ++ dramParts) :=
      (frameIn_outsideDone k.isLt).mono (by decide) (by decide)
    have frame := drawn.trans ((frame_tryReady _ k.val).inside.mono (by decide) (by decide))
    have du := frame.frame.undef hu'
    have buf := buf_outsideDone (s := s.advance n) k.isLt hl
    refine ⟨_, exec_outsideWritesDone ho hst, ?_, fun a ha => ?_, fun filling => ?_, frame.frame.settled du⟩
    · rw [buf_settle du]
      refine outside_tryReady ?_ (congrArg FrameBuf.outside buf)
      rw [pix_outsideDone (s := s.advance n) k.isLt hl, List.length_set]
      exact hl
    · exact (readByte_settle du a).trans (frame.bytes a (not_inBuffer ha))
    · have waits : ((s.advance n).outsideDone k.val).tryReady k.val = (s.advance n).outsideDone k.val := by
        refine tryReady_incomplete fun h => ?_
        rw [buf] at h
        exact absurd (filling.symm.trans h.1) (by decide)
      rw [buf_settle du, settle_pix du, waits]
      exact pix_outsideDone (s := s.advance n) k.isLt hl

end Sys2Proof.Machine

/-! # Capture (settles O4 and O5)

A segment covers the pixels it brings while the write buffer has room: what it writes reads back, a pixel that is covered stays, and
nothing outside the buffer changes (R38, R39, R49, R50). -/

namespace Sys2Proof.Machine

/-! ### Frame-buffer words -/

theorem pixelWord_lt {r g b : Nat} (hr : r < 2 ^ 20) (hg : g < 2 ^ 20) (hb : b < 2 ^ 20) (held clip out : Bool) :
    pixelWord r g b held clip out < 2 ^ 64 := by
  have bit (x : Bool) : boolNat x ≤ 1 := by cases x <;> decide
  have h1 := bit held
  have h2 := bit clip
  have h3 := bit out
  unfold pixelWord
  omega

/-- A matrixed word has 64 bits. -/
theorem matrixWord_mod (g : List (Nat × Word)) (q : Quad) (r gr b : Nat) : matrixWord g q r gr b % 2 ^ 64 = matrixWord g q r gr b := by
  have limited (v : Int) : (clampInt 0 0xFFFFF v).toNat < 2 ^ 20 := by
    unfold clampInt
    omega
  exact Nat.mod_eq_of_lt (pixelWord_lt (limited _) (limited _) (limited _) _ _ _)

/-! ### The coverage map -/

theorem coverKey_inj {q q' : Quad} {dx dy dx' dy' : Nat} (hx : dx < 512) (hx' : dx' < 512) (hy : dy < 512) (hy' : dy' < 512)
    (h : coverKey q dx dy = coverKey q' dx' dy') : q = q' ∧ dx = dx' ∧ dy = dy' := by
  unfold coverKey at h
  have hq : q.val = q'.val := by omega
  exact ⟨Fin.ext hq, by omega, by omega⟩

/-- The pixel of window column `dx` and row `dy` lies outside the canvas. -/
def FrameBuf.isOut (b : FrameBuf) (q : Quad) (dx dy : Nat) : Bool :=
  isOutside b.geom ((originOf b.geom q).1 + dx) ((originOf b.geom q).2 + dy)

theorem isCovered_eq (b : FrameBuf) (q : Quad) (dx dy : Nat) :
    isCovered b q dx dy = (Sparse.get (fun _ => false) b.covered (coverKey q dx dy) || b.isOut q dx dy) := rfl

/-- Buffer `b` with window pixel (dx, dy) of quadrant q covered and statistics `m`. -/
def FrameBuf.cover (b : FrameBuf) (q : Quad) (dx dy : Nat) (m : List (Nat × (Nat × Nat))) : FrameBuf :=
  { b with covered := Sparse.put (fun _ => false) b.covered (coverKey q dx dy) true, bins := m }

theorem isCovered_cover_same (b : FrameBuf) (q : Quad) (dx dy : Nat) (m : List (Nat × (Nat × Nat))) :
    isCovered (b.cover q dx dy m) q dx dy = true := by
  rw [isCovered_eq, FrameBuf.cover, Sparse.get_put_same, Bool.true_or]

theorem isCovered_cover_of (b : FrameBuf) (q q' : Quad) (dx dy dx' dy' : Nat) (m : List (Nat × (Nat × Nat)))
    (h : isCovered b q' dx' dy' = true) : isCovered (b.cover q dx dy m) q' dx' dy' = true := by
  rw [isCovered_eq] at h ⊢
  by_cases key : coverKey q' dx' dy' = coverKey q dx dy
  · rw [FrameBuf.cover, key, Sparse.get_put_same, Bool.true_or]
  · rw [FrameBuf.cover, Sparse.get_put_other _ _ _ key]
    exact h

/-! ### One pixel -/

/-- The word a pixel of a segment takes in buffer k (R44, R49). -/
def State.pixelValue (s : State) (k fmt depth : Nat) (px : List Byte) (q : Quad) (i : Nat) : Nat :=
  matrixWord (s.buf k).geom q
    (linearise (nth s.pix.banks s.activeBank).table depth 0 (pixelCodes fmt px i).1)
    (linearise (nth s.pix.banks s.activeBank).table depth 1 (pixelCodes fmt px i).2.1)
    (linearise (nth s.pix.banks s.activeBank).table depth 2 (pixelCodes fmt px i).2.2)

/-- Word `w` is captured into window pixel (dx, dy) of quadrant q in buffer k. -/
def State.capturePixel (s : State) (k : Nat) (q : Quad) (dx dy w : Nat) : State :=
  let t := s.writeBlock k q (scaleOf (s.buf k).geom q) dx dy w
  t.setBuf k { t.buf k with covered := Sparse.put (fun _ => false) (s.buf k).covered (coverKey q dx dy) true }

section
variable {k fmt depth room : Nat} {px : List Byte} {q : Quad} {dx dy i : Nat} {rest : List (Quad × Nat × Nat × Nat)} {s : State}

theorem capturePixels_covered (h : isCovered (s.buf k) q dx dy = true) : State.capturePixels k fmt depth px ((q, dx, dy, i) :: rest) room s =
    State.capturePixels k fmt depth px rest room s := if_pos h

theorem capturePixels_full (h : isCovered (s.buf k) q dx dy = false)
    (hr : room < scaleOf (s.buf k).geom q * scaleOf (s.buf k).geom q) :
    State.capturePixels k fmt depth px ((q, dx, dy, i) :: rest) room s = (true, s) := (if_neg (by simp [h])).trans (if_pos hr)

theorem capturePixels_written (h : isCovered (s.buf k) q dx dy = false)
    (hr : scaleOf (s.buf k).geom q * scaleOf (s.buf k).geom q ≤ room) :
    State.capturePixels k fmt depth px ((q, dx, dy, i) :: rest) room s =
      State.capturePixels k fmt depth px rest (room - scaleOf (s.buf k).geom q * scaleOf (s.buf k).geom q)
        (s.capturePixel k q dx dy (s.pixelValue k fmt depth px q i)) :=
  (if_neg (by simp [h])).trans (if_neg (Nat.not_lt.mpr hr))
end

section
variable {s : State} {k : Nat} (hk : k < 4) {q : Quad} {dx dy : Nat} (hx : dx < windowSide (s.buf k).geom q)
  (hy : dy < windowSide (s.buf k).geom q)
include hk hx hy

theorem painted_pixelBlock (w : Nat) :
    State.Painted (inBlock k q (scaleOf (s.buf k).geom q) dx dy) k s (s.writeBlock k q (scaleOf (s.buf k).geom q) dx dy w) :=
  painted_writeBlock hk q s w (fun _ hi => device_lt hx hi) (fun _ hj => device_lt hy hj)

theorem frameIn_capturePixel (w : Nat) : s.FrameIn (inBlock k q (scaleOf (s.buf k).geom q) dx dy) (s.capturePixel k q dx dy w)
    dramRegs (.mem :: .pix :: dramParts) :=
  (painted_pixelBlock hk hx hy w).drawn.trans ((frame_setBuf _ _ _).inside.mono (by simp) (by simp))

/-- Every device pixel of a captured pixel reads its word. -/
theorem readLE_capturePixel (w : Nat) {x y : Nat} (hx' : x < scaleOf (s.buf k).geom q) (hy' : y < scaleOf (s.buf k).geom q) :
    (s.capturePixel k q dx dy w).readLE
      (pixelAddr k q (dx * scaleOf (s.buf k).geom q + x) (dy * scaleOf (s.buf k).geom q + y)) 8 = w % 2 ^ 64 :=
  (readLE_pixel_other fun a _ => (frame_setBuf _ _ _).parts .mem (by decide) a).trans
    (readLE_writeBlock hk q s w (fun _ hi => device_lt hx hi) (fun _ hj => device_lt hy hj) y hy' x hx')

theorem pix_capturePixel (w : Nat) (hl : k < s.pix.bufs.length) : ∃ m, (s.capturePixel k q dx dy w).pix =
    { s.pix with bufs := s.pix.bufs.set k ((s.buf k).cover q dx dy m) } := by
  obtain ⟨m, hm⟩ := (painted_pixelBlock hk hx hy w).stats
  exact ⟨m, by rw [State.capturePixel, pix_setBuf_painted hm, buf_repaint hm hl]; rfl⟩
end

/-! ### The pixels of a segment -/

/-- From `s` to `t` pixels are captured into buffer k: what was covered stays covered, and a pixel that was covered, or is not yet,
keeps its words (R39). -/
structure State.Captured (k : Nat) (s t : State) : Prop where
  drawn : s.FrameIn (inBuffer k) t dramRegs (.mem :: .pix :: dramParts)
  pix : ∃ c m, t.pix = s.repaint k c m
  grow : ∀ q dx dy, isCovered (s.buf k) q dx dy = true → isCovered (t.buf k) q dx dy = true
  keep : ∀ (q : Quad) (dx dy x y : Nat), dx < windowSide (s.buf k).geom q → dy < windowSide (s.buf k).geom q →
    x < scaleOf (s.buf k).geom q → y < scaleOf (s.buf k).geom q →
    isCovered (s.buf k) q dx dy = true ∨ isCovered (t.buf k) q dx dy = false →
    t.readLE (pixelAddr k q (dx * scaleOf (s.buf k).geom q + x) (dy * scaleOf (s.buf k).geom q + y)) 8 =
      s.readLE (pixelAddr k q (dx * scaleOf (s.buf k).geom q + x) (dy * scaleOf (s.buf k).geom q + y)) 8

section
variable {k : Nat} {s t u : State}

theorem State.Captured.refl (k : Nat) (s : State) : State.Captured k s s :=
  ⟨.refl _ _ _ _, ⟨_, _, (repaint_self s k).symm⟩, fun _ _ _ h => h, fun _ _ _ _ _ _ _ _ _ _ => rfl⟩

theorem geom_repaint {c : List (Nat × Bool)} {m : List (Nat × (Nat × Nat))} (h : t.pix = s.repaint k c m) : (t.buf k).geom = (s.buf k).geom := by
  by_cases hk : k < s.pix.bufs.length
  · rw [buf_repaint h hk]
  · rw [State.buf, State.buf, pix_repaint_beyond h hk]

theorem length_repaint {c : List (Nat × Bool)} {m : List (Nat × (Nat × Nat))} (h : t.pix = s.repaint k c m) :
    t.pix.bufs.length = s.pix.bufs.length := by
  rw [h, State.repaint, List.length_set]

theorem State.Captured.geom (h : State.Captured k s t) : (t.buf k).geom = (s.buf k).geom := by
  obtain ⟨c, m, hm⟩ := h.pix
  exact geom_repaint hm

theorem State.Captured.length (h : State.Captured k s t) : t.pix.bufs.length = s.pix.bufs.length := by
  obtain ⟨c, m, hm⟩ := h.pix
  exact length_repaint hm

theorem State.Captured.trans (h : State.Captured k s t) (j : State.Captured k t u) : State.Captured k s u := by
  obtain ⟨c, m, hm⟩ := h.pix
  obtain ⟨c', m', hm'⟩ := j.pix
  have keep := j.keep
  rw [h.geom] at keep
  refine ⟨h.drawn.trans j.drawn, ⟨c', m', by rw [hm', repaint_repaint hm]⟩, fun q dx dy cov => j.grow q dx dy (h.grow q dx dy cov),
    fun q dx dy x y hx hy hx' hy' cov => ?_⟩
  rcases cov with before | after
  · exact (keep q dx dy x y hx hy hx' hy' (.inl (h.grow q dx dy before))).trans (h.keep q dx dy x y hx hy hx' hy' (.inl before))
  · have between : isCovered (t.buf k) q dx dy = false := by
      by_contra cov
      rw [j.grow q dx dy (by simpa using cov)] at after
      exact absurd after (by decide)
    exact (keep q dx dy x y hx hy hx' hy' (.inr after)).trans (h.keep q dx dy x y hx hy hx' hy' (.inr between))

/-- The frame buffers after the capture, with the map and the statistics read from it. -/
theorem State.Captured.pix_eq (h : State.Captured k s t) : t.pix =
    { s.pix with bufs := s.pix.bufs.set k { s.buf k with covered := (t.buf k).covered, bins := (t.buf k).bins } } := by
  obtain ⟨c, m, hm⟩ := h.pix
  by_cases hk : k < s.pix.bufs.length
  · rw [buf_repaint hm hk, hm]
    rfl
  · rw [pix_repaint_beyond hm hk, List.set_eq_of_length_le (by omega)]
end

section
variable {s : State} {k : Nat} (hk : k < 4) {q : Quad} {dx dy : Nat} (hl : k < s.pix.bufs.length) (hx : dx < windowSide (s.buf k).geom q)
  (hy : dy < windowSide (s.buf k).geom q)
include hk hl hx hy

theorem buf_capturePixel (w : Nat) : ∃ m, (s.capturePixel k q dx dy w).buf k = (s.buf k).cover q dx dy m := by
  obtain ⟨m, hm⟩ := pix_capturePixel hk hx hy w hl
  refine ⟨m, ?_⟩
  rw [State.buf, hm]
  exact (nth_set _ _ _ _).trans (if_pos ⟨rfl, hl⟩)

theorem isCovered_capturePixel (w : Nat) : isCovered ((s.capturePixel k q dx dy w).buf k) q dx dy = true := by
  obtain ⟨m, hm⟩ := buf_capturePixel hk hl hx hy w
  rw [hm, isCovered_cover_same]

/-- A pixel that is not covered is captured: it is not among those that keep their words. -/
theorem captured_capturePixel (w : Nat) (new : isCovered (s.buf k) q dx dy = false) : State.Captured k s (s.capturePixel k q dx dy w) := by
  have drawn := frameIn_capturePixel hk hx hy w
  obtain ⟨m, hm⟩ := pix_capturePixel hk hx hy w hl
  obtain ⟨m', hb⟩ := buf_capturePixel hk hl hx hy w
  refine ⟨⟨drawn.frame, fun a ha => drawn.bytes a fun h => ha (h.inBuffer hx hy)⟩, ⟨_, m, hm⟩, fun q' dx' dy' cov => ?_,
    fun q' dx' dy' x y hx' hy' hx'' hy'' cov => readLE_pixel_other fun a ha => drawn.bytes a ?_⟩
  · rw [hb]
    exact isCovered_cover_of _ _ _ _ _ _ _ _ cov
  · rintro ⟨x₀, y₀, hx₀, hy₀, ha₀⟩
    have same : q' = q ∧ dx' = dx ∧ dy' = dy := by
      obtain ⟨rfl, ex, ey⟩ := inPixel_unique (device_lt hx' hx'') (device_lt hy' hy'') (device_lt hx hx₀) (device_lt hy hy₀) ha ha₀
      exact ⟨rfl, (device_unique hx'' hx₀ ex).1, (device_unique hy'' hy₀ ey).1⟩
    obtain ⟨rfl, rfl, rfl⟩ := same
    rcases cov with before | after
    · rw [new] at before
      exact absurd before (by decide)
    · rw [isCovered_capturePixel hk hl hx hy w] at after
      exact absurd after (by decide)
end

/-- The pixels lie in the windows of a geometry. -/
def inWindows (g : List (Nat × Word)) (todo : List (Quad × Nat × Nat × Nat)) : Prop :=
  ∀ x ∈ todo, x.2.1 < windowSide g x.1 ∧ x.2.2.1 < windowSide g x.1

section
variable {k fmt depth : Nat} {px : List Byte} {todo : List (Quad × Nat × Nat × Nat)} (hk : k < 4)
include hk

theorem captured_capturePixels {s : State} {room : Nat} (hl : k < s.pix.bufs.length) (hw : inWindows (s.buf k).geom todo) :
    State.Captured k s (State.capturePixels k fmt depth px todo room s).2 := by
  induction todo generalizing s room with
  | nil => exact .refl _ _
  | cons p rest ih =>
    obtain ⟨q, dx, dy, i⟩ := p
    obtain ⟨hx, hy⟩ := hw _ List.mem_cons_self
    have hrest : inWindows (s.buf k).geom rest := fun x h => hw x (List.mem_cons_of_mem _ h)
    cases cov : isCovered (s.buf k) q dx dy with
    | true =>
      rw [capturePixels_covered cov]
      exact ih hl hrest
    | false =>
      rcases Nat.lt_or_ge room (scaleOf (s.buf k).geom q * scaleOf (s.buf k).geom q) with full | fits
      · rw [capturePixels_full cov full]
        exact .refl _ _
      · rw [capturePixels_written cov fits]
        have first := captured_capturePixel hk hl hx hy (s.pixelValue k fmt depth px q i) cov
        exact first.trans (ih (by rw [first.length]; exact hl) (by rw [first.geom]; exact hrest))

/-- With room for all its pixels a segment is captured whole. -/
theorem covers_capturePixels {s : State} {room : Nat} (hl : k < s.pix.bufs.length) (hw : inWindows (s.buf k).geom todo)
    (hr : 64 * todo.length ≤ room) : (State.capturePixels k fmt depth px todo room s).1 = false ∧
      ∀ x ∈ todo, isCovered ((State.capturePixels k fmt depth px todo room s).2.buf k) x.1 x.2.1 x.2.2.1 = true := by
  induction todo generalizing s room with
  | nil => exact ⟨rfl, fun _ h => absurd h List.not_mem_nil⟩
  | cons p rest ih =>
    obtain ⟨q, dx, dy, i⟩ := p
    obtain ⟨hx, hy⟩ := hw _ List.mem_cons_self
    have hrest : inWindows (s.buf k).geom rest := fun x h => hw x (List.mem_cons_of_mem _ h)
    have block : scaleOf (s.buf k).geom q * scaleOf (s.buf k).geom q ≤ 64 := Nat.mul_le_mul (scaleOf_le _ _) (scaleOf_le _ _)
    rw [List.length_cons] at hr
    cases cov : isCovered (s.buf k) q dx dy with
    | true =>
      rw [capturePixels_covered cov]
      obtain ⟨whole, all⟩ := ih (room := room) hl hrest (by omega)
      exact ⟨whole, List.forall_mem_cons.mpr ⟨(captured_capturePixels hk hl hrest).grow _ _ _ cov, all⟩⟩
    | false =>
      rw [capturePixels_written cov (by omega)]
      have first := captured_capturePixel hk hl hx hy (s.pixelValue k fmt depth px q i) cov
      have hl' : k < (s.capturePixel k q dx dy (s.pixelValue k fmt depth px q i)).pix.bufs.length := by
        rw [first.length]
        exact hl
      rw [← first.geom] at hrest
      obtain ⟨whole, all⟩ := ih hl' hrest (room := room - scaleOf (s.buf k).geom q * scaleOf (s.buf k).geom q) (by omega)
      exact ⟨whole, List.forall_mem_cons.mpr
        ⟨(captured_capturePixels hk hl' hrest).grow _ _ _ (isCovered_capturePixel hk hl hx hy _), all⟩⟩
end

/-! ### The segment -/

theorem mem_segmentPixels {g : List (Nat × Word)} {line x0 n : Nat} {q : Quad} {x : Quad × Nat × Nat × Nat}
    (h : x ∈ segmentPixels g line x0 n q) : x.1 = q ∧ x.2.1 < windowSide g q ∧ x.2.2.1 < windowSide g q := by
  unfold segmentPixels at h
  dsimp only at h
  split at h
  next row =>
    obtain ⟨i, -, hi⟩ := List.mem_filterMap.mp h
    split at hi
    next col =>
      obtain rfl := Option.some.inj hi
      exact ⟨rfl, by dsimp only; omega, by dsimp only; omega⟩
    next => exact absurd hi (by simp)
  next => exact absurd h List.not_mem_nil

theorem length_segmentPixels (g : List (Nat × Word)) (line x0 n : Nat) (q : Quad) : (segmentPixels g line x0 n q).length ≤ n := by
  unfold segmentPixels
  dsimp only
  split
  · exact (List.length_filterMap_le _ _).trans (by rw [List.length_range])
  · exact Nat.zero_le _

/-- The pixels that segment `b` brings to the four quadrants. -/
def segmentTodo (g : List (Nat × Word)) (b : List Byte) : List (Quad × Nat × Nat × Nat) :=
  [0, 1, 2, 3].flatMap (fun i => segmentPixels g (fieldLE b 4 2) (fieldLE b 6 2) (fieldLE b 8 2) (quadOf i))

theorem inWindows_segmentTodo (g : List (Nat × Word)) (b : List Byte) : inWindows g (segmentTodo g b) := by
  intro x h
  obtain ⟨i, -, hi⟩ := List.mem_flatMap.mp h
  obtain ⟨e, hx, hy⟩ := mem_segmentPixels hi
  rw [e]
  exact ⟨hx, hy⟩

theorem length_segmentTodo (g : List (Nat × Word)) (b : List Byte) : (segmentTodo g b).length ≤ 4 * fieldLE b 8 2 := by
  have h (i : Nat) := length_segmentPixels g (fieldLE b 4 2) (fieldLE b 6 2) (fieldLE b 8 2) (quadOf i)
  have h0 := h 0
  have h1 := h 1
  have h2 := h 2
  have h3 := h 3
  simp only [segmentTodo, List.flatMap_cons, List.flatMap_nil, List.length_append, List.length_nil]
  omega

theorem mem_segmentTodo {g : List (Nat × Word)} {b : List Byte} {q : Quad} {x : Quad × Nat × Nat × Nat}
    (h : x ∈ segmentPixels g (fieldLE b 4 2) (fieldLE b 6 2) (fieldLE b 8 2) q) : x ∈ segmentTodo g b := by
  refine List.mem_flatMap.mpr ⟨q.val, ?_, ?_⟩
  · have := q.isLt
    simp only [List.mem_cons, List.not_mem_nil, or_false]
    omega
  · rwa [show quadOf q.val = q from Fin.ext (Nat.mod_eq_of_lt q.isLt)]

/-- Segment `b` is captured into buffer k. -/
def State.captureSegment (s : State) (k : Nat) (b : List Byte) (room : Nat) : Bool × State :=
  State.capturePixels k (byteAt b 1) ((depthOf (byteAt b 1)).getD 8) ((b.drop 10).take (payloadBytes (byteAt b 1) (fieldLE b 8 2)))
    (segmentTodo (s.buf k).geom b) room s

/-- What capturing a segment leaves: an overflow of the write buffer is counted and raises 0x7C (R198). -/
def State.segmentDone (s : State) (k : Nat) (b : List Byte) (room : Nat) : State :=
  if (s.captureSegment k b room).1 then ((s.captureSegment k b room).2.bump F.FMC_CNT_CAP.OVF).fault 0x7C 0
  else (s.captureSegment k b room).2

section
variable {s : State} {p : Port} {b : List Byte} {room : Nat} (hc : s.capturing = true) (hp : s.captures p = true)
include hc hp

theorem exec_segmentCapture_bad (h : segmentCheck b = false) :
    exec (.segmentCapture p b room) s = done ((s.bump F.PIX_CNT_SEG.SEG_BAD).bump (F.ZLP_PORT_CNT.BAD p.val)) :=
  (if_neg (by simp [hc, hp])).trans (if_pos (by simp [h]))

theorem exec_segmentCapture_unfit (h : segmentCheck b = true) (hf : s.segmentFits b = false) :
    exec (.segmentCapture p b room) s = done (s.bump F.PIX_CNT_SEG.SEG_BAD) :=
  (if_neg (by simp [hc, hp])).trans ((if_neg (by simp [h])).trans (if_pos (by simp [hf])))

theorem exec_segmentCapture_filling {k : Nat} (h : segmentCheck b = true) (hf : s.segmentFits b = true)
    (hk : s.bufIn .filling = some k) (hn : (s.buf k).no = fieldLE b 2 2) :
    exec (.segmentCapture p b room) s = done (s.segmentDone k b room) := by
  simp only [exec, execSegmentCapture, hc, hp, h, hf, hk, hn, Bool.and_self, Bool.not_true, Bool.false_eq_true, if_false, ne_eq, not_true_eq_false]
  rfl
end

section
variable {s : State} {k : Nat} {b : List Byte} {room : Nat} (hk : k < 4) (hl : k < s.pix.bufs.length)
include hk hl

theorem captured_captureSegment : State.Captured k s (s.captureSegment k b room).2 := captured_capturePixels hk hl (inWindows_segmentTodo _ _)

theorem whole_captureSegment (hr : 4 * 64 * fieldLE b 8 2 ≤ room) : (s.captureSegment k b room).1 = false ∧
    ∀ x ∈ segmentTodo (s.buf k).geom b, isCovered ((s.captureSegment k b room).2.buf k) x.1 x.2.1 x.2.2.1 = true :=
  covers_capturePixels hk hl (inWindows_segmentTodo _ _) (by have := length_segmentTodo (s.buf k).geom b; omega)
end

section
variable (s : State) (k : Nat) (b : List Byte) (room : Nat)

theorem frame_segmentDone : (s.captureSegment k b room).2.Frame (s.segmentDone k b room) [A.FMC_CNT_CAP] [.flt] :=
  .ite (((State.Frame.refl _ [A.FMC_CNT_CAP] [.flt]).thenBump F.FMC_CNT_CAP.OVF (by decide)).thenFault _ _ (by decide)) (.refl _ _ _)

theorem segmentDone_whole {s : State} {k : Nat} {b : List Byte} {room : Nat} (h : (s.captureSegment k b room).1 = false) :
    s.segmentDone k b room = (s.captureSegment k b room).2 := if_neg (by simp [h])
end

theorem bufIn_filling {s : State} {k : Nat} (h : s.bufIn .filling = some k) : k < 4 ∧ k < s.pix.bufs.length := by
  have mem := List.mem_of_find?_eq_some h
  have st : (s.buf k).st = .filling := by simpa using List.find?_some h
  simp only [List.mem_cons, List.not_mem_nil, or_false] at mem
  exact ⟨by omega, buf_held (by rw [st]; decide)⟩

theorem frame_countBad (s : State) (p : Port) :
    s.Frame ((s.bump F.PIX_CNT_SEG.SEG_BAD).bump (F.ZLP_PORT_CNT.BAD p.val)) [A.PIX_CNT_SEG, A.ZLP_PORT_CNT p.val] [] :=
  ((State.Frame.refl s _ _).thenBump F.PIX_CNT_SEG.SEG_BAD List.mem_cons_self).thenBump (F.ZLP_PORT_CNT.BAD p.val)
    (List.mem_cons_of_mem _ List.mem_cons_self)

/-- The counter of bad frames of a port is a register of its own. -/
theorem portCnt_ne {p : Port} : A.ZLP_PORT_CNT p.val ≠ A.PIX_CNT_SEG ∧ A.ZLP_PORT_CNT p.val ≠ A.SAF_STAT ∧ A.ZLP_PORT_CNT p.val ≠ A.SYS_START := by
  revert p
  decide

/-- Settles O4, by the segment's pixels one after another. -/
theorem segmentCapture : Obligations.SegmentCapture := by
  unfold Obligations.SegmentCapture
  refine ⟨fun s k fmt depth px q dx dy i room hx hy new fits => ?_, fun s p b room hu hc hp => ⟨fun bad => ?_, fun ok unfit => ?_,
    fun k ok fit filling no => ?_⟩⟩
  · rw [capturePixels_written new fits]
    exact ⟨rfl, fun x y hx' hy' => (readLE_capturePixel k.isLt hx hy _ hx' hy').trans (matrixWord_mod _ _ _ _ _)⟩
  · have frame := frame_countBad s p
    have du := frame.undef hu
    obtain ⟨ne, nl, nt⟩ := portCnt_ne (p := p)
    refine ⟨_, exec_segmentCapture_bad hc hp bad, ?_, ?_, frame.settled du⟩
    · rw [rd_settle du (by decide) (by decide), rd_bump_other _ (.inl ne.symm)]
      exact rd_bump_same s (f := F.PIX_CNT_SEG.SEG_BAD) (by decide)
    · rw [rd_settle du nl nt, rd_bump_same _ (show 0 + 16 ≤ 32 by decide), rd_bump_other _ (.inl ne)]
      rfl
  · have frame : s.Frame (s.bump F.PIX_CNT_SEG.SEG_BAD) [A.PIX_CNT_SEG] [] := (State.Frame.refl s _ _).thenBump _ (by decide)
    have du := frame.undef hu
    refine ⟨_, exec_segmentCapture_unfit hc hp ok unfit, ?_, frame.settled du⟩
    rw [rd_settle du (by decide) (by decide)]
    exact rd_bump_same s (f := F.PIX_CNT_SEG.SEG_BAD) (by decide)
  · obtain ⟨hk, hl⟩ := bufIn_filling filling
    have captured := captured_captureSegment (b := b) (room := room) hk hl
    have last := frame_segmentDone s k b room
    have frame := (captured.drawn.frame.mono (List.subset_cons_self _ _) (by decide)).trans
      (last.mono (by decide : [A.FMC_CNT_CAP] ⊆ A.FMC_CNT_CAP :: dramRegs) (by decide : [.flt] ⊆ .mem :: .pix :: .flt :: dramParts))
    have du := frame.undef hu
    have pix : (s.segmentDone k b room).settle.pix = (s.captureSegment k b room).2.pix :=
      (settle_pix du).trans (last.parts .pix (by decide))
    have buf : (s.segmentDone k b room).settle.buf k = (s.captureSegment k b room).2.buf k := congrArg (fun x : PixState => nth x.bufs k) pix
    refine ⟨_, exec_segmentCapture_filling hc hp ok fit filling no, frame.settled du, fun a ha => ?_, ?_, fun q dx dy cov => ?_, fun fits => ?_⟩
    · rw [readByte_settle du, last.parts .mem (by decide)]
      exact captured.drawn.bytes a (not_inBuffer ha)
    · rw [pix, buf]
      exact captured.pix_eq
    · rw [buf]
      exact captured.grow q dx dy cov
    · obtain ⟨whole, all⟩ := whole_captureSegment hk hl fits
      rw [buf]
      refine ⟨?_, ?_, fun q x hx => all x (mem_segmentTodo hx)⟩
      · rw [rd_settle du (by decide) (by decide), segmentDone_whole whole]
        exact captured.drawn.frame.rd (by decide) (by decide) (by decide)
      · rw [settle_flt du, segmentDone_whole whole]
        exact captured.drawn.frame.parts .flt (by decide)

end Sys2Proof.Machine

/-! # The coverage map of a frame (settles O5)

Only an accepted frame-start makes a buffer FILLING, and it clears the buffer's map (R39, R51). What comes before it in the command,
the return from the alternate stream and the commits it takes, leaves the buffers alone. -/

namespace Sys2Proof.Machine

/-- From `s` to `t` the frame buffers stay as they are, and no undefined case begins. -/
structure State.SameBufs (s t : State) : Prop where
  bufs : t.pix.bufs = s.pix.bufs
  undef : t.undef = s.undef

section
variable {s t u : State}

theorem State.SameBufs.refl (s : State) : s.SameBufs s := ⟨rfl, rfl⟩

theorem State.SameBufs.trans (h : s.SameBufs t) (j : t.SameBufs u) : s.SameBufs u := ⟨j.bufs.trans h.bufs, j.undef.trans h.undef⟩

theorem State.SameBufs.ite {c : Prop} [Decidable c] (h : s.SameBufs t) (j : s.SameBufs u) : s.SameBufs (if c then t else u) := by
  split <;> assumption

theorem State.SameBufs.foldl {α : Type} {f : State → α → State} (hf : ∀ (u : State) (x : α), u.SameBufs (f u x)) (xs : List α) (s : State) :
    s.SameBufs (xs.foldl f s) := by
  induction xs generalizing s with
  | nil => exact .refl s
  | cons x xs ih => exact (hf s x).trans (ih _)

theorem State.SameBufs.buf (h : s.SameBufs t) (k : Nat) : t.buf k = s.buf k := congrArg (nth · k) h.bufs
end

/-! ### Back from the alternate stream -/

theorem sameBufs_wr (s : State) (f : Fld) (v : Nat) : s.SameBufs (s.wr f v) := ⟨rfl, rfl⟩

theorem sameBufs_setLaneTx (s : State) (p k st : Nat) : s.SameBufs (s.setLaneTx p k st) := by
  unfold State.setLaneTx
  exact .ite ⟨rfl, rfl⟩ (.ite ⟨rfl, rfl⟩ ⟨rfl, rfl⟩)

theorem sameBufs_laneIdle (s : State) (p : Port) (sending : Bool) (k : Lane) : s.SameBufs (State.laneIdle p sending s k) :=
  .ite (sameBufs_setLaneTx s _ _ _) (.refl s)

theorem sameBufs_useTx (s : State) (p : Port) (sending : Bool) : s.SameBufs (s.useTx p sending) :=
  .foldl (fun u k => sameBufs_laneIdle u p sending k) _ s

theorem sameBufs_quietRx (s : State) (p : Port) : s.SameBufs (s.quietRx p) := .foldl (fun u _ => .ite (sameBufs_wr u _ _) (.refl u)) _ s

/-- A transmitter without a source waits for the next frame start. -/
def State.awaitSource (s : State) (p : Port) : State :=
  if (s.sourceOf p).isNone then s.setZport p.val { s.zport p.val with wait := true, splice := false } else s

/-- The mode, the source and the up-output bit of port p are shown. -/
def State.showMode (s : State) (p : Port) (src : Option Port) : State :=
  let m := s.modeOf p
  let s := s.wr (F.ZLP_PORT_STAT.TX_MODE p.val) m
  let s := s.wr (F.ZLP_PORT_STAT.SOURCE p.val) (if m = 1 ∨ m = 2 then (src.map (·.val)).getD 15 else 15)
  s.wrB (F.ZLP_PORT_STAT.UP_OUT p.val) (s.upOutput == some p && s.portActive p && !s.quarantined p)

/-- Port p shows its mode and its transmitter is needed, or released. -/
def State.takeMode (s : State) (p : Port) : State :=
  ((s.awaitSource p).showMode p (s.sourceOf p)).useTx p ((s.awaitSource p).modeOf p == 1 || (s.awaitSource p).modeOf p == 2)

theorem refreshMode_eq (s : State) (p : Port) :
    s.refreshMode p = if s.txForwards p && (s.takeMode p).quiet p then (s.takeMode p).quietRx p else s.takeMode p := rfl

theorem sameBufs_showMode (s : State) (p : Port) (src : Option Port) : s.SameBufs (s.showMode p src) :=
  ((sameBufs_wr s _ _).trans (sameBufs_wr _ _ _)).trans (sameBufs_wr _ _ _)

theorem sameBufs_takeMode (s : State) (p : Port) : s.SameBufs (s.takeMode p) := by
  have waits : s.SameBufs (s.awaitSource p) := .ite ⟨rfl, rfl⟩ (.refl s)
  exact (waits.trans (sameBufs_showMode _ p _)).trans (sameBufs_useTx _ p _)

theorem sameBufs_refreshMode (s : State) (p : Port) : s.SameBufs (s.refreshMode p) := by
  rw [refreshMode_eq]
  exact .ite ((sameBufs_takeMode s p).trans (sameBufs_quietRx _ p)) (sameBufs_takeMode s p)

/-- The validity bits of ZLP_SEL_STAT. -/
def State.showValid (s : State) : State :=
  let s := s.wrB F.ZLP_SEL_STAT.PRI_VALID (s.upStream 1).isSome
  s.wrB F.ZLP_SEL_STAT.ALT_VALID (s.upStream 2).isSome

theorem refreshModes_eq (s : State) : s.refreshModes = ports.foldl State.refreshMode s.showValid := rfl

theorem sameBufs_refreshModes (s : State) : s.SameBufs s.refreshModes := by
  have shown : s.SameBufs s.showValid := (sameBufs_wr s _ _).trans (sameBufs_wr _ _ _)
  rw [refreshModes_eq]
  exact shown.trans (.foldl sameBufs_refreshMode ports _)

/-- The selection goes back to port p (R269). -/
def State.revertTo (s : State) (p : Port) : State :=
  { ((s.selectPort p).bump F.ZLP_CNT_SEL.REVERTS).txHoldover with lnk.txTarget := some p.val }

theorem sameBufs_showTime (s : State) (p : Port) : s.SameBufs (s.showTime p) :=
  (((sameBufs_wr s _ _).trans (sameBufs_wr _ _ _)).trans (sameBufs_wr _ _ _)).trans (sameBufs_wr _ _ _)

theorem sameBufs_setZlp (s : State) (x : ZlpState) : s.SameBufs { s with zlp := x } := ⟨rfl, rfl⟩

theorem sameBufs_selectPort (s : State) (p : Port) : s.SameBufs (s.selectPort p) :=
  (((sameBufs_wr s _ _).trans (sameBufs_wr _ _ _)).trans (sameBufs_setZlp _ _)).trans (sameBufs_showTime _ p)

theorem sameBufs_setLnk (s : State) (x : LnkState) : s.SameBufs { s with lnk := x } := ⟨rfl, rfl⟩

theorem sameBufs_fault (s : State) (src cls : Nat) : s.SameBufs (s.fault src cls) := ⟨rfl, rfl⟩

theorem sameBufs_txHoldover (s : State) : s.SameBufs s.txHoldover :=
  ((((sameBufs_wr s _ _).trans (sameBufs_setLnk _ _)).trans (sameBufs_wr _ _ _)).trans (sameBufs_wr _ _ _)).trans
    ((sameBufs_fault _ _ _).trans (sameBufs_setLnk _ _))

theorem sameBufs_revertTo (s : State) (p : Port) : s.SameBufs (s.revertTo p) :=
  (((sameBufs_selectPort s p).trans (sameBufs_wr _ _ _)).trans (sameBufs_txHoldover _)).trans (sameBufs_setLnk _ _)

theorem sameBufs_tryRevert (s : State) (filling : Bool) : s.SameBufs (s.tryRevert filling) := by
  unfold State.tryRevert
  split
  · exact .ite ((sameBufs_revertTo s _).trans (sameBufs_refreshModes _)) (.refl s)
  · exact .refl s

theorem sameBufs_noteAlt (s : State) (p : Port) (ended : Bool) : s.SameBufs (s.noteAlt p ended) := .ite ⟨rfl, rfl⟩ (.refl s)

/-! ### A frame-start -/

theorem sameBufs_takeCommits (l : List (Nat × List (Nat × Word))) (s : State) : s.SameBufs (State.takeCommits l s).2 := by
  induction l generalizing s with
  | nil => exact ⟨rfl, rfl⟩
  | cons e l ih =>
    obtain ⟨at_, vals⟩ := e
    have applied (u : State) : u.SameBufs (State.takeCommits l (u.applyCapture vals)).2 :=
      State.SameBufs.trans (t := u.applyCapture vals) ⟨rfl, rfl⟩ (ih _)
    unfold State.takeCommits
    split
    · exact applied s
    · dsimp only
      split
      · exact State.SameBufs.trans (t := s.draw.2) ⟨rfl, rfl⟩ (applied _)
      · exact ⟨rfl, rfl⟩

theorem sameBufs_selectBank (s : State) : s.SameBufs s.selectBank := by
  unfold State.selectBank
  exact .ite (.refl s) (.ite ⟨rfl, rfl⟩ ⟨rfl, rfl⟩)

/-- Every buffer that is FILLING after a step and was not before has an empty coverage map. -/
def State.FreshFill (s t : State) : Prop := ∀ k, (s.buf k).st ≠ .filling → (t.buf k).st = .filling → (t.buf k).covered = []

theorem State.SameBufs.freshFill {s t : State} (h : s.SameBufs t) : s.FreshFill t := fun k old new => by
  rw [h.buf k] at new
  exact absurd new old

/-- The buffer that was FILLING is the only one a close changes. -/
theorem closeFilling_filling {s : State} {k : Nat} (h : (s.closeFilling.buf k).st = .filling) : (s.buf k).st = .filling := by
  unfold State.closeFilling at h
  split at h
  · exact h
  · rw [State.buf, State.setBuf, nth_set] at h
    split at h
    · exact absurd h (by simp)
    · exact h

theorem undef_closeFilling (s : State) : s.closeFilling.undef = s.undef := by
  unfold State.closeFilling
  split <;> rfl

/-- The waiting commits that a frame-start takes come into force. -/
def State.commitFrame (s : State) (no : Nat) : State :=
  let c := State.takeCommits s.pix.capDue s
  if c.1 then (c.2.wr F.PIX_COMMIT_FRAME.FRAME_NO no).selectBank else c.2

theorem sameBufs_commitFrame (s : State) (no : Nat) : s.SameBufs (s.commitFrame no) :=
  .ite ((sameBufs_takeCommits _ s).trans (State.SameBufs.trans (t := (State.takeCommits s.pix.capDue s).2.wr F.PIX_COMMIT_FRAME.FRAME_NO no)
    ⟨rfl, rfl⟩ (sameBufs_selectBank _))) (sameBufs_takeCommits _ s)

/-- A buffer at the start of its frame. -/
def newFrame (g : List (Nat × Word)) (no pt : Nat) : FrameBuf :=
  { st := .filling, no := no, pt := pt, geom := g,
    outside := reachesOutside g 0 || reachesOutside g 1 || reachesOutside g 2 || reachesOutside g 3 }

theorem openFrame_eq (s : State) (k no pt : Nat) :
    s.openFrame k no pt = ((s.commitFrame no).setBuf k (newFrame (s.commitFrame no).capRegs no pt)).wr F.PIX_FRAME_NO.FILLING no := by
  unfold State.openFrame State.commitFrame
  rcases State.takeCommits s.pix.capDue s with ⟨_ | _, t⟩ <;> rfl

theorem undef_openFrame (s : State) (k no pt : Nat) : (s.openFrame k no pt).undef = s.undef := by
  rw [openFrame_eq]
  exact (sameBufs_commitFrame s no).undef

theorem freshFill_openFrame (s : State) (k no pt : Nat) : s.FreshFill (s.openFrame k no pt) := by
  intro j old new
  have buf : (s.openFrame k no pt).buf j = if j = k ∧ k < (s.commitFrame no).pix.bufs.length
      then newFrame (s.commitFrame no).capRegs no pt else (s.commitFrame no).buf j := by
    rw [openFrame_eq]
    exact nth_set _ _ _ _
  rw [buf] at new ⊢
  split at new
  · rw [if_pos ‹_›]
    rfl
  · rw [(sameBufs_commitFrame s no).buf] at new
    exact absurd new old

theorem undef_frameStart (s : State) (no pt : Nat) : (s.frameStart no pt).undef = s.undef := by
  unfold State.frameStart
  dsimp only
  split
  · split
    · rfl
    · exact undef_closeFilling _
  · split
    · exact (undef_openFrame _ _ _ _).trans (undef_closeFilling s)
    · exact undef_closeFilling s

/-- What follows a close is fresh with respect to the state before it. -/
theorem State.FreshFill.afterClose {s t : State} (h : s.closeFilling.FreshFill t) : s.FreshFill t := fun k old new =>
  h k (fun st => old (closeFilling_filling st)) new

theorem freshFill_frameStart (s : State) (no pt : Nat) : s.FreshFill (s.frameStart no pt) := by
  have closed (t : State) (h : t.pix = s.pix) : s.FreshFill t.closeFilling := fun k old new => by
    have st := closeFilling_filling new
    rw [State.buf, h] at st
    exact absurd st old
  unfold State.frameStart
  dsimp only
  split
  · split
    · exact (State.SameBufs.refl s).freshFill
    · exact closed _ rfl
  · split
    · exact (freshFill_openFrame _ _ _ _).afterClose
    · exact (State.SameBufs.freshFill ⟨rfl, rfl⟩).afterClose

/-! ### The command -/

/-- The device may go back to the primary stream, and the alternate stream is noted (R269). -/
def State.beforeStart (s : State) (p : Port) : State :=
  (if s.role p = 1 then s.tryRevert (s.bufIn .filling).isSome else s).noteAlt p false

theorem sameBufs_beforeStart (s : State) (p : Port) : s.SameBufs (s.beforeStart p) :=
  State.SameBufs.trans (.ite (sameBufs_tryRevert s _) (.refl s)) (sameBufs_noteAlt _ p false)

/-- What a frame-start leaves. -/
def State.startReceived (s : State) (p : Port) (b : List Byte) : State :=
  if !s.receives p then s
  else if !markerCheck b 20 then (if s.captures p then s.bump (F.ZLP_PORT_CNT.BAD p.val) else s)
  else if (s.beforeStart p).capturing && (s.beforeStart p).captures p then (s.beforeStart p).frameStart (fieldLE b 2 2) (fieldLE b 8 8)
  else s.beforeStart p

theorem exec_frameStartReceive (s : State) (n : Nat) (p : Port) (b : List Byte) :
    exec (.frameStartReceive n p b) s = done ((s.advance n).startReceived p b) := by
  simp only [exec, execFrameStartReceive, State.startReceived, apply_ite done]
  rfl

theorem startReceived_freshFill (s : State) (p : Port) (b : List Byte) :
    s.FreshFill (s.startReceived p b) ∧ (s.startReceived p b).undef = s.undef := by
  have kept {t : State} (h : s.SameBufs t) : s.FreshFill t ∧ t.undef = s.undef := ⟨h.freshFill, h.undef⟩
  have before := sameBufs_beforeStart s p
  unfold State.startReceived
  split
  · exact kept (.refl s)
  · split
    · exact kept (.ite (sameBufs_wr s _ _) (.refl s))
    · split
      · refine ⟨fun k old new => freshFill_frameStart (s.beforeStart p) _ _ k (by rwa [before.buf k]) new, ?_⟩
        rw [undef_frameStart, before.undef]
      · exact kept before

theorem isCovered_fresh {b : FrameBuf} {q : Quad} {dx dy : Nat} (h : b.covered = []) (hi : b.isOut q dx dy = false) :
    isCovered b q dx dy = false := by
  rw [isCovered_eq, h, hi]
  rfl

/-- Settles O5: the map's keys, the frame-start that clears it, and the segment's pixels that keep their words. -/
theorem capturedPixelReadsBack : Obligations.CapturedPixelReadsBack := by
  unfold Obligations.CapturedPixelReadsBack
  refine ⟨fun q q' dx dy dx' dy' hx hx' hy hy' h => coverKey_inj hx hx' hy hy' h, fun s n p b hu => ?_,
    fun s p b room k hu hc hp ok fit filling no => ?_⟩
  · obtain ⟨fresh, undef⟩ := startReceived_freshFill (s.advance n) p b
    have du : ((s.advance n).startReceived p b).undef = false := undef.trans hu
    refine ⟨_, exec_frameStartReceive s n p b, fun k old new q dx dy inside => ?_⟩
    rw [buf_settle du] at new inside ⊢
    exact isCovered_fresh (fresh k old new) inside
  · obtain ⟨hk, hl⟩ := bufIn_filling filling
    have captured := captured_captureSegment (b := b) (room := room) hk hl
    have last := frame_segmentDone s k b room
    have du : (s.segmentDone k b room).undef = false := last.undef (captured.drawn.frame.undef hu)
    have buf : (s.segmentDone k b room).settle.buf k = (s.captureSegment k b room).2.buf k :=
      (buf_settle du k).trans (congrArg (fun x : PixState => nth x.bufs k) (last.parts .pix (by decide)))
    refine ⟨_, exec_segmentCapture_filling hc hp ok fit filling no, fun q dx dy x y hx hy hx' hy' cov => ?_, fun fits q x hx => ?_⟩
    · rw [buf] at cov
      refine (readLE_pixel_other fun a _ => ?_).trans (captured.keep q dx dy x y hx hy hx' hy' cov)
      rw [readByte_settle du, last.parts .mem (by decide)]
    · rw [buf]
      exact (whole_captureSegment hk hl fits).2 x (mem_segmentTodo hx)

end Sys2Proof.Machine

/-! # Commands

What the common part of a command leaves alone, whichever opcode it has: it is counted, its source takes a place in the reply cache,
and its body's verdict becomes a reply or a place (R281 to R286). -/

namespace Sys2Proof.Machine

/-- The registers and parts in which a command that runs is counted. -/
def takenRegs : List Nat := [A.CMD_CNT_RX, A.CMD_CNT_REF]

section
variable (s : State) (r : Request)

theorem frame_touchSource (src : Nat) : s.Frame (s.touchSource src) takenRegs [.cmd, .flt] := by
  unfold State.touchSource
  split
  · exact (State.Frame.refl s _ _).setCmd (by decide)
  · split
    · exact (((State.Frame.refl s takenRegs [.cmd, .flt]).setCmd (by decide)).thenBump F.CMD_CNT_REF.EVICT (by decide)).thenFault _ _ (by decide)
    · exact (State.Frame.refl s _ _).setCmd (by decide)

theorem replies_touchSource (src : Nat) :
    (s.touchSource src).cmd.replies = s.cmd.replies ∧ (s.touchSource src).cmd.places = s.cmd.places := by
  unfold State.touchSource
  split
  · exact ⟨rfl, rfl⟩
  · split <;> exact ⟨rfl, rfl⟩

theorem frame_taken : s.Frame (s.taken r) takenRegs [.cmd, .flt] :=
  ((State.Frame.refl s takenRegs [.cmd, .flt]).thenBump F.CMD_CNT_RX.TAKEN (by decide)).trans (frame_touchSource _ _)

theorem replies_taken : (s.taken r).cmd.replies = s.cmd.replies := (replies_touchSource (s.bump F.CMD_CNT_RX.TAKEN) _).1

theorem places_taken : (s.taken r).cmd.places = s.cmd.places := (replies_touchSource (s.bump F.CMD_CNT_RX.TAKEN) _).2

theorem frame_finishUnder (id op : Nat) (a : Answer) : s.Frame (s.finishUnder id op r a) [] [.cmd] := by
  have sent : s.Frame (s.send r (replyUnder id op r a)) [] [.cmd] := .ite ((State.Frame.refl s _ _).setCmd (by decide)) (.refl _ _ _)
  exact .ite (sent.setCmd (by decide)) sent

theorem replies_finishUnder (id op : Nat) (a : Answer) :
    (s.finishUnder id op r a).cmd.replies = s.cmd.replies ++ (if r.replyReq then [replyUnder id op r a] else []) := by
  have sent : (s.send r (replyUnder id op r a)).cmd.replies = s.cmd.replies ++ (if r.replyReq then [replyUnder id op r a] else []) := by
    unfold State.send
    split
    · rfl
    · rw [List.append_nil]
  unfold State.finishUnder
  dsimp only
  split
  · exact sent
  · exact sent
end

section
variable {s x : State} {r : Request} {op : Nat} {body : State → State × Verdict}

theorem command_answer {a : Answer} (h : s.gate op r = .run) (hb : body (s.taken r) = answer a x) :
    command op r body s = x.finishUnder s.deviceId op r a := by
  unfold command
  rw [h]
  dsimp only
  rw [hb]
  rfl

/-- A command keeps its place, to be answered later. -/
def State.holdPlace (s : State) (op : Nat) (r : Request) (id : Nat) : State := { s with cmd.places := s.cmd.places ++ [⟨op, r, id, false⟩] }

theorem command_hold (h : s.gate op r = .run) (hb : body (s.taken r) = (x, .hold)) :
    command op r body s = x.holdPlace op r s.deviceId := by
  unfold command
  rw [h]
  dsimp only
  rw [hb]
  rfl

theorem frame_holdPlace (s : State) (op : Nat) (r : Request) (id : Nat) : s.Frame (s.holdPlace op r id) [] [.cmd] :=
  (State.Frame.refl s _ _).setCmd (by decide)

/-- An answered command changes what its body did, its counters, its source's cache and the replies. -/
theorem frame_answered {l : List Nat} {ps : List Part} (hx : (s.taken r).Frame x l ps) (a : Answer) (hl : takenRegs ⊆ l := by decide)
    (hp : [.cmd, .flt] ⊆ ps := by decide) : s.Frame (x.finishUnder s.deviceId op r a) l ps :=
  (((frame_taken s r).mono hl hp).trans hx).trans ((frame_finishUnder x r _ _ a).mono (List.nil_subset _)
    fun p hp' => hp (by simp_all))

/-- A command whose body leads to `x` and answers: nothing changes but what the body changes and the command's own counters and
reply. -/
theorem command_answered {a : Answer} {l : List Nat} {ps : List Part} (hu : s.undef = false) (h : s.gate op r = .run)
    (hb : body (s.taken r) = answer a x) (hx : (s.taken r).Frame x l ps) (hr : x.cmd = (s.taken r).cmd)
    (hl : takenRegs ⊆ l := by decide) (hp : [.cmd, .flt] ⊆ ps := by decide) (hn : Part.undef ∉ ps := by decide) :
    s.Answered (command op r body s).settle op r a ∧ s.Frame (command op r body s).settle l ps ∧
      x.Frame (command op r body s).settle [] [.cmd] := by
  have frame : s.Frame (command op r body s) l ps := by
    rw [command_answer h hb]
    exact frame_answered hx a hl hp
  have du := frame.undef hu hn
  refine ⟨?_, frame.settled du, State.Frame.settled ?_ du⟩
  · rw [State.Answered, settle_cmd du, command_answer h hb, replies_finishUnder, hr, replies_taken]
    rfl
  · rw [command_answer h hb]
    exact frame_finishUnder _ _ _ _ _

/-- A command that is answered at once changes its counters and replies only. -/
theorem command_refused {a : Answer} (hu : s.undef = false) (h : s.gate op r = .run) (hb : body (s.taken r) = answer a (s.taken r)) :
    s.Answered (command op r body s).settle op r a ∧ s.Frame (command op r body s).settle takenRegs [.cmd, .flt] := by
  obtain ⟨answered, frame, -⟩ := command_answered (l := takenRegs) (ps := [.cmd, .flt]) hu h hb (.refl _ _ _) rfl
  exact ⟨answered, frame⟩
end

end Sys2Proof.Machine

/-! # COMMIT, OVERLAY_SET and CHECK_REGION (settles O33) -/

namespace Sys2Proof.Machine

/-! ### What a commit takes -/

theorem filter_keys_put {m : List (Nat × Word)} {k : Nat} (x : Word) (p : Nat → Bool) (hk : p k = false) :
    ((Sparse.put resetWord m k x).map (·.1)).filter p = (m.map (·.1)).filter p := by
  have dropped : ((Sparse.drop m k).map (·.1)).filter p = (m.map (·.1)).filter p := by
    induction m with
    | nil => rfl
    | cons e m ih =>
      obtain ⟨j, v⟩ := e
      rw [Sparse.drop]
      split
      next h =>
        subst h
        simp [hk, ih]
      next => simp [List.filter_cons, ih]
  have inserted : ((Sparse.ins m k x).map (·.1)).filter p = (m.map (·.1)).filter p := by
    clear dropped
    induction m with
    | nil => simp [Sparse.ins, hk]
    | cons e m ih =>
      obtain ⟨j, v⟩ := e
      rw [Sparse.ins]
      split
      · simp [hk]
      · split
        next h =>
          subst h
          simp [hk]
        next => simp [List.filter_cons, ih]
  rw [Sparse.put]
  split
  · exact dropped
  · exact inserted

/-- What a commit takes from: the shadowed registers written, in force or waiting. -/
def State.shadowedKeys (s : State) : List Nat := (s.regs.map (·.1)).filter isShadowed

theorem commitAddrs_congr {s t : State} (hk : t.shadowedKeys = s.shadowedKeys) (hf : t.frameRegs = s.frameRegs) (hc : t.capRegs = s.capRegs)
    (hs : t.scn = s.scn) (hp : t.pix = s.pix) : t.commitAddrs = s.commitAddrs := by
  unfold State.shadowedKeys at hk
  simp only [State.commitAddrs, List.filter_append, hk, hf, hc, hs, hp]

theorem shadowedKeys_wr (s : State) (f : Fld) (v : Nat) (h : isShadowed f.addr = false) : (s.wr f v).shadowedKeys = s.shadowedKeys :=
  filter_keys_put _ _ h

theorem shadowedKeys_touchSource (s : State) (src : Nat) : (s.touchSource src).shadowedKeys = s.shadowedKeys := by
  unfold State.touchSource
  split
  · rfl
  · split
    · exact shadowedKeys_wr _ F.CMD_CNT_REF.EVICT _ rfl
    · rfl

theorem shadowedKeys_taken (s : State) (r : Request) : (s.taken r).shadowedKeys = s.shadowedKeys :=
  (shadowedKeys_touchSource _ _).trans (shadowedKeys_wr s F.CMD_CNT_RX.TAKEN _ rfl)

theorem commitAddrs_taken (s : State) (r : Request) : (s.taken r).commitAddrs = s.commitAddrs := by
  have frame := frame_taken s r
  exact commitAddrs_congr (shadowedKeys_taken s r) (frame.parts .frameRegs (by decide)) (frame.parts .capRegs (by decide))
    (frame.parts .scn (by decide)) (frame.parts .pix (by decide))

/-- The counters of commands are not shadowed. -/
theorem mem_commitAddrs {s : State} {a : Nat} (h : a ∈ s.commitAddrs) : isShadowed a = true := by
  rw [State.commitAddrs, List.mem_dedup] at h
  exact (List.mem_filter.mp h).2

theorem lastWritten_congr {s t : State} {l : List Nat} (h : ∀ a ∈ l, t.reg a = s.reg a) : t.lastWritten l = s.lastWritten l :=
  List.map_congr_left fun a ha => by rw [h a ha]

theorem reg_taken_shadowed (s : State) (r : Request) {a : Nat} (h : isShadowed a = true) : (s.taken r).reg a = s.reg a := by
  refine (frame_taken s r).reg (fun ha => ?_) ?_ ?_
  · rcases List.mem_cons.mp ha with rfl | ha
    · exact absurd h (by decide)
    · obtain rfl := List.mem_singleton.mp ha
      exact absurd h (by decide)
  · rintro rfl
    exact absurd h (by decide)
  · rintro rfl
    exact absurd h (by decide)

/-! ### The commit, step by step -/

/-- The capture-side values line up with the next frame, and CAPTURE_EN is taken. -/
def State.commitCapture (s : State) : State :=
  { s with pix.capDue := s.pix.capDue ++ [(s.now, s.lastWritten (s.commitAddrs.filter captureAddrs.contains))] }.takeCaptureEn

/-- The other values are scheduled. -/
def State.commitSchedule (s : State) : State :=
  s.commitCapture.schedule (.commit (s.commitCapture.lastWritten (s.commitAddrs.filter (fun a => !captureAddrs.contains a))))

/-- A commit behind the closed window is marked. -/
def State.commitMark (s : State) : State :=
  if s.windowClosed then (s.commitSchedule.wr F.SCN_STAT.COMMIT_LATE 1).fault 0x5B 0 else s.commitSchedule

/-- Curves that a commit brings wait for the next evaluation. -/
def State.takeCurves (s : State) : State := s.commitCurves s.reg

/-- Knees or amplitudes are not as last committed. -/
def State.ladderDiffers (s : State) : Bool := (kneeAddrs ++ ampAddrs).any (fun a => s.reg a != s.committed a)

theorem commitAll_eq (s : State) : s.commitAll = if s.ladderDiffers
    then s.commitMark.takeCurves.startLadder (ladderSet s.commitMark.takeCurves.reg s.commitMark.takeCurves.panelCurves)
    else s.commitMark.takeCurves := rfl

/-- What a commit may change. -/
def commitRegs : List Nat := [A.SCN_STAT, A.HYB_STAT]
def commitParts : List Part := [.flt, .pix, .capRegs, .scn, .gov, .hyb]

section
variable (s : State)

theorem frame_commitCapture : s.Frame s.commitCapture commitRegs commitParts :=
  ((State.Frame.refl s commitRegs commitParts).setPix (x := { s.pix with
    capDue := s.pix.capDue ++ [(s.now, s.lastWritten (s.commitAddrs.filter captureAddrs.contains))] }) (by decide)).setCapRegs (by decide)

theorem frame_commitSchedule : s.Frame s.commitSchedule commitRegs commitParts := (frame_commitCapture s).setScn (by decide)

theorem frame_commitMark : s.Frame s.commitMark commitRegs commitParts :=
  .ite (((frame_commitSchedule s).thenWr F.SCN_STAT.COMMIT_LATE 1 (by decide)).thenFault _ _ (by decide)) (frame_commitSchedule s)

theorem frame_takeCurves : s.Frame s.takeCurves [] [.flt, .gov] := by
  unfold State.takeCurves State.commitCurves
  dsimp only
  refine .ite (State.Frame.thenFault ?_ _ _ (by decide)) ?_
  · exact (State.Frame.refl s _ _).setGov (by decide)
  · exact (State.Frame.refl s _ _).setGov (by decide)

theorem frame_startLadder (x : LadderSet) : s.Frame (s.startLadder x) [A.HYB_STAT] [.scn, .hyb] :=
  (((State.Frame.refl s [A.HYB_STAT] [.scn, .hyb]).thenWr F.HYB_STAT.LADDER_BUSY 1 (by decide)).setHyb
    (x := { s.hyb with building := some x }) (by decide)).setScn (by decide)

/-- What follows the mark of a commit. -/
theorem frame_commitAll_mark : s.commitMark.Frame s.commitAll [A.HYB_STAT] [.flt, .gov, .scn, .hyb] := by
  have curves := (frame_takeCurves s.commitMark).mono (List.nil_subset [A.HYB_STAT])
    (by decide : _ ⊆ [Part.flt, .gov, .scn, .hyb])
  rw [commitAll_eq]
  exact .ite (curves.trans ((frame_startLadder _ _).mono (by decide) (by decide))) curves

theorem frame_commitAll : s.Frame s.commitAll commitRegs commitParts :=
  (frame_commitMark s).trans ((frame_commitAll_mark s).mono (by decide) (by decide))

theorem pix_commitMark : s.commitMark.pix =
    { s.pix with capDue := s.pix.capDue ++ [(s.now, s.lastWritten (s.commitAddrs.filter captureAddrs.contains))] } := by
  unfold State.commitMark
  split <;> rfl

theorem cap_commitMark : s.commitMark.cap F.PIX_CANVAS.CAPTURE_EN = s.rd F.PIX_CANVAS.CAPTURE_EN := by
  have taken : s.commitCapture.cap F.PIX_CANVAS.CAPTURE_EN = s.rd F.PIX_CANVAS.CAPTURE_EN := by
    rw [State.cap, State.commitCapture, State.takeCaptureEn]
    dsimp only
    rw [show F.PIX_CANVAS.CAPTURE_EN.addr = A.PIX_CANVAS from rfl, Sparse.get_put_same]
    exact (bitsAt_insert_same _ _ (by decide)).trans (Nat.mod_eq_of_lt (bitsAt_lt _ _ _))
  unfold State.commitMark
  split <;> exact taken

theorem scn_commitMark : s.commitMark.scn = { s.scn with due := s.scn.due ++
    [⟨s.windowClosed, .commit (s.lastWritten (s.commitAddrs.filter (fun a => !captureAddrs.contains a)))⟩] } := by
  unfold State.commitMark
  split <;> rfl

/-- A ladder build takes no commit out of those that wait. -/
theorem due_startLadder (x : LadderSet) {d : Due} (h : d ∈ s.scn.due) (hd : d.ev ≠ .ladder) : d ∈ (s.startLadder x).scn.due :=
  List.mem_filter.mpr ⟨h, by simpa using hd⟩

theorem due_commitAll :
    ⟨s.windowClosed, .commit (s.lastWritten (s.commitAddrs.filter (fun a => !captureAddrs.contains a)))⟩ ∈ s.commitAll.scn.due := by
  have marked : ⟨s.windowClosed, .commit (s.lastWritten (s.commitAddrs.filter (fun a => !captureAddrs.contains a)))⟩ ∈
      s.commitMark.takeCurves.scn.due := by
    rw [show s.commitMark.takeCurves.scn = s.commitMark.scn from (frame_takeCurves _).parts .scn (by decide), scn_commitMark]
    exact List.mem_append_right _ (List.mem_singleton_self _)
  rw [commitAll_eq]
  split
  · exact due_startLadder _ _ marked (by simp)
  · exact marked

theorem pix_commitAll : s.commitAll.pix =
    { s.pix with capDue := s.pix.capDue ++ [(s.now, s.lastWritten (s.commitAddrs.filter captureAddrs.contains))] } :=
  ((frame_commitAll_mark s).parts .pix (by decide)).trans (pix_commitMark s)

theorem cap_commitAll : s.commitAll.cap F.PIX_CANVAS.CAPTURE_EN = s.rd F.PIX_CANVAS.CAPTURE_EN := by
  have regs : s.commitAll.capRegs = s.commitMark.capRegs := (frame_commitAll_mark s).parts .capRegs (by decide)
  rw [State.cap, regs]
  exact cap_commitMark s

theorem late_commitAll : s.commitAll.rd F.SCN_STAT.COMMIT_LATE = if s.windowClosed then 1 else s.rd F.SCN_STAT.COMMIT_LATE := by
  rw [(frame_commitAll_mark s).rd (by decide) (by decide) (by decide)]
  unfold State.commitMark
  split
  · exact rd_wr_fits s.commitSchedule (f := F.SCN_STAT.COMMIT_LATE) (by decide) (by decide)
  · rfl

theorem inbox_takeCurves {f : Report} (h : f ∈ s.flt.inbox) : f ∈ s.takeCurves.flt.inbox := by
  unfold State.takeCurves State.commitCurves
  dsimp only
  split
  · exact List.mem_append_left _ h
  · exact h

theorem inbox_commitAll (hw : s.windowClosed = true) : ⟨0x5B, 0, 0, 0, false, s.now⟩ ∈ s.commitAll.flt.inbox := by
  have marked : ⟨0x5B, 0, 0, 0, false, s.now⟩ ∈ s.commitMark.flt.inbox := by
    rw [State.commitMark, if_pos hw]
    exact List.mem_append_right _ (List.mem_singleton_self _)
  rw [commitAll_eq]
  split <;> exact inbox_takeCurves _ marked

theorem replies_commitAll : s.commitAll.cmd = s.cmd := (frame_commitAll s).parts .cmd (by decide)
end

/-! ### COMMIT -/

/-- The body of COMMIT. -/
def commitBody (r : Request) : State → State × Verdict := withLen 0 r fun s => answer (.ok []) s.commitAll

theorem exec_commit (n : Nat) (r : Request) (s : State) : exec (.commit n r) s = done (command 0x05 r (commitBody r) (s.advance n)) := rfl

theorem commitBody_run {r : Request} (s : State) (h : r.payload = []) : commitBody r s = answer (.ok []) s.commitAll :=
  if_neg (by simp [h])

theorem commitBody_long {r : Request} (s : State) (h : r.payload ≠ []) : commitBody r s = answer (.range 10) s :=
  if_pos (by simpa using h)

/-- The registers and parts of a command that commits. -/
def commandCommitRegs : List Nat := takenRegs ++ commitRegs
def commandCommitParts : List Part := [.cmd, .flt, .pix, .capRegs, .scn, .gov, .hyb]

/-! ### OVERLAY_SET -/

/-- The addresses OVERLAY_SET writes, in order (R289). -/
def overlayAddrs (r : Request) : List Nat :=
  (if bitsAt (pByte r 1) 0 1 = 1
    then [A.PIX_OVL_CTRL (pByte r 0), A.PIX_OVL_ADDR (pByte r 0), A.PIX_OVL_POS (pByte r 0), A.PIX_OVL_SIZE (pByte r 0)] else []) ++
  (List.range (pHalf r 2)).flatMap (fun i =>
    [A.PIX_PAL_A (pByte r 0) (pByte r 4 + i), A.PIX_PAL_G (pByte r 0) (pByte r 4 + i), A.PIX_PAL_B (pByte r 0) (pByte r 4 + i)])

theorem overlayRange_none {r : Request} (h : overlayRange r = none) : pByte r 0 ≤ 7 ∧ pByte r 4 + pHalf r 2 ≤ 256 := by
  unfold overlayRange at h
  dsimp only at h
  split at h
  · simp at h
  · split at h
    · simp at h
    · split at h
      · simp at h
      · split at h
        · simp at h
        · split at h
          · simp at h
          · omega

theorem mem_overlayAddrs {r : Request} (h : overlayRange r = none) {a : Nat} (ha : a ∈ overlayAddrs r) : 0x040200 ≤ a ∧ a < 0x049000 := by
  obtain ⟨hn, hp⟩ := overlayRange_none h
  rcases List.mem_append.mp ha with plane | pal
  · split at plane
    · simp only [List.mem_cons, List.not_mem_nil, or_false, A.PIX_OVL_CTRL, A.PIX_OVL_ADDR, A.PIX_OVL_POS, A.PIX_OVL_SIZE] at plane
      omega
    · exact absurd plane List.not_mem_nil
  · obtain ⟨i, hi, ha⟩ := List.mem_flatMap.mp pal
    have hi := List.mem_range.mp hi
    simp only [List.mem_cons, List.not_mem_nil, or_false, A.PIX_PAL_A, A.PIX_PAL_G, A.PIX_PAL_B] at ha
    omega

theorem nodup_overlayAddrs {r : Request} (h : overlayRange r = none) : (overlayAddrs r).Nodup := by
  obtain ⟨hn, hp⟩ := overlayRange_none h
  refine List.Nodup.append ?_ (List.nodup_flatMap.mpr ⟨fun i _ => ?_, ?_⟩) fun a plane pal => ?_
  · split
    · simp [A.PIX_OVL_CTRL, A.PIX_OVL_ADDR, A.PIX_OVL_POS, A.PIX_OVL_SIZE]
    · exact List.nodup_nil
  · simp [A.PIX_PAL_A, A.PIX_PAL_G, A.PIX_PAL_B]
  · refine List.nodup_range.imp fun {i j} ne a hi hj => ne ?_
    simp only [List.mem_cons, List.not_mem_nil, or_false, A.PIX_PAL_A, A.PIX_PAL_G, A.PIX_PAL_B] at hi hj
    omega
  · obtain ⟨i, -, ha⟩ := List.mem_flatMap.mp pal
    simp only [List.mem_cons, List.not_mem_nil, or_false, A.PIX_PAL_A, A.PIX_PAL_G, A.PIX_PAL_B] at ha
    split at plane
    · simp only [List.mem_cons, List.not_mem_nil, or_false, A.PIX_OVL_CTRL, A.PIX_OVL_ADDR, A.PIX_OVL_POS, A.PIX_OVL_SIZE] at plane
      omega
    · exact absurd plane List.not_mem_nil

/-- The keys of a zip over different addresses are different. -/
theorem pairwise_zip {as vs : List Nat} (h : as.Nodup) : (as.zip vs).Pairwise (fun d e => d.1 ≠ e.1) := by
  induction as generalizing vs with
  | nil => simp
  | cons a as ih =>
    obtain ⟨ha, has⟩ := List.nodup_cons.mp h
    cases vs with
    | nil => simp
    | cons v vs =>
      refine List.pairwise_cons.mpr ⟨fun e he eq => ha ?_, ih has⟩
      rw [show a = e.1 from eq]
      exact (List.of_mem_zip (a := e.1) (b := e.2) he).1

/-- Several registers are written. -/
def State.storeAll (s : State) (ws : List (Nat × Nat)) : State := ws.foldl (fun s e => s.store e.1 e.2) s

theorem frame_storeAll (s : State) {ws : List (Nat × Nat)} {l : List Nat} (h : ∀ e ∈ ws, e.1 ∈ l) : s.Frame (s.storeAll ws) l [] :=
  .foldl (fun u e he => (State.Frame.refl u l []).thenSetReg _ _ (h e he)) s

theorem reg_storeAll_other (s : State) {ws : List (Nat × Nat)} {a : Nat} (h : ∀ e ∈ ws, a ≠ e.1) : (s.storeAll ws).reg a = s.reg a := by
  induction ws generalizing s with
  | nil => rfl
  | cons e ws ih =>
    exact (ih _ fun d hd => h d (List.mem_cons_of_mem _ hd)).trans (reg_setReg_other s _ (h e List.mem_cons_self))

theorem reg_storeAll (s : State) {ws : List (Nat × Nat)} (h : ws.Pairwise (fun d e => d.1 ≠ e.1)) :
    ∀ e ∈ ws, (s.storeAll ws).reg e.1 = BitVec.ofNat 32 (storeFields (s.reg e.1).toNat e.2 (fieldsAt e.1)) := by
  induction ws generalizing s with
  | nil => exact fun e he => absurd he List.not_mem_nil
  | cons d ws ih =>
    obtain ⟨hd, hws⟩ := List.pairwise_cons.mp h
    intro e he
    rcases List.mem_cons.mp he with rfl | he
    · exact (reg_storeAll_other _ hd).trans (reg_setReg_same _ _ _)
    · have kept : (s.store d.1 d.2).reg e.1 = s.reg e.1 := reg_setReg_other s _ (hd e he).symm
      exact (ih _ hws e he).trans (by rw [kept])

/-- What OVERLAY_SET leaves: its registers are written, and with the commit bit everything is committed. -/
def State.overlayDone (s : State) (r : Request) : State :=
  if bitsAt (pByte r 1) 1 1 = 1 then (s.storeAll (overlayWrites r)).commitAll else s.storeAll (overlayWrites r)

section
variable {s : State} {r : Request}

theorem overlaySetBody_range {d : Nat} (h : overlayRange r = some d) : overlaySetBody r s = answer (.range d) s := by
  rw [overlaySetBody, h]
  rfl

theorem unclocked_overlay : s.unclocked [A.PIX_OVL_CTRL 0] = if s.pixClk then none else some 4 := by
  have clocked : s.clocked (A.PIX_OVL_CTRL 0) = s.pixClk := rfl
  rw [State.unclocked, List.find?_cons, clocked]
  cases s.pixClk <;> rfl

theorem overlaySetBody_off (h : overlayRange r = none) (hc : s.pixClk = false) : overlaySetBody r s = answer (.notReady 4) s := by
  rw [overlaySetBody, h, State.accessTest, if_neg (by decide)]
  dsimp only
  rw [unclocked_overlay, hc]
  rfl

theorem overlaySetBody_run (h : overlayRange r = none) (hc : s.pixClk = true) : overlaySetBody r s = answer (.ok []) (s.overlayDone r) := by
  rw [overlaySetBody, h, State.accessTest, if_neg (by decide)]
  dsimp only
  rw [unclocked_overlay, hc]
  rfl

theorem key_overlayWrites {e : Nat × Nat} (h : overlayRange r = none) (he : e ∈ overlayWrites r) : 0x040200 ≤ e.1 ∧ e.1 < 0x049000 :=
  mem_overlayAddrs h (List.of_mem_zip (a := e.1) (b := e.2) he).1

theorem reg_storeOverlay (h : overlayRange r = none) : ∀ e ∈ overlayWrites r,
    (s.storeAll (overlayWrites r)).reg e.1 = BitVec.ofNat 32 (storeFields (s.reg e.1).toNat e.2 (fieldsAt e.1)) :=
  reg_storeAll s (pairwise_zip (nodup_overlayAddrs h))

theorem frame_storeOverlay (s : State) (r : Request) : s.Frame (s.storeAll (overlayWrites r)) (takenRegs ++ (overlayWrites r).map (·.1)) [.cmd, .flt] :=
  (frame_storeAll s fun _ he => List.mem_append_right _ (List.mem_map_of_mem he)).mono (fun _ h => h) (by decide)

theorem pixClk_taken (s : State) (r : Request) : (s.taken r).pixClk = s.pixClk :=
  on_of_rd ((frame_taken s r).rd (f := F.SYS_ISLAND_STAT.PIX_CLK) (by decide) (by decide) (by decide))

/-- An address of the overlay block is none that a commit or the common part of a command writes, and no wire drives it. -/
theorem overlay_apart {a : Nat} (h : 0x040200 ≤ a ∧ a < 0x049000) : a ∉ commandCommitRegs ∧ a ≠ A.SAF_STAT ∧ a ≠ A.SYS_START := by
  refine ⟨fun ha => ?_, ?_, ?_⟩
  · simp only [commandCommitRegs, takenRegs, commitRegs, List.cons_append, List.nil_append, List.mem_cons, List.not_mem_nil, or_false,
      A.CMD_CNT_RX, A.CMD_CNT_REF, A.SCN_STAT, A.HYB_STAT] at ha
    omega
  · unfold A.SAF_STAT
    omega
  · unfold A.SYS_START
    omega
end

/-! ### CHECK_REGION -/

/-- The scan of CHECK_REGION starts. -/
def State.scanStart (s : State) (r : Request) : State :=
  { (((s.wr F.CHK_SCAN_STAT.BUSY 1).wr F.CHK_SCAN_STAT.OWNER 3).wr F.CHK_SCAN_ADDR.ADDR r.arg.toNat).wr F.CHK_SCAN_VALUE.VALUE 0xFFFFFFFF with
    chk.scan := some ⟨r.src.toNat, r.tag.toNat, r.arg.toNat + pWord r 0, r.arg.toNat, 0xFFFFFFFF⟩ }

/-- The range a CHECK_REGION names is one that may be scanned. -/
def scannable (r : Request) : Prop :=
  r.arg.toNat % 4 = 0 ∧ 4 ≤ pWord r 0 ∧ pWord r 0 ≤ 0x10000000 ∧ pWord r 0 % 4 = 0 ∧ readableSpan r.arg.toNat (pWord r 0) = true

section
variable {s : State} {r : Request} (hl : r.payload.length = 4)
include hl

theorem checkBody_misaligned (h : r.arg.toNat % 4 ≠ 0) : checkBody r s = answer (.range 12) s := (if_neg (by simp [hl])).trans (if_pos h)

variable (h : scannable r)
include h

theorem checkBody_scannable : checkBody r s =
    if !s.memClk then answer (.notReady 0xFFFF) s else if s.chk.scan.isSome then answer (.busy 0) s else (s.scanStart r, .hold) := by
  obtain ⟨aligned, low, high, whole, readable⟩ := h
  refine (if_neg (by simp [hl])).trans ((if_neg (by simp [aligned])).trans ((if_neg (by omega)).trans (if_neg (by simp [readable]))))

theorem checkBody_off (hm : s.memClk = false) : checkBody r s = answer (.notReady 0xFFFF) s :=
  (checkBody_scannable hl h).trans (if_pos (by simp [hm]))

theorem checkBody_busy (hm : s.memClk = true) (hs : s.chk.scan.isSome = true) : checkBody r s = answer (.busy 0) s :=
  (checkBody_scannable hl h).trans ((if_neg (by simp [hm])).trans (if_pos hs))

theorem checkBody_start (hm : s.memClk = true) (hs : s.chk.scan = none) : checkBody r s = (s.scanStart r, .hold) :=
  (checkBody_scannable hl h).trans ((if_neg (by simp [hm])).trans (if_neg (by simp [hs])))
end

def scanRegs : List Nat := [A.CHK_SCAN_STAT, A.CHK_SCAN_ADDR, A.CHK_SCAN_VALUE]

theorem frame_scanStart (s : State) (r : Request) : s.Frame (s.scanStart r) scanRegs [.chk] :=
  (((((State.Frame.refl s scanRegs [.chk]).thenWr F.CHK_SCAN_STAT.BUSY 1 (by decide)).thenWr F.CHK_SCAN_STAT.OWNER 3 (by decide)).thenWr
    F.CHK_SCAN_ADDR.ADDR r.arg.toNat (by decide)).thenWr F.CHK_SCAN_VALUE.VALUE 0xFFFFFFFF (by decide)).setChk (by decide)

theorem shown_scanStart (s : State) (r : Request) : (s.scanStart r).rd F.CHK_SCAN_STAT.BUSY = 1 ∧
    (s.scanStart r).rd F.CHK_SCAN_STAT.OWNER = 3 ∧ (s.scanStart r).rd F.CHK_SCAN_ADDR.ADDR = r.arg.toNat := by
  refine ⟨?_, ?_, ?_⟩
  · refine (rd_wr_other (f := F.CHK_SCAN_VALUE.VALUE) (g := F.CHK_SCAN_STAT.BUSY) _ _ (by decide)).trans
      ((rd_wr_other (f := F.CHK_SCAN_ADDR.ADDR) (g := F.CHK_SCAN_STAT.BUSY) _ _ (by decide)).trans
        ((rd_wr_other (f := F.CHK_SCAN_STAT.OWNER) (g := F.CHK_SCAN_STAT.BUSY) _ _ (by decide)).trans
          (rd_wr_fits s (f := F.CHK_SCAN_STAT.BUSY) (by decide) (by decide))))
  · refine (rd_wr_other (f := F.CHK_SCAN_VALUE.VALUE) (g := F.CHK_SCAN_STAT.OWNER) _ _ (by decide)).trans
      ((rd_wr_other (f := F.CHK_SCAN_ADDR.ADDR) (g := F.CHK_SCAN_STAT.OWNER) _ _ (by decide)).trans
        (rd_wr_fits _ (f := F.CHK_SCAN_STAT.OWNER) (by decide) (by decide)))
  · exact (rd_wr_other (f := F.CHK_SCAN_VALUE.VALUE) (g := F.CHK_SCAN_ADDR.ADDR) _ _ (by decide)).trans
      (rd_wr_fits _ (f := F.CHK_SCAN_ADDR.ADDR) (by decide) r.arg.isLt)

theorem memClk_taken (s : State) (r : Request) : (s.taken r).memClk = s.memClk :=
  on_of_rd ((frame_taken s r).rd (f := F.SYS_ISLAND_STAT.MEM_CLK) (by decide) (by decide) (by decide))

theorem chk_taken (s : State) (r : Request) : (s.taken r).chk = s.chk := (frame_taken s r).parts .chk (by decide)

/-! ### The CRC of a scan -/

theorem xor_lt_word {a b : Nat} (ha : a < 2 ^ 32) (hb : b < 2 ^ 32) : Nat.xor a b < 2 ^ 32 := Nat.xor_lt_two_pow ha hb

theorem crcBits_lt (n : Nat) {v : Nat} (h : v < 2 ^ 32) : crcBits crc32cSet n v < 2 ^ 32 := by
  induction n generalizing v with
  | zero => exact h
  | succ n ih =>
    refine ih ?_
    change crcBitRefl 0x82F63B78 v < 2 ^ 32
    unfold crcBitRefl
    split
    · exact xor_lt_word (by omega) (by decide)
    · omega

/-- A running CRC-32C has 32 bits. -/
theorem crcRun_lt {v : Nat} (bs : List Byte) (h : v < 2 ^ 32) : crcRun crc32cSet v bs < 2 ^ 32 := by
  induction bs generalizing v with
  | nil => exact h
  | cons b bs ih => exact ih (crcBits_lt 8 (xor_lt_word h (by have := b.isLt; omega)))

/-! ### The scan ends -/

/-- Where a scan asked to come up to `a` stands. -/
def scanEnd (x : Scan) (a : Nat) : Nat := max x.next (min a x.stop)

/-- The bytes a scan reads up to `a`, and the state they leave. -/
def State.scanRead (s : State) (x : Scan) (a : Nat) : List Byte × State :=
  (s.touchSpan x.next (a - x.next)).readOut x.next (a - x.next)

/-- The scan shows that it stands at `a` with the running value `v`. -/
def State.scanShow (s : State) (x : Scan) (a v : Nat) : State :=
  { (s.wr F.CHK_SCAN_ADDR.ADDR a).wr F.CHK_SCAN_VALUE.VALUE v with chk.scan := some { x with next := a, value := v } }

theorem scanTo_eq (s : State) (x : Scan) (a : Nat) : s.scanTo x a =
    (s.scanRead x (scanEnd x a)).2.scanShow x (scanEnd x a) (crcRun crc32cSet x.value (s.scanRead x (scanEnd x a)).1) := rfl

section
variable (s : State) (x : Scan) (a : Nat)

theorem frame_readOut (n : Nat) : s.Frame (s.readOut a n).2 [] [.freeNo] := by
  unfold State.readOut
  split
  · exact (State.Frame.refl s _ _).setFreeNo (by decide)
  · exact .refl _ _ _

theorem frame_scanRead : s.Frame (s.scanRead x a).2 dramRegs dramParts :=
  (frame_touchSpan s _ _).trans ((frame_readOut _ _ _).mono (List.nil_subset _) (by decide))

theorem bytes_scanRead (h : 0x10000000 ≤ x.next) : (s.scanRead x a).1 = s.readBytes x.next (a - x.next) := by
  have touched := frame_touchSpan s x.next (a - x.next)
  unfold State.scanRead
  generalize s.touchSpan x.next (a - x.next) = u at touched
  rw [State.readOut, if_neg (by omega)]
  exact readBytes_congr fun i _ => touched.parts .mem (by decide) _

theorem frame_scanShow (v : Nat) : s.Frame (s.scanShow x a v) [A.CHK_SCAN_ADDR, A.CHK_SCAN_VALUE] [.chk] :=
  (((State.Frame.refl s [A.CHK_SCAN_ADDR, A.CHK_SCAN_VALUE] [.chk]).thenWr F.CHK_SCAN_ADDR.ADDR a (by decide)).thenWr
    F.CHK_SCAN_VALUE.VALUE v (by decide)).setChk (by decide)

theorem frame_scanTo : s.Frame (s.scanTo x a) ([A.CHK_SCAN_ADDR, A.CHK_SCAN_VALUE] ++ dramRegs) (.chk :: dramParts) := by
  rw [scanTo_eq]
  exact ((frame_scanRead s x _).mono (by decide) (by decide)).trans ((frame_scanShow _ x _ _).mono (by decide) (by decide))

theorem chk_scanTo : { (s.scanTo x a).chk with scan := none } = { s.chk with scan := none } := by
  have chk : (s.scanRead x (scanEnd x a)).2.chk = s.chk := (frame_scanRead s x _).parts .chk (by decide)
  rw [scanTo_eq, ← chk]
  rfl

theorem value_scanTo (hv : x.value < 2 ^ 32) (hx : 0x10000000 ≤ x.next) (hs : x.next ≤ x.stop) :
    (s.scanTo x x.stop).rd F.CHK_SCAN_VALUE.VALUE = crcRun crc32cSet x.value (s.readBytes x.next (x.stop - x.next)) := by
  have stop : scanEnd x x.stop = x.stop := by
    unfold scanEnd
    omega
  rw [scanTo_eq, stop, bytes_scanRead s x _ hx]
  exact rd_wr_fits _ (f := F.CHK_SCAN_VALUE.VALUE) (by decide) (crcRun_lt _ hv)
end

/-- The registers and parts in which bursts that come back are counted (R206). -/
def burstRegs : List Nat := [A.FMC_CNT_ERR, A.FMC_ERR_ADDR]
def burstParts : List Part := [.fmc, .flt]

theorem frame_readCame (s : State) (a : Nat) (res : ReadResult) : s.Frame (s.readCame a res) burstRegs burstParts := by
  unfold State.readCame
  split
  · exact .refl _ _ _
  · exact ((State.Frame.refl s burstRegs burstParts).thenBump F.FMC_CNT_ERR.CORR (by decide)).setFmc (by decide)
  · exact (((State.Frame.refl s burstRegs burstParts).thenBump F.FMC_CNT_ERR.UNCORR (by decide)).thenWr F.FMC_ERR_ADDR.ADDR _ (by decide)).thenReport
      _ _ _ _ (by decide)

theorem frame_burstsCame (s : State) (a : Nat) (l : BurstReads) : s.Frame (s.burstsCame a l) burstRegs burstParts :=
  .foldl (fun u _ _ => frame_readCame u _ _) s

theorem frame_scanFree (s : State) : s.Frame s.scanFree [A.CHK_SCAN_STAT] [.chk] :=
  (((State.Frame.refl s [A.CHK_SCAN_STAT] [.chk]).thenWr F.CHK_SCAN_STAT.BUSY 0 (by decide)).thenWr F.CHK_SCAN_STAT.OWNER 0 (by decide)).setChk
    (by decide)

theorem shown_scanFree (s : State) : s.scanFree.rd F.CHK_SCAN_STAT.BUSY = 0 ∧ s.scanFree.rd F.CHK_SCAN_STAT.OWNER = 0 :=
  ⟨(rd_wr_other (f := F.CHK_SCAN_STAT.OWNER) (g := F.CHK_SCAN_STAT.BUSY) _ _ (by decide)).trans
    (rd_wr_fits s (f := F.CHK_SCAN_STAT.BUSY) (by decide) (by decide)), rd_wr_fits _ (f := F.CHK_SCAN_STAT.OWNER) (by decide) (by decide)⟩

/-- The scan has come up to `a`, its bursts `l` are back, and the engine is free. -/
def State.scanOver (s : State) (x : Scan) (a : Nat) (l : BurstReads) : State := ((s.scanTo x a).burstsCame x.next l).scanFree

def scanOverRegs : List Nat :=
  [A.CHK_SCAN_STAT, A.CHK_SCAN_ADDR, A.CHK_SCAN_VALUE, A.CHK_SCAN_LAST, A.FMC_CNT_ERR, A.FMC_ERR_ADDR] ++ dramRegs
def scanOverParts : List Part := [.chk, .cmd, .flt] ++ dramParts

section
variable (s : State) (x : Scan) (a : Nat) (l : BurstReads)

theorem frame_scanOver : s.Frame (s.scanOver x a l) scanOverRegs scanOverParts :=
  (((frame_scanTo s x a).mono (by decide) (by decide)).trans ((frame_burstsCame _ _ _).mono (by decide) (by decide))).trans
    ((frame_scanFree _).mono (by decide) (by decide))

theorem chk_scanOver : (s.scanOver x a l).chk = { s.chk with scan := none } := by
  have chk : ((s.scanTo x a).burstsCame x.next l).chk = (s.scanTo x a).chk := (frame_burstsCame _ _ _).parts .chk (by decide)
  rw [← chk_scanTo s x a, ← chk]
  rfl

theorem cmd_scanOver : (s.scanOver x a l).cmd = s.cmd :=
  ((frame_scanFree _).parts .cmd (by decide)).trans (((frame_burstsCame _ _ _).parts .cmd (by decide)).trans
    ((frame_scanTo s x a).parts .cmd (by decide)))

theorem last_scanOver : (s.scanOver x a l).rd F.CHK_SCAN_LAST.CRC = s.rd F.CHK_SCAN_LAST.CRC :=
  ((frame_scanFree _).rd (by decide) (by decide) (by decide)).trans (((frame_burstsCame _ _ _).rd (by decide) (by decide) (by decide)).trans
    ((frame_scanTo s x a).rd (by decide) (by decide) (by decide)))
end

theorem frame_complete (s : State) (src tag : Nat) (a : Answer) : s.Frame (s.complete src tag a) [] [.cmd] := by
  unfold State.complete
  split
  · exact .refl _ _ _
  · exact ((State.Frame.refl s [] [.cmd]).setCmd (x := { s.cmd with places := answered src tag s.cmd.places }) (by decide)).trans
      (frame_finishUnder _ _ _ _ _)

theorem replies_complete {s : State} {pl : Place} {rest : List Place} {src tag : Nat} (a : Answer) (hp : s.cmd.places = pl :: rest)
    (hw : pl.waits src tag = true) : (s.complete src tag a).cmd.replies =
      s.cmd.replies ++ (if pl.req.replyReq then [replyUnder pl.id pl.op pl.req a] else []) := by
  have first : s.cmd.places.find? (Place.waits src tag) = some pl := by
    rw [hp, List.find?_cons, hw]
  unfold State.complete
  rw [first]
  exact replies_finishUnder { s with cmd.places := answered src tag s.cmd.places } _ _ _ _

/-- The CRC a scan that has run through leaves (R396). -/
def State.scanCrc (s : State) (x : Scan) (l : BurstReads) : Nat :=
  Nat.xor (((s.scanTo x x.stop).burstsCame x.next l).rd F.CHK_SCAN_VALUE.VALUE) 0xFFFFFFFF

theorem scanCrc_eq (s : State) {x : Scan} (l : BurstReads) (hv : x.value = 0xFFFFFFFF) (hx : 0x10000000 ≤ x.next) (hs : x.next ≤ x.stop) :
    s.scanCrc x l = crc32c (s.readBytes x.next (x.stop - x.next)) := by
  rw [State.scanCrc, (frame_burstsCame _ _ _).rd (by decide) (by decide) (by decide), value_scanTo s x (by rw [hv]; decide) hx hs, hv]
  rfl

theorem scanCrc_lt (s : State) (x : Scan) (l : BurstReads) : s.scanCrc x l < 2 ^ 32 := xor_lt_word (bitsAt_lt _ _ _) (by decide)

/-- What a scan leaves whose burst `e` has failed, or that has run through. -/
def State.regionFailed (s : State) (x : Scan) (l : BurstReads) (e : Nat × ReadResult) : State :=
  (s.scanOver x ((x.next / 64 + e.1) * 64) l).complete x.src x.tag (.checkFail 2)

def State.regionAnswered (s : State) (x : Scan) (l : BurstReads) : State :=
  ((s.scanOver x x.stop l).wr F.CHK_SCAN_LAST.CRC (s.scanCrc x l)).complete x.src x.tag (.ok (leBytes 4 (s.scanCrc x l)))

section
variable {s : State} {x : Scan} {res l : BurstReads} (hs : s.chk.scan = some x) (hl : l = upToFailed (burstsOf x.next (x.stop - x.next) res))
include hs hl

theorem exec_checkRegionDone_failed {e : Nat × ReadResult} (h : l.find? (fun e => e.2 == .failed) = some e) :
    exec (.checkRegionDone res) s = done (s.regionFailed x l e) := by
  subst hl
  simp only [exec, execCheckRegionDone, hs, h]
  rfl

theorem exec_checkRegionDone_passed (h : l.find? (fun e => e.2 == .failed) = none) :
    exec (.checkRegionDone res) s = done (s.regionAnswered x l) := by
  subst hl
  simp only [exec, execCheckRegionDone, hs, h]
  rfl
end

/-! ### The end of a region check -/

section
variable {s : State} {x : Scan} {pl : Place} {rest : List Place} (hp : s.cmd.places = pl :: rest) (hw : pl.waits x.src x.tag = true)
  (l : BurstReads)

theorem frame_regionFailed (e : Nat × ReadResult) : s.Frame (s.regionFailed x l e) scanOverRegs scanOverParts :=
  (frame_scanOver s x _ l).trans ((frame_complete _ _ _ _).mono (List.nil_subset _) (by decide))

theorem frame_regionAnswered : s.Frame (s.regionAnswered x l) scanOverRegs scanOverParts :=
  ((frame_scanOver s x _ l).thenWr F.CHK_SCAN_LAST.CRC _ (by decide)).trans ((frame_complete _ _ _ _).mono (List.nil_subset _) (by decide))

/-- The engine is free. -/
def State.engineFree (s t : State) : Prop :=
  t.chk = { s.chk with scan := none } ∧ t.rd F.CHK_SCAN_STAT.BUSY = 0 ∧ t.rd F.CHK_SCAN_STAT.OWNER = 0

theorem State.engineFree.after {s t u : State} {l : List Nat} {ps : List Part} (h : s.engineFree t) (k : t.Frame u l ps)
    (hl : A.CHK_SCAN_STAT ∉ l := by decide) (hp : Part.chk ∉ ps := by decide) : s.engineFree u := by
  obtain ⟨chk, busy, owner⟩ := h
  exact ⟨(k.parts .chk hp).trans chk, (k.rd (f := F.CHK_SCAN_STAT.BUSY) hl (by decide) (by decide)).trans busy,
    (k.rd (f := F.CHK_SCAN_STAT.OWNER) hl (by decide) (by decide)).trans owner⟩

theorem engineFree_scanOver (s : State) (x : Scan) (a : Nat) (l : BurstReads) : s.engineFree (s.scanOver x a l) :=
  ⟨chk_scanOver s x a l, shown_scanFree _⟩

theorem engineFree_regionFailed (e : Nat × ReadResult) : s.engineFree (s.regionFailed x l e) :=
  (engineFree_scanOver s x _ l).after (frame_complete _ _ _ _)

theorem engineFree_regionAnswered : s.engineFree (s.regionAnswered x l) :=
  ((engineFree_scanOver s x _ l).after (State.Frame.wr _ F.CHK_SCAN_LAST.CRC _)).after (frame_complete _ _ _ _)

theorem last_regionFailed (e : Nat × ReadResult) : (s.regionFailed x l e).rd F.CHK_SCAN_LAST.CRC = s.rd F.CHK_SCAN_LAST.CRC :=
  ((frame_complete _ _ _ _).rd (List.not_mem_nil) (by decide) (by decide)).trans (last_scanOver s x _ l)

theorem last_regionAnswered : (s.regionAnswered x l).rd F.CHK_SCAN_LAST.CRC = s.scanCrc x l :=
  ((frame_complete _ _ _ _).rd (List.not_mem_nil) (by decide) (by decide)).trans
    (rd_wr_fits _ (f := F.CHK_SCAN_LAST.CRC) (by decide) (scanCrc_lt s x l))

include hp hw

theorem replies_regionFailed (e : Nat × ReadResult) : (s.regionFailed x l e).cmd.replies = s.cmd.replies ++
    (if pl.req.replyReq then [replyUnder pl.id pl.op pl.req (.checkFail 2)] else []) := by
  have cmd := cmd_scanOver s x ((x.next / 64 + e.1) * 64) l
  rw [State.regionFailed, replies_complete _ (by rw [cmd, hp]) hw, cmd]

theorem replies_regionAnswered : (s.regionAnswered x l).cmd.replies = s.cmd.replies ++
    (if pl.req.replyReq then [replyUnder pl.id pl.op pl.req (.ok (leBytes 4 (s.scanCrc x l)))] else []) := by
  have cmd : ((s.scanOver x x.stop l).wr F.CHK_SCAN_LAST.CRC (s.scanCrc x l)).cmd = s.cmd := cmd_scanOver s x x.stop l
  rw [State.regionAnswered, replies_complete _ (by rw [cmd, hp]) hw, cmd]
end

/-! ### The obligation -/

theorem find_failed_none {l : BurstReads} (h : l.find? (fun e => e.2 == .failed) = none) : ¬ ∃ e ∈ l, e.2 = .failed := by
  rintro ⟨e, he, hf⟩
  have := List.find?_eq_none.mp h e he
  simp [hf] at this

theorem find_failed_some {l : BurstReads} {e : Nat × ReadResult} (h : l.find? (fun e => e.2 == .failed) = some e) :
    ¬ ∀ e ∈ l, e.2 ≠ .failed := fun good => good e (List.mem_of_find?_eq_some h) (by simpa using List.find?_some h)

/-! ### A commit as the command leaves it -/

/-- A window stays open or closed while only registers and what a command is counted in change. -/
theorem windowClosed_frame {s t : State} {l : List Nat} {ps : List Part} (h : s.Frame t l ps) (hs : Part.scn ∉ ps := by decide)
    (hp : Part.pwr ∉ ps := by decide) : t.windowClosed = s.windowClosed := by
  have scn : t.scn = s.scn := h.parts .scn hs
  have pwr : t.pwr = { s.pwr with light := t.pwr.light, closedAt := t.pwr.closedAt } := h.parts .pwr hp
  simp only [State.windowClosed, scn]
  rw [pwr]

section
variable (s : State) (r : Request)

theorem lastWritten_taken (p : Nat → Bool) :
    (s.taken r).lastWritten ((s.taken r).commitAddrs.filter p) = s.lastWritten (s.commitAddrs.filter p) := by
  rw [commitAddrs_taken]
  exact lastWritten_congr fun a ha => reg_taken_shadowed s r (mem_commitAddrs (List.mem_of_mem_filter ha))

theorem windowClosed_taken : (s.taken r).windowClosed = s.windowClosed := windowClosed_frame (frame_taken s r)

theorem pix_commitTaken : (s.taken r).commitAll.pix =
    { s.pix with capDue := s.pix.capDue ++ [(s.now, s.lastWritten (s.commitAddrs.filter captureAddrs.contains))] } := by
  have frame := frame_taken s r
  rw [pix_commitAll, lastWritten_taken, show (s.taken r).pix = s.pix from frame.parts .pix (by decide),
    show (s.taken r).now = s.now from frame.parts .now (by decide)]

theorem due_commitTaken : ⟨s.windowClosed, .commit (s.lastWritten (s.commitAddrs.filter (fun a => !captureAddrs.contains a)))⟩ ∈
    (s.taken r).commitAll.scn.due := by
  have due := due_commitAll (s.taken r)
  rwa [lastWritten_taken, windowClosed_taken] at due

theorem cap_commitTaken : (s.taken r).commitAll.cap F.PIX_CANVAS.CAPTURE_EN = s.rd F.PIX_CANVAS.CAPTURE_EN :=
  (cap_commitAll _).trans ((frame_taken s r).rd (by decide) (by decide) (by decide))

theorem late_commitTaken :
    (s.taken r).commitAll.rd F.SCN_STAT.COMMIT_LATE = if s.windowClosed then 1 else s.rd F.SCN_STAT.COMMIT_LATE := by
  rw [late_commitAll, windowClosed_taken, (frame_taken s r).rd (by decide) (by decide) (by decide)]

theorem inbox_commitTaken (hw : s.windowClosed = true) : ⟨0x5B, 0, 0, 0, false, s.now⟩ ∈ (s.taken r).commitAll.flt.inbox := by
  have reported := inbox_commitAll (s.taken r) ((windowClosed_taken s r).trans hw)
  rwa [show (s.taken r).now = s.now from (frame_taken s r).parts .now (by decide)] at reported
end

/-! ### The overlay's registers as the command leaves them -/

section
variable {s t : State} {r : Request} (ok : overlayRange r = none)
include ok

/-- A register of the overlay keeps its value through a frame of the common part and of a commit. -/
theorem reg_overlay_kept {l : List Nat} {ps : List Part} (h : s.Frame t l ps) (hl : l ⊆ commandCommitRegs := by decide) :
    ∀ e ∈ overlayWrites r, t.reg e.1 = s.reg e.1 := fun e he => by
  obtain ⟨apart, noSaf, noStart⟩ := overlay_apart (key_overlayWrites ok he)
  exact h.reg (fun m => apart (hl m)) noSaf noStart

theorem reg_overlayDone : ∀ e ∈ overlayWrites r, ((s.taken r).overlayDone r).reg e.1 =
    BitVec.ofNat 32 (storeFields (s.reg e.1).toNat e.2 (fieldsAt e.1)) := by
  intro e he
  have stored : ((s.taken r).storeAll (overlayWrites r)).reg e.1 = BitVec.ofNat 32 (storeFields (s.reg e.1).toNat e.2 (fieldsAt e.1)) := by
    rw [reg_storeOverlay ok e he, reg_overlay_kept ok (frame_taken s r) (by decide) e he]
  unfold State.overlayDone
  split
  · exact (reg_overlay_kept ok (frame_commitAll _) (by decide) e he).trans stored
  · exact stored
end

theorem overlayDone_stored {s : State} {r : Request} (h : bitsAt (pByte r 1) 1 1 = 0) : s.overlayDone r = s.storeAll (overlayWrites r) :=
  if_neg (by omega)

theorem overlayDone_committed {s : State} {r : Request} (h : bitsAt (pByte r 1) 1 1 = 1) :
    s.overlayDone r = (s.storeAll (overlayWrites r)).commitAll := if_pos h

theorem cmd_overlayDone (s : State) (r : Request) : (s.overlayDone r).cmd = s.cmd := by
  have stored : (s.storeAll (overlayWrites r)).cmd = s.cmd :=
    (frame_storeAll s fun _ he => List.mem_map_of_mem (f := (·.1)) he).parts .cmd List.not_mem_nil
  unfold State.overlayDone
  split
  · exact (replies_commitAll _).trans stored
  · exact stored

theorem frame_overlayCommit (s : State) (r : Request) : s.Frame (s.storeAll (overlayWrites r)).commitAll
    (commandCommitRegs ++ (overlayWrites r).map (·.1)) commandCommitParts :=
  ((frame_storeOverlay s r).mono (by simp only [commandCommitRegs]; grind) (by decide)).trans
    ((frame_commitAll _).mono (by simp only [commandCommitRegs]; grind) (by decide))

/-- Settles O33: the commit step by step, the overlay's registers, and the start and the end of a scan. -/
theorem commitOverlayCheck : Obligations.CommitOverlayCheck := by
  unfold Obligations.CommitOverlayCheck
  intro s n hu
  have hu' : (s.advance n).undef = false := hu
  refine ⟨fun r run empty => ?_, fun r run long => ⟨_, exec_commit n r s, command_refused hu' run (commitBody_long _ long)⟩,
    fun r run => ⟨_, rfl, fun d range => command_refused hu' run (overlaySetBody_range range),
      fun ok off => command_refused hu' run (overlaySetBody_off ok ((pixClk_taken _ r).trans off)), fun ok on one => ?_, fun ok on one => ?_⟩,
    fun r run len => ⟨_, rfl, fun skew => command_refused hu run (checkBody_misaligned len skew), fun aligned low high whole readable => ?_⟩,
    fun res idle => ?_, fun x pl rest res l scan places waits hl => ?_⟩
  · obtain ⟨answered, frame, last⟩ := command_answered (l := commandCommitRegs) (ps := commandCommitParts) hu' run (commitBody_run _ empty)
      ((frame_commitAll _).mono (by decide) (by decide)) (replies_commitAll _)
    have late := (last.rd (f := F.SCN_STAT.COMMIT_LATE) (by decide) (by decide) (by decide)).trans (late_commitTaken (s.advance n) r)
    have scn : _ = ((s.advance n).taken r).commitAll.scn := last.parts .scn (by decide)
    have flt : _ = ((s.advance n).taken r).commitAll.flt := last.parts .flt (by decide)
    have caps : _ = ((s.advance n).taken r).commitAll.capRegs := last.parts .capRegs (by decide)
    refine ⟨_, exec_commit n r s, answered, frame, ?_, (last.parts .pix (by decide)).trans (pix_commitTaken (s.advance n) r), ?_,
      fun closed => ⟨late.trans (if_pos closed), ?_⟩, fun still => late.trans (if_neg (by rw [show (s.advance n).windowClosed = false from still]; decide))⟩
    · rw [State.cap, caps]
      exact cap_commitTaken (s.advance n) r
    · rw [scn]
      exact due_commitTaken (s.advance n) r
    · rw [flt]
      exact inbox_commitTaken (s.advance n) r closed
  · have body := overlaySetBody_run ok ((pixClk_taken (s.advance n) r).trans on)
    have cmd := cmd_overlayDone ((s.advance n).taken r) r
    have stored := reg_overlayDone (s := s.advance n) ok
    rw [overlayDone_stored one] at body cmd stored
    obtain ⟨answered, frame, last⟩ := command_answered hu' run body (frame_storeOverlay _ r) cmd (List.subset_append_left _ _)
    exact ⟨answered, frame, fun e he => (reg_overlay_kept ok last (List.nil_subset _) e he).trans (stored e he)⟩
  · have body := overlaySetBody_run ok ((pixClk_taken (s.advance n) r).trans on)
    have cmd := cmd_overlayDone ((s.advance n).taken r) r
    have stored := reg_overlayDone (s := s.advance n) ok
    rw [overlayDone_committed one] at body cmd stored
    obtain ⟨answered, frame, last⟩ := command_answered hu' run body (frame_overlayCommit _ r) cmd
      (fun _ h => List.mem_append_left _ (List.mem_append_left _ h))
    have scn : _ = (((s.advance n).taken r).storeAll (overlayWrites r)).commitAll.scn := last.parts .scn (by decide)
    have due := due_commitAll (((s.advance n).taken r).storeAll (overlayWrites r))
    rw [windowClosed_frame (frame_storeOverlay _ r), windowClosed_taken, ← scn] at due
    exact ⟨answered, frame, ⟨_, due⟩, fun e he => (reg_overlay_kept ok last (List.nil_subset _) e he).trans (stored e he)⟩
  · have range : scannable r := ⟨aligned, low, high, whole, readable⟩
    have chk := chk_taken s r
    refine ⟨fun off => ?_, fun on busy => ?_, fun on idle => ?_⟩
    · obtain ⟨answered, frame⟩ := command_refused hu run (checkBody_off len range ((memClk_taken s r).trans off))
      exact ⟨answered, frame.parts .chk (by decide)⟩
    · obtain ⟨answered, frame⟩ := command_refused hu run (checkBody_busy len range ((memClk_taken s r).trans on) (by rw [chk, busy]))
      exact ⟨answered, frame.parts .chk (by decide)⟩
    · have start := frame_scanStart (s.taken r) r
      have held : command 0x12 r (checkBody r) s = ((s.taken r).scanStart r).holdPlace 0x12 r s.deviceId :=
        command_hold run (checkBody_start len range ((memClk_taken s r).trans on) (by rw [chk, idle]))
      have last := frame_holdPlace ((s.taken r).scanStart r) 0x12 r s.deviceId
      have frame : s.Frame (((s.taken r).scanStart r).holdPlace 0x12 r s.deviceId) (takenRegs ++ scanRegs) [.cmd, .flt, .chk] :=
        (((frame_taken s r).mono (by decide) (by decide)).trans (start.mono (by decide) (by decide))).trans
          (last.mono (by decide) (by decide))
      have du := frame.undef hu
      obtain ⟨busy, owner, addr⟩ := shown_scanStart (s.taken r) r
      have shown {f : Fld} (h1 : f.addr ≠ A.SAF_STAT) (h2 : f.addr ≠ A.SYS_START) :=
        (rd_settle du h1 h2).trans (last.rd (f := f) List.not_mem_nil h1 h2)
      rw [held]
      refine ⟨⟨?_, ?_⟩, (shown (by decide) (by decide)).trans busy, (shown (by decide) (by decide)).trans owner,
        (shown (by decide) (by decide)).trans addr, ?_, frame.settled du⟩
      · rw [settle_cmd du, ← places_taken s r]
        rfl
      · rw [settle_cmd du, ← replies_taken s r]
        rfl
      · rw [settle_chk du, ← chk]
        rfl
  · exact ⟨_, by simp only [exec, execCheckRegionDone, idle]; rfl, (State.Frame.refl _ _ _).settled hu⟩
  · cases found : l.find? (fun e => e.2 == .failed) with
    | some e =>
      have frame := frame_regionFailed (s := s) (x := x) l e
      have du := frame.undef hu
      obtain ⟨chk, busy, owner⟩ := (engineFree_regionFailed (s := s) (x := x) l e).after (frame_settle du)
      refine ⟨_, exec_checkRegionDone_failed scan hl found, chk, busy, owner, frame.settled du, fun _ => ⟨?_, ?_⟩, fun good => absurd good (find_failed_some found)⟩
      · rw [rd_settle du (by decide) (by decide), last_regionFailed]
      · rw [settle_cmd du, replies_regionFailed places waits]
    | none =>
      have frame := frame_regionAnswered (s := s) (x := x) l
      have du := frame.undef hu
      obtain ⟨chk, busy, owner⟩ := (engineFree_regionAnswered (s := s) (x := x) l).after (frame_settle du)
      refine ⟨_, exec_checkRegionDone_passed scan hl found, chk, busy, owner, frame.settled du, fun bad => absurd bad (find_failed_none found), fun _ fresh low ahead _ => ?_⟩
      rw [rd_settle du (by decide) (by decide), settle_cmd du, last_regionAnswered, replies_regionAnswered places waits,
        scanCrc_eq s l fresh low ahead]
      exact ⟨rfl, rfl⟩

end Sys2Proof.Machine

/-! # The start of a scan-out frame: what each of its parts changes

The end of the frame before, the events that take effect, what the frame shows, its light, its timing and its own updates, each with the
registers, parts and bytes of DRAM it may touch (R87, R137, R139, R140, R150, R186, R316, R369, R414). -/

namespace Sys2Proof.Machine

/-! ### DRAM at a frame start -/

/-- The bytes a frame start may change: the applied tables, the output corrections and the stress codes. -/
def inFrameStart (a : Nat) : Prop :=
  inTables a = true ∨ (0x0F000000 ≤ a ∧ a < 0x0F006000) ∨ (0x16000000 ≤ a ∧ a < 0x16600000)

theorem inTables_false {a : Nat} (h : a < 0x14000000 ∨ 0x15800000 ≤ a) : inTables a = false := by
  simp only [inTables, Bool.and_eq_false_iff, decide_eq_false_iff_not]
  omega

/-! ### The end of the frame before -/

theorem frame_updateCredit (s : State) (period : Nat) : s.Frame (s.updateCredit period) [A.GOV_STAT] [.gov] := by
  unfold State.updateCredit
  split
  · exact .refl _ _ _
  · exact frame_setCredit _ _

def codeRegs : List Nat := (List.range 4).map A.GOV_IPRED

theorem frame_checkCodeCurrent (s : State) : s.Frame s.checkCodeCurrent codeRegs [.gov, .flt] := by
  have shown (u : State) (v : Nat → Nat) : u.Frame ((List.range 4).foldl (fun s q => s.wr (F.GOV_IPRED.ICODE q) (v q)) u) codeRegs [.gov, .flt] :=
    .foldl (fun w q hq => (State.Frame.refl w _ _).thenWr _ _ (List.mem_map_of_mem (f := A.GOV_IPRED) hq)) u
  unfold State.checkCodeCurrent
  exact .ite (((shown s _).setGov (by decide)).thenFault _ _ (by decide)) ((shown s _).setGov (by decide))

theorem frame_judgeCurrent (s : State) (q : Quad) (samples : List Nat) (sat : Bool) : s.Frame (s.judgeCurrent q samples sat) [] [.saf, .flt] := by
  unfold State.judgeCurrent
  refine .ite (.refl _ _ _) (.ite ?_ ?_)
  · exact (((State.Frame.refl s [] [.saf, .flt]).setSaf (by decide)).setSaf (by decide)).thenFaultQ _ _ _ (by decide)
  · exact (State.Frame.refl s _ _).setSaf (by decide)

/-- The stress code of subpixel k takes the light of the frame (R88). -/
def State.stressOne (n first : Nat) (base : Table) (p : Nat → Nat) (tq : Quad → Int) (s : State) (k : Nat) : State :=
  if actionOf s.cmp.defects k ≠ 0 then s
  else
    s.writeLE (stressAddr k) 2 (stressStep (s.stressCode k)
      (stressWeight (nth base.beta (subColour k).val) (s.kneeInUse (subColour k)) (p k / 4096) * ageAccel base (tq (subQuad k)) *
        (n * s.scn.period) / (65536 * 10 ^ 9)) (Config.freeNat (first + k)))

/-- The stress codes of all subpixels take it. -/
def State.stressCodes (s : State) (p : Nat → Nat) (tq : Quad → Int) : State :=
  (List.range subpixels).foldl (State.stressOne (max 8 (s.rd F.CMP_AGE_CFG.INTERVAL)) s.freeNo s.cmp.base p tq) s

/-- Each has drawn a value. -/
def State.stressAll (s : State) (p : Nat → Nat) (tq : Quad → Int) : State := { s.stressCodes p tq with freeNo := s.freeNo + subpixels }

theorem stressUpdate_eq (s : State) (p : Nat → Nat) (tq : Quad → Int) : s.stressUpdate p tq = (s.stressAll p tq).touchSpan 0x16000000 0x600000 := rfl

theorem frameIn_stressOne (n first : Nat) (base : Table) (p : Nat → Nat) (tq : Quad → Int) (s : State) {k : Nat} (hk : k < subpixels) :
    s.FrameIn inFrameStart (State.stressOne n first base p tq s k) dramRegs (.mem :: dramParts) := by
  have hk : k < 3145728 := hk
  unfold State.stressOne
  split
  · exact .refl _ _ _ _
  · refine (frameIn_writeLE s _ (fun i hi => inTables_false ?_) (fun i hi => Or.inr (Or.inr ?_))).mono (List.nil_subset _) (by simp)
    · unfold stressAddr
      omega
    · unfold stressAddr
      omega

theorem frameIn_stressCodes (s : State) (p : Nat → Nat) (tq : Quad → Int) :
    s.FrameIn inFrameStart (s.stressCodes p tq) dramRegs (.mem :: dramParts) :=
  .foldl (fun u _ hk => frameIn_stressOne _ _ _ p tq u (List.mem_range.mp hk)) s

theorem frameIn_stressAll (s : State) (p : Nat → Nat) (tq : Quad → Int) :
    s.FrameIn inFrameStart (s.stressAll p tq) dramRegs (.mem :: dramParts) := by
  have codes := frameIn_stressCodes s p tq
  unfold State.stressAll
  generalize s.stressCodes p tq = u at codes ⊢
  generalize s.freeNo + subpixels = n
  have drawn : u.Frame { u with freeNo := n } [] [.freeNo] := (State.Frame.refl u _ _).setFreeNo (by decide)
  exact codes.trans (drawn.inside.mono (List.nil_subset _) (by decide))

theorem frameIn_stressUpdate (s : State) (p : Nat → Nat) (tq : Quad → Int) :
    s.FrameIn inFrameStart (s.stressUpdate p tq) dramRegs (.mem :: dramParts) := by
  have codes := frameIn_stressAll s p tq
  rw [stressUpdate_eq]
  generalize s.stressAll p tq = u at codes ⊢
  have touched := frame_touchSpan u 0x16000000 0x600000
  generalize u.touchSpan 0x16000000 0x600000 = v at touched ⊢
  exact codes.trans (touched.inside.mono (List.Subset.refl _) (by decide))

/-- What the frame that ends shows and counts, before its records pass on. -/
def State.endShown (s : State) (samples : List (List Nat)) (saturated : Fin 16) : State :=
  let s := (s.updateCredit s.scn.period).checkCodeCurrent
  let s := forQ (fun q s => s.judgeCurrent q (nth samples q.val) (saturated.val.testBit q.val)) s
  let s := if s.stressDraws then s.stressUpdate s.finalOf s.glassTemp else s
  let s := s.wr F.CMP_CONCEAL_STAT.LIMITED_LAST (min 0xFFFF s.cmp.limited)
  if s.cmp.limited = 0 then s else s.bump F.CMP_CONCEAL_STAT.FRAMES_LIMITED

/-- The records of a frame pass on to the next. -/
def State.passRecords (s : State) : State :=
  { s with
    cmp.limited := 0, scn.prevBlank := s.scn.blank
    gov.irow := [], gov.irowPrev := s.gov.irow, gov.irowOld := s.gov.irowPrev }

theorem endFrame_eq (s : State) (samples : List (List Nat)) (saturated : Fin 16) :
    s.endFrame samples saturated = if !s.scn.anyFrame then s else (s.endShown samples saturated).passRecords := rfl

/-- What the end of a frame may change. -/
def endRegs : List Nat := [A.GOV_STAT, A.CMP_CONCEAL_STAT] ++ codeRegs ++ dramRegs
def endParts : List Part := [.gov, .flt, .saf, .mem] ++ dramParts

section
variable (s : State) (samples : List (List Nat)) (saturated : Fin 16)

theorem frameIn_endShown : s.FrameIn inFrameStart (s.endShown samples saturated) endRegs endParts := by
  have credit (u : State) : u.FrameIn inFrameStart (u.updateCredit u.scn.period).checkCodeCurrent endRegs endParts :=
    ((frame_updateCredit u _).inside.mono (by decide) (by decide)).trans ((frame_checkCodeCurrent _).inside.mono (by decide) (by decide))
  have caps (u : State) : u.FrameIn inFrameStart
      (forQ (fun q s => s.judgeCurrent q (nth samples q.val) (saturated.val.testBit q.val)) u) endRegs endParts :=
    .forQ (fun q w => (frame_judgeCurrent w q _ _).inside.mono (List.nil_subset _) (by decide)) u
  have stress (u : State) : u.FrameIn inFrameStart (if u.stressDraws then u.stressUpdate u.finalOf u.glassTemp else u) endRegs endParts := by
    split
    · exact (frameIn_stressUpdate u _ _).mono (by decide) (by decide)
    · exact .refl _ _ _ _
  have counted (u : State) : u.Frame (if (u.wr F.CMP_CONCEAL_STAT.LIMITED_LAST (min 0xFFFF u.cmp.limited)).cmp.limited = 0
      then u.wr F.CMP_CONCEAL_STAT.LIMITED_LAST (min 0xFFFF u.cmp.limited)
      else (u.wr F.CMP_CONCEAL_STAT.LIMITED_LAST (min 0xFFFF u.cmp.limited)).bump F.CMP_CONCEAL_STAT.FRAMES_LIMITED) endRegs [] := by
    have last : u.Frame (u.wr F.CMP_CONCEAL_STAT.LIMITED_LAST (min 0xFFFF u.cmp.limited)) endRegs [] :=
      (State.Frame.refl u _ _).thenWr _ _ (by decide)
    exact .ite last (last.thenBump _ (by decide))
  exact (((credit s).trans (caps _)).trans (stress _)).trans ((counted _).inside.mono (List.Subset.refl _) (List.nil_subset _))

theorem frame_passRecords : s.Frame s.passRecords [] [.cmp, .scn, .gov] :=
  (((State.Frame.refl s [] [.cmp, .scn, .gov]).setCmp (x := { s.cmp with limited := 0 }) (by decide) rfl rfl).setScn
    (x := { s.scn with prevBlank := s.scn.blank }) (by decide)).setGov (by decide)

theorem frameIn_endFrame : s.FrameIn inFrameStart (s.endFrame samples saturated) endRegs (.cmp :: .scn :: endParts) := by
  rw [endFrame_eq]
  split
  · exact .refl _ _ _ _
  · exact ((frameIn_endShown s samples saturated).mono (List.Subset.refl _) (by decide)).trans
      ((frame_passRecords _).inside.mono (List.nil_subset _) (by decide))

theorem scn_endFrame : ∃ b, (s.endFrame samples saturated).scn = { s.scn with prevBlank := b } := by
  rw [endFrame_eq]
  split
  · exact ⟨_, rfl⟩
  · have scn : (s.endShown samples saturated).scn = s.scn := (frameIn_endShown s samples saturated).frame.parts .scn (by decide)
    exact ⟨_, by rw [State.passRecords, scn]⟩
end

/-! ### The events that take effect -/

theorem frame_addCandidate (s : State) (k kind wait : Nat) : s.Frame (s.addCandidate k kind wait) [A.SNS_CNT] [.sns] := by
  unfold State.addCandidate
  refine .ite (.refl _ _ _) (.ite ((State.Frame.refl s _ _).thenBump F.SNS_CNT.DROPPED (by decide)) ?_)
  exact (State.Frame.refl s _ _).setSns (by decide) rfl

theorem frame_judgeSweep (s : State) (wait k v1 v2 : Nat) (v2t ref : Int) :
    s.Frame (s.judgeReading .sweep wait k v1 v2 v2t ref) [A.SNS_CNT] [.sns] := by
  have kinds : s.Frame { s with sns.kinds := Sparse.put (fun _ => 6) s.sns.kinds k (s.classify k v1 v2 v2t ref) } [A.SNS_CNT] [.sns] :=
    (State.Frame.refl s _ _).setSns (by decide) rfl
  exact .ite kinds (kinds.trans (frame_addCandidate _ _ _ _))

theorem frame_judgeWaiting (s : State) (q : Nat) : s.Frame (s.judgeWaiting q) [A.SNS_CNT] [.sns] := by
  have kept : s.Frame (s.setSq q { s.sq q with unjudged := (s.sq q).unjudged.filter (fun u => (s.refOf u.k).isNone) }) [A.SNS_CNT] [.sns] :=
    (State.Frame.refl s _ _).setSns (by decide) rfl
  refine kept.trans (.foldl (fun u x _ => ?_) _)
  split
  · exact frame_judgeSweep _ _ _ _ _ _ _
  · exact .refl _ _ _

theorem frame_beginSlide (s : State) : s.Frame s.beginSlide [A.CMP_TBL_STAT] [.cmp] :=
  (((State.Frame.refl s [A.CMP_TBL_STAT] [.cmp]).thenWr F.CMP_TBL_STAT.STATE 3 (by decide)).thenWr F.CMP_TBL_STAT.SLIDE_POS 0 (by decide)).setCmp
    (by decide) rfl rfl

theorem frame_exchangeLadder (s : State) : s.Frame s.exchangeLadder [A.HYB_STAT] [.hyb] := by
  unfold State.exchangeLadder
  split
  · exact .refl _ _ _
  · exact (((State.Frame.refl s [A.HYB_STAT] [.hyb]).thenWr F.HYB_STAT.LADDER_BANK _ (by decide)).thenWr F.HYB_STAT.LADDER_BUSY 0
      (by decide)).setHyb (by decide)

/-- The applied tables change, and no DRAM outside them. -/
theorem frameIn_setTables (s : State) (x : CmpState) : s.FrameIn inFrameStart { s with cmp := x } [] [.cmp, .mem] := by
  refine ⟨(State.Frame.refl s _ _).thenUpd rfl fun p hp => by cases p <;> simp_all [State.Same], fun a ha => ?_⟩
  have plain : inTables a = false := by
    cases h : inTables a with
    | true => exact absurd (Or.inl h) ha
    | false => rfl
  simp only [State.readByte, plain, Bool.false_and, Bool.false_eq_true, if_false]
  rfl

def tableParts : List Part := .cmp :: .mem :: dramParts

theorem frameIn_putApplied (s : State) (k : Nat) (w : Table → Word) : s.FrameIn inFrameStart (s.putApplied k w) dramRegs tableParts := by
  have touched := (frame_touchDram s (0x14000000 + 4 * k)).trans (frame_touchDram _ (0x14C00000 + 4 * k))
  unfold State.putApplied
  generalize (s.touchDram (0x14000000 + 4 * k)).touchDram (0x14C00000 + 4 * k) = u at touched ⊢
  exact (touched.inside.mono (List.Subset.refl _) (by decide)).trans ((frameIn_setTables u _).mono (List.nil_subset _) (by decide))

theorem frameIn_applyDefects (s : State) (t : List Nat) : s.FrameIn inFrameStart (s.applyDefects t) dramRegs tableParts := by
  have tails : s.Frame { s with cmp.tailDefects := t } [] [.cmp] := (State.Frame.refl s _ _).setCmp (by decide) rfl rfl
  exact State.FrameIn.trans (tails.inside.mono (List.nil_subset _) (by decide)) (.foldl (fun u k _ => frameIn_putApplied u k _) _)

/-- What an event may change as it takes effect. -/
def dueRegs : List Nat := [A.SNS_CNT, A.CMP_TBL_STAT, A.HYB_STAT] ++ dramRegs
def dueParts : List Part := [.frameRegs, .sns, .hyb] ++ tableParts

/-- The frame-side values after an event. -/
def DueEvent.values (e : DueEvent) (m : List (Nat × Word)) : List (Nat × Word) :=
  match e with
  | .commit vs => vs.foldl (fun m e => Sparse.put resetWord m e.1 e.2) m
  | _ => m

/-- A commit's values are in force. -/
def State.takeValues (s : State) (vs : List (Nat × Word)) : State :=
  { s with frameRegs := vs.foldl (fun m e => Sparse.put resetWord m e.1 e.2) s.frameRegs }

theorem applyDue_commit (s : State) (vs : List (Nat × Word)) :
    s.applyDue (.commit vs) = forQ (fun q s => s.judgeWaiting q.val) (s.takeValues vs) := rfl

theorem frame_judgeAll (s : State) : s.Frame (forQ (fun q s => s.judgeWaiting q.val) s) [A.SNS_CNT] [.sns] :=
  .forQ (fun q u => frame_judgeWaiting u q.val) s

theorem frameIn_applyDue (s : State) (e : DueEvent) : s.FrameIn inFrameStart (s.applyDue e) dueRegs dueParts := by
  cases e with
  | commit vs =>
    rw [applyDue_commit]
    have taken : s.Frame (s.takeValues vs) dueRegs dueParts := (State.Frame.refl s _ _).setFrameRegs (by decide)
    exact ⟨taken.trans ((frame_judgeAll _).mono (by decide) (by decide)), fun a _ =>
      ((frame_judgeAll _).parts .mem (by decide) a).trans (((State.Frame.refl s [] [.frameRegs]).setFrameRegs (by decide)).parts .mem (by decide) a)⟩
  | slide => exact (frame_beginSlide s).inside.mono (by decide) (by decide)
  | ladder => exact (frame_exchangeLadder s).inside.mono (by decide) (by decide)
  | defects t => exact (frameIn_applyDefects s t).mono (by decide) (by decide)

theorem frameRegs_applyDue (s : State) (e : DueEvent) : (s.applyDue e).frameRegs = e.values s.frameRegs := by
  cases e with
  | commit vs =>
    rw [applyDue_commit]
    exact (frame_judgeAll _).parts .frameRegs (by decide)
  | slide => rfl
  | ladder => exact (frame_exchangeLadder s).parts .frameRegs (by decide)
  | defects t => exact (frameIn_applyDefects s t).frame.parts .frameRegs (by decide)

/-- The events of a list take effect in their order. -/
def State.applyList (s : State) (l : List Due) : State := l.foldl (fun s d => s.applyDue d.ev) s

theorem frameIn_applyList (s : State) (l : List Due) : s.FrameIn inFrameStart (s.applyList l) dueRegs dueParts :=
  .foldl (fun u d _ => frameIn_applyDue u d.ev) s

theorem frameRegs_applyList (s : State) (l : List Due) : (s.applyList l).frameRegs = l.foldl (fun m d => d.ev.values m) s.frameRegs := by
  induction l generalizing s with
  | nil => rfl
  | cons d l ih => exact (ih _).trans (by rw [frameRegs_applyDue]; rfl)

theorem regsAfter_eq (s : State) (f : Due → Bool) : s.regsAfter f = (s.scn.due.filter f).foldl (fun m d => d.ev.values m) s.frameRegs := by
  unfold State.regsAfter
  generalize s.frameRegs = m
  induction s.scn.due generalizing m with
  | nil => rfl
  | cons d l ih =>
    rw [List.foldl_cons, ih, List.filter_cons]
    obtain ⟨late, ev⟩ := d
    cases hf : f ⟨late, ev⟩ <;> cases ev <;> rfl

/-- The late events wait for the next frame. -/
def State.laterDue (s : State) : List Due := (s.scn.due.filter (·.late)).map (fun d => { d with late := false })

/-- The events that wait are replaced. -/
def State.setDue (s : State) (l : List Due) : State := { s with scn.due := l }

theorem applyComing_eq (s : State) : s.applyComing = (s.setDue s.laterDue).applyList (s.scn.due.filter (fun d => !d.late)) := rfl

theorem applyAll_eq (s : State) : s.applyAll = (s.setDue []).applyList s.scn.due := rfl

section
variable (s : State) (l l' : List Due)

theorem frameIn_applySet : s.FrameIn inFrameStart ((s.setDue l).applyList l') dueRegs (.scn :: dueParts) := by
  have set : s.Frame (s.setDue l) [] [.scn] := (State.Frame.refl s _ _).setScn (by decide)
  exact (set.inside.mono (List.nil_subset _) (by decide)).trans ((frameIn_applyList _ l').mono (List.Subset.refl _) (by decide))

theorem scn_applySet : ((s.setDue l).applyList l').scn = { s.scn with due := l } := (frameIn_applyList _ l').frame.parts .scn (by decide)
end

theorem frameRegs_applyComing (s : State) : s.applyComing.frameRegs = s.comingRegs := by
  rw [applyComing_eq, frameRegs_applyList, State.comingRegs, regsAfter_eq]
  rfl

theorem frameRegs_applyAll (s : State) : s.applyAll.frameRegs = s.regsAfter (fun _ => true) := by
  rw [applyAll_eq, frameRegs_applyList, regsAfter_eq, List.filter_true]
  rfl

/-! ### What the frame shows -/

/-- The scan-out frame starts as scheduled. -/
def State.startScheduled (s : State) : State := { s with scn.start := s.scheduled, scn.anyFrame := true }.wr F.SCN_STAT.LOCKED 0

/-- A decided frame is shown. -/
def State.presentBuffer (s : State) (k : Nat) : State :=
  { (s.startScheduled.wrB F.SCN_STAT.LOCKED (near (s.startScheduled.buf k).pt s.scheduled)).showBuffer k with
    scn.start := (s.startScheduled.buf k).pt }

/-- The image of the frame before is shown once more: by a hold, or as the fallback image. -/
def State.presentHold (s : State) : State := { s.startScheduled with pix.holding := true, pix.shownFor := s.shownOn }
def State.presentFallback (s : State) : State := { s.startScheduled with pix.fallback := true, pix.holding := false, pix.shownFor := s.shownOn }

section
variable {s : State}

theorem present_show {k : Nat} (h : s.pix.decision = .show k) : s.present = s.presentBuffer k := by
  unfold State.present
  dsimp only
  split
  next j e =>
    obtain rfl : k = j := by simpa using h.symm.trans e
    rfl
  next e => exact absurd (h.symm.trans e) (by simp)
  next e _ => exact absurd h (e k)

theorem present_hold (h : s.pix.decision = .hold) : s.present = s.presentHold := by
  unfold State.present
  dsimp only
  split
  next e => exact absurd (h.symm.trans e) (by simp)
  next => rfl
  next e => exact absurd h e

theorem present_fallback (h : s.pix.decision = .fallback) : s.present = s.presentFallback := by
  unfold State.present
  dsimp only
  split
  next e => exact absurd (h.symm.trans e) (by simp)
  next e => exact absurd (h.symm.trans e) (by simp)
  next => rfl
end

/-- What the start of a frame may change in what it shows. -/
def presentRegs : List Nat := [A.SCN_STAT, A.PIX_FRAME_NO]
def presentParts : List Part := [.pix, .scn]

theorem frame_startScheduled (s : State) : s.Frame s.startScheduled presentRegs presentParts :=
  ((State.Frame.refl s presentRegs presentParts).setScn (by decide)).thenWr F.SCN_STAT.LOCKED 0 (by decide)

/-- The buffers as buffer k enters SHOWING (R51). -/
def shownBufs (bufs : List FrameBuf) (pt : Nat) : List FrameBuf :=
  bufs.map (fun (b : FrameBuf) => if b.st = BufState.showing ∨ (b.st = BufState.ready ∧ timeDiff b.pt pt < 0) then b.free else b)

/-- The other buffers give way to buffer k. -/
def State.giveWay (s : State) (k : Nat) : State := { s with pix := { s.pix with bufs := shownBufs s.pix.bufs (s.buf k).pt } }

/-- A frame is shown for the first time. -/
def State.newlyShown (s : State) : State :=
  { s with pix.presented := true, pix.shownFor := 0, pix.fallback := false, pix.holding := false, pix.holds := 0, pix.feedLost := false }

theorem showBuffer_eq (s : State) (k : Nat) : s.showBuffer k =
    (((s.giveWay k).setBuf k { (s.giveWay k).buf k with st := .showing }).wr F.PIX_FRAME_NO.SHOWN
      ((s.giveWay k).buf k).no).newlyShown := rfl

theorem frame_showBuffer (s : State) (k : Nat) : s.Frame (s.showBuffer k) presentRegs presentParts := by
  rw [showBuffer_eq]
  have way : s.Frame (s.giveWay k) presentRegs presentParts := (State.Frame.refl s _ _).setPix (by decide)
  have put := way.trans ((frame_setBuf _ k { (s.giveWay k).buf k with st := .showing }).mono (List.nil_subset _) (by decide))
  exact (put.thenWr F.PIX_FRAME_NO.SHOWN _ (by decide)).setPix (by decide)

theorem frame_presentBuffer (s : State) (k : Nat) : s.Frame (s.presentBuffer k) presentRegs presentParts := by
  have locked := (frame_startScheduled s).thenWrB F.SCN_STAT.LOCKED (near (s.startScheduled.buf k).pt s.scheduled) (by decide)
  exact (locked.trans (frame_showBuffer _ k)).setScn (by decide)

theorem frame_presentHold (s : State) : s.Frame s.presentHold presentRegs presentParts := (frame_startScheduled s).setPix (by decide)

theorem frame_presentFallback (s : State) : s.Frame s.presentFallback presentRegs presentParts := (frame_startScheduled s).setPix (by decide)

theorem frame_present (s : State) : s.Frame s.present presentRegs presentParts := by
  unfold State.present
  dsimp only
  split
  · exact frame_presentBuffer s _
  · exact frame_presentHold s
  · exact frame_presentFallback s

theorem scn_present (s : State) : ∃ b, s.present.scn = { s.scn with start := b, anyFrame := true } := by
  unfold State.present
  dsimp only
  split
  · exact ⟨_, rfl⟩
  · exact ⟨_, rfl⟩
  · exact ⟨_, rfl⟩

theorem nth_shownBufs (l : List FrameBuf) (pt k : Nat) : nth (shownBufs l pt) k =
    if (nth l k).st = BufState.showing ∨ ((nth l k).st = BufState.ready ∧ timeDiff (nth l k).pt pt < 0) then (nth l k).free else nth l k := by
  unfold shownBufs nth
  rw [List.getD_eq_getElem?_getD, List.getD_eq_getElem?_getD, List.getElem?_map]
  cases l[k]? with
  | none => rfl
  | some b => rfl

/-- A buffer that gives way is no longer shown; its frame's number and time stay. -/
theorem nth_shownBufs_fields (l : List FrameBuf) (pt k : Nat) : (nth (shownBufs l pt) k).st ≠ .showing ∧
    (nth (shownBufs l pt) k).no = (nth l k).no := by
  rw [nth_shownBufs]
  split
  next => exact ⟨by simp [FrameBuf.free], rfl⟩
  next h => exact ⟨fun e => h (Or.inl e), rfl⟩

section
variable (s : State) (k : Nat)

theorem bufs_presentBuffer : (s.presentBuffer k).pix.bufs =
    (shownBufs s.pix.bufs (s.buf k).pt).set k { nth (shownBufs s.pix.bufs (s.buf k).pt) k with st := .showing } := rfl

theorem showing_presentBuffer (hk : k < s.pix.bufs.length) : ((s.presentBuffer k).buf k).st = .showing := by
  rw [State.buf, bufs_presentBuffer, nth_set, if_pos ⟨rfl, by rw [shownBufs, List.length_map]; exact hk⟩]

theorem others_presentBuffer {j : Nat} (hj : j ≠ k) : ((s.presentBuffer k).buf j).st ≠ .showing := by
  rw [State.buf, bufs_presentBuffer, nth_set, if_neg (fun h => hj h.1)]
  exact (nth_shownBufs_fields _ _ _).1

theorem pix_presentBuffer : (s.presentBuffer k).pix.fallback = false ∧ (s.presentBuffer k).pix.holding = false ∧
    (s.presentBuffer k).pix.holds = 0 ∧ (s.presentBuffer k).pix.shownFor = 0 := ⟨rfl, rfl, rfl, rfl⟩

theorem start_presentBuffer : (s.presentBuffer k).scn.start = (s.buf k).pt := rfl

/-- The number shown is that of the buffer, whether the state holds the buffer or not. -/
theorem no_giveWay : ((s.giveWay k).buf k).no = (s.buf k).no := (nth_shownBufs_fields _ _ _).2

theorem shown_showBuffer : (s.showBuffer k).rd F.PIX_FRAME_NO.SHOWN = (s.buf k).no % 65536 := by
  rw [showBuffer_eq, no_giveWay]
  exact rd_wr_same _ (f := F.PIX_FRAME_NO.SHOWN) _ (by decide)

theorem shown_presentBuffer : (s.presentBuffer k).rd F.PIX_FRAME_NO.SHOWN = (s.buf k).no % 65536 := shown_showBuffer _ k

theorem locked_presentBuffer :
    (s.presentBuffer k).rd F.SCN_STAT.LOCKED = if near (s.buf k).pt s.scheduled then 1 else 0 := by
  have kept : (s.presentBuffer k).rd F.SCN_STAT.LOCKED =
      (s.startScheduled.wrB F.SCN_STAT.LOCKED (near (s.startScheduled.buf k).pt s.scheduled)).rd F.SCN_STAT.LOCKED :=
    rd_wr_other (f := F.PIX_FRAME_NO.SHOWN) (g := F.SCN_STAT.LOCKED) _ _ (by decide)
  rw [kept, State.wrB]
  refine (rd_wr_fits _ (f := F.SCN_STAT.LOCKED) (by decide) ?_).trans rfl
  unfold boolNat
  split <;> decide
end

/-! ### Light -/

/-- The glass of every quadrant is the one the configuration names (R144). -/
def State.glassFits (s : State) : Prop := ∀ q : Quad, nth s.scn.fits q.val = (true, s.rd (F.SCN_QCFG.SCAN_DIR q.val))

theorem State.glassFits.kept {s t : State} {l : List Nat} {ps : List Part} (h : s.glassFits) (k : s.Frame t l ps) (hs : t.scn.fits = s.scn.fits)
    (hl : ∀ q : Quad, A.SCN_QCFG q.val ∉ l := by decide) : t.glassFits := by
  intro q
  have apart : A.SCN_QCFG q.val ≠ A.SAF_STAT ∧ A.SCN_QCFG q.val ≠ A.SYS_START := by
    revert q
    decide
  rw [hs, h q, k.rd (f := F.SCN_QCFG.SCAN_DIR q.val) (hl q) apart.1 apart.2]

theorem judgeGlass_fits {s : State} (h : s.glassFits) (q : Quad) : s.judgeGlass q = s := by
  unfold State.judgeGlass
  rw [h q]
  exact if_pos (by simp)

def lightRegs : List Nat := [A.SYS_START]
def lightParts : List Part := [.pwr, .flt, .sys]

theorem frame_firstLight (s : State) : s.Frame s.firstLight lightRegs lightParts :=
  .ite ((((State.Frame.refl s lightRegs lightParts).thenWr F.SYS_START.STEP 12 (by decide)).thenWr F.SYS_START.FIRST_LIGHT_MS _
    (by decide)).setSys (by decide)) (.refl _ _ _)

theorem frame_lightFrame {s : State} (h : s.glassFits) (q : Quad) : s.Frame (State.lightFrame q s) lightRegs lightParts := by
  have light (l : Light) : s.Frame (s.setLight q l) lightRegs lightParts := (frame_setLight s q l).mono (List.nil_subset _) (List.nil_subset _)
  unfold State.lightFrame
  split
  · exact .ite ((light _).thenWr F.SYS_START.STEP 11 (by decide)) (light _)
  · have lit : s.Frame ({ s.setLight q .lit with flt.resuming := s.flt.resuming.set q.val false } : State).firstLight lightRegs lightParts :=
      ((light .lit).setFlt (by decide)).trans (frame_firstLight _)
    rw [judgeGlass_fits (h.kept lit (congrArg ScnState.fits (lit.parts .scn (by decide))))]
    exact lit
  · exact .refl _ _ _

theorem frame_lightFrames {s : State} (h : s.glassFits) : s.Frame (forQ State.lightFrame s) lightRegs lightParts := by
  have next (u : State) (hu : u.glassFits) (q : Quad) : u.Frame (State.lightFrame q u) lightRegs lightParts ∧ (State.lightFrame q u).glassFits :=
    ⟨frame_lightFrame hu q, hu.kept (frame_lightFrame hu q) (congrArg ScnState.fits ((frame_lightFrame hu q).parts .scn (by decide)))⟩
  obtain ⟨f0, h0⟩ := next s h 0
  obtain ⟨f1, h1⟩ := next _ h0 1
  obtain ⟨f2, h2⟩ := next _ h1 2
  exact ((f0.trans f1).trans f2).trans (next _ h2 3).1

theorem frame_emitDrop (s : State) : s.Frame s.emitDrop [] [.pwr] := (State.Frame.refl s _ _).setPwr (by decide)

theorem frame_frameLight {s : State} (h : s.glassFits) : s.Frame s.frameLight lightRegs lightParts :=
  .ite ((frame_emitDrop s).mono (List.nil_subset _) (by decide)) (.ite ((frame_lightFrames h).setPwr (by decide)) (.refl _ _ _))

/-! ### The timing of the frame -/

def timingRegs : List Nat := [A.SCN_TSTAT, A.SCN_LINE_NOW, A.SCN_PERIOD_NOW, A.HYB_STAT]

/-- The registers that show the timing of the frame. -/
def State.showTiming (s : State) (limited slewing : Bool) (slots blank line period : Nat) : State :=
  let s := (s.wrB F.SCN_TSTAT.BLANK_LIMITED limited).wrB F.SCN_TSTAT.SLEWING slewing
  let s := (s.wr F.SCN_TSTAT.SLOTS slots).wr F.SCN_TSTAT.BLANK_IN_USE blank
  (s.wr F.SCN_LINE_NOW.LINE_NS line).wr F.SCN_PERIOD_NOW.PERIOD_NS period

theorem frame_showTiming (s : State) (limited slewing : Bool) (slots blank line period : Nat) :
    s.Frame (s.showTiming limited slewing slots blank line period) timingRegs [] :=
  ((((((State.Frame.refl s timingRegs []).thenWrB F.SCN_TSTAT.BLANK_LIMITED limited (by decide)).thenWrB F.SCN_TSTAT.SLEWING slewing
    (by decide)).thenWr F.SCN_TSTAT.SLOTS slots (by decide)).thenWr F.SCN_TSTAT.BLANK_IN_USE blank (by decide)).thenWr F.SCN_LINE_NOW.LINE_NS line
    (by decide)).thenWr F.SCN_PERIOD_NOW.PERIOD_NS period (by decide)

/-- The timing of a frame. -/
def State.setTiming (s : State) (period blank emission : Nat) : State :=
  { s with scn.period := period, scn.blank := blank, scn.emission := emission }

theorem frame_setSweeps (s : State) (period : Nat) : s.Frame (s.setSweeps period) timingRegs [.scn] :=
  (((State.Frame.refl s timingRegs [.scn]).thenWr F.HYB_STAT.S_IN_USE _ (by decide)).thenWrB F.HYB_STAT.S_LIMITED _ (by decide)).setScn (by decide)

theorem frameTiming_eq (s : State) : ∃ limited slewing slots blank line period emission,
    s.frameTiming = ((s.showTiming limited slewing slots blank line period).setTiming period blank emission).setSweeps period :=
  ⟨_, _, _, _, _, _, _, rfl⟩

theorem frame_frameTiming (s : State) : s.Frame s.frameTiming timingRegs [.scn] := by
  obtain ⟨limited, slewing, slots, blank, line, period, emission, e⟩ := frameTiming_eq s
  rw [e]
  exact (((frame_showTiming s _ _ _ _ _ _).mono (List.Subset.refl _) (List.nil_subset _)).setScn (by decide)).trans (frame_setSweeps _ _)

theorem scn_frameTiming (s : State) : ∃ period blank emission sweeps,
    s.frameTiming.scn = { s.scn with period := period, blank := blank, emission := emission, log2S := sweeps } := by
  obtain ⟨limited, slewing, slots, blank, line, period, emission, e⟩ := frameTiming_eq s
  rw [e]
  exact ⟨_, _, _, _, rfl⟩

/-! ### The updates of the frame -/

theorem frame_jobDue (s : State) (j : Nat) : s.Frame (s.jobDue j) [] [.gov] :=
  .ite (.refl _ _ _) ((State.Frame.refl s _ _).setGov (by decide))

theorem frame_addFlash (s : State) (w : FlashJob) : s.Frame (s.addFlash w) [] [.gov] := by
  have queued : s.Frame { s with gov.flash := s.gov.flash ++ [w], gov.flashDue := s.gov.flashDue ++ [s.now] } [] [.gov] :=
    (State.Frame.refl s _ _).setGov (by decide)
  exact queued.trans (frame_jobDue _ _)

theorem frame_queueTable (s : State) : s.Frame s.queueTable [] [.cmp, .gov] := by
  have kind : s.Frame { s with cmp.saveDue := some s.cmp.kind } [] [.cmp, .gov] := (State.Frame.refl s _ _).setCmp (by decide) rfl rfl
  have added (u : State) : u.Frame (u.addFlash .calibration) [] [.cmp, .gov] := (frame_addFlash u _).mono (List.Subset.refl _) (by decide)
  exact .ite (kind.trans (added _)) (kind.trans (.ite (.refl _ _ _) (added _)))

def slideRegs : List Nat := [A.CMP_TBL_STAT, A.CMP_TBL_ID]
def slideParts : List Part := [.cmp, .gov]

theorem frame_startRebuild (s : State) : s.Frame s.startRebuild slideRegs slideParts := by
  unfold State.startRebuild
  refine .ite ?_ (.refl _ _ _)
  exact ((State.Frame.refl s slideRegs slideParts).thenWr F.CMP_TBL_STAT.STATE 2 (by decide)).setCmp (by decide) rfl rfl

theorem frame_buildBounds (s : State) : s.Frame s.buildBounds slideRegs slideParts := (State.Frame.refl s _ _).setGov (by decide)

/-- The copies have exchanged their roles. -/
def State.exchangeCopies (s : State) : State :=
  let s := ((s.wr F.CMP_TBL_STAT.STATE 0).wr F.CMP_TBL_STAT.SLIDE_POS 0).wr F.CMP_TBL_STAT.ACTIVE_COPY (1 - s.activeCopy)
  { s.wr F.CMP_TBL_ID.TABLE_ID s.cmp.next.id with cmp.base := s.cmp.next }

theorem endSlide_eq (s : State) : s.endSlide =
    (if s.exchangeCopies.cmp.kind = .ageing then s.exchangeCopies else s.exchangeCopies.queueTable).buildBounds.startRebuild := rfl

theorem frame_exchangeCopies (s : State) : s.Frame s.exchangeCopies slideRegs slideParts :=
  ((((((State.Frame.refl s slideRegs slideParts).thenWr F.CMP_TBL_STAT.STATE 0 (by decide)).thenWr F.CMP_TBL_STAT.SLIDE_POS 0
    (by decide)).thenWr F.CMP_TBL_STAT.ACTIVE_COPY _ (by decide))).thenWr F.CMP_TBL_ID.TABLE_ID _ (by decide)).setCmp (by decide) rfl rfl

theorem frame_endSlide (s : State) : s.Frame s.endSlide slideRegs slideParts := by
  have copies := frame_exchangeCopies s
  rw [endSlide_eq]
  exact ((State.Frame.ite copies (copies.trans ((frame_queueTable _).mono (List.nil_subset _) (List.Subset.refl _)))).trans
    (frame_buildBounds _)).trans (frame_startRebuild _)

theorem frame_slideFrame (s : State) : s.Frame s.slideFrame slideRegs slideParts := by
  unfold State.slideFrame
  exact .ite (.ite ((State.Frame.refl s _ _).thenWr _ _ (by decide)) (frame_endSlide s)) (.refl _ _ _)

def factorRegs : List Nat := (List.range 4).flatMap (fun q => (List.range 3).map (A.CMP_AGE q))

theorem frame_stepFactors (s : State) : s.Frame s.stepFactors factorRegs [] := by
  refine .foldl (fun u i hi => (State.Frame.refl u _ _).thenWr (F.CMP_AGE.FACTOR (i / 3) (i % 3)) _ ?_) s
  have hi := List.mem_range.mp hi
  exact List.mem_flatMap.mpr ⟨i / 3, List.mem_range.mpr (by omega), List.mem_map_of_mem (List.mem_range.mpr (by omega))⟩

theorem frame_stressFrame (s : State) : s.Frame s.stressFrame [] [.cmp, .freeNo] := by
  unfold State.stressFrame
  dsimp only
  refine .ite ?_ ?_
  · exact (State.Frame.refl s _ _).setCmp (by decide) rfl rfl
  · exact ((State.Frame.refl s [] [.cmp, .freeNo]).setFreeNo (by decide)).setCmp (by decide) rfl rfl

/-- The registers that hold converter corrections (R414). -/
def correctionRegs : List Nat :=
  (List.range 4).flatMap (fun q => (List.range 48).map (A.TUN_ADC q) ++ [A.TUN_RAMP q 0, A.TUN_RAMP q 1]) ++ dramRegs

theorem frameIn_setCorrection (s : State) (i : Nat) (c : Correction) :
    s.FrameIn inFrameStart (s.setCorrection i c) correctionRegs (.mem :: dramParts) := by
  unfold State.setCorrection
  split
  next adc =>
    have reg : A.TUN_ADC (i / 48) (i % 48) ∈ correctionRegs := List.mem_append_left _ (List.mem_flatMap.mpr
      ⟨i / 48, List.mem_range.mpr (by omega), List.mem_append_left _ (List.mem_map_of_mem (List.mem_range.mpr (by omega)))⟩)
    exact ((State.Frame.refl s _ []).thenSetReg _ _ reg).inside.mono (List.Subset.refl _) (List.nil_subset _)
  next =>
    split
    next output =>
      have touched := frame_touchDram s (outputAddr i)
      generalize s.touchDram (outputAddr i) = u at touched ⊢
      have written : u.FrameIn inFrameStart (u.writeLE (outputAddr i) 4 (corrWord c)) [] [.mem] :=
        frameIn_writeLE u _ (fun j hj => inTables_false (by unfold outputAddr; omega))
          (fun j hj => Or.inr (Or.inl (by unfold outputAddr; omega)))
      exact (touched.inside.mono (by decide) (by decide)).trans (written.mono (List.nil_subset _) (by decide))
    next =>
      split
      next ramp =>
        have reg : A.TUN_RAMP ((i - 6336) / 2) (i % 2) ∈ correctionRegs := by
          refine List.mem_append_left _ (List.mem_flatMap.mpr ⟨(i - 6336) / 2, List.mem_range.mpr (by omega), List.mem_append_right _ ?_⟩)
          rcases Nat.mod_two_eq_zero_or_one i with e | e <;> rw [e] <;> simp
        exact ((State.Frame.refl s _ []).thenSetReg _ _ reg).inside.mono (List.Subset.refl _) (List.nil_subset _)
      next => exact .refl _ _ _ _

theorem frameIn_setCorrections (s : State) (l : Corrections) : s.FrameIn inFrameStart (s.setCorrections l) correctionRegs (.mem :: dramParts) :=
  .foldl (fun u e _ => frameIn_setCorrection u e.1 e.2) s

def tuneParts : List Part := [.tun, .mem] ++ dramParts

theorem frame_slideTo (s : State) (new : Corrections) : s.Frame (s.slideTo new) [] [.tun] :=
  .ite (.refl _ _ _) (.ite ((State.Frame.refl s _ _).setTun (by decide)) ((State.Frame.refl s _ _).setTun (by decide)))

theorem frame_tuneSlideEnd (s : State) : s.Frame s.tuneSlideEnd [] [.tun] := by
  unfold State.tuneSlideEnd
  split
  · refine .ite (.refl _ _ _) ?_
    split
    · exact (State.Frame.refl s _ _).setTun (by decide)
    · exact State.Frame.trans ((State.Frame.refl s _ _).setTun (by decide)) (frame_slideTo _ _)
  · exact .refl _ _ _

/-- The ADC corrections that waited are taken, and a slide may end. -/
def State.takeAdcs (s : State) : State := ({ s.setCorrections s.tun.adcNext with tun.adcNext := [] } : State).tuneSlideEnd

/-- The next frame of a slide of corrections. -/
def State.slideOn (s : State) (sl : TuneSlide) : State :=
  { s.setCorrections ((sl.frame (sl.j + 1)).filter (fun e => Nat.ble 192 e.1)) with
    tun.adcNext := (sl.frame (sl.j + 1)).filter (fun e => Nat.blt e.1 192), tun.slide := some { sl with j := sl.j + 1 } }

theorem frameIn_takeAdcs (s : State) : s.FrameIn inFrameStart s.takeAdcs correctionRegs tuneParts := by
  have set := frameIn_setCorrections s s.tun.adcNext
  unfold State.takeAdcs
  generalize s.setCorrections s.tun.adcNext = u at set ⊢
  have emptied : u.Frame { u with tun.adcNext := [] } [] [.tun] := (State.Frame.refl u _ _).setTun (by decide)
  exact (set.mono (List.Subset.refl _) (by decide)).trans ((emptied.trans (frame_tuneSlideEnd _)).inside.mono (List.nil_subset _) (by decide))

theorem frameIn_slideOn (s : State) (sl : TuneSlide) : s.FrameIn inFrameStart (s.slideOn sl) correctionRegs tuneParts := by
  have set := frameIn_setCorrections s ((sl.frame (sl.j + 1)).filter (fun e => Nat.ble 192 e.1))
  unfold State.slideOn
  generalize s.setCorrections ((sl.frame (sl.j + 1)).filter (fun e => Nat.ble 192 e.1)) = u at set ⊢
  have moved : u.Frame { u with
    tun.adcNext := (sl.frame (sl.j + 1)).filter (fun e => Nat.blt e.1 192), tun.slide := some { sl with j := sl.j + 1 } } [] [.tun] :=
    (State.Frame.refl u _ _).setTun (by decide)
  exact (set.mono (List.Subset.refl _) (by decide)).trans (moved.inside.mono (List.nil_subset _) (by decide))

theorem frameIn_tuneSlideFrame (s : State) : s.FrameIn inFrameStart s.tuneSlideFrame correctionRegs tuneParts := by
  have taken := frameIn_takeAdcs s
  unfold State.tuneSlideFrame
  dsimp only
  split
  · exact taken
  · exact taken.trans (frameIn_slideOn _ _)

theorem frame_framePlanes (s : State) : s.Frame s.framePlanes [] [.pix, .flt] := by
  have planes : s.Frame { s with pix.planes := planesShown s.frameRegs s.pix.fallback } [] [.pix, .flt] := (State.Frame.refl s _ _).setPix (by decide)
  exact planes.trans (.foldl (fun u n _ => .ite (.refl _ _ _) ((State.Frame.refl u _ _).thenReport _ _ _ _ (by decide))) _)

theorem pix_framePlanes (s : State) : ∃ l, s.framePlanes.pix = { s.pix with planes := l } := by
  refine ⟨planesShown s.frameRegs s.pix.fallback, ?_⟩
  have reports (u : State) (l : List Nat) (f : Nat → Bool) :
      (l.foldl (fun s n => if f n then s else s.report 0x46 0 0 0) u).pix = u.pix :=
    (State.Frame.foldl (l := []) (ps := [.flt]) (fun v n _ => .ite (.refl _ _ _) ((State.Frame.refl v _ _).thenReport _ _ _ _ (by decide))) u).parts
      .pix (by decide)
  exact reports _ _ _

def planRegs : List Nat := (List.range 4).map A.SNS_QSTAT

/-- The requests and the quadrant's sensing after its plan. -/
def State.setPlan (s : State) (requests : List SenseReq) (q : Nat) (x : SnsQuad) : State :=
  ({ s with sns.requests := requests } : State).setSq q x

theorem frame_setPlan (s : State) (requests : List SenseReq) (q : Nat) (x : SnsQuad) : s.Frame (s.setPlan requests q x) [] [.sns] :=
  (State.Frame.refl s _ _).setSns (by decide) rfl

theorem planQuad_eq (s : State) (period blank : Nat) (q : Quad) : ∃ requests x mandatory burst, State.planQuad period blank q s =
    if !s.sensing q then s.setSq q.val { s.sq q.val with plan := [], left := (s.sq q.val).plan ++ (s.sq q.val).left }
    else ((s.setPlan requests q.val x).wrB (F.SNS_QSTAT.MANDATORY q.val) mandatory).wrB (F.SNS_QSTAT.BURST q.val) burst := ⟨_, _, _, _, rfl⟩

theorem frame_planQuad (s : State) (period blank : Nat) (q : Quad) : s.Frame (State.planQuad period blank q s) planRegs [.sns] := by
  have reg : A.SNS_QSTAT q.val ∈ planRegs := List.mem_map_of_mem (List.mem_range.mpr q.isLt)
  obtain ⟨requests, x, mandatory, burst, e⟩ := planQuad_eq s period blank q
  rw [e]
  split
  · exact (State.Frame.refl s planRegs [.sns]).setSns (by decide) rfl
  · exact (((frame_setPlan s requests q.val x).mono (List.nil_subset _) (List.Subset.refl _)).thenWrB (F.SNS_QSTAT.MANDATORY q.val) mandatory
      reg).thenWrB (F.SNS_QSTAT.BURST q.val) burst reg

theorem frame_planFrame (s : State) (period blank : Nat) : s.Frame (s.planFrame period blank) planRegs [.sns] := by
  have planned : s.Frame (forQ (State.planQuad period blank) s) planRegs [.sns] := .forQ (fun q u => frame_planQuad u period blank q) s
  unfold State.planFrame
  generalize forQ (State.planQuad period blank) s = u at planned ⊢
  exact planned.setSns (by decide) rfl

end Sys2Proof.Machine

/-! # A scan-out frame start (settles O12)

The frame shown, with what comes before and after it in one command, and the stop of the scan-out in an entry, assembled from the parts
(R51, R63, R140, R324). -/

namespace Sys2Proof.Machine

/-! ### The frame's own updates -/

/-- The slides, the factors, the stress group and the ramps of the frame, its planes, its plan and its phase. -/
def State.slides (s : State) : State := s.slideFrame.stepFactors.stressFrame.tuneSlideFrame
def State.planesAndPlan (s : State) : State :=
  (s.sendRamps.framePlanes.planFrame s.sendRamps.framePlanes.scn.period s.sendRamps.framePlanes.scn.blank)
def State.showPhase (s : State) (phase : Nat) : State := s.wr F.HYB_STAT.PHASE phase

/-- The lines fetched in the lead of the frame are its own, and the next decision is open. -/
def State.openLines (s : State) : State :=
  { s with
    scn.line := [1023, 1023, 1023, 1023], scn.fetched := s.scn.ahead, scn.lineBad := s.scn.aheadBad
    scn.ahead := [0, 0, 0, 0], scn.aheadBad := [], pix.decision := .none }

theorem frameUpdates_eq (s : State) : ∃ phase, s.frameUpdates = (s.slides.planesAndPlan.showPhase phase).openLines := ⟨_, rfl⟩

def updateRegs : List Nat := slideRegs ++ factorRegs ++ correctionRegs ++ planRegs ++ [A.HYB_STAT]
def updateParts : List Part := [.cmp, .gov, .pix, .flt, .sns, .scn] ++ tuneParts

theorem frameIn_slides (s : State) : s.FrameIn inFrameStart s.slides updateRegs ([.cmp, .gov] ++ tuneParts) := by
  have tables := (frame_slideFrame s).mono (l' := updateRegs) (ps' := [.cmp, .gov, .freeNo]) (by decide +kernel) (by decide)
  have factors := (frame_stepFactors s.slideFrame).mono (l' := updateRegs) (ps' := [.cmp, .gov, .freeNo]) (by decide +kernel) (by decide)
  have stress := (frame_stressFrame s.slideFrame.stepFactors).mono (l' := updateRegs) (ps' := [.cmp, .gov, .freeNo]) (by decide) (by decide)
  exact (((tables.trans factors).trans stress).inside.mono (List.Subset.refl _) (by decide)).trans
    ((frameIn_tuneSlideFrame _).mono (by decide +kernel) (by decide))

theorem scn_slides (s : State) : s.slides.scn = s.scn := (frameIn_slides s).frame.parts .scn (by decide)
theorem pix_slides (s : State) : s.slides.pix = s.pix := (frameIn_slides s).frame.parts .pix (by decide)

theorem frame_sendRamps (s : State) : s.Frame s.sendRamps [] [.scn] := (State.Frame.refl s _ _).setScn (by decide)

theorem scn_sendRamps (s : State) : ∃ l, s.sendRamps.scn = { s.scn with rampSent := l } := ⟨_, rfl⟩

theorem frame_planesAndPlan (s : State) : s.Frame s.planesAndPlan planRegs [.pix, .flt, .sns, .scn] :=
  (((frame_sendRamps s).mono (List.nil_subset _) (by decide)).trans ((frame_framePlanes _).mono (List.nil_subset _) (by decide))).trans
    ((frame_planFrame _ _ _).mono (List.Subset.refl _) (by decide))

theorem scn_planesAndPlan (s : State) : ∃ l, s.planesAndPlan.scn = { s.scn with rampSent := l } := by
  obtain ⟨l, ramps⟩ := scn_sendRamps s
  have planes : s.sendRamps.framePlanes.scn = s.sendRamps.scn := (frame_framePlanes _).parts .scn (by decide)
  have plan : s.planesAndPlan.scn = s.sendRamps.framePlanes.scn := (frame_planFrame _ _ _).parts .scn (by decide)
  exact ⟨l, plan.trans (planes.trans ramps)⟩

theorem pix_planesAndPlan (s : State) : ∃ l, s.planesAndPlan.pix = { s.pix with planes := l } := by
  obtain ⟨l, planes⟩ := pix_framePlanes s.sendRamps
  have plan : s.planesAndPlan.pix = s.sendRamps.framePlanes.pix := (frame_planFrame _ _ _).parts .pix (by decide)
  exact ⟨l, plan.trans planes⟩

theorem frame_showPhase (s : State) (phase : Nat) : s.Frame (s.showPhase phase) updateRegs [] :=
  (State.Frame.refl s updateRegs []).thenWr F.HYB_STAT.PHASE phase (by decide +kernel)

theorem frame_openLines (s : State) : s.Frame s.openLines [] [.scn, .pix] := by
  have lines : s.Frame { s with scn := { s.scn with
    line := [1023, 1023, 1023, 1023], fetched := s.scn.ahead, lineBad := s.scn.aheadBad, ahead := [0, 0, 0, 0], aheadBad := [] } }
    [] [.scn, .pix] := (State.Frame.refl s _ _).setScn (by decide)
  exact lines.setPix (x := { s.pix with decision := .none }) (by decide)

theorem frameIn_frameUpdates (s : State) : s.FrameIn inFrameStart s.frameUpdates updateRegs updateParts := by
  obtain ⟨phase, e⟩ := frameUpdates_eq s
  rw [e]
  have plan := (frame_planesAndPlan s.slides).inside (A := inFrameStart)
  exact ((((frameIn_slides s).mono (List.Subset.refl _) (by decide)).trans (plan.mono (by decide +kernel) (by decide))).trans
    ((frame_showPhase _ phase).inside.mono (List.Subset.refl _) (List.nil_subset _))).trans
    ((frame_openLines _).inside.mono (List.nil_subset _) (by decide))

theorem scn_frameUpdates (s : State) : ∃ l, s.frameUpdates.scn = { s.scn with
    rampSent := l, line := [1023, 1023, 1023, 1023], fetched := s.scn.ahead, lineBad := s.scn.aheadBad, ahead := [0, 0, 0, 0], aheadBad := [] } := by
  obtain ⟨phase, e⟩ := frameUpdates_eq s
  obtain ⟨l, plan⟩ := scn_planesAndPlan s.slides
  have same : (s.slides.planesAndPlan.showPhase phase).scn = { s.scn with rampSent := l } := plan.trans (by rw [scn_slides])
  exact ⟨l, by rw [e, State.openLines, same]⟩

theorem pix_frameUpdates (s : State) : ∃ l, s.frameUpdates.pix = { s.pix with planes := l, decision := .none } := by
  obtain ⟨phase, e⟩ := frameUpdates_eq s
  obtain ⟨l, plan⟩ := pix_planesAndPlan s.slides
  have same : (s.slides.planesAndPlan.showPhase phase).pix = { s.pix with planes := l } := plan.trans (by rw [pix_slides])
  exact ⟨l, by rw [e, State.openLines, same]⟩

/-! ### What comes after the decision has taken effect -/

/-- The light, the timing and the updates of the frame. -/
def State.afterShow (s : State) : State := s.frameLight.frameTiming.frameUpdates

def afterRegs : List Nat := lightRegs ++ timingRegs ++ updateRegs
def afterParts : List Part := [.pwr, .sys] ++ updateParts

section
variable {s : State} (h : s.glassFits)
include h

theorem frameIn_afterShow : s.FrameIn inFrameStart s.afterShow afterRegs afterParts := by
  have light := (frame_frameLight h).inside (A := inFrameStart)
  have timing := (frame_frameTiming s.frameLight).inside (A := inFrameStart)
  exact ((light.mono (by decide +kernel) (by decide)).trans (timing.mono (by decide +kernel) (by decide))).trans
    ((frameIn_frameUpdates _).mono (by decide +kernel) (by decide))

theorem scn_afterShow : ∃ period blank emission sweeps ramps, s.afterShow.scn = { s.scn with
    period := period, blank := blank, emission := emission, log2S := sweeps, rampSent := ramps, line := [1023, 1023, 1023, 1023]
    fetched := s.scn.ahead, lineBad := s.scn.aheadBad, ahead := [0, 0, 0, 0], aheadBad := [] } := by
  have light : s.frameLight.scn = s.scn := (frame_frameLight h).parts .scn (by decide)
  obtain ⟨period, blank, emission, sweeps, timing⟩ := scn_frameTiming s.frameLight
  obtain ⟨ramps, updates⟩ := scn_frameUpdates s.frameLight.frameTiming
  exact ⟨period, blank, emission, sweeps, ramps, updates.trans (by rw [timing, light])⟩

theorem pix_afterShow : ∃ l, s.afterShow.pix = { s.pix with planes := l, decision := .none } := by
  have light : s.frameLight.pix = s.pix := (frame_frameLight h).parts .pix (by decide)
  have timing : s.frameLight.frameTiming.pix = s.frameLight.pix := (frame_frameTiming _).parts .pix (by decide)
  obtain ⟨l, updates⟩ := pix_frameUpdates s.frameLight.frameTiming
  exact ⟨l, updates.trans (by rw [timing, light])⟩

theorem frameRegs_afterShow : s.afterShow.frameRegs = s.frameRegs := (frameIn_afterShow h).frame.parts .frameRegs (by decide)

theorem rd_afterShow {f : Fld} (hf : f.addr ∉ afterRegs) (h1 : f.addr ≠ A.SAF_STAT) (h2 : f.addr ≠ A.SYS_START) :
    s.afterShow.rd f = s.rd f := (frameIn_afterShow h).frame.rd hf h1 h2
end

/-! ### What comes before it -/

/-- The frame before ends, and the events of the coming frame take effect. -/
def State.beforeShow (s : State) (samples : List (List Nat)) (saturated : Fin 16) : State := (s.endFrame samples saturated).applyComing

def beforeRegs : List Nat := endRegs ++ dueRegs
def beforeParts : List Part := endParts ++ (.scn :: dueParts)

section
variable (s : State) (samples : List (List Nat)) (saturated : Fin 16)

theorem frameIn_beforeShow : s.FrameIn inFrameStart (s.beforeShow samples saturated) beforeRegs beforeParts := by
  have coming := frameIn_applySet (s.endFrame samples saturated) (s.endFrame samples saturated).laterDue
    ((s.endFrame samples saturated).scn.due.filter (fun d => !d.late))
  rw [← applyComing_eq] at coming
  exact ((frameIn_endFrame s samples saturated).mono (by decide) (by decide)).trans (coming.mono (by decide) (by decide))

theorem scn_beforeShow : ∃ b, (s.beforeShow samples saturated).scn = { s.scn with prevBlank := b, due := s.laterDue } := by
  obtain ⟨b, scn⟩ := scn_endFrame s samples saturated
  have later : (s.endFrame samples saturated).laterDue = s.laterDue := by rw [State.laterDue, State.laterDue, scn]
  exact ⟨b, by rw [State.beforeShow, applyComing_eq, scn_applySet, scn, later]⟩

theorem pix_beforeShow : (s.beforeShow samples saturated).pix = s.pix := (frameIn_beforeShow s samples saturated).frame.parts .pix (by decide)

theorem frameRegs_beforeShow : (s.beforeShow samples saturated).frameRegs = s.comingRegs := by
  obtain ⟨b, scn⟩ := scn_endFrame s samples saturated
  have regs : (s.endFrame samples saturated).frameRegs = s.frameRegs := (frameIn_endFrame s samples saturated).frame.parts .frameRegs (by decide)
  rw [State.beforeShow, frameRegs_applyComing, State.comingRegs, State.comingRegs, State.regsAfter, State.regsAfter, scn, regs]

theorem scheduled_beforeShow : (s.beforeShow samples saturated).scheduled = s.scheduled := by
  obtain ⟨b, scn⟩ := scn_beforeShow s samples saturated
  have frame := (frameIn_beforeShow s samples saturated).frame
  have now : (s.beforeShow samples saturated).now = s.now := frame.parts .now (by decide)
  have zlp : (s.beforeShow samples saturated).zlp = s.zlp := frame.parts .zlp (by decide)
  simp only [State.scheduled, State.period, State.lt, scn, now, zlp]

theorem shownOn_beforeShow : (s.beforeShow samples saturated).shownOn = s.shownOn := by
  obtain ⟨b, scn⟩ := scn_beforeShow s samples saturated
  rw [State.shownOn, State.shownOn, scn, pix_beforeShow]

theorem buf_beforeShow (k : Nat) : (s.beforeShow samples saturated).buf k = s.buf k := by
  rw [State.buf, State.buf, pix_beforeShow]
end

/-! ### The decision that the start finds or makes -/

/-- The state in which a frame start finds its decision: one not made yet is made first, but in an entry. -/
def State.decided (s : State) (n : Nat) : State :=
  if s.pwr.trans ≠ .entry ∧ s.pix.decision = .none then (s.advance n).decideFrame else s.advance n

theorem decided_entry {s : State} {n : Nat} (h : s.pwr.trans = .entry) : s.decided n = s.advance n := if_neg fun c => c.1 h

theorem bufs_decideFrame (s : State) : s.decideFrame.pix.bufs = s.pix.bufs := by
  have shown (k : Nat) : (s.decideShow k).pix.bufs = s.pix.bufs := by
    unfold State.decideShow
    split <;> rfl
  have held : s.holdOrFall.pix.bufs = s.pix.bufs := by
    unfold State.holdOrFall
    split <;> rfl
  unfold State.decideFrame
  split <;> split
  · exact shown _
  · rfl
  · exact shown _
  · exact held

theorem scn_decideFrame (s : State) : ∃ a b, s.decideFrame.scn = { s.scn with ahead := a, aheadBad := b } := by
  have shown (k : Nat) : ∃ a b, (s.decideShow k).scn = { s.scn with ahead := a, aheadBad := b } := by
    unfold State.decideShow
    split
    · exact ⟨_, _, rfl⟩
    · exact ⟨_, _, rfl⟩
  have held : s.holdOrFall.scn = s.scn := (frame_holdOrFall s).parts .scn (by decide)
  unfold State.decideFrame
  split <;> split
  · exact shown _
  · exact ⟨_, _, rfl⟩
  · exact shown _
  · exact ⟨_, _, held⟩

def decidedRegs : List Nat := [A.PIX_CNT_FRAME]
def decidedParts : List Part := [.pix, .scn, .flt]

section
variable (s : State) (n : Nat)

theorem frame_decided : (s.advance n).Frame (s.decided n) decidedRegs decidedParts := by
  unfold State.decided
  split
  · exact frame_decideFrame _
  · exact .refl _ _ _

theorem bufs_decided : (s.decided n).pix.bufs = s.pix.bufs := by
  unfold State.decided
  split
  · exact bufs_decideFrame _
  · rfl

theorem buf_decided (k : Nat) : (s.decided n).buf k = s.buf k := by rw [State.buf, State.buf, bufs_decided]

theorem scn_decided : ∃ a b, (s.decided n).scn = { s.scn with ahead := a, aheadBad := b } := by
  unfold State.decided
  split
  · exact scn_decideFrame (s.advance n)
  · exact ⟨_, _, rfl⟩

theorem comingRegs_decided : (s.decided n).comingRegs = s.comingRegs := by
  obtain ⟨a, b, scn⟩ := scn_decided s n
  have regs : (s.decided n).frameRegs = s.frameRegs := (frame_decided s n).parts .frameRegs (by decide)
  rw [State.comingRegs, State.comingRegs, State.regsAfter, State.regsAfter, scn, regs]

theorem laterDue_decided : (s.decided n).laterDue = s.laterDue := by
  obtain ⟨a, b, scn⟩ := scn_decided s n
  rw [State.laterDue, State.laterDue, scn]
end

/-! ### A frame is shown -/

/-- The state after a frame start with decision `d`, apart from the wires. -/
def State.showFrame (d : State) (samples : List (List Nat)) (saturated : Fin 16) : State := (d.beforeShow samples saturated).present.afterShow

def showRegs : List Nat := decidedRegs ++ beforeRegs ++ presentRegs ++ afterRegs
def frameStartParts : List Part :=
  [.frameRegs, .mem, .pix, .cmp, .hyb, .scn, .sns, .gov, .pwr, .saf, .flt, .tun, .sys] ++ dramParts

section
variable {d : State} (samples : List (List Nat)) (saturated : Fin 16)

theorem scn_present_before : ∃ b start, (d.beforeShow samples saturated).present.scn =
    { d.scn with prevBlank := b, due := d.laterDue, start := start, anyFrame := true } := by
  obtain ⟨b, before⟩ := scn_beforeShow d samples saturated
  obtain ⟨start, shown⟩ := scn_present (d.beforeShow samples saturated)
  exact ⟨b, start, by rw [shown, before]⟩

variable (h : d.glassFits)
include h

theorem glassFits_present : (d.beforeShow samples saturated).present.glassFits := by
  have frame := ((frameIn_beforeShow d samples saturated).frame.mono (l' := beforeRegs ++ presentRegs) (ps' := beforeParts ++ presentParts)
    (by simp) (by simp)).trans ((frame_present _).mono (by simp) (by simp))
  obtain ⟨b, start, scn⟩ := scn_present_before (d := d) samples saturated
  exact h.kept frame (by rw [scn]) (by decide)

theorem frameIn_showFrame : d.FrameIn inFrameStart (d.showFrame samples saturated) showRegs frameStartParts := by
  have shown := (frame_present (d.beforeShow samples saturated)).inside (A := inFrameStart)
  exact (((frameIn_beforeShow d samples saturated).mono (by decide +kernel) (by decide)).trans
    (shown.mono (by decide +kernel) (by decide))).trans ((frameIn_afterShow (glassFits_present samples saturated h)).mono (by decide +kernel) (by decide))

/-- The lines of the frame that starts, and the events that wait on. -/
theorem lines_showFrame : (d.showFrame samples saturated).scn.line = [1023, 1023, 1023, 1023] ∧
    (d.showFrame samples saturated).scn.anyFrame = true ∧ (d.showFrame samples saturated).scn.fetched = d.scn.ahead ∧
    (d.showFrame samples saturated).scn.lineBad = d.scn.aheadBad ∧ (d.showFrame samples saturated).scn.ahead = [0, 0, 0, 0] ∧
    (d.showFrame samples saturated).scn.due = d.laterDue := by
  obtain ⟨_, _, scn⟩ := scn_present_before (d := d) samples saturated
  obtain ⟨_, _, _, _, _, after⟩ := scn_afterShow (glassFits_present samples saturated h)
  rw [State.showFrame, after, scn]
  exact ⟨rfl, rfl, rfl, rfl, rfl, rfl⟩

theorem start_showFrame : (d.showFrame samples saturated).scn.start = (d.beforeShow samples saturated).present.scn.start := by
  obtain ⟨_, _, _, _, _, after⟩ := scn_afterShow (glassFits_present samples saturated h)
  rw [State.showFrame, after]

theorem pix_showFrame : ∃ l, (d.showFrame samples saturated).pix =
    { (d.beforeShow samples saturated).present.pix with planes := l, decision := .none } := pix_afterShow (glassFits_present samples saturated h)

theorem frameRegs_showFrame : (d.showFrame samples saturated).frameRegs = d.comingRegs :=
  (frameRegs_afterShow (glassFits_present samples saturated h)).trans
    (((frame_present _).parts .frameRegs (by decide)).trans (frameRegs_beforeShow d samples saturated))

theorem rd_showFrame {f : Fld} (hf : f.addr ∉ afterRegs) (h1 : f.addr ≠ A.SAF_STAT) (h2 : f.addr ≠ A.SYS_START) :
    (d.showFrame samples saturated).rd f = (d.beforeShow samples saturated).present.rd f :=
  rd_afterShow (glassFits_present samples saturated h) hf h1 h2

/-- A decided buffer is shown at its own time (R51, R140). -/
theorem shown_showFrame {k : Nat} (hk : d.pix.decision = .show k) :
    (d.showFrame samples saturated).pix.fallback = false ∧ (d.showFrame samples saturated).pix.holding = false ∧
    (d.showFrame samples saturated).pix.holds = 0 ∧ (d.showFrame samples saturated).pix.shownFor = 0 ∧
    (d.showFrame samples saturated).scn.start = (d.buf k).pt ∧
    (d.showFrame samples saturated).rd F.PIX_FRAME_NO.SHOWN = (d.buf k).no % 65536 ∧
    (d.showFrame samples saturated).rd F.SCN_STAT.LOCKED = (if near (d.buf k).pt d.scheduled then 1 else 0) ∧
    (k < d.pix.bufs.length → ((d.showFrame samples saturated).buf k).st = .showing) ∧
    ∀ j, j ≠ k → ((d.showFrame samples saturated).buf j).st ≠ .showing := by
  have before : (d.beforeShow samples saturated).pix = d.pix := pix_beforeShow d samples saturated
  have shown : (d.beforeShow samples saturated).present = (d.beforeShow samples saturated).presentBuffer k := present_show (by rw [before]; exact hk)
  obtain ⟨l, pix⟩ := pix_showFrame samples saturated h
  have start := start_showFrame samples saturated h
  have number := rd_showFrame samples saturated h (f := F.PIX_FRAME_NO.SHOWN) (by decide +kernel) (by decide) (by decide)
  have locked := rd_showFrame samples saturated h (f := F.SCN_STAT.LOCKED) (by decide +kernel) (by decide) (by decide)
  have bufs (j : Nat) : (d.showFrame samples saturated).buf j = ((d.beforeShow samples saturated).presentBuffer k).buf j := by
    rw [State.buf, State.buf, pix, shown]
  rw [shown] at pix start number locked
  obtain ⟨fallback, holding, holds, shownFor⟩ := pix_presentBuffer (d.beforeShow samples saturated) k
  rw [pix, start, number, locked, start_presentBuffer, shown_presentBuffer, locked_presentBuffer, buf_beforeShow, scheduled_beforeShow, bufs]
  refine ⟨fallback, holding, holds, shownFor, rfl, rfl, rfl, fun hb => ?_, fun j hj => ?_⟩
  · exact showing_presentBuffer _ k (by rw [before]; exact hb)
  · rw [bufs]
    exact others_presentBuffer _ k hj

/-- A hold shows the frame before once more. -/
theorem held_showFrame (hd : d.pix.decision = .hold) :
    (d.showFrame samples saturated).pix.holding = true ∧ (d.showFrame samples saturated).pix.bufs = d.pix.bufs ∧
    (d.showFrame samples saturated).pix.shownFor = d.shownOn ∧ (d.showFrame samples saturated).scn.start = d.scheduled := by
  have before : (d.beforeShow samples saturated).pix = d.pix := pix_beforeShow d samples saturated
  have shown : (d.beforeShow samples saturated).present = (d.beforeShow samples saturated).presentHold := present_hold (by rw [before]; exact hd)
  obtain ⟨l, pix⟩ := pix_showFrame samples saturated h
  rw [start_showFrame samples saturated h, pix, shown, ← shownOn_beforeShow d samples saturated, ← scheduled_beforeShow d samples saturated,
    ← before]
  exact ⟨rfl, rfl, rfl, rfl⟩

/-- The fallback image is shown, without a hold. -/
theorem fallen_showFrame (hd : d.pix.decision = .fallback) :
    (d.showFrame samples saturated).pix.fallback = true ∧ (d.showFrame samples saturated).pix.holding = false ∧
    (d.showFrame samples saturated).pix.bufs = d.pix.bufs ∧ (d.showFrame samples saturated).pix.shownFor = d.shownOn ∧
    (d.showFrame samples saturated).scn.start = d.scheduled := by
  have before : (d.beforeShow samples saturated).pix = d.pix := pix_beforeShow d samples saturated
  have shown : (d.beforeShow samples saturated).present = (d.beforeShow samples saturated).presentFallback :=
    present_fallback (by rw [before]; exact hd)
  obtain ⟨l, pix⟩ := pix_showFrame samples saturated h
  rw [start_showFrame samples saturated h, pix, shown, ← shownOn_beforeShow d samples saturated, ← scheduled_beforeShow d samples saturated,
    ← before]
  exact ⟨rfl, rfl, rfl, rfl, rfl⟩
end

/-! ### The light while events take effect -/

theorem pwr_wakeRank (s : State) (r : Nat) : (s.wakeRank r).pwr = s.pwr := by
  unfold State.wakeRank
  dsimp only
  split <;> rfl

theorem pwr_activate (s : State) (bank row : Nat) : (s.activate bank row).pwr = s.pwr := by
  unfold State.activate
  dsimp only
  split
  · rfl
  · split
    · rfl
    · split <;> rfl

theorem pwr_touchDram (s : State) (a : Nat) : (s.touchDram a).pwr = s.pwr := by
  unfold State.touchDram
  dsimp only
  split
  · exact pwr_wakeRank s _
  · exact (pwr_activate _ _ _).trans (pwr_wakeRank s _)

theorem pwr_putApplied (s : State) (k : Nat) (w : Table → Word) : (s.putApplied k w).pwr = s.pwr :=
  (pwr_touchDram _ _).trans (pwr_touchDram _ _)

/-- What every step of a loop leaves alone, the loop leaves alone. -/
theorem foldl_keeps {α β : Type} (p : State → β) {f : State → α → State} (hf : ∀ u x, p (f u x) = p u) (l : List α) (s : State) :
    p (l.foldl f s) = p s := by
  induction l generalizing s with
  | nil => rfl
  | cons x l ih => exact (ih _).trans (hf _ _)

theorem pwr_addCandidate (s : State) (k kind wait : Nat) : (s.addCandidate k kind wait).pwr = s.pwr := by
  unfold State.addCandidate
  dsimp only
  split
  · rfl
  · split <;> rfl

theorem pwr_judgeSweep (s : State) (wait k v1 v2 : Nat) (v2t ref : Int) : (s.judgeReading .sweep wait k v1 v2 v2t ref).pwr = s.pwr := by
  unfold State.judgeReading
  dsimp only
  split
  · rfl
  · exact pwr_addCandidate _ _ _ _

theorem pwr_judgeWaiting (s : State) (q : Nat) : (s.judgeWaiting q).pwr = s.pwr := by
  unfold State.judgeWaiting
  dsimp only
  refine foldl_keeps State.pwr (fun u x => ?_) _ _
  split
  · exact pwr_judgeSweep _ _ _ _ _ _ _
  · rfl

theorem pwr_applyDue (s : State) (e : DueEvent) : (s.applyDue e).pwr = s.pwr := by
  cases e with
  | commit vs =>
    rw [applyDue_commit]
    exact ((pwr_judgeWaiting _ _).trans ((pwr_judgeWaiting _ _).trans ((pwr_judgeWaiting _ _).trans (pwr_judgeWaiting _ _))))
  | slide => rfl
  | ladder =>
    show s.exchangeLadder.pwr = s.pwr
    unfold State.exchangeLadder
    split <;> rfl
  | defects t => exact foldl_keeps State.pwr (fun u k => pwr_putApplied u k _) _ _

theorem pwr_applyAll (s : State) : s.applyAll.pwr = s.pwr := by
  rw [applyAll_eq]
  exact foldl_keeps State.pwr (fun u (d : Due) => pwr_applyDue u d.ev) _ _

/-! ### Requests whose sensing has stopped -/

theorem sensing_stopped {s : State} (h : s.scn.running = false) (q : Quad) : s.sensing q = false := by simp [State.sensing, h]

section
variable (s : State)

theorem frame_dropStopped : s.Frame s.dropStopped [] [.sns] := by
  unfold State.dropStopped
  dsimp only
  split
  · exact (State.Frame.refl s [] [.sns]).setSns (by decide) rfl
  · exact (State.Frame.refl s [] [.sns]).setSns (by decide) rfl

theorem pwr_dropStopped : s.dropStopped.pwr = s.pwr := by
  unfold State.dropStopped
  dsimp only
  split <;> rfl

theorem requests_dropStopped : s.dropStopped.sns.requests = s.sns.requests.map (fun (r : SenseReq) =>
    if !r.dropped && !s.sensing (quadOf r.quad) then { r with dropped := true, todo := [] } else r) := by
  unfold State.dropStopped
  dsimp only
  split <;> rfl

theorem dropped_dropStopped (h : s.scn.running = false) : ∀ r ∈ s.dropStopped.sns.requests, r.dropped = true := by
  rw [requests_dropStopped]
  intro r hr
  obtain ⟨r', _, rfl⟩ := List.mem_map.mp hr
  cases hd : r'.dropped with
  | true => simpa using hd
  | false => simp [sensing_stopped h]

theorem length_dropStopped : s.dropStopped.sns.requests.length = s.sns.requests.length := by
  rw [requests_dropStopped, List.length_map]
end

/-- The first request completes. -/
def State.finishFirst (s : State) (r : SenseReq) (rest : List SenseReq) : State :=
  ({ s with sns.requests := rest } : State).wr F.SNS_REQ.DONE_SEQ (r.seq % 65536)

theorem frame_finishFirst (s : State) (r : SenseReq) (rest : List SenseReq) : s.Frame (s.finishFirst r rest) [A.SNS_REQ] [.sns] :=
  ((State.Frame.refl s [A.SNS_REQ] [.sns]).setSns (x := { s.sns with requests := rest }) (by decide) rfl).thenWr F.SNS_REQ.DONE_SEQ _ (by decide)

theorem finishRequests_done {s : State} (h : s.sns.requests = []) (n : Nat) : State.finishRequests n s = s := by
  cases n with
  | zero => rfl
  | succ n =>
    unfold State.finishRequests
    split
    next => rfl
    next e => exact absurd (h.symm.trans e) (by simp)

theorem finishRequests_dropped {s : State} {r : SenseReq} {rest : List SenseReq} (h : s.sns.requests = r :: rest) (hr : r.dropped = true)
    (n : Nat) : State.finishRequests (n + 1) s = State.finishRequests n (s.finishFirst r rest) := by
  rw [State.finishRequests]
  split
  next e => exact absurd (h.symm.trans e) (by simp)
  next r' rest' e =>
    obtain ⟨rfl, rfl⟩ := List.cons.inj (h.symm.trans e)
    exact if_pos hr

/-- Requests that were all dropped complete one after the other. -/
theorem finishRequests_all {n : Nat} {s : State} (hd : ∀ r ∈ s.sns.requests, r.dropped = true) (hn : s.sns.requests.length ≤ n) :
    s.Frame (State.finishRequests n s) [A.SNS_REQ] [.sns] ∧ (State.finishRequests n s).pwr = s.pwr ∧
    (State.finishRequests n s).sns.requests = [] := by
  induction n generalizing s with
  | zero => exact ⟨.refl _ _ _, rfl, List.length_eq_zero_iff.mp (Nat.le_zero.mp hn)⟩
  | succ n ih =>
    cases hs : s.sns.requests with
    | nil =>
      rw [finishRequests_done hs]
      exact ⟨.refl _ _ _, rfl, hs⟩
    | cons r rest =>
      rw [hs] at hd hn
      rw [finishRequests_dropped hs (hd r List.mem_cons_self)]
      obtain ⟨frame, pwr, none⟩ := ih (s := s.finishFirst r rest) (fun x hx => hd x (List.mem_cons_of_mem _ hx))
        (Nat.le_of_succ_le_succ hn)
      exact ⟨(frame_finishFirst s r rest).trans frame, pwr, none⟩

theorem settleRequests_stopped {s : State} (h : s.scn.running = false) :
    s.Frame s.settleRequests [A.SNS_REQ] [.sns] ∧ s.settleRequests.pwr = s.pwr ∧ s.settleRequests.sns.requests = [] := by
  obtain ⟨frame, pwr, none⟩ := finishRequests_all (dropped_dropStopped s h) (length_dropStopped s).le
  exact ⟨((frame_dropStopped s).mono (List.nil_subset _) (List.Subset.refl _)).trans frame, pwr.trans (pwr_dropStopped s), none⟩

/-! ### The rails go off -/

def railRegs : List Nat := [A.SYS_PRAIL_STAT]

theorem frame_switchOff (s : State) (k : Nat) : s.Frame (s.switchOff k) railRegs [.sys] :=
  ((State.Frame.refl s railRegs [.sys]).thenWr F.SYS_PRAIL_STAT.EN _ (by decide)).setSys (by decide)

theorem offBelow_keeps (n k : Nat) (s : State) : s.Frame (State.offBelow n k s) railRegs [.sys] ∧ (State.offBelow n k s).pwr = s.pwr := by
  induction n generalizing k s with
  | zero => exact ⟨(State.Frame.refl s railRegs [.sys]).setSys (by decide), rfl⟩
  | succ n ih =>
    rw [State.offBelow]
    split
    · exact ⟨(State.Frame.refl s railRegs [.sys]).setSys (by decide), rfl⟩
    · dsimp only
      split
      · exact ⟨(frame_switchOff s _).setSys (by decide), rfl⟩
      · obtain ⟨frame, pwr⟩ := ih _ (s.switchOff _)
        exact ⟨(frame_switchOff s _).trans frame, pwr⟩

theorem frame_railsOff (s : State) : s.Frame s.railsOff railRegs [.sys] := by
  have down : s.Frame { s with sys.railsUp := false } railRegs [.sys] := (State.Frame.refl s _ _).setSys (by decide)
  exact down.trans (offBelow_keeps 7 6 _).1

theorem pwr_railsOff (s : State) : s.railsOff.pwr = s.pwr := (offBelow_keeps 7 6 _).2

/-! ### The scan-out stops -/

/-- The timing and the buffers of a scan-out that has stopped. -/
def State.haltScan (s : State) (bufs : List FrameBuf) : State :=
  { s with
    pix.bufs := bufs, pix.decision := .none, pix.holding := false
    scn.running := false, scn.anyFrame := false, pwr.stopped := true, pwr.rows := [false, false, false, false] }

/-- The light is off, what waits has taken effect, and the timing stands. -/
def State.halted (s : State) : State := s.emitDrop.applyAll.haltScan (s.pix.bufs.map FrameBuf.free)

theorem stopScan_eq (s : State) : s.stopScan = s.halted.settleRequests.railsOff := rfl

def stopRegs : List Nat := dueRegs ++ [A.SNS_REQ] ++ railRegs
def stopParts : List Part := [.pix, .pwr, .scn, .sys] ++ dueParts

theorem frame_haltScan (s : State) (bufs : List FrameBuf) : s.Frame (s.haltScan bufs) [] [.pix, .pwr, .scn] :=
  (((State.Frame.refl s [] [.pix, .pwr, .scn]).setPix (x := { s.pix with bufs := bufs, decision := .none, holding := false }) (by decide)).setScn
    (x := { s.scn with running := false, anyFrame := false }) (by decide)).setPwr
    (x := { s.pwr with stopped := true, rows := [false, false, false, false] }) (by decide)

theorem frame_applyAll (s : State) : s.Frame s.applyAll dueRegs (.scn :: dueParts) := by
  rw [applyAll_eq]
  exact (frameIn_applySet s [] s.scn.due).frame

theorem frame_halted (s : State) : s.Frame s.halted stopRegs stopParts :=
  ((((frame_emitDrop s).mono (List.nil_subset _) (by decide)).trans ((frame_applyAll _).mono (by decide) (by decide))).trans
    ((frame_haltScan _ _).mono (List.nil_subset _) (by decide)))

section
variable (s : State)

theorem frame_stopScan : s.Frame s.stopScan stopRegs stopParts := by
  rw [stopScan_eq]
  exact ((frame_halted s).trans ((settleRequests_stopped rfl).1.mono (by decide) (by decide))).trans
    ((frame_railsOff _).mono (by decide) (by decide))

theorem pwr_stopScan : s.stopScan.pwr = s.halted.pwr := by
  rw [stopScan_eq, pwr_railsOff]
  exact (settleRequests_stopped rfl).2.1

theorem requests_stopScan : s.stopScan.sns.requests = [] := by
  rw [stopScan_eq]
  exact (congrArg SnsState.requests ((frame_railsOff _).parts .sns (by decide))).trans (settleRequests_stopped rfl).2.2

theorem scn_stopScan : s.stopScan.scn = { s.scn with due := [], running := false, anyFrame := false } := by
  have requests : s.halted.settleRequests.scn = s.halted.scn := (settleRequests_stopped rfl).1.parts .scn (by decide)
  have rails : s.stopScan.scn = s.halted.settleRequests.scn := by
    rw [stopScan_eq]
    exact (frame_railsOff _).parts .scn (by decide)
  have applied : s.emitDrop.applyAll.scn = { s.scn with due := [] } := by
    rw [applyAll_eq]
    exact scn_applySet _ _ _
  rw [rails, requests, State.halted, State.haltScan, applied]

theorem bufs_stopScan : s.stopScan.pix.bufs = s.pix.bufs.map FrameBuf.free := by
  have requests : s.halted.settleRequests.pix = s.halted.pix := (settleRequests_stopped rfl).1.parts .pix (by decide)
  have rails : s.stopScan.pix = s.halted.settleRequests.pix := by
    rw [stopScan_eq]
    exact (frame_railsOff _).parts .pix (by decide)
  rw [rails, requests]
  rfl

theorem frameRegs_stopScan : s.stopScan.frameRegs = s.regsAfter (fun _ => true) := by
  have requests : s.halted.settleRequests.frameRegs = s.halted.frameRegs := (settleRequests_stopped rfl).1.parts .frameRegs (by decide)
  have rails : s.stopScan.frameRegs = s.halted.settleRequests.frameRegs := by
    rw [stopScan_eq]
    exact (frame_railsOff _).parts .frameRegs (by decide)
  rw [rails, requests]
  exact frameRegs_applyAll s.emitDrop

theorem pwr_halted : s.halted.pwr = { s.emitDrop.pwr with stopped := true, rows := [false, false, false, false] } := by
  rw [State.halted, State.haltScan, pwr_applyAll]

theorem stopped_stopScan : s.stopScan.pwr.stopped = true := by rw [pwr_stopScan]; rfl

theorem trans_stopScan : s.stopScan.pwr.trans = s.pwr.trans := by rw [pwr_stopScan, pwr_halted]; rfl

theorem allDark_stopScan : s.stopScan.AllDark := by
  intro q
  have dark : ([.dark, .dark, .dark, .dark] : List Light).getD q.val .dark = .dark := by
    revert q
    decide
  rw [State.lightOf, pwr_stopScan, pwr_halted]
  exact dark
end

/-! ### The wires in an entry -/

/-- No quadrant shows light and an entry runs. -/
def State.EntryDark (s : State) : Prop := s.AllDark ∧ s.pwr.trans = .entry

theorem entryDark_driveLight {s : State} (h : s.EntryDark) (q : Quad) : (s.driveLight q).EntryDark := by
  obtain ⟨dark, entry⟩ := h
  have unwanted : s.lightWanted = false := by simp [State.lightWanted, entry]
  unfold State.driveLight
  split
  · refine ⟨fun r => ?_, entry⟩
    by_cases e : r = q
    · rw [e]
      exact (lightOf_setLight_same s q .dark).elim id id
    · rw [lightOf_setLight_other s _ e]
      exact dark r
  · rw [unwanted]
    exact ⟨dark, entry⟩

theorem EntryDark.of_pwr {s t : State} (h : s.EntryDark) (e : t.pwr = s.pwr) : t.EntryDark := by
  unfold State.EntryDark State.AllDark State.lightOf at *
  rwa [e]

theorem pwr_latchDemand (s : State) : s.latchDemand.pwr = s.pwr := by
  unfold State.latchDemand
  split
  · exact setLatch_pwr s
  · rfl

theorem pwr_autoClear (s : State) : s.autoClear.pwr = s.pwr := by
  unfold State.autoClear
  split
  · exact clearLatch_pwr s
  · rfl

theorem pwr_driveOutputs (s : State) : s.driveOutputs.pwr = s.pwr := by
  unfold State.driveOutputs
  dsimp only
  split <;> rfl

theorem entryDark_settle {s : State} (hu : s.undef = false) (h : s.EntryDark) : s.settle.EntryDark := by
  unfold State.settle
  rw [if_neg (by simp [hu])]
  have before := EntryDark.of_pwr h ((pwr_driveOutputs _).trans ((pwr_autoClear _).trans (pwr_latchDemand s)))
  exact entryDark_driveLight (entryDark_driveLight (entryDark_driveLight (entryDark_driveLight before 0) 1) 2) 3

/-! ### The command -/

theorem decided_open {s : State} (n : Nat) (h : s.pwr.trans ≠ .entry) :
    s.decided n = if (s.advance n).pix.decision = .none then (s.advance n).decideFrame else s.advance n := by
  unfold State.decided
  exact if_congr (and_iff_right h) rfl rfl

section
variable {s : State} {n : Nat} (samples : List (List Nat)) (saturated : Fin 16) (run : s.scn.running = true)
include run

theorem exec_scanFrameStart_entry (ht : s.pwr.trans = .entry) : exec (.scanFrameStart n samples saturated) s =
    done (if (s.advance n).startDue then ((s.advance n).endFrame samples saturated).stopScan else s.advance n) :=
  (if_neg (show ¬ (!s.scn.running) = true by simp [run])).trans (if_pos ht)

theorem exec_scanFrameStart_open (ht : s.pwr.trans ≠ .entry) : exec (.scanFrameStart n samples saturated) s =
    done (if (s.decided n).startDue then (s.decided n).showFrame samples saturated else s.advance n) := by
  rw [decided_open n ht]
  exact (if_neg (show ¬ (!s.scn.running) = true by simp [run])).trans (if_neg ht)

theorem exec_scanFrameStart_early (hd : (s.decided n).startDue = false) :
    exec (.scanFrameStart n samples saturated) s = done (s.advance n) := by
  by_cases ht : s.pwr.trans = .entry
  · rw [decided_entry ht] at hd
    rw [exec_scanFrameStart_entry samples saturated run ht, hd]
    rfl
  · rw [exec_scanFrameStart_open samples saturated run ht, hd]
    rfl
end

/-- Settles O12, by the parts of `execScanFrameStart`: the start not due, a frame shown, and the stop in an entry. -/
theorem scanFrameStarts : Obligations.ScanFrameStarts := by
  unfold Obligations.ScanFrameStarts
  intro s d n samples sat hu run fits hd
  have hu' : (s.advance n).undef = false := hu
  obtain rfl : d = s.decided n := hd
  refine ⟨fun early => ⟨_, exec_scanFrameStart_early samples sat run early, (State.Frame.refl _ _ _).settled hu'⟩, fun due noEntry => ?_,
    fun due entry => ?_⟩
  · have fit : (s.decided n).glassFits := by
      obtain ⟨_, _, scn⟩ := scn_decided s n
      exact State.glassFits.kept (s := s.advance n) fits (frame_decided s n) (by rw [scn]; rfl) (by decide)
    have shown := frameIn_showFrame samples sat fit
    have frame : (s.advance n).Frame ((s.decided n).showFrame samples sat) frameStartRegs frameStartParts :=
      ((frame_decided s n).mono (by decide) (by decide)).trans (shown.frame.mono (by decide +kernel) (List.Subset.refl _))
    have su := frame.undef hu'
    obtain ⟨line, anyFrame, fetched, lineBad, ahead, later⟩ := lines_showFrame samples sat fit
    obtain ⟨_, pix⟩ := pix_showFrame samples sat fit
    refine ⟨_, (exec_scanFrameStart_open samples sat run noEntry).trans (congrArg done (if_pos due)), ?_⟩
    rw [settle_pix su, settle_scn su, settle_frameRegs su, rd_settle su (by decide) (by decide), rd_settle su (by decide) (by decide)]
    refine ⟨by rw [pix], line, anyFrame, fetched, lineBad, ahead, later.trans (laterDue_decided s n),
      (frameRegs_showFrame samples sat fit).trans (comingRegs_decided s n), fun k hk => ?_, fun held => ?_, fun fallen => ?_,
      fun a tables outputs codes => ?_, frame.settled su⟩
    · have show_ := shown_showFrame samples sat fit hk
      rw [buf_decided, bufs_decided] at show_
      simpa only [State.buf, settle_pix su] using show_
    · have hold := held_showFrame samples sat fit held
      rwa [bufs_decided] at hold
    · have fall := fallen_showFrame samples sat fit fallen
      rwa [bufs_decided] at fall
    · have apart : ¬ inFrameStart a := by
        rintro (t | o | c)
        · rw [t] at tables
          exact absurd tables (by decide)
        · omega
        · omega
      exact (readByte_settle su a).trans ((shown.bytes a apart).trans ((frame_decided s n).parts .mem (by decide) a))
  · rw [decided_entry entry] at due
    have ended := (frameIn_endFrame (s.advance n) samples sat).frame
    obtain ⟨_, endScn⟩ := scn_endFrame (s.advance n) samples sat
    have endRegs : ((s.advance n).endFrame samples sat).frameRegs = s.frameRegs := ended.parts .frameRegs (by decide)
    have endEntry : ((s.advance n).endFrame samples sat).pwr.trans = .entry :=
      (congrArg PwrState.trans (ended.parts .pwr (by decide))).trans entry
    have frame := (ended.mono (l' := frameStartRegs ++ [A.SNS_REQ, A.SYS_PRAIL_STAT])
      (ps' := [.frameRegs, .mem, .pix, .cmp, .hyb, .scn, .sns, .gov, .pwr, .saf, .flt, .sys] ++ dramParts) (by decide +kernel) (by decide)).trans
      ((frame_stopScan _).mono (by decide +kernel) (by decide))
    have su := frame.undef hu'
    refine ⟨_, (exec_scanFrameStart_entry samples sat run entry).trans (congrArg done (if_pos due)), ?_⟩
    rw [settle_scn su, settle_pix su, settle_sns su, settle_frameRegs su, scn_stopScan, bufs_stopScan, requests_stopScan, frameRegs_stopScan]
    refine ⟨rfl, ?_, rfl, fun b hb => ?_, rfl, ?_, (entryDark_settle su ⟨allDark_stopScan _, (trans_stopScan _).trans endEntry⟩).1, frame.settled su⟩
    · exact (congrArg PwrState.stopped ((frame_settle su).parts .pwr (by decide))).trans (stopped_stopScan _)
    · obtain ⟨b', _, rfl⟩ := List.mem_map.mp hb
      rfl
    · rw [State.regsAfter, State.regsAfter, endScn, endRegs]
      rfl

end Sys2Proof.Machine

/-! # Check channels of the firmware

Work takes a channel or waits for one; a check on a free channel writes that channel's registers, and what is left in them is open
(R402, R403). -/

namespace Sys2Proof.Machine

section
variable (s : State)

theorem frame_serveWaits : s.Frame s.serveWaits [] [.chk] := by
  unfold State.serveWaits
  split
  · exact (State.Frame.refl s _ _).setChk (by decide)
  · exact .refl _ _ _

theorem frame_takeChannel (u : ChanUser) : s.Frame (s.takeChannel u) [] [.chk] := by
  have waits : s.Frame { s with chk.waits := s.chk.waits ++ [u] } [] [.chk] := (State.Frame.refl s _ _).setChk (by decide)
  exact waits.trans (frame_serveWaits _)

theorem freeChannel_congr {s t : State} (hr : t.rd F.CHK_SELFTEST.CH_FAIL = s.rd F.CHK_SELFTEST.CH_FAIL)
    (hc : t.chk.chans = s.chk.chans) : t.freeChannel = s.freeChannel := by
  simp only [State.freeChannel, State.channelGood, hr, hc]

theorem freeChannel_lt {s : State} {c : Nat} (h : s.freeChannel = some c) : c < 6 := List.mem_range.mp (List.mem_of_find?_eq_some h)

/-- With a channel free and nothing waiting, work takes a channel at once. -/
theorem hasChannel_takeChannel {s : State} (u : ChanUser) (free : s.noChannel = false) (waits : s.chk.waits = [])
    (six : s.chk.chans.length = 6) : (s.takeChannel u).hasChannel u = true := by
  obtain ⟨c, hc⟩ := Option.isSome_iff_exists.mp (Option.isNone_eq_false_iff.mp free)
  have hc' : ({ s with chk.waits := [u] } : State).freeChannel = some c := hc
  have taken : s.takeChannel u = { s with chk.waits := [], chk.chans := s.chk.chans.set c (some u) } := by
    rw [State.takeChannel, waits, List.nil_append, State.serveWaits, hc']
  rw [taken]
  exact List.contains_iff_mem.mpr (List.mem_set (by have := freeChannel_lt hc; omega) _)
end

end Sys2Proof.Machine

/-! # Activating and reverting the compensation table (settles O6) -/

namespace Sys2Proof.Machine

/-! ### Commands that keep a place -/

/-- A command whose body leads to `x` and holds: nothing changes but what the body changes, the command's own counters and its place. -/
theorem command_held {s x : State} {r : Request} {op : Nat} {body : State → State × Verdict} {l : List Nat} {ps : List Part}
    (hu : s.undef = false) (h : s.gate op r = .run) (hb : body (s.taken r) = (x, .hold)) (hx : (s.taken r).Frame x l ps)
    (hr : x.cmd = (s.taken r).cmd) (hl : takenRegs ⊆ l := by decide) (hp : [.cmd, .flt] ⊆ ps := by decide)
    (hn : Part.undef ∉ ps := by decide) :
    s.Held (command op r body s).settle op r ∧ s.Frame (command op r body s).settle l ps ∧
      x.Frame (command op r body s).settle [] [.cmd] := by
  have held := frame_holdPlace x op r s.deviceId
  have frame : s.Frame (x.holdPlace op r s.deviceId) l ps :=
    (((frame_taken s r).mono hl hp).trans hx).trans (held.mono (List.nil_subset _) fun p hp' => hp (by simp_all))
  have du := frame.undef hu hn
  rw [command_hold h hb]
  refine ⟨?_, frame.settled du, held.settled du⟩
  rw [State.Held, settle_cmd du]
  exact ⟨by rw [← places_taken s r, ← hr]; rfl, by rw [← replies_taken s r, ← hr]; rfl⟩

/-! ### The common tests and the table's status register -/

theorem tblState_taken (s : State) (r : Request) : (s.taken r).tblState = s.tblState :=
  (frame_taken s r).rd (f := F.CMP_TBL_STAT.STATE) (by decide) (by decide) (by decide)

theorem lifecycle_congr {s t : State} (hs : t.sys = s.sys) (hf : t.flash = s.flash) : t.lifecycle = s.lifecycle := by
  simp only [State.lifecycle, hs, hf]

theorem lifecycle_taken (s : State) (r : Request) : (s.taken r).lifecycle = s.lifecycle :=
  lifecycle_congr ((frame_taken s r).parts .sys (by decide)) ((frame_taken s r).parts .flash (by decide))

/-- A TABLE_ACTIVATE that passes the common tests arrives outside RETIRED. -/
theorem lifecycle_of_run {s : State} {r : Request} (h : s.gate 0x20 r = .run) : s.lifecycle ≠ 4 := by
  intro retired
  unfold State.gate at h
  rw [retired] at h
  repeat' split at h
  all_goals simp_all [retiredOpcodes]

/-- A group's membership register is none of the table engine's. -/
theorem member_wr_err (s : State) (v g : Nat) : (s.wr F.CMP_TBL_STAT.ERR v).member g = s.member g := by
  unfold State.member
  by_cases h : g < 255
  · have apart : A.CMD_GROUP (g / 32) ≠ A.CMP_TBL_STAT := by unfold A.CMD_GROUP A.CMP_TBL_STAT; omega
    rw [reg_wr_other s v apart]
  · simp [h]

/-- The common tests do not read CMP_TBL_STAT. -/
theorem gate_wr_err (s : State) (v op : Nat) (r : Request) : (s.wr F.CMP_TBL_STAT.ERR v).gate op r = s.gate op r := by
  have reg {a : Nat} (h : a ≠ A.CMP_TBL_STAT) : (s.wr F.CMP_TBL_STAT.ERR v).reg a = s.reg a := reg_wr_other s v h
  have rd {f : Fld} (h : f.addr ≠ A.CMP_TBL_STAT) : (s.wr F.CMP_TBL_STAT.ERR v).rd f = s.rd f := rd_of_reg (reg h)
  have interpreter : (s.wr F.CMP_TBL_STAT.ERR v).interpreter = s.interpreter := by
    unfold State.interpreter State.asleep
    rw [rd (f := F.SYS_START.STEP) (by decide), rd (f := F.PWR_STATE.STATE) (by decide)]
    rfl
  have portReg (p : Port) : A.ZLP_PORT_STAT p.val ≠ A.CMP_TBL_STAT ∧ A.LNK_STAT p.val ≠ A.CMP_TBL_STAT := by revert p; decide
  have receives : (s.wr F.CMP_TBL_STAT.ERR v).receives r.port = s.receives r.port := by
    unfold State.receives State.portActive State.on State.role
    rw [reg (a := A.ZLP_ROLE) (by decide), rd (f := F.ZLP_PORT_STAT.VALID r.port.val) (portReg r.port).1,
      rd (f := F.ZLP_PORT_STAT.QUARANTINED r.port.val) (portReg r.port).1, rd (f := F.LNK_STAT.STATE r.port.val) (portReg r.port).2,
      rd (f := F.ZLP_SEL_STAT.STATE) (by decide), rd (f := F.ZLP_SEL_STAT.PORT) (by decide), rd (f := F.SYS_ISLAND_STAT.LNK_CLK) (by decide)]
  have deviceId : (s.wr F.CMP_TBL_STAT.ERR v).deviceId = s.deviceId := rd (f := F.RLN_ID.ID) (by decide)
  have addressed : (s.wr F.CMP_TBL_STAT.ERR v).addressed r = s.addressed r := by
    unfold State.addressed
    dsimp only
    rw [deviceId, member_wr_err]
  have crc : crcGood op r (s.wr F.CMP_TBL_STAT.ERR v) = crcGood op r s := by
    unfold crcGood foldedBytes
    rw [deviceId]
  unfold State.gate
  rw [interpreter, receives, addressed, crc]
  rfl

/-! ### An activation -/

/-- A check of the file at `a` begins. -/
def State.beginCheck (s : State) (a : Nat) (place : Option (Nat × Nat)) : State :=
  ({ s.wr F.CMP_TBL_STAT.STATE 1 with cmp.checking := some (a, place) } : State).takeChannel .table

section
variable (s : State) {a : Nat} (place : Option (Nat × Nat))

theorem activateTable_retired (h : s.lifecycle = 4) : s.activateTable a place = (s.wr F.CMP_TBL_STAT.ERR 0, some (.denied 1)) := if_pos h

theorem activateTable_busy (h : s.lifecycle ≠ 4) (hb : s.tblState ≠ 0) :
    s.activateTable a place = (s.wr F.CMP_TBL_STAT.ERR 3, some (.busy 0)) := (if_neg h).trans (if_pos hb)

theorem activateTable_source (h : s.lifecycle ≠ 4) (hb : s.tblState = 0) (ha : tableSrcOk a = false) :
    s.activateTable a place = (s.wr F.CMP_TBL_STAT.ERR 2, some (.range 12)) :=
  (if_neg h).trans ((if_neg (by simp [hb])).trans (if_pos (by simp [ha])))

theorem activateTable_begins (h : s.lifecycle ≠ 4) (hb : s.tblState = 0) (ha : tableSrcOk a = true) :
    s.activateTable a place = (s.beginCheck a place, none) :=
  (if_neg h).trans ((if_neg (by simp [hb])).trans (if_neg (by simp [ha])))

variable (a)

theorem frame_noteCheck : s.Frame { s.wr F.CMP_TBL_STAT.STATE 1 with cmp.checking := some (a, place) } [A.CMP_TBL_STAT] [.cmp, .chk] :=
  ((State.Frame.refl s [A.CMP_TBL_STAT] [.cmp, .chk]).thenWr F.CMP_TBL_STAT.STATE 1 (by decide)).setCmp (by decide) rfl rfl

theorem frame_beginCheck : s.Frame (s.beginCheck a place) [A.CMP_TBL_STAT] [.cmp, .chk] :=
  (frame_noteCheck s a place).trans ((frame_takeChannel _ _).mono (List.nil_subset _) (by decide))

theorem tblState_beginCheck : (s.beginCheck a place).tblState = 1 :=
  ((frame_takeChannel _ _).rd (f := F.CMP_TBL_STAT.STATE) List.not_mem_nil (by decide) (by decide)).trans
    (rd_wr_fits s (f := F.CMP_TBL_STAT.STATE) (by decide) (by decide))

theorem cmp_beginCheck : (s.beginCheck a place).cmp = { s.cmp with checking := some (a, place) } := (frame_takeChannel _ _).parts .cmp (by decide)

theorem hasChannel_beginCheck (free : s.noChannel = false) (waits : s.chk.waits = []) (six : s.chk.chans.length = 6) :
    (s.beginCheck a place).hasChannel .table = true := by
  refine hasChannel_takeChannel .table ?_ waits six
  rw [State.noChannel, freeChannel_congr (t := { s.wr F.CMP_TBL_STAT.STATE 1 with cmp.checking := some (a, place) }) (s := s) ?_ rfl]
  · exact free
  · exact rd_wr_other (f := F.CMP_TBL_STAT.STATE) (g := F.CHK_SELFTEST.CH_FAIL) s 1 (by decide)
end

/-! ### TABLE_ACTIVATE -/

section
variable {s : State} {r : Request}

theorem exec_tableActivate_taken (h : s.gate 0x20 r = .run) :
    exec (.tableActivate r) s = done (command 0x20 r (tableActivateBody r) s) := by
  simp only [exec, execTableActivate]
  rw [if_neg (by simp [h])]

theorem exec_tableActivate_denied (h : s.gate 0x20 r = .denied) :
    exec (.tableActivate r) s = done (((s.wr F.CMP_TBL_STAT.ERR 0).taken r).finishUnder s.deviceId 0x20 r (.denied 1)) := by
  have id : ((s.wr F.CMP_TBL_STAT.ERR 0).taken r).deviceId = s.deviceId :=
    ((frame_taken _ r).rd (f := F.RLN_ID.ID) (by decide) (by decide) (by decide)).trans
      (rd_wr_other (f := F.CMP_TBL_STAT.ERR) (g := F.RLN_ID.ID) s 0 (by decide))
  simp only [exec, execTableActivate, if_pos h]
  rw [command, gate_wr_err, h, ← id]
  rfl

theorem tableActivateBody_long (h : r.payload ≠ []) : tableActivateBody r s = answer (.range 10) s := if_pos (by simpa using h)

theorem tableActivateBody_unclocked (h : r.payload = []) (hm : s.memClk = false) : tableActivateBody r s = answer (.notReady 0xFFFF) s :=
  (if_neg (by simp [h])).trans (if_pos (by simp [hm]))

variable {x : State} (h : r.payload = []) (hm : s.memClk = true)
include h hm

theorem tableActivateBody_refused {a : Answer} (hx : s.activateTable r.arg.toNat (some (r.src.toNat, r.tag.toNat)) = (x, some a)) :
    tableActivateBody r s = answer a x := by
  unfold tableActivateBody withLen
  rw [if_neg (by simp [h])]
  dsimp only
  rw [if_neg (by simp [hm]), hx]
  rfl

theorem tableActivateBody_begins (hx : s.activateTable r.arg.toNat (some (r.src.toNat, r.tag.toNat)) = (x, none)) :
    tableActivateBody r s = (x, .hold) := by
  unfold tableActivateBody withLen
  rw [if_neg (by simp [h])]
  dsimp only
  rw [if_neg (by simp [hm]), hx]
end

/-- What a TABLE_ACTIVATE may change. -/
def activateRegs : List Nat := [A.CMD_CNT_RX, A.CMD_CNT_REF, A.CMP_TBL_STAT]
def activateParts : List Part := [.cmd, .flt, .cmp, .chk]

/-- An activation that sets ERR `v` and is answered with `a`. -/
theorem tableActivate_refused {s : State} {r : Request} {a : Answer} {v : Nat} (hu : s.undef = false) (h : s.gate 0x20 r = .run)
    (hb : tableActivateBody r (s.taken r) = answer a ((s.taken r).wr F.CMP_TBL_STAT.ERR v)) (hv : v < 16) :
    s.Answered (command 0x20 r (tableActivateBody r) s).settle 0x20 r a ∧
    s.Frame (command 0x20 r (tableActivateBody r) s).settle activateRegs activateParts ∧
    (command 0x20 r (tableActivateBody r) s).settle.rd F.CMP_TBL_STAT.ERR = v ∧
    (command 0x20 r (tableActivateBody r) s).settle.cmp = s.cmp := by
  have frame : (s.taken r).Frame ((s.taken r).wr F.CMP_TBL_STAT.ERR v) activateRegs activateParts :=
    (State.Frame.refl _ _ _).thenWr F.CMP_TBL_STAT.ERR v (by decide)
  obtain ⟨answered, whole, after⟩ := command_answered hu h hb frame rfl
  exact ⟨answered, whole, (after.rd List.not_mem_nil (by decide) (by decide)).trans (rd_wr_fits _ (f := F.CMP_TBL_STAT.ERR) (by decide) hv),
    (after.parts .cmp (by decide)).trans ((frame_taken s r).parts .cmp (by decide))⟩

/-- The command's part of O6 where the memory clock runs. -/
theorem tableActivate_clocked {s : State} (hu : s.undef = false) {r : Request} (run : s.gate 0x20 r = .run) (short : r.payload = [])
    (clock : s.memClk = true) : ∃ t, exec (.tableActivate r) s = .next t ∧ s.Frame t activateRegs activateParts ∧
      (s.tblState = 0 → tableSrcOk r.arg.toNat = true → t.tblState = 1 ∧ s.Held t 0x20 r ∧
        t.cmp = { s.cmp with checking := some (r.arg.toNat, some (r.src.toNat, r.tag.toNat)) } ∧
        (s.noChannel = false → s.chk.waits = [] → s.chk.chans.length = 6 → t.hasChannel .table = true)) ∧
      (s.tblState ≠ 0 → t.rd F.CMP_TBL_STAT.ERR = 3 ∧ t.cmp = s.cmp ∧ s.Answered t 0x20 r (.busy 0)) ∧
      (s.tblState = 0 → tableSrcOk r.arg.toNat = false →
        t.rd F.CMP_TBL_STAT.ERR = 2 ∧ t.cmp = s.cmp ∧ s.Answered t 0x20 r (.range 12)) := by
  have life : (s.taken r).lifecycle ≠ 4 := by rw [lifecycle_taken]; exact lifecycle_of_run run
  have clock' := (memClk_taken s r).trans clock
  have state := tblState_taken s r
  refine ⟨_, exec_tableActivate_taken run, ?_⟩
  by_cases idle : s.tblState = 0
  · cases src : tableSrcOk r.arg.toNat with
    | false =>
      have body := tableActivateBody_refused short clock' (activateTable_source _ _ life (state.trans idle) src)
      obtain ⟨answered, frame, err, cmp⟩ := tableActivate_refused hu run body (by decide)
      exact ⟨frame, nofun, fun busy => absurd idle busy, fun _ _ => ⟨err, cmp, answered⟩⟩
    | true =>
      have body := tableActivateBody_begins short clock' (activateTable_begins _ _ life (state.trans idle) src)
      have begun := frame_beginCheck (s.taken r) r.arg.toNat (some (r.src.toNat, r.tag.toNat))
      obtain ⟨held, frame, after⟩ := command_held (l := activateRegs) (ps := activateParts) hu run body
        (begun.mono (by decide) (by decide)) (begun.parts .cmd (by decide))
      have checking := (after.rd (f := F.CMP_TBL_STAT.STATE) List.not_mem_nil (by decide) (by decide)).trans (tblState_beginCheck _ _ _)
      refine ⟨frame, fun _ _ => ⟨checking,
        held, ?_, fun free waits six => ?_⟩, fun busy => absurd idle busy, nofun⟩
      · rw [after.parts .cmp (by decide), cmp_beginCheck, (frame_taken s r).parts .cmp (by decide)]
      · have chk := chk_taken s r
        have chan := hasChannel_beginCheck (s.taken r) r.arg.toNat (some (r.src.toNat, r.tag.toNat)) (by
          rw [State.noChannel, freeChannel_congr ((frame_taken s r).rd (by decide) (by decide) (by decide)) (congrArg ChkState.chans chk)]
          exact free) (by rw [chk, waits]) (by rw [chk, six])
        rwa [State.hasChannel, after.parts .chk (by decide)]
  · have body := tableActivateBody_refused short clock' (activateTable_busy _ _ life (by rwa [state]))
    obtain ⟨answered, frame, err, cmp⟩ := tableActivate_refused hu run body (by decide)
    exact ⟨frame, fun i => absurd i idle, fun _ => ⟨err, cmp, answered⟩, fun i => absurd i idle⟩

/-- In RETIRED a TABLE_ACTIVATE is denied, and ERR is 0. -/
theorem tableActivate_denied {s : State} (hu : s.undef = false) {r : Request} (h : s.gate 0x20 r = .denied) :
    ∃ t, exec (.tableActivate r) s = .next t ∧ t.rd F.CMP_TBL_STAT.ERR = 0 ∧
      s.Answered t 0x20 r (.denied 1) ∧ s.Frame t activateRegs [.cmd, .flt] := by
  have cleared : s.Frame (s.wr F.CMP_TBL_STAT.ERR 0) activateRegs [.cmd, .flt] := (State.Frame.refl s _ _).thenWr _ _ (by decide)
  have taken := frame_taken (s.wr F.CMP_TBL_STAT.ERR 0) r
  have finished := frame_finishUnder ((s.wr F.CMP_TBL_STAT.ERR 0).taken r) r s.deviceId 0x20 (.denied 1)
  have frame := (cleared.trans (taken.mono (by decide) (List.Subset.refl _))).trans (finished.mono (List.nil_subset _) (by decide))
  have du := frame.undef hu
  refine ⟨_, exec_tableActivate_denied h, ?_, ?_, frame.settled du⟩
  · rw [rd_settle du (by decide) (by decide)]
    exact (finished.rd List.not_mem_nil (by decide) (by decide)).trans ((taken.rd (by decide) (by decide) (by decide)).trans
      (rd_wr_fits s (f := F.CMP_TBL_STAT.ERR) (by decide) (by decide)))
  · rw [State.Answered, settle_cmd du, replies_finishUnder, replies_taken]
    rfl

/-! ### CMP_TBL_CMD -/

theorem exec_cmpTblActivate (s : State) : exec .cmpTblActivate s = done (s.activateTable (s.rd F.CMP_TBL_SRC.ADDR) none).1 := rfl

theorem exec_tableRevert (s : State) : exec .tableRevert s = done s.revertTable := rfl

/-- A REVERT of copy `c` begins its build. -/
def State.beginRevert (s : State) (c : CalCopy) : State :=
  { ((s.wr F.CMP_TBL_STAT.ERR 0).wr F.CMP_TBL_STAT.STATE 2).wr F.CMP_TBL_STAT.SAVED 0 with cmp.next := c.table, cmp.kind := .revert }

section
variable (s : State)

theorem revertTable_retired (h : s.lifecycle = 4) : s.revertTable = s := if_pos h

theorem revertTable_busy (h : s.lifecycle ≠ 4) (hb : s.tblState ≠ 0) : s.revertTable = s.wr F.CMP_TBL_STAT.ERR 3 :=
  (if_neg h).trans (if_pos hb)

theorem revertTable_none (h : s.lifecycle ≠ 4) (hb : s.tblState = 0) (hc : s.calCopy (1 - s.rd F.CMP_TBL_STAT.FLASH_CUR) = none) :
    s.revertTable = s.wr F.CMP_TBL_STAT.ERR 6 := by
  unfold State.revertTable
  rw [if_neg h, if_neg (by simp [hb]), hc]

theorem revertTable_copy (h : s.lifecycle ≠ 4) (hb : s.tblState = 0) {c : CalCopy}
    (hc : s.calCopy (1 - s.rd F.CMP_TBL_STAT.FLASH_CUR) = some c) : s.revertTable = s.beginRevert c := by
  unfold State.revertTable
  rw [if_neg h, if_neg (by simp [hb]), hc]
  rfl

theorem frame_beginRevert (c : CalCopy) : s.Frame (s.beginRevert c) [A.CMP_TBL_STAT] [.cmp] :=
  ((((State.Frame.refl s [A.CMP_TBL_STAT] [.cmp]).thenWr F.CMP_TBL_STAT.ERR 0 (by decide)).thenWr F.CMP_TBL_STAT.STATE 2 (by decide)).thenWr
    F.CMP_TBL_STAT.SAVED 0 (by decide)).setCmp (by decide) rfl rfl

theorem shown_beginRevert (c : CalCopy) : (s.beginRevert c).tblState = 2 ∧ (s.beginRevert c).rd F.CMP_TBL_STAT.SAVED = 0 ∧
    (s.beginRevert c).rd F.CMP_TBL_STAT.ERR = 0 := by
  refine ⟨?_, rd_wr_fits _ (f := F.CMP_TBL_STAT.SAVED) (by decide) (by decide), ?_⟩
  · exact (rd_wr_other (f := F.CMP_TBL_STAT.SAVED) (g := F.CMP_TBL_STAT.STATE) _ 0 (by decide)).trans
      (rd_wr_fits _ (f := F.CMP_TBL_STAT.STATE) (by decide) (by decide))
  · exact (rd_wr_other (f := F.CMP_TBL_STAT.SAVED) (g := F.CMP_TBL_STAT.ERR) _ 0 (by decide)).trans
      ((rd_wr_other (f := F.CMP_TBL_STAT.STATE) (g := F.CMP_TBL_STAT.ERR) _ 2 (by decide)).trans
        (rd_wr_fits s (f := F.CMP_TBL_STAT.ERR) (by decide) (by decide)))
end

/-- What is left by a command that sets ERR and nothing else. -/
theorem settle_wr_err {s : State} (hu : s.undef = false) {v : Nat} (hv : v < 16) :
    (s.wr F.CMP_TBL_STAT.ERR v).settle.rd F.CMP_TBL_STAT.ERR = v ∧ s.Frame (s.wr F.CMP_TBL_STAT.ERR v).settle [A.CMP_TBL_STAT] [] ∧
      (s.wr F.CMP_TBL_STAT.ERR v).settle.cmp = s.cmp := by
  have du : (s.wr F.CMP_TBL_STAT.ERR v).undef = false := hu
  exact ⟨(rd_settle du (by decide) (by decide)).trans (rd_wr_fits s (f := F.CMP_TBL_STAT.ERR) (by decide) hv),
    ((State.Frame.refl s _ _).thenWr F.CMP_TBL_STAT.ERR v (by decide)).settled du, settle_cmp du⟩

/-- A REVERT in IDLE. -/
theorem tableRevert_idle {s : State} (hu : s.undef = false) (life : s.lifecycle ≠ 4) (idle : s.tblState = 0) :
    ∃ t, exec .tableRevert s = .next t ∧ s.Frame t [A.CMP_TBL_STAT] [.cmp] ∧
      (∀ c, s.calCopy (1 - s.rd F.CMP_TBL_STAT.FLASH_CUR) = some c →
        t.tblState = 2 ∧ t.rd F.CMP_TBL_STAT.SAVED = 0 ∧ t.rd F.CMP_TBL_STAT.ERR = 0 ∧
        t.cmp = { s.cmp with next := c.table, kind := .revert }) ∧
      (s.calCopy (1 - s.rd F.CMP_TBL_STAT.FLASH_CUR) = none → t.rd F.CMP_TBL_STAT.ERR = 6 ∧ t.cmp = s.cmp) := by
  refine ⟨_, exec_tableRevert s, ?_⟩
  cases copy : s.calCopy (1 - s.rd F.CMP_TBL_STAT.FLASH_CUR) with
  | none =>
    obtain ⟨err, frame, cmp⟩ := settle_wr_err hu (show 6 < 16 by decide)
    rw [revertTable_none s life idle copy]
    exact ⟨frame.mono (List.Subset.refl _) (List.nil_subset _), nofun, fun _ => ⟨err, cmp⟩⟩
  | some c =>
    have du : (s.beginRevert c).undef = false := hu
    obtain ⟨state, saved, err⟩ := shown_beginRevert s c
    rw [revertTable_copy s life idle copy]
    refine ⟨(frame_beginRevert s c).settled du, fun _ same => ?_, nofun⟩
    obtain rfl := Option.some.inj same
    exact ⟨(rd_settle du (by decide) (by decide)).trans state, (rd_settle du (by decide) (by decide)).trans saved,
      (rd_settle du (by decide) (by decide)).trans err, settle_cmp du⟩

/-- Settles O6, by the four answers of `State.activateTable` and the four of `State.revertTable`. -/
theorem tableActivation : Obligations.TableActivation := by
  unfold Obligations.TableActivation
  intro s hu
  refine ⟨fun r run short clock => tableActivate_clocked hu run short clock, fun r run long => ?_, fun r run short clock => ?_,
    fun r denied => tableActivate_denied hu denied, fun retired => ?_, fun life idle src => ?_, fun life idle src => ?_, fun life busy => ?_,
    fun life idle => tableRevert_idle hu life idle⟩
  · exact ⟨_, exec_tableActivate_taken run, command_refused hu run (tableActivateBody_long long)⟩
  · exact ⟨_, exec_tableActivate_taken run, command_refused hu run (tableActivateBody_unclocked short ((memClk_taken s r).trans clock))⟩
  · obtain ⟨err, frame, -⟩ := settle_wr_err hu (show 0 < 16 by decide)
    refine ⟨_, _, exec_cmpTblActivate s, exec_tableRevert s, ?_⟩
    rw [activateTable_retired s none retired, revertTable_retired s retired]
    exact ⟨err, frame, frame_settle hu⟩
  · have frame := frame_beginCheck s (s.rd F.CMP_TBL_SRC.ADDR) none
    have du := frame.undef hu
    refine ⟨_, exec_cmpTblActivate s, ?_⟩
    rw [activateTable_begins s none life idle src]
    exact ⟨(rd_settle du (by decide) (by decide)).trans (tblState_beginCheck _ _ _), (settle_cmp du).trans (cmp_beginCheck _ _ _), frame.settled du⟩
  · obtain ⟨err, frame, -⟩ := settle_wr_err hu (show 2 < 16 by decide)
    refine ⟨_, exec_cmpTblActivate s, ?_⟩
    rw [activateTable_source s none life idle src]
    exact ⟨err, frame⟩
  · obtain ⟨err, frame, -⟩ := settle_wr_err hu (show 3 < 16 by decide)
    refine ⟨_, _, exec_cmpTblActivate s, exec_tableRevert s, ?_⟩
    rw [activateTable_busy s none life busy, revertTable_busy s life busy]
    exact ⟨err, err, frame, frame⟩

end Sys2Proof.Machine

/-! # A check that holds a channel the engine has not (settles O7)

`TableEngine` says of every state in which the check of a table file holds a channel that its end changes no register but those of the
table's status, of the DRAM and of channels 0 to 5. It does not ask that the state has its six channels (`State.Shape`), and a check
that holds a seventh leaves its set in that channel's registers. -/

namespace Sys2Proof.Machine

/-! ### Work on a channel -/

section
variable (s : State) (c : Nat)

theorem frame_channelWork : s.Frame (s.channelWork c) [A.CHK_CH_CFG c, A.CHK_CH_VALUE c] [.freeNo] := by
  have drawn : s.Frame { s with freeNo := s.freeNo + 1 } [A.CHK_CH_CFG c, A.CHK_CH_VALUE c] [.freeNo] :=
    (State.Frame.refl s _ _).setFreeNo (by decide)
  exact (drawn.thenWr (F.CHK_CH_CFG.PARAM c) 3 List.mem_cons_self).thenWr (F.CHK_CH_VALUE.VALUE c) _
    (List.mem_cons_of_mem _ List.mem_cons_self)

theorem param_channelWork : (s.channelWork c).rd (F.CHK_CH_CFG.PARAM c) = 3 := by
  have apart : (F.CHK_CH_CFG.PARAM c).addr ≠ (F.CHK_CH_VALUE.VALUE c).addr := by
    simp [F.CHK_CH_CFG.PARAM, F.CHK_CH_VALUE.VALUE, A.CHK_CH_CFG, A.CHK_CH_VALUE]
  exact (rd_wr_other _ _ (.inl apart)).trans (rd_wr_fits { s with freeNo := s.freeNo + 1 } (f := F.CHK_CH_CFG.PARAM c) (by simp [F.CHK_CH_CFG.PARAM])
    (by simp [F.CHK_CH_CFG.PARAM]))

/-- The registers of a channel lie behind those of every other block. -/
theorem channel_apart {a : Nat} (h : a < 0x100000) : (F.CHK_CH_CFG.PARAM c).addr ≠ a := by
  simp only [F.CHK_CH_CFG.PARAM, A.CHK_CH_CFG]
  omega

variable {s c} {u : ChanUser} (h : s.chk.chans.findIdx? (· == some u) = some c)
include h

/-- Work leaves the channel that it holds. -/
theorem frame_leaveChannel_work : (s.channelWork c).Frame (s.leaveChannel u) [] [.chk] := by
  have left : (s.channelWork c).Frame { s.channelWork c with chk.chans := s.chk.chans.set c none } [] [.chk] :=
    (State.Frame.refl _ _ _).setChk (by decide)
  unfold State.leaveChannel
  rw [h]
  exact left.trans (frame_serveWaits _)

theorem frame_leaveChannel : s.Frame (s.leaveChannel u) [A.CHK_CH_CFG c, A.CHK_CH_VALUE c] [.chk, .freeNo] :=
  ((frame_channelWork s c).mono (List.Subset.refl _) (by decide)).trans
    ((frame_leaveChannel_work h).mono (List.nil_subset _) (by decide))
end

/-! ### The end of a check -/

/-- A check whose file has been read shows `err` and leaves its channel. -/
def State.endCheck (s : State) (err : Nat) : State :=
  ({ s.wr F.CMP_TBL_STAT.ERR err with cmp.checking := none } : State).leaveChannel .table

/-- The file at `a` is built, or with an error the engine is in IDLE again. -/
def State.afterCheck (s : State) (a err : Nat) : State :=
  if err = 0 then { (s.wr F.CMP_TBL_STAT.STATE 2).wr F.CMP_TBL_STAT.SAVED 0 with cmp.next := s.readTable a, cmp.kind := .activation }
  else ((s.wr F.CMP_TBL_STAT.STATE 0).fault 0x50 0).startRebuild

theorem tableChecked_eq (s : State) (a err : Nat) : s.tableChecked a err = ((s.touchSpan a tableFileBytes).endCheck err).afterCheck a err := rfl

theorem frame_afterCheck (s : State) (a err : Nat) : s.Frame (s.afterCheck a err) slideRegs [.cmp, .gov, .flt] := by
  refine .ite ?_ ?_
  · exact (((State.Frame.refl s slideRegs [.cmp, .gov, .flt]).thenWr F.CMP_TBL_STAT.STATE 2 (by decide)).thenWr F.CMP_TBL_STAT.SAVED 0
      (by decide)).setCmp (by decide) rfl rfl
  · exact (((State.Frame.refl s slideRegs [.cmp, .gov, .flt]).thenWr F.CMP_TBL_STAT.STATE 0 (by decide)).thenFault _ _ (by decide)).trans
      ((frame_startRebuild _).mono (List.Subset.refl _) (by decide))

theorem exec_tableCheckDone_alone {s : State} {a : Nat} (check : s.cmp.checking = some (a, none)) (chan : s.hasChannel .table = true) :
    exec .tableCheckDone s = done (s.tableChecked a (s.checkTable a)) := by
  simp only [exec, execTableCheckDone, check, chan, Bool.not_true, Bool.false_eq_true, if_false]

section
variable {s : State} {c : Nat} (h : s.chk.chans.findIdx? (· == some .table) = some c)
include h

theorem endCheck_held (err : Nat) : (s.endCheck err).rd (F.CHK_CH_CFG.PARAM c) = 3 ∧ (s.endCheck err).undef = s.undef := by
  have shown : s.Frame { s.wr F.CMP_TBL_STAT.ERR err with cmp.checking := none } [A.CMP_TBL_STAT] [.cmp] :=
    ((State.Frame.refl s _ _).thenWr _ _ (by decide)).setCmp (by decide) rfl rfl
  have chk := shown.parts .chk (by decide)
  have undef := shown.parts .undef (by decide)
  unfold State.endCheck
  generalize ({ s.wr F.CMP_TBL_STAT.ERR err with cmp.checking := none } : State) = u at chk undef ⊢
  have held : u.chk.chans.findIdx? (· == some .table) = some c := by rw [← h, chk]
  exact ⟨((frame_leaveChannel_work held).rd List.not_mem_nil (channel_apart c (by decide)) (channel_apart c (by decide))).trans (param_channelWork u c),
    ((frame_leaveChannel held).parts .undef (by decide)).trans undef⟩

/-- What a check that held channel `c` leaves: its set in that channel, and no undefined case. -/
theorem tableChecked_held (a err : Nat) :
    (s.tableChecked a err).rd (F.CHK_CH_CFG.PARAM c) = 3 ∧ (s.tableChecked a err).undef = s.undef := by
  have touched := frame_touchSpan s a tableFileBytes
  have chk := touched.parts .chk (by decide)
  have undef := touched.parts .undef (by decide)
  rw [tableChecked_eq]
  generalize s.touchSpan a tableFileBytes = u at chk undef ⊢
  obtain ⟨param, same⟩ := endCheck_held (s := u) (c := c) (by rw [← h, chk]) err
  have after := frame_afterCheck (u.endCheck err) a err
  have apart : (F.CHK_CH_CFG.PARAM c).addr ∉ slideRegs := by
    simp [slideRegs, channel_apart c (a := A.CMP_TBL_STAT) (by decide), channel_apart c (a := A.CMP_TBL_ID) (by decide)]
  exact ⟨(after.rd apart (channel_apart c (by decide)) (channel_apart c (by decide))).trans param,
    ((after.parts .undef (by decide)).trans same).trans undef⟩
end

/-- The check of the file at the start of the free region holds a channel behind the engine's six, whose PARAM is 0. -/
def checkingBeyond : State :=
  { State.reset.wr (F.CHK_CH_CFG.PARAM 6) 0 with
    cmp.checking := some (0x1C000000, none), chk.chans := [none, none, none, none, none, none, some .table] }

/-- Refutes O7: the end of that check changes the configuration of the seventh channel. -/
theorem not_tableEngine : ¬ Obligations.TableEngine := by
  unfold Obligations.TableEngine
  intro h
  obtain ⟨-, ends, -⟩ := h checkingBeyond rfl
  obtain ⟨t, ht, -, frame, -⟩ := ends 0x1C000000 rfl (by decide)
  obtain ⟨param, undef⟩ := tableChecked_held (s := checkingBeyond) (c := 6) (by decide) 0x1C000000 (checkingBeyond.checkTable 0x1C000000)
  rw [exec_tableCheckDone_alone (a := 0x1C000000) rfl (by decide)] at ht
  generalize checkingBeyond.tableChecked 0x1C000000 (checkingBeyond.checkTable 0x1C000000) = u at param undef ht
  obtain rfl : u.settle = t := Host.Outcome.next.inj ht
  have before : checkingBeyond.rd (F.CHK_CH_CFG.PARAM 6) = 0 :=
    (rd_of_regs (s := State.reset.wr (F.CHK_CH_CFG.PARAM 6) 0) rfl _).trans (rd_wr_fits State.reset (f := F.CHK_CH_CFG.PARAM 6) (by decide) (by decide))
  have kept : u.settle.rd (F.CHK_CH_CFG.PARAM 6) = 0 := (frame.rd (by decide) (by decide) (by decide)).trans before
  rw [rd_settle undef (by decide) (by decide), param] at kept
  cases kept

end Sys2Proof.Machine

/-! # Flash write-backs

What queueing a write-back, the check of its record and its end change (R183, R391, R403, R456). -/

namespace Sys2Proof.Machine

theorem State.Frame.setFlash {s t : State} {l : List Nat} {ps : List Part} (h : s.Frame t l ps) {x : FlashState} (hp : Part.flash ∈ ps) :
    s.Frame { t with flash := x } l ps :=
  h.thenPart .flash hp rfl fun p hq => by cases p <;> simp_all [State.Same, State.readByte, State.appliedWord, State.unlisted]

/-! ### The queue -/

section
variable (s : State) (w : FlashJob)

theorem frame_queueFlash : s.Frame (s.queueFlash w) [] [.gov] := .ite (.refl _ _ _) (frame_addFlash s w)

theorem flash_addFlash : (s.addFlash w).gov.flash = s.gov.flash ++ [w] := by
  unfold State.addFlash State.jobDue
  dsimp only
  split <;> rfl

theorem flash_queueFlash : (s.queueFlash w).gov.flash = if s.gov.flash.contains w then s.gov.flash else s.gov.flash ++ [w] := by
  unfold State.queueFlash
  split
  · rfl
  · exact flash_addFlash s w
end

/-! ### The check of a record -/

theorem frame_checkRecord (s : State) : s.Frame s.checkRecord channelRegs [.freeNo] := by
  unfold State.checkRecord
  split
  next c hc =>
    refine (frame_channelWork s c).mono (fun a ha => List.mem_flatMap.mpr ⟨c, List.mem_range.mpr (freeChannel_lt hc), ha⟩) (List.Subset.refl _)
  next => exact .refl _ _ _

/-! ### The end of a write-back -/

theorem frame_flashIdle (s : State) : s.Frame s.flashIdle [] [.flash, .sys] := by
  unfold State.flashIdle
  split
  · exact .of_regs rfl fun p hp => by cases p <;> simp_all [State.Same, State.readByte, State.appliedWord, State.unlisted]
  · exact .refl _ _ _

/-- The first write-back leaves the queue, and the FLASH job stands as `j` leaves it. -/
def State.popFlash (s : State) (jobs : List Job) : State :=
  { s with gov.flash := s.gov.flash.drop 1, gov.flashDue := s.gov.flashDue.drop 1, gov.jobs := jobs }

theorem flashDone_eq (s : State) : ∃ jobs, s.flashDone = (s.popFlash jobs).flashIdle := by
  unfold State.flashDone
  dsimp only
  split
  · exact ⟨_, rfl⟩
  · exact ⟨_, rfl⟩

theorem frame_flashDone (s : State) : s.Frame s.flashDone [] [.gov, .flash, .sys] := by
  obtain ⟨jobs, e⟩ := flashDone_eq s
  have popped : s.Frame (s.popFlash jobs) [] [.gov, .flash, .sys] := (State.Frame.refl s _ _).setGov (by decide)
  rw [e]
  exact popped.trans ((frame_flashIdle _).mono (List.Subset.refl _) (by decide))

theorem queue_flashDone (s : State) : s.flashDone.gov.flash = s.gov.flash.drop 1 := by
  obtain ⟨jobs, e⟩ := flashDone_eq s
  rw [e]
  exact congrArg GovState.flash ((frame_flashIdle (s.popFlash jobs)).parts .gov (by decide))

/-- The life-cycle record that waits is written, whatever else the state holds. -/
theorem flash_flashIdle_congr {s t : State} (hs : t.sys = s.sys) (hf : t.flash = s.flash) : t.flashIdle.flash = s.flashIdle.flash := by
  unfold State.flashIdle
  rw [lifecycle_congr hs hf, hs]
  split
  · rw [hf]
  · exact hf

theorem flash_flashDone (s : State) : s.flashDone.flash = s.flashIdle.flash := by
  obtain ⟨jobs, e⟩ := flashDone_eq s
  rw [e]
  exact flash_flashIdle_congr rfl rfl

theorem stress_flashDone (s : State) : s.flashDone.flash.stress = s.flash.stress := by
  rw [flash_flashDone, State.flashIdle]
  split <;> rfl

theorem flash_flashDone_none {s : State} (h : s.sys.lifeDue = none) : s.flashDone.flash = s.flash := by
  rw [flash_flashDone, State.flashIdle, h]

end Sys2Proof.Machine

/-! # Automatic defect entries and rebuilds

What an entry made by the controller and a due rebuild change (R91, R97, R100, R101). -/

namespace Sys2Proof.Machine

section
variable (s : State)

theorem frame_setDefects (t : List Nat) : s.Frame (s.setDefects t) [A.CMP_DEF_STAT] [.cmp] := by
  have set : s.Frame { s with cmp.defects := t } [A.CMP_DEF_STAT] [.cmp] := (State.Frame.refl s _ _).setCmp (by decide) rfl rfl
  exact set.thenWr F.CMP_DEF_STAT.COUNT _ (by decide)

theorem frame_stuckFaults (q : Quad) : s.Frame (s.stuckFaults q) [] [.flt] := by
  have stuck : s.Frame (s.faultQ 0x53 2 q) [] [.flt] := (State.Frame.refl s _ _).thenFaultQ _ _ _ (by decide)
  exact .ite (stuck.thenFaultQ _ _ _ (by decide)) stuck

theorem frame_entryFaults (k kind : Nat) : s.Frame (s.entryFaults k kind) [] [.flt] :=
  .ite (frame_stuckFaults s _) ((State.Frame.refl s _ _).thenFaultQ _ _ _ (by decide))

theorem entryFaults_setDefects (t : List Nat) (k kind : Nat) :
    s.Frame ((s.setDefects t).entryFaults k kind) [A.CMP_DEF_STAT] [.cmp, .flt] ∧
    ((s.setDefects t).entryFaults k kind).cmp = { s.cmp with defects := t } :=
  ⟨((frame_setDefects s t).mono (List.Subset.refl _) (by decide)).trans ((frame_entryFaults _ k kind).mono (List.nil_subset _) (by decide)),
    (frame_entryFaults _ k kind).parts .cmp (by decide)⟩

/-- An automatic entry changes the defect table and its counters, and raises faults. -/
theorem autoEntry_changes (k kind action src : Nat) : s.Frame (s.autoEntry k kind action src) [A.CMP_DEF_STAT] [.cmp, .flt] ∧
    ∃ d, (s.autoEntry k kind action src).cmp = { s.cmp with defects := d } := by
  have same : s.Frame s [A.CMP_DEF_STAT] [.cmp, .flt] ∧ ∃ d, s.cmp = { s.cmp with defects := d } := ⟨.refl _ _ _, _, rfl⟩
  have entered (t : List Nat) := entryFaults_setDefects s t k kind
  unfold State.autoEntry
  dsimp only
  split
  · split
    · exact same
    · generalize insertEntry _ s.cmp.defects = t
      split
      · exact same
      · exact ⟨(entered _).1, _, (entered _).2⟩
  · split
    · exact ⟨(entered _).1, _, (entered _).2⟩
    · split
      · exact ⟨(entered _).1, _, (entered _).2⟩
      · exact ⟨((State.Frame.refl s _ _).thenBump F.CMP_DEF_STAT.OVERFLOW (by decide)).thenFault _ _ (by decide), _, rfl⟩

theorem ageLimitEntries_changes (t : Table) (rr : List Nat) : s.Frame (s.ageLimitEntries t rr) [A.CMP_DEF_STAT] [.cmp, .flt] ∧
    ∃ d, (s.ageLimitEntries t rr).cmp = { s.cmp with defects := d } := by
  unfold State.ageLimitEntries
  dsimp only
  generalize List.filter _ (s.specials t) = ks
  induction ks generalizing s with
  | nil => exact ⟨.refl _ _ _, _, rfl⟩
  | cons k ks ih =>
    obtain ⟨frame, d, cmp⟩ := autoEntry_changes s k 5 (s.rd F.CMP_DEF_CFG.ACT_AGE) 3
    obtain ⟨rest, d', cmp'⟩ := ih (s.autoEntry k 5 (s.rd F.CMP_DEF_CFG.ACT_AGE) 3)
    exact ⟨frame.trans rest, d', by rw [List.foldl_cons, cmp', cmp]⟩

/-- A rebuild that starts writes the engine's state only. -/
theorem startRebuild_changes : s.Frame s.startRebuild [A.CMP_TBL_STAT] [.cmp] ∧ s.startRebuild.cmp.unsaved = s.cmp.unsaved := by
  unfold State.startRebuild
  refine ⟨.ite ?_ (.refl _ _ _), ?_⟩
  · exact ((State.Frame.refl s [A.CMP_TBL_STAT] [.cmp]).thenWr F.CMP_TBL_STAT.STATE 2 (by decide)).setCmp (by decide) rfl rfl
  · split <;> rfl

/-- What follows a write-back keeps the time unsaved. -/
theorem afterWriteback_changes : s.Frame s.afterWriteback [A.CMP_DEF_STAT, A.CMP_TBL_STAT] [.cmp, .flt] ∧
    s.afterWriteback.cmp.unsaved = s.cmp.unsaved := by
  unfold State.afterWriteback
  dsimp only
  generalize s.rrefs s.cmp.base = rr
  have took : s.Frame { s with cmp.rref := rr } [A.CMP_DEF_STAT, A.CMP_TBL_STAT] [.cmp, .flt] := (State.Frame.refl s _ _).setCmp (by decide) rfl rfl
  obtain ⟨entered, d, cmp⟩ := ageLimitEntries_changes { s with cmp.rref := rr } s.cmp.base rr
  have limited := took.trans (entered.mono (by decide) (List.Subset.refl _))
  have kept : (State.ageLimitEntries { s with cmp.rref := rr } s.cmp.base rr).cmp.unsaved = s.cmp.unsaved := by rw [cmp]
  generalize State.ageLimitEntries { s with cmp.rref := rr } s.cmp.base rr = u at limited kept ⊢
  split
  · exact ⟨limited, kept⟩
  · have due : s.Frame { u with cmp.rebuildDue := true } [A.CMP_DEF_STAT, A.CMP_TBL_STAT] [.cmp, .flt] := limited.setCmp (by decide) rfl rfl
    obtain ⟨frame, unsaved⟩ := startRebuild_changes { u with cmp.rebuildDue := true }
    exact ⟨due.trans (frame.mono (by decide) (by decide)), unsaved.trans kept⟩
end

end Sys2Proof.Machine

/-! # Ageing factors and stress write-backs (settles O8) -/

namespace Sys2Proof.Machine

/-! ### What r_ref rests on -/

/-- Two states with the same stress record, curves' shifts, defect table and last r_ref (R86, R90, R91, R92). -/
structure State.SameStress (s t : State) : Prop where
  mem : t.mem = s.mem
  codes : ∀ k, t.stressCode k = s.stressCode k
  kappa : ∀ q c, t.kappa q c = s.kappa q c
  defects : t.cmp.defects = s.cmp.defects
  rref : t.cmp.rref = s.cmp.rref

section
variable {s t : State} (h : s.SameStress t) (b : Table)
include h

theorem State.SameStress.effCode (q : Quad) (c : Colour) (code : Nat) : t.effCode q c code = s.effCode q c code := by
  simp only [State.effCode, h.kappa]

theorem State.SameStress.relEff (k : Nat) : t.relEff b k = s.relEff b k := by simp only [State.relEff, h.effCode, h.codes]

theorem State.SameStress.specials : t.specials b = s.specials b := by simp only [State.specials, State.region, h.mem, h.defects]

theorem State.SameStress.inMedian : t.inMedian b = s.inMedian b := funext fun k => by simp only [State.inMedian, h.defects]

theorem State.SameStress.rrefOf (q : Quad) (c : Colour) : t.rrefOf b q c = s.rrefOf b q c := by
  simp only [State.rrefOf, State.freshEff, h.specials, h.inMedian, h.relEff, h.effCode]

theorem State.SameStress.rrefs : t.rrefs b = s.rrefs b := by simp only [State.rrefs, h.rrefOf, h.rref]
end

theorem mem_touchDram (s : State) (a : Nat) : (s.touchDram a).mem = s.mem := by
  have wake (r : Nat) : (s.wakeRank r).mem = s.mem := by
    unfold State.wakeRank
    dsimp only
    split <;> rfl
  have opened (u : State) (bank row : Nat) : (u.activate bank row).mem = u.mem := by
    unfold State.activate
    dsimp only
    split
    · rfl
    · split
      · rfl
      · split <;> rfl
  unfold State.touchDram
  dsimp only
  split
  · exact wake _
  · exact (opened _ _ _).trans (wake _)

theorem mem_touchSpan (s : State) (a n : Nat) : (s.touchSpan a n).mem = s.mem := by
  unfold State.touchSpan
  generalize List.range _ = l
  induction l generalizing s with
  | nil => rfl
  | cons i l ih => exact (ih _).trans (mem_touchDram s _)

theorem sameStress_touchSpan (s : State) (a n : Nat) : s.SameStress (s.touchSpan a n) := by
  have frame := frame_touchSpan s a n
  have mem := mem_touchSpan s a n
  generalize s.touchSpan a n = u at frame mem
  have cmp := frame.parts .cmp (by decide)
  refine ⟨mem, fun k => readLE_congr fun i _ => frame.parts .mem (by decide) _, fun q c => ?_, congrArg CmpState.defects cmp, congrArg CmpState.rref cmp⟩
  have apart : A.CMP_AGE q.val c.val ∉ dramRegs ∧ A.CMP_AGE q.val c.val ≠ A.SAF_STAT ∧ A.CMP_AGE q.val c.val ≠ A.SYS_START := by
    revert q c
    decide
  obtain ⟨dram, latch, start⟩ := apart
  rw [State.kappa, State.kappa, frame.rd (f := F.CMP_AGE.KAPPA q.val c.val) dram latch start]

/-! ### The tick -/

/-- The next 60 s begin. -/
def State.nextMinute (s : State) : State := { s with cmp.ageTicks := s.cmp.ageTicks - sec 60 }

theorem exec_ageFactorTick_due {s : State} {n : Nat} (awake : (s.advance n).awake = true) (due : sec 60 ≤ (s.advance n).cmp.ageTicks) :
    exec (.ageFactorTick n) s = done (s.advance n).nextMinute.readFactors :=
  if_pos (by simp [awake, due])

theorem sameStress_nextMinute (s : State) (n : Nat) : s.SameStress (s.advance n).nextMinute := ⟨rfl, fun _ => rfl, fun _ _ => rfl, rfl, rfl⟩

theorem frame_ageFactors (s : State) : s.Frame s.ageFactors [] [.cmp] := by
  unfold State.ageFactors
  generalize s.rrefs s.cmp.base = rr
  exact (State.Frame.refl s _ _).setCmp (by decide) rfl rfl

theorem frame_readFactors (s : State) : s.Frame s.readFactors dramRegs (.cmp :: dramParts) :=
  ((frame_touchSpan s _ _).mono (List.Subset.refl _) (List.subset_cons_self Part.cmp _)).trans
    ((frame_ageFactors _).mono (List.nil_subset _) (by decide))

theorem cmp_readFactors (s : State) : s.readFactors.cmp = { s.cmp with
    rref := s.rrefs s.cmp.base, targets := (s.rrefs s.cmp.base).map (fun r => if r = 0 then 0xFFFF else min (2 ^ 30 / r) 0xFFFF) } := by
  have cmp := (frame_touchSpan s 0x16000000 0x600000).parts .cmp (by decide)
  have stress := sameStress_touchSpan s 0x16000000 0x600000
  unfold State.readFactors
  generalize s.touchSpan 0x16000000 0x600000 = u at cmp stress ⊢
  rw [State.ageFactors, stress.rrefs, cmp]

/-! ### The end of a write-back -/

/-- The record of the write-back in flight is checked, and the stress record and the defect table are read. -/
def State.readRecord (s : State) : State :=
  (s.checkRecord.flashDone.touchSpan 0x16000000 0x600000).touchSpan 0x17000000 0x10000

/-- Region `next` holds `rec`, or none where its verification has failed. -/
def State.putRecord (s : State) (next : Nat) (rec : Option StressRec) : State := { s with flash.stress := s.flash.stress.set next rec }

/-- The record stands in region `next`, and no time is unsaved. -/
def State.recordStored (s : State) (next seq : Nat) : State :=
  ({ s with flash.stress := s.flash.stress.set next (some (s.stressRecord seq)), cmp.unsaved := 0 } : State).wr F.CMP_STRESS_STAT.REGION next

/-- The sequence number of the next record. -/
def State.nextSeq (s : State) : Nat := ((nth s.flash.stress (s.rd F.CMP_STRESS_STAT.REGION)).map (fun r => r.seq + 1)).getD 1

theorem exec_stressWritebackDone_waits {s : State} (ok : Bool) (full : s.noChannel = true) : exec (.stressWritebackDone ok) s = done s :=
  if_pos (by simp [full])

section
variable {s : State} (flying : s.inFlight .stress = true) (free : s.noChannel = false)
include flying free

theorem exec_stressWritebackDone_failed : exec (.stressWritebackDone false) s =
    done ((s.readRecord.putRecord s.checkRecord.nextRegion none).fault 0x57 2) := by
  simp only [exec, execStressWritebackDone, flying, free, Bool.not_true, Bool.or_false, Bool.false_eq_true, if_false, State.putRecord,
    State.readRecord]

theorem exec_stressWritebackDone_passed : exec (.stressWritebackDone true) s =
    done (s.readRecord.recordStored s.checkRecord.nextRegion s.checkRecord.nextSeq).afterWriteback := by
  simp only [exec, execStressWritebackDone, flying, free, Bool.not_true, Bool.or_false, Bool.false_eq_true, if_false, if_true,
    State.recordStored, State.readRecord, State.nextSeq]
end

theorem nextRegion_turn {s : State} (h : s.coldTrial = false) : s.nextRegion = (if (nth s.flash.stress (s.rd F.CMP_STRESS_STAT.REGION)).isSome
    then (s.rd F.CMP_STRESS_STAT.REGION + 1) % 3 else s.rd F.CMP_STRESS_STAT.REGION) := by
  unfold State.nextRegion
  dsimp only
  rw [h]
  cases nth s.flash.stress (s.rd F.CMP_STRESS_STAT.REGION) <;> rfl

/-- The check of the record leaves the choice of region and number as it was. -/
theorem next_checkRecord (s : State) : s.checkRecord.nextRegion = s.nextRegion ∧ s.checkRecord.nextSeq = s.nextSeq := by
  have frame := frame_checkRecord s
  have region := frame.rd (f := F.CMP_STRESS_STAT.REGION) (by decide) (by decide) (by decide)
  have update := frame.rd (f := F.UPD_STAT.STATE) (by decide) (by decide) (by decide)
  have flash : s.checkRecord.flash = s.flash := frame.parts .flash (by decide)
  have upd : s.checkRecord.upd = s.upd := frame.parts .upd (by decide)
  constructor
  · unfold State.nextRegion State.coldTrial
    rw [region, update, flash, upd]
  · unfold State.nextSeq
    rw [region, flash]

/-- What reading the record leaves. -/
structure State.RecordRead (s t : State) : Prop where
  frame : s.Frame t (dramRegs ++ channelRegs) ([.flash, .gov, .sys] ++ dramParts)
  flash : t.flash = s.flashDone.flash
  queue : t.gov.flash = s.gov.flash.drop 1

theorem recordRead (s : State) : s.RecordRead s.readRecord := by
  have check := frame_checkRecord s
  have popped := frame_flashDone s.checkRecord
  have read := (frame_touchSpan s.checkRecord.flashDone 0x16000000 0x600000).trans (frame_touchSpan _ 0x17000000 0x10000)
  have flash : s.checkRecord.flashDone.flash = s.flashDone.flash := by
    rw [flash_flashDone, flash_flashDone, flash_flashIdle_congr (check.parts .sys (by decide)) (check.parts .flash (by decide))]
  have queue : s.checkRecord.flashDone.gov.flash = s.gov.flash.drop 1 := by
    rw [queue_flashDone, check.parts .gov (by decide)]
  unfold State.readRecord
  generalize (s.checkRecord.flashDone.touchSpan 0x16000000 0x600000).touchSpan 0x17000000 0x10000 = u at read ⊢
  exact ⟨((check.mono (by decide) (by decide)).trans (popped.mono (List.nil_subset _) (by decide))).trans (read.mono (by decide) (by decide)),
    (read.parts .flash (by decide)).trans flash, (congrArg GovState.flash (read.parts .gov (by decide))).trans queue⟩

/-- What the end of a write-back that has passed may change. -/
def writebackRegs : List Nat := [A.CMP_STRESS_STAT, A.CMP_DEF_STAT, A.CMP_TBL_STAT] ++ dramRegs ++ channelRegs
def writebackParts : List Part := [.flash, .gov, .flt, .cmp, .chk, .sys] ++ dramParts

section
variable {s t : State} (h : s.RecordRead t) (next : Nat)
include h

theorem State.RecordRead.put (rec : Option StressRec) :
    (t.putRecord next rec).flash = { s.flashDone.flash with stress := s.flash.stress.set next rec } ∧
    s.Frame (t.putRecord next rec) (dramRegs ++ channelRegs) ([.flash, .gov, .flt, .chk, .sys] ++ dramParts) := by
  refine ⟨?_, (h.frame.mono (List.Subset.refl _) (by decide)).setFlash (by decide)⟩
  rw [State.putRecord, h.flash, stress_flashDone]

/-- What is stored, and what follows it. -/
theorem State.RecordRead.stored (seq : Nat) :
    (t.recordStored next seq).afterWriteback.rd F.CMP_STRESS_STAT.REGION = next % 4 ∧
    (t.recordStored next seq).afterWriteback.cmp.unsaved = 0 ∧
    (t.recordStored next seq).afterWriteback.flash = { s.flashDone.flash with stress := s.flash.stress.set next (some (t.stressRecord seq)) } ∧
    (t.recordStored next seq).afterWriteback.gov.flash = s.gov.flash.drop 1 ∧
    s.Frame (t.recordStored next seq).afterWriteback writebackRegs writebackParts := by
  obtain ⟨flash, put⟩ := h.put next (some (t.stressRecord seq))
  have queue : (t.recordStored next seq).gov.flash = s.gov.flash.drop 1 := h.queue
  have region : (t.recordStored next seq).rd F.CMP_STRESS_STAT.REGION = next % 4 :=
    rd_wr_same _ (f := F.CMP_STRESS_STAT.REGION) _ (by decide)
  have unsaved : (t.recordStored next seq).cmp.unsaved = 0 := rfl
  have stored : (t.recordStored next seq).flash = { s.flashDone.flash with stress := s.flash.stress.set next (some (t.stressRecord seq)) } := flash
  have saved : s.Frame { t.putRecord next (some (t.stressRecord seq)) with cmp.unsaved := 0 } writebackRegs writebackParts :=
    (put.mono (by decide) (by decide)).setCmp (by decide) rfl rfl
  have frame : s.Frame (t.recordStored next seq) _ _ := saved.thenWr F.CMP_STRESS_STAT.REGION next (by decide)
  generalize t.recordStored next seq = u at *
  obtain ⟨after, kept⟩ := afterWriteback_changes u
  exact ⟨(after.rd (by decide) (by decide) (by decide)).trans region, kept.trans unsaved, (after.parts .flash (by decide)).trans stored,
    (congrArg GovState.flash (after.parts .gov (by decide))).trans queue, frame.trans (after.mono (by decide) (by decide))⟩
end

/-- A write-back whose verification has failed. -/
theorem State.RecordRead.failed {s t : State} (h : s.RecordRead t) (hu : s.undef = false) (next : Nat) :
    ((t.putRecord next none).fault 0x57 2).settle.flash = { s.flashDone.flash with stress := s.flash.stress.set next none } ∧
    ((t.putRecord next none).fault 0x57 2).settle.gov.flash = s.gov.flash.drop 1 ∧
    ((t.putRecord next none).fault 0x57 2).settle.flt.inbox = s.flt.inbox ++ [⟨0x57, 2, 0, 0, false, s.now⟩] ∧
    s.Frame ((t.putRecord next none).fault 0x57 2).settle (dramRegs ++ channelRegs) ([.flash, .gov, .flt, .chk, .sys] ++ dramParts) := by
  obtain ⟨flash, put⟩ := h.put next none
  have frame := put.thenFault 0x57 2 (by decide)
  have du := frame.undef hu
  have flt : t.flt = s.flt := h.frame.parts .flt (by decide)
  have now : t.now = s.now := h.frame.parts .now (by decide)
  rw [settle_flash du, settle_gov du, settle_flt du, ← flt, ← now]
  exact ⟨flash, h.queue, rfl, frame.settled du⟩

/-- A write-back that has passed. -/
theorem State.RecordRead.passed {s t : State} (h : s.RecordRead t) (hu : s.undef = false) (next seq : Nat) :
    (t.recordStored next seq).afterWriteback.settle.rd F.CMP_STRESS_STAT.REGION = next % 4 ∧
    (t.recordStored next seq).afterWriteback.settle.cmp.unsaved = 0 ∧
    (∃ rec, (t.recordStored next seq).afterWriteback.settle.flash = { s.flashDone.flash with stress := s.flash.stress.set next (some rec) } ∧
      rec.seq = seq ∧ rec.defects = s.cmp.defects) ∧
    (t.recordStored next seq).afterWriteback.settle.gov.flash = s.gov.flash.drop 1 ∧
    s.Frame (t.recordStored next seq).afterWriteback.settle writebackRegs writebackParts := by
  obtain ⟨region, unsaved, flash, queue, frame⟩ := h.stored next seq
  have du := frame.undef hu
  have cmp : t.cmp = s.cmp := h.frame.parts .cmp (by decide)
  rw [rd_settle du (by decide) (by decide), settle_cmp du, settle_flash du, settle_gov du]
  exact ⟨region, unsaved, ⟨_, flash, rfl, congrArg CmpState.defects cmp⟩, queue, frame.settled du⟩

theorem exec_stressWritebackDue_due {s : State} {n : Nat} (awake : (s.advance n).awake = true) (due : sec 14400 ≤ (s.advance n).cmp.unsaved) :
    exec (.stressWritebackDue n) s = done ((s.advance n).queueFlash .stress) :=
  if_pos (by simp [awake, due])

theorem exec_forceSave (s : State) : exec .forceSave s = done (s.queueFlash .stress) := rfl

/-- A stress write-back is put in the queue. -/
theorem queueStress {s : State} (hu : s.undef = false) :
    (s.queueFlash .stress).settle.gov.flash = (if s.gov.flash.contains .stress then s.gov.flash else s.gov.flash ++ [.stress]) ∧
    s.Frame (s.queueFlash .stress).settle [] [.gov] := by
  have frame := frame_queueFlash s .stress
  have du := frame.undef hu
  exact ⟨by rw [settle_gov du, flash_queueFlash], frame.settled du⟩

/-- Settles O8: the tick, what is put in the queue, and the two ends of a write-back. -/
theorem ageingAndStress : Obligations.AgeingAndStress := by
  unfold Obligations.AgeingAndStress
  intro s hu
  refine ⟨fun n awake due => ?_, fun n awake due => ?_, ⟨_, exec_forceSave s, queueStress hu⟩, fun _ full => ?_, nextRegion_turn,
    fun next flying free e => ?_⟩
  · have minute : (s.advance n).Frame (s.advance n).nextMinute dramRegs (.cmp :: dramParts) :=
      (State.Frame.refl _ _ _).setCmp (by decide) rfl rfl
    have frame := minute.trans (frame_readFactors _)
    have du := frame.undef (s := s.advance n) hu
    refine ⟨_, exec_ageFactorTick_due awake due, frame.settled du, ?_⟩
    rw [settle_cmp du, cmp_readFactors, (sameStress_nextMinute s n).rrefs]
    rfl
  · exact ⟨_, exec_stressWritebackDue_due awake due, queueStress (s := s.advance n) hu⟩
  · exact ⟨_, _, exec_stressWritebackDone_waits true full, exec_stressWritebackDone_waits false full, frame_settle hu, frame_settle hu⟩
  · have failed := exec_stressWritebackDone_failed flying free
    have passed := exec_stressWritebackDone_passed flying free
    rw [(next_checkRecord s).1, ← e] at failed passed
    rw [(next_checkRecord s).2] at passed
    exact ⟨⟨_, failed, (recordRead s).failed hu next⟩, ⟨_, passed, (recordRead s).passed hu next s.nextSeq⟩, flash_flashDone_none⟩

end Sys2Proof.Machine

/-! # The mirror of the defect table in DRAM

A region of DRAM that is replaced reads as the bytes put there; the mirror holds the defect table word by word, and the applied words
of the entries it conceals lie outside it (R76, R96, R99). -/

namespace Sys2Proof.Machine

/-! ### A region that is replaced -/

section
variable {α : Type} [DecidableEq α] (d : Nat → α)

theorem Sparse.get_foldl_put_other {m acc : List (Nat × α)} {k : Nat} (h : k ∉ m.map (·.1)) :
    Sparse.get d (m.foldl (fun acc e => Sparse.put d acc e.1 e.2) acc) k = Sparse.get d acc k := by
  induction m generalizing acc with
  | nil => rfl
  | cons e m ih =>
    rw [List.map_cons, List.mem_cons, not_or] at h
    obtain ⟨first, rest⟩ := h
    rw [List.foldl_cons, ih rest, Sparse.get_put_other d acc e.2 first]

/-- Of a list with one entry for each key the canonical form holds every entry. -/
theorem Sparse.get_norm {m : List (Nat × α)} (h : (m.map (·.1)).Nodup) {e : Nat × α} (he : e ∈ m) :
    Sparse.get d (Sparse.norm d m) e.1 = e.2 := by
  unfold Sparse.norm
  generalize ([] : List (Nat × α)) = acc
  induction m generalizing acc with
  | nil => exact absurd he List.not_mem_nil
  | cons x m ih =>
    obtain ⟨first, rest⟩ := List.nodup_cons.mp h
    rw [List.foldl_cons]
    rcases List.mem_cons.mp he with rfl | he
    · rw [Sparse.get_foldl_put_other d first, Sparse.get_put_same]
    · exact ih rest he _
end

/-- A byte of a region that is replaced reads as the cell put there. -/
theorem readByte_setRegion_same (s : State) {lo hi : Nat} {cs : List Host.Cell} (hc : (cs.map (·.1)).Nodup) {e : Host.Cell} (he : e ∈ cs)
    (hl : lo ≤ e.1) (hh : e.1 < hi) (ht : inTables e.1 = false) : (s.setRegion lo hi cs).readByte e.1 = e.2 := by
  have inside : e ∈ cs.filter (fun c => decide (lo ≤ c.1) && decide (c.1 < hi)) := List.mem_filter.mpr ⟨he, by simp [hl, hh]⟩
  have keys : ((cs.filter (fun c => decide (lo ≤ c.1) && decide (c.1 < hi))).map (·.1)).Nodup :=
    hc.sublist (List.filter_sublist.map _)
  rw [readByte_plain (s := s.setRegion lo hi cs) (by simp [tableByte, ht])]
  unfold State.setRegion
  dsimp only
  rw [List.append_assoc, Sparse.get_append_right, Sparse.get_append_left]
  · exact Sparse.get_norm _ keys inside
  · intro c hc
    have := of_decide_eq_true (List.mem_filter.mp hc).2
    omega
  · intro c hc
    have := of_decide_eq_true (List.mem_filter.mp hc).2
    omega

theorem frameIn_setRegion (s : State) {lo hi : Nat} (cs : List Host.Cell) (hl : lo ≤ hi) :
    s.FrameIn (fun a => lo ≤ a ∧ a < hi) (s.setRegion lo hi cs) [] [.mem] :=
  ⟨(State.Frame.refl s _ _).setMem (by decide), fun _ ha => readByte_setRegion_other s cs (by omega) hl⟩

/-! ### The mirror -/

theorem readBytes_eq {s : State} {a : Nat} {bs : List Byte} (h : ∀ j b, bs[j]? = some b → s.readByte (a + j) = b) :
    s.readBytes a bs.length = bs := by
  induction bs generalizing a with
  | nil => rfl
  | cons b bs ih =>
    have first : s.readByte a = b := h 0 b rfl
    rw [List.length_cons, State.readBytes, first, ih fun j c hj => by rw [show a + 1 + j = a + (j + 1) by omega]; exact h (j + 1) c hj]

/-- Byte `j` of entry `i` in the bytes of a table. -/
theorem getElem?_words {t : List Nat} {i e : Nat} (h : t[i]? = some e) {j : Nat} (hj : j < 4) :
    (t.flatMap (fun e => leBytes 4 e))[4 * i + j]? = (leBytes 4 e)[j]? := by
  induction t generalizing i with
  | nil => simp at h
  | cons x t ih =>
    rw [List.flatMap_cons]
    cases i with
    | zero =>
      obtain rfl : x = e := by simpa using h
      rw [List.getElem?_append_left (by simpa using hj), Nat.mul_zero, Nat.zero_add]
    | succ i =>
      rw [List.getElem?_append_right (by rw [length_leBytes]; omega), length_leBytes, show 4 * (i + 1) + j - 4 = 4 * i + j by omega]
      exact ih (by simpa using h)

theorem nodup_mirrorCells (t : List Nat) : ((mirrorCells t).map (·.1)).Nodup := by
  have keys : (mirrorCells t).map (·.1) = ((t.flatMap (fun e => leBytes 4 e)).zipIdx.map (·.2)).map (0x17000000 + ·) := by
    rw [mirrorCells, List.map_map, List.map_map]
    rfl
  rw [keys, List.zipIdx_map_snd]
  exact List.Nodup.map (fun _ _ h => Nat.add_left_cancel h) List.nodup_range'

theorem mem_mirrorCells {t : List Nat} {j : Nat} {b : Byte} (h : (t.flatMap (fun e => leBytes 4 e))[j]? = some b) :
    (0x17000000 + j, b) ∈ mirrorCells t :=
  List.mem_map.mpr ⟨(b, j), List.mem_zipIdx_iff_getElem?.mpr h, rfl⟩

/-- The bytes of the mirror of the defect table. -/
def inMirror (a : Nat) : Prop := 0x17000000 ≤ a ∧ a < 0x17010000

/-- The mirror holds table `t`, word by word. -/
def State.Mirrors (s : State) (t : List Nat) : Prop := ∀ i e, t[i]? = some e → i < 16384 → s.readLE (0x17000000 + 4 * i) 4 = e % 2 ^ 32

theorem mirrors_setRegion (s : State) (t : List Nat) : (s.setRegion 0x17000000 0x17010000 (mirrorCells t)).Mirrors t := by
  intro i e he hi
  have bytes : (s.setRegion 0x17000000 0x17010000 (mirrorCells t)).readBytes (0x17000000 + 4 * i) 4 = leBytes 4 e := by
    refine readBytes_eq (bs := leBytes 4 e) fun j b hj => ?_
    have lt : j < 4 := by
      have := (List.getElem?_eq_some_iff.mp hj).1
      rwa [length_leBytes] at this
    have cell := mem_mirrorCells ((getElem?_words he lt).trans hj)
    rw [show 0x17000000 + 4 * i + j = 0x17000000 + (4 * i + j) by omega]
    exact readByte_setRegion_same s (nodup_mirrorCells t) cell (Nat.le_add_right _ _) (show 0x17000000 + (4 * i + j) < 0x17010000 by omega)
      (inTables_false (.inr (show 0x15800000 ≤ 0x17000000 + (4 * i + j) by omega)))
  rw [State.readLE, bytes, ofLE_leBytes]
  norm_num

theorem State.Mirrors.kept {s t : State} {d : List Nat} (h : s.Mirrors d) (k : ∀ a, inMirror a → t.readByte a = s.readByte a) : t.Mirrors d := by
  intro i e he hi
  rw [readLE_congr fun j hj => k (0x17000000 + 4 * i + j) ⟨by omega, by omega⟩]
  exact h i e he hi

/-! ### The words of what is concealed -/

def inTable (a : Nat) : Prop := inTables a = true

theorem readByte_setCmp (s : State) (x : CmpState) {a : Nat} (h : inTables a = false) : ({ s with cmp := x } : State).readByte a = s.readByte a := by
  simp only [State.readByte, h, Bool.false_and, Bool.false_eq_true, if_false]
  rfl

/-- Setting applied words changes the tables in DRAM, and nothing else of the tables' part. -/
structure State.WordsSet (s t : State) : Prop where
  words : s.FrameIn inTable t dramRegs tableParts
  cmp : t.cmp = { s.cmp with applied := t.cmp.applied }

theorem State.WordsSet.trans {s t u : State} (h : s.WordsSet t) (k : t.WordsSet u) : s.WordsSet u :=
  ⟨h.words.trans k.words, by rw [k.cmp, h.cmp]⟩

theorem wordsSet_putApplied (s : State) (k : Nat) (w : Table → Word) : s.WordsSet (s.putApplied k w) := by
  have touched := (frame_touchDram s (0x14000000 + 4 * k)).trans (frame_touchDram _ (0x14C00000 + 4 * k))
  unfold State.putApplied
  generalize (s.touchDram (0x14000000 + 4 * k)).touchDram (0x14C00000 + 4 * k) = u at touched ⊢
  have set (x : CmpState) : u.FrameIn inTable { u with cmp := x } [] [.cmp, .mem] :=
    ⟨(State.Frame.refl u _ _).thenUpd rfl fun p hp => by cases p <;> simp_all [State.Same],
      fun a ha => readByte_setCmp u x (Bool.eq_false_iff.mpr ha)⟩
  have cmp : u.cmp = s.cmp := touched.parts .cmp (by decide)
  exact ⟨(touched.inside.mono (List.Subset.refl _) (by decide)).trans ((set _).mono (List.nil_subset _) (by decide)), by
    dsimp only
    rw [cmp]⟩

theorem wordsSet_concealWords (s : State) (t : List Nat) : s.WordsSet (s.concealWords t) := by
  unfold State.concealWords
  generalize List.map entryK _ = ks
  induction ks generalizing s with
  | nil => exact ⟨.refl _ _ _ _, rfl⟩
  | cons k ks ih => exact (wordsSet_putApplied s k _).trans (ih _)

/-! ### The table stands in DRAM -/

/-- The mirror takes table `t`, and the applied words of what it conceals are set. -/
def State.putMirror (s : State) (t : List Nat) : State := (s.setRegion 0x17000000 0x17010000 (mirrorCells t)).concealWords t

/-- The table waits for its applying frame. -/
def State.awaitTable (s : State) : State := s.schedule (.defects s.cmp.defects)

theorem shadowDefects_eq (s : State) : s.shadowDefects = ((s.touchSpan 0x17000000 0x10000).putMirror s.cmp.defects).awaitTable := rfl

/-- Between `s` and `t` the defect table went to the mirror, and waits for its applying frame. -/
structure State.Shadowed (s t : State) : Prop where
  frame : s.Frame t dramRegs (.scn :: tableParts)
  cmp : t.cmp = { s.cmp with applied := t.cmp.applied }
  scn : t.scn = { s.scn with due := s.scn.due ++ [⟨s.windowClosed, .defects s.cmp.defects⟩] }
  mirror : t.Mirrors s.cmp.defects
  bytes : ∀ a, a < 0x17000000 ∨ 0x17010000 ≤ a → inTables a = false → t.readByte a = s.readByte a

theorem shadowed_awaitTable {s : State} {t : List Nat} (h : s.cmp.defects = t) : s.Shadowed (s.putMirror t).awaitTable := by
  have put := frameIn_setRegion s (mirrorCells t) (show 0x17000000 ≤ 0x17010000 by decide)
  have mirror := mirrors_setRegion s t
  have cmp : (s.setRegion 0x17000000 0x17010000 (mirrorCells t)).cmp = s.cmp := rfl
  unfold State.putMirror
  generalize s.setRegion 0x17000000 0x17010000 (mirrorCells t) = u at put mirror cmp ⊢
  obtain ⟨words, set⟩ := wordsSet_concealWords u t
  generalize u.concealWords t = v at words set ⊢
  have written : s.Frame v dramRegs tableParts := (put.frame.mono (List.nil_subset _) (by decide)).trans words.frame
  have awaits : v.Frame v.awaitTable [] [.scn] := (State.Frame.refl v _ _).setScn (by decide)
  have same : v.cmp.defects = s.cmp.defects := by rw [set, cmp]
  have bytes (a : Nat) (ha : inTables a = false) : v.awaitTable.readByte a = u.readByte a :=
    (awaits.parts .mem (by decide) a).trans (words.bytes a (Bool.eq_false_iff.mp ha))
  refine ⟨(written.mono (List.Subset.refl _) (List.subset_cons_self _ _)).trans (awaits.mono (List.nil_subset _) (by decide)),
    by rw [← cmp]; exact set, ?_, ?_, fun a ha ht => (bytes a ht).trans (put.bytes a (by omega))⟩
  · have scn : v.scn = s.scn := written.parts .scn (by decide)
    rw [State.awaitTable, State.schedule, windowClosed_frame written, scn, same]
  · rw [h]
    exact mirror.kept fun a ha => bytes a (inTables_false (.inr (by unfold inMirror at ha; omega)))

theorem shadowed_shadowDefects (s : State) : s.Shadowed s.shadowDefects := by
  have touched := frame_touchSpan s 0x17000000 0x10000
  have cmp : (s.touchSpan 0x17000000 0x10000).cmp = s.cmp := touched.parts .cmp (by decide)
  rw [shadowDefects_eq]
  generalize s.touchSpan 0x17000000 0x10000 = u at touched cmp ⊢
  have shadow := shadowed_awaitTable (s := u) (t := s.cmp.defects) (by rw [cmp])
  have scn : u.scn = s.scn := touched.parts .scn (by decide)
  have closed : u.windowClosed = s.windowClosed := windowClosed_frame touched
  have mirror := shadow.mirror
  rw [cmp] at mirror
  exact ⟨(touched.mono (List.Subset.refl _) (by decide)).trans shadow.frame, by rw [shadow.cmp, cmp], by rw [shadow.scn, scn, closed, cmp],
    mirror, fun a ha ht => (shadow.bytes a ha ht).trans (touched.parts .mem (by decide) a)⟩

end Sys2Proof.Machine

/-! # Defect edits and ladders (settles O9) -/

namespace Sys2Proof.Machine

/-! ### A DEFECT_EDIT -/

section
variable {s : State} {r : Request}

theorem exec_defectEdit (s : State) (r : Request) : exec (.defectEdit r) s = done (command 0x21 r (defectEditBody r) s) := rfl

/-- A DEFECT_EDIT of whole operations, one to 512. -/
def wholeEdit (r : Request) : Prop := ¬ (r.payload.length % 8 ≠ 0 ∨ r.payload.length = 0 ∨ 4096 < r.payload.length)

theorem defectEditBody_refused (h : wholeEdit r) {d : Nat} (he : editTable r (editedBy s.cmp.edits s.cmp.defects) = .error d) :
    defectEditBody r s = answer (.range d) s := by
  unfold defectEditBody
  dsimp only
  rw [if_neg h, he]

theorem defectEditBody_accepted (h : wholeEdit r) {d : List Nat} (he : editTable r (editedBy s.cmp.edits s.cmp.defects) = .ok d)
    (hm : s.memClk = true) : defectEditBody r s = ({ s with cmp.edits := s.cmp.edits ++ [r] }, .hold) := by
  unfold defectEditBody
  dsimp only
  rw [if_neg h, he]
  exact if_pos hm
end

/-! ### STUCK_ON entries that an edit makes -/

/-- The report of a STUCK_ON entry of quadrant q made in `s` (R101). -/
def State.stuckReport (s : State) (q : Quad) : Report := ⟨0x53, 2, 2 ^ q.val, 0, false, s.now⟩

section
variable (s : State)

theorem inbox_stuckFaults (q : Quad) : ∃ l, (s.stuckFaults q).flt.inbox = s.flt.inbox ++ s.stuckReport q :: l := by
  unfold State.stuckFaults
  dsimp only
  split
  · exact ⟨[⟨0x55, 3, 2 ^ q.val, 0, false, s.now⟩], by simp [State.faultQ, State.report, State.stuckReport]⟩
  · exact ⟨[], rfl⟩

/-- The STUCK_ON entries `es` raise their faults. -/
def State.stuckAll (s : State) (es : List Nat) : State := es.foldl (fun s e => s.stuckFaults (subQuad (entryK e))) s

theorem frame_stuckAll (es : List Nat) : s.Frame (s.stuckAll es) [] [.flt] := .foldl (fun u _ _ => frame_stuckFaults u _) s

theorem inbox_stuckAll (es : List Nat) : (∀ x ∈ s.flt.inbox, x ∈ (s.stuckAll es).flt.inbox) ∧
    ∀ e ∈ es, s.stuckReport (subQuad (entryK e)) ∈ (s.stuckAll es).flt.inbox := by
  induction es generalizing s with
  | nil => exact ⟨fun _ hx => hx, nofun⟩
  | cons e es ih =>
    obtain ⟨later, inbox⟩ := inbox_stuckFaults s (subQuad (entryK e))
    obtain ⟨kept, raised⟩ := ih (s.stuckFaults (subQuad (entryK e)))
    have now : (s.stuckFaults (subQuad (entryK e))).now = s.now := (frame_stuckFaults s _).parts .now (by decide)
    refine ⟨fun x hx => kept x (inbox ▸ List.mem_append_left _ hx), fun f hf => ?_⟩
    rcases List.mem_cons.mp hf with rfl | hf
    · exact kept _ (inbox ▸ List.mem_append_right _ List.mem_cons_self)
    · have := raised f hf
      rwa [State.stuckReport, now] at this
end

/-- The entries of table `t` whose STUCK_ON table `old` does not have. -/
def newlyStuck (old t : List Nat) : List Nat :=
  t.filter (fun e => entryKind e == 2 && !((entryFor old (entryKey e)).any (fun o => entryKind o == 2)))

theorem newStuck_eq (s : State) (old t : List Nat) : s.newStuck old t = s.stuckAll (newlyStuck old t) := rfl

theorem mem_newlyStuck {old t : List Nat} {e : Nat} (h : e ∈ t) (kind : entryKind e = 2) (new : entryFor old (entryKey e) = none) :
    e ∈ newlyStuck old t := List.mem_filter.mpr ⟨h, by simp [kind, new]⟩

/-! ### The edit is complete -/

theorem finishUnder_congr {s t : State} (h : t.cmd = s.cmd) (id op : Nat) (r : Request) (a : Answer) :
    (t.finishUnder id op r a).cmd = (s.finishUnder id op r a).cmd := by
  unfold State.finishUnder State.send State.remember
  dsimp only
  split <;> split <;> simp only [h]

theorem complete_congr {s t : State} (h : t.cmd = s.cmd) (src tag : Nat) (a : Answer) : (t.complete src tag a).cmd = (s.complete src tag a).cmd := by
  unfold State.complete
  rw [h]
  split
  · exact h
  · refine finishUnder_congr ?_ _ _ _ _
    rfl

/-- The oldest edit leaves those that wait. -/
def State.dropEdit (s : State) : State := { s with cmp.edits := s.cmp.edits.drop 1 }

/-- The oldest edit has made `d` of the table. -/
def State.applyEdit (s : State) (d : List Nat) : State := (s.dropEdit.setDefects d).stuckAll (newlyStuck s.cmp.defects d)

section
variable {s : State} {r : Request} {rest : List Request} (edits : s.cmp.edits = r :: rest)
include edits

theorem exec_defectEditComplete_applied {d : List Nat} (h : editTable r s.cmp.defects = .ok d) : exec .defectEditComplete s =
    done ((s.applyEdit d).shadowDefects.complete r.src.toNat r.tag.toNat (.ok (leBytes 4 d.length))) := by
  simp only [exec, execDefectEditComplete, edits, h, State.applyEdit, State.dropEdit, List.drop_one, List.tail_cons, newStuck_eq]

theorem exec_defectEditComplete_refused {o : Nat} (h : editTable r s.cmp.defects = .error o) : exec .defectEditComplete s =
    done (s.dropEdit.shadowDefects.complete r.src.toNat r.tag.toNat (.range o)) := by
  simp only [exec, execDefectEditComplete, edits, h, State.dropEdit, List.drop_one, List.tail_cons]
end

theorem exec_defectEditComplete_none {s : State} (edits : s.cmp.edits = []) : exec .defectEditComplete s = done s.shadowDefects := by
  simp only [exec, execDefectEditComplete, edits]

/-- The oldest edit, if there is one, has left the table as `d`. -/
structure State.Edited (s t : State) (d : List Nat) : Prop where
  frame : s.Frame t [A.CMP_DEF_STAT] [.cmp, .flt]
  cmp : t.cmp = { s.cmp with defects := d, edits := s.cmp.edits.drop 1 }

theorem edited_none {s : State} (edits : s.cmp.edits = []) : s.Edited s s.cmp.defects :=
  ⟨.refl _ _ _, by rw [show s.cmp.edits.drop 1 = s.cmp.edits by rw [edits]; rfl]⟩

theorem edited_dropEdit (s : State) : s.Edited s.dropEdit s.cmp.defects :=
  ⟨(State.Frame.refl s _ _).setCmp (by decide) rfl rfl, rfl⟩

section
variable (s : State) (d : List Nat)

theorem edited_applyEdit : s.Edited (s.applyEdit d) d := by
  have set := frame_setDefects s.dropEdit d
  have stuck := frame_stuckAll (s.dropEdit.setDefects d) (newlyStuck s.cmp.defects d)
  exact ⟨((edited_dropEdit s).frame.trans (set.mono (List.Subset.refl _) (by decide))).trans (stuck.mono (List.nil_subset _) (by decide)),
    stuck.parts .cmp (by decide)⟩

theorem count_applyEdit : (s.applyEdit d).rd F.CMP_DEF_STAT.COUNT = d.length % 2 ^ 15 :=
  ((frame_stuckAll _ _).rd (f := F.CMP_DEF_STAT.COUNT) List.not_mem_nil (by decide) (by decide)).trans
    (rd_wr_same _ (f := F.CMP_DEF_STAT.COUNT) _ (by decide))

theorem raised_applyEdit {e : Nat} (h : e ∈ d) (kind : entryKind e = 2) (new : entryFor s.cmp.defects (entryKey e) = none) :
    ⟨0x53, 2, 2 ^ (subQuad (entryK e)).val, 0, false, s.now⟩ ∈ (s.applyEdit d).flt.inbox :=
  (inbox_stuckAll (s.dropEdit.setDefects d) _).2 e (mem_newlyStuck h kind new)
end

/-- What the completion of an edit, or of automatic entries alone, leaves of the table. -/
structure State.TableStands (s t : State) (d : List Nat) : Prop where
  cmp : t.cmp = { s.cmp with defects := d, edits := s.cmp.edits.drop 1, applied := t.cmp.applied }
  scn : t.scn = { s.scn with due := s.scn.due ++ [⟨s.windowClosed, .defects d⟩] }
  mirror : t.Mirrors d
  bytes : ∀ a, a < 0x17000000 ∨ 0x17010000 ≤ a → inTables a = false → t.readByte a = s.readByte a
  frame : s.Frame t (A.CMP_DEF_STAT :: dramRegs) ([.scn, .mem, .cmp, .cmd, .flt] ++ dramParts)

theorem State.Edited.stands {s x y t : State} {d : List Nat} (edited : s.Edited x d) (shadowed : x.Shadowed y) (answered : y.Frame t [] [.cmd]) :
    s.TableStands t d := by
  have cmp : t.cmp = y.cmp := answered.parts .cmp (by decide)
  have table : x.cmp.defects = d := by rw [edited.cmp]
  have mem := answered.parts .mem (by decide)
  refine ⟨by rw [cmp]; exact shadowed.cmp.trans (by rw [edited.cmp]), ?_, ?_, fun a ha ht => ?_, ?_⟩
  · have scn : t.scn = y.scn := answered.parts .scn (by decide)
    have kept : x.scn = s.scn := edited.frame.parts .scn (by decide)
    rw [scn, shadowed.scn, kept, windowClosed_frame edited.frame, table]
  · have mirror := shadowed.mirror
    rw [table] at mirror
    exact mirror.kept fun a _ => mem a
  · exact (mem a).trans ((shadowed.bytes a ha ht).trans (edited.frame.parts .mem (by decide) a))
  · exact ((edited.frame.mono (by decide) (by decide)).trans (shadowed.frame.mono (by decide) (by decide))).trans
      (answered.mono (List.nil_subset _) (by decide))

theorem State.Shadowed.flt {x y t : State} (shadowed : x.Shadowed y) (answered : y.Frame t [] [.cmd]) : t.flt = x.flt :=
  (answered.parts .flt (by decide)).trans (shadowed.frame.parts .flt (by decide))

/-- A command that is complete is answered, and the wires touch nothing of it. -/
theorem complete_settled {y : State} (hu : y.undef = false) (src tag : Nat) (a : Answer) :
    y.Frame (y.complete src tag a).settle [] [.cmd] ∧ (y.complete src tag a).settle.cmd = (y.complete src tag a).cmd := by
  have frame := frame_complete y src tag a
  have du := frame.undef hu
  exact ⟨frame.settled du, settle_cmd du⟩

/-- The completion's part of O9: the table stands, and the edit, if there is one, is answered. -/
theorem defectEdit_completes {s : State} (hu : s.undef = false) {d : List Nat} (h : s.cmp.edits = [] ∧ d = s.cmp.defects ∨
      ∃ r rest, s.cmp.edits = r :: rest ∧ (editTable r s.cmp.defects = .ok d ∨ (∃ o, editTable r s.cmp.defects = .error o) ∧ d = s.cmp.defects)) :
    ∃ t, exec .defectEditComplete s = .next t ∧ s.TableStands t d ∧ (s.cmp.edits = [] → t.cmd = s.cmd ∧ t.flt = s.flt) ∧
      (∀ r rest, s.cmp.edits = r :: rest → editTable r s.cmp.defects = .ok d →
        t.rd F.CMP_DEF_STAT.COUNT = d.length % 2 ^ 15 ∧
        t.cmd = (s.complete r.src.toNat r.tag.toNat (.ok (leBytes 4 d.length))).cmd ∧
        ∀ e ∈ d, entryKind e = 2 → entryFor s.cmp.defects (entryKey e) = none →
          ⟨0x53, 2, 2 ^ (subQuad (entryK e)).val, 0, false, s.now⟩ ∈ t.flt.inbox) ∧
      (∀ r rest o, s.cmp.edits = r :: rest → editTable r s.cmp.defects = .error o →
        t.cmd = (s.complete r.src.toNat r.tag.toNat (.range o)).cmd ∧ t.flt = s.flt) := by
  rcases h with ⟨idle, rfl⟩ | ⟨r, rest, edits, applies | ⟨⟨o, refused⟩, rfl⟩⟩
  · have shadowed := shadowed_shadowDefects s
    have du := shadowed.frame.undef hu
    have settled := (frame_settle du).mono (List.Subset.refl _) (List.nil_subset [Part.cmd])
    refine ⟨_, exec_defectEditComplete_none idle, (edited_none idle).stands shadowed settled,
      fun _ => ⟨?_, shadowed.flt settled⟩, fun r rest edits => ?_, fun r rest o edits => ?_⟩
    · rw [settle_cmd du]
      exact shadowed.frame.parts .cmd (by decide)
    · cases idle.symm.trans edits
    · cases idle.symm.trans edits
  · have edited := edited_applyEdit s d
    have shadowed := shadowed_shadowDefects (s.applyEdit d)
    have cmd : (s.applyEdit d).shadowDefects.cmd = s.cmd := (shadowed.frame.parts .cmd (by decide)).trans (edited.frame.parts .cmd (by decide))
    have result := exec_defectEditComplete_applied edits applies
    obtain ⟨answered, same⟩ := complete_settled (shadowed.frame.undef (edited.frame.undef hu)) r.src.toNat r.tag.toNat (.ok (leBytes 4 d.length))
    refine ⟨_, result, edited.stands shadowed answered, fun idle => ?_, fun r' rest' edits' _ => ?_, fun r' rest' o edits' refused => ?_⟩
    · cases idle.symm.trans edits
    · obtain ⟨rfl, rfl⟩ := List.cons.inj (edits'.symm.trans edits)
      refine ⟨?_, same.trans (complete_congr cmd _ _ _), fun e he kind new => ?_⟩
      · rw [answered.rd List.not_mem_nil (by decide) (by decide), shadowed.frame.rd (by decide) (by decide) (by decide), count_applyEdit]
      · rw [shadowed.flt answered]
        exact raised_applyEdit s d he kind new
    · obtain ⟨rfl, rfl⟩ := List.cons.inj (edits'.symm.trans edits)
      cases applies.symm.trans refused
  · have edited := edited_dropEdit s
    have shadowed := shadowed_shadowDefects s.dropEdit
    have cmd : s.dropEdit.shadowDefects.cmd = s.cmd := (shadowed.frame.parts .cmd (by decide)).trans (edited.frame.parts .cmd (by decide))
    have result := exec_defectEditComplete_refused edits refused
    obtain ⟨answered, same⟩ := complete_settled (shadowed.frame.undef (edited.frame.undef hu)) r.src.toNat r.tag.toNat (.range o)
    refine ⟨_, result, edited.stands shadowed answered, fun idle => ?_, fun r' rest' edits' applies => ?_, fun r' rest' o' edits' refused' => ?_⟩
    · cases idle.symm.trans edits
    · obtain ⟨rfl, rfl⟩ := List.cons.inj (edits'.symm.trans edits)
      cases applies.symm.trans refused
    · obtain ⟨rfl, rfl⟩ := List.cons.inj (edits'.symm.trans edits)
      obtain rfl : o' = o := Except.error.inj (refused'.symm.trans refused)
      exact ⟨same.trans (complete_congr cmd _ _ _), shadowed.flt answered⟩

/-! ### Ladders -/

theorem frame_writeLadder (s : State) (b : LadderSet) : s.Frame (s.writeLadder b) [] [.scn, .hyb] := by
  have built : s.Frame { s with hyb.building := some { b with curves := s.panelCurves } } [] [.scn, .hyb] := (State.Frame.refl s _ _).setHyb (by decide)
  exact built.setScn (by decide)

theorem exec_ladderBuildDone_built {s : State} {b : LadderSet} (building : s.hyb.building = some b)
    (due : s.scn.due.any (fun d => d.ev == .ladder) = false) : exec .ladderBuildDone s = done (s.writeLadder b) := by
  simp only [exec, execLadderBuildDone, building, due]

theorem exec_ladderBuildDone_other {s : State} (h : s.hyb.building = none ∨ s.scn.due.any (fun d => d.ev == .ladder) = true) :
    exec .ladderBuildDone s = done s := by
  simp only [exec, execLadderBuildDone]
  rcases h with idle | due
  · rw [idle]
  · rw [due]
    cases s.hyb.building <;> rfl

/-- The errors of the tail of quadrant q are cleared. -/
def State.ladderClear (s : State) (q : Quad) : State :=
  { s with hyb.eccBad := s.hyb.eccBad.set q.val false, hyb.eccWarn := s.hyb.eccWarn.set q.val false }

theorem exec_ladderRewriteDone (s : State) (q : Quad) : exec (.ladderRewriteDone q) s = done (s.ladderClear q) := rfl

theorem frame_ladderClear (s : State) (q : Quad) : s.Frame (s.ladderClear q) [] [.hyb] := (State.Frame.refl s _ _).setHyb (by decide)

/-- Settles O9: a DEFECT_EDIT is accepted or refused, what is complete stands in the mirror, and the ladders' ends. -/
theorem defectsAndLadders : Obligations.DefectsAndLadders := by
  unfold Obligations.DefectsAndLadders
  intro s hu
  refine ⟨fun r run words filled few => ?_, fun d complete => ?_, fun b building due => ?_, fun other => ?_, fun q => ?_⟩
  · have whole : wholeEdit r := by
      rintro (odd | empty | many)
      · exact odd words
      · exact filled (List.length_eq_zero_iff.mp empty)
      · omega
    have cmp : (s.taken r).cmp = s.cmp := (frame_taken s r).parts .cmp (by decide)
    refine ⟨fun d accepted clock => ?_, fun o refused => ?_⟩
    · have body := defectEditBody_accepted (s := s.taken r) whole (by rw [cmp]; exact accepted) ((memClk_taken s r).trans clock)
      have waits : (s.taken r).Frame { s.taken r with cmp.edits := (s.taken r).cmp.edits ++ [r] } takenRegs [.cmd, .flt, .cmp] :=
        (State.Frame.refl _ _ _).setCmp (by decide) rfl rfl
      obtain ⟨held, frame, after⟩ := command_held hu run body waits rfl
      refine ⟨_, exec_defectEdit s r, ?_, held, frame⟩
      rw [after.parts .cmp (by decide), cmp]
    · exact ⟨_, exec_defectEdit s r, command_refused hu run (defectEditBody_refused whole (by rw [cmp]; exact refused))⟩
  · obtain ⟨t, result, stands, alone, applied, refused⟩ := defectEdit_completes hu complete
    exact ⟨t, result, by rw [stands.cmp], by rw [stands.cmp], stands.cmp, stands.scn, stands.mirror, stands.bytes, alone, applied, refused,
      stands.frame⟩
  · have frame := frame_writeLadder s b
    have du := frame.undef hu
    exact ⟨_, exec_ladderBuildDone_built building due, settle_hyb du, settle_scn du, frame.settled du⟩
  · exact ⟨_, exec_ladderBuildDone_other other, frame_settle hu⟩
  · have frame := frame_ladderClear s q
    have du := frame.undef hu
    exact ⟨_, exec_ladderRewriteDone s q, settle_hyb du, frame.settled du⟩

end Sys2Proof.Machine

/-! # Sense requests that end

What the requests that have nothing left to measure change as they complete: a BASELINE stores its readings, shows them valid and
queues their save, and the readings that waited for it are judged (R156, R161, R167). -/

namespace Sys2Proof.Machine

/-- What requests that end may change: a BASELINE writes its array, which a number beyond the glass may place in the applied tables. -/
def settledParts : List Part := .cmp :: requestParts

theorem frame_writeByte (s : State) (a : Nat) (b : Byte) : s.Frame (s.writeByte a b) [] [.cmp, .mem] := by
  unfold State.writeByte
  refine .ite ?_ ((State.Frame.refl s _ _).setMem (by decide))
  exact (State.Frame.refl s _ _).thenUpd rfl fun p hp => by cases p <;> simp_all [State.Same]

theorem frame_writeBytes_any (s : State) (a : Nat) (bs : List Byte) : s.Frame (s.writeBytes a bs) [] [.cmp, .mem] := by
  induction bs generalizing s a with
  | nil => exact .refl _ _ _
  | cons b bs ih => exact (frame_writeByte s a b).trans (ih _ _)

theorem frame_queueBaselines (s : State) : s.Frame s.queueBaselines [] [.gov] := .ite (frame_addFlash s _) (frame_queueFlash s _)

theorem baseT_mem_requestRegs (q : Quad) : A.SNS_BASE_T q.val ∈ requestRegs := by revert q; decide

/-- The new baselines are stored. -/
def State.storeBaselines (s : State) (l : List (Nat × Nat)) : State :=
  l.foldl (fun s e => (s.touchDram (baseAddr e.1)).writeLE (baseAddr e.1) 2 (min 0xFFFE e.2)) s

theorem frame_storeBaselines (s : State) (l : List (Nat × Nat)) : s.Frame (s.storeBaselines l) dramRegs ([.cmp, .mem] ++ dramParts) :=
  .foldl (fun u e _ => ((frame_touchDram u (baseAddr e.1)).mono (List.Subset.refl _) (by decide)).trans
    ((frame_writeBytes_any _ _ _).mono (List.nil_subset _) (by decide))) s

/-- The baselines stored are valid, measured with `itest` at `tref`. -/
def State.showBaselines (s : State) (q : Quad) (itest tref : Nat) : State :=
  { ((s.wr (F.SNS_BASE_T.VALID q.val) 1).wr (F.SNS_BASE_T.ITEST q.val) itest).wr (F.SNS_BASE_T.TREF q.val) tref with
    sns.baseNew := [], sns.tqSum := 0, sns.tqCount := 0 }

theorem setBaselines_eq (s : State) (q : Quad) : ∃ itest tref,
    s.setBaselines q = (((s.storeBaselines s.sns.baseNew).showBaselines q itest tref).queueBaselines).judgeWaiting q.val := ⟨_, _, rfl⟩

theorem frame_showBaselines (s : State) (q : Quad) (itest tref : Nat) : s.Frame (s.showBaselines q itest tref) requestRegs [.sns] :=
  ((((State.Frame.refl s requestRegs [.sns]).thenWr _ _ (baseT_mem_requestRegs q)).thenWr _ _ (baseT_mem_requestRegs q)).thenWr _ _
    (baseT_mem_requestRegs q)).setSns (by decide) rfl

theorem frame_setBaselines (s : State) (q : Quad) : s.Frame (s.setBaselines q) requestRegs settledParts := by
  obtain ⟨itest, tref, e⟩ := setBaselines_eq s q
  rw [e]
  exact ((((frame_storeBaselines s _).mono (by decide) (by decide)).trans ((frame_showBaselines _ q itest tref).mono (List.Subset.refl _) (by decide))).trans
    ((frame_queueBaselines _).mono (List.nil_subset _) (by decide))).trans ((frame_judgeWaiting _ _).mono (by decide) (by decide))

theorem frame_finishRequests (n : Nat) (s : State) : s.Frame (State.finishRequests n s) requestRegs settledParts := by
  have gone (u : State) (r : SenseReq) (rest : List SenseReq) : u.Frame (u.finishFirst r rest) requestRegs settledParts :=
    (frame_finishFirst u r rest).mono (by decide) (by decide)
  induction n generalizing s with
  | zero => exact .refl _ _ _
  | succ n ih =>
    rw [State.finishRequests]
    split
    next => exact .refl _ _ _
    next r rest _ =>
      refine .ite ((gone s r rest).trans (ih _)) (.ite (.refl _ _ _) (.ite ?_ (.ite ?_ ((gone s r rest).trans (ih _)))))
      · exact (State.Frame.refl s _ _).setSns (by decide) rfl
      · exact ((frame_setBaselines s _).trans (gone _ r rest)).trans (ih _)

theorem frame_settleRequests (s : State) : s.Frame s.settleRequests requestRegs settledParts :=
  ((frame_dropStopped s).mono (List.nil_subset _) (by decide)).trans (frame_finishRequests _ _)

end Sys2Proof.Machine

/-! # A read of the panel records that holds a channel the engine has not (settles O14)

`PanelRecords` says of every state in which a read of the records holds a channel that its end changes no channel but 0 to 5. It does
not ask that the state has its six channels (`State.Shape`), and a read that holds a seventh leaves its set in that channel's
registers. -/

namespace Sys2Proof.Machine

/-! ### The records -/

/-- What the end of a read may change once its check has left its channel. -/
def readRegs : List Nat := recordRegs ++ requestRegs
def readParts : List Part := [.scn, .flt, .sys] ++ settledParts

/-- The records kept and what the registers of quadrant q show of its own. -/
def State.showRecord (s : State) (q : Quad) (g : List GlassRec) (err quad serialLo serialHi : Nat) : State :=
  ((((({ s with scn.records := g } : State).wr (F.SCN_EE_STAT.ERR q.val) err).wrB (F.SCN_EE_STAT.VALID q.val) (err == 0)).wr
    (F.SCN_EE_STAT.QUAD q.val) quad).wr (F.SCN_EE_SERIAL_LO.SERIAL q.val) serialLo).wr (F.SCN_EE_SERIAL_HI.SERIAL q.val) serialHi

theorem frame_takeRecord (recs : List (Option (List Byte))) (q : Quad) (s : State) :
    s.Frame (State.takeRecord recs q s) recordRegs [.scn, .flt] := by
  have stat : A.SCN_EE_STAT q.val ∈ recordRegs := by revert q; decide
  have lo : A.SCN_EE_SERIAL_LO q.val ∈ recordRegs := by revert q; decide
  have hi : A.SCN_EE_SERIAL_HI q.val ∈ recordRegs := by revert q; decide
  have shown (g : List GlassRec) (err quad slo shi : Nat) : s.Frame (s.showRecord q g err quad slo shi) recordRegs [.scn, .flt] :=
    (((((State.Frame.setScn (.refl s _ _) (by decide)).thenWr _ _ stat).thenWrB _ _ stat).thenWr _ _ stat).thenWr _ _ lo).thenWr _ _ hi
  exact .ite (shown _ _ _ _ _) ((shown _ _ _ _ _).thenReport _ _ _ _ (by decide))

theorem frame_glassIdentity (s : State) : s.Frame s.glassIdentity recordRegs [.flt] := by
  have shown (u : State) (lo hi : Nat) : u.Frame ((u.wr F.SCN_GLASS_ID_LO.ID lo).wr F.SCN_GLASS_ID_HI.ID hi) recordRegs [.flt] :=
    ((State.Frame.refl u _ _).thenWr _ _ (by decide)).thenWr _ _ (by decide)
  exact .ite ((shown _ _ _).thenFault _ _ (by decide)) (shown _ _ _)

theorem frame_takeRecords (s : State) (recs : List (Option (List Byte))) : s.Frame (s.takeRecords recs) recordRegs [.scn, .flt] :=
  (State.Frame.forQ (frame_takeRecord recs) s).trans ((frame_glassIdentity _).mono (List.Subset.refl _) (by decide))

theorem frame_switchOn (s : State) (k : Nat) : s.Frame (s.switchOn k) railRegs [.sys] := by
  have on : s.Frame (s.setRailEn k true) railRegs [.sys] := (State.Frame.refl s railRegs [.sys]).thenWr F.SYS_PRAIL_STAT.EN _ (by decide)
  exact .ite on (on.setSys (by decide))

theorem frame_ledRail (s : State) (was : Bool) (q : Quad) : s.Frame (s.ledRail was q) railRegs [.sys] :=
  .ite (.refl _ _ _) (.ite (.ite (frame_switchOn s _) (.refl _ _ _)) (frame_switchOff s _))

/-- The LED supplies follow the validity of their glass, which was `was`. -/
def State.ledRails (s : State) (was : List Bool) : State := forQ (fun q s => s.ledRail (nth was q.val) q) s

/-- What the records read do once their check has left its channel. -/
def State.afterRead (s : State) (recs : List (Option (List Byte))) (was : List Bool) : State :=
  ((s.takeRecords recs).ledRails was).settleRequests

theorem frame_afterRead (s : State) (recs : List (Option (List Byte))) (was : List Bool) :
    s.Frame (s.afterRead recs was) readRegs readParts :=
  (((frame_takeRecords s recs).mono (by decide) (by decide)).trans
    ((State.Frame.forQ (fun q u => frame_ledRail u (nth was q.val) q) _).mono (by decide) (by decide))).trans
    ((frame_settleRequests _).mono (by decide) (by decide))

/-! ### A read that holds a channel the engine has not -/

theorem exec_eepromReadDone {s : State} (recs : List (Option (List Byte))) (busy : s.on F.SCN_I2C.BUSY = true)
    (chan : s.hasChannel .eeprom = true) : exec (.eepromReadDone recs) s =
      done (((s.wr F.SCN_I2C.BUSY 0).leaveChannel .eeprom).afterRead recs ((List.range 4).map s.glassValid)) := by
  simp only [exec, execEepromReadDone, busy, chan, Bool.not_true, Bool.or_self, Bool.false_eq_true, if_false]
  rfl

/-- A read that held channel `c` leaves its set in that channel, and no undefined case. -/
theorem afterRead_held {s : State} {c : Nat} (h : s.chk.chans.findIdx? (· == some .eeprom) = some c) (recs : List (Option (List Byte)))
    (was : List Bool) : ((s.leaveChannel .eeprom).afterRead recs was).rd (F.CHK_CH_CFG.PARAM c) = 3 ∧
      ((s.leaveChannel .eeprom).afterRead recs was).undef = s.undef := by
  have after := frame_afterRead (s.leaveChannel .eeprom) recs was
  have apart : (F.CHK_CH_CFG.PARAM c).addr ∉ readRegs := fun m =>
    channel_apart c (a := (F.CHK_CH_CFG.PARAM c).addr) ((by decide : ∀ a ∈ readRegs, a < 0x100000) _ m) rfl
  have left := (frame_leaveChannel_work h).rd (f := F.CHK_CH_CFG.PARAM c) List.not_mem_nil (channel_apart c (by decide)) (channel_apart c (by decide))
  exact ⟨((after.rd apart (channel_apart c (by decide)) (channel_apart c (by decide))).trans left).trans (param_channelWork s c),
    (after.parts .undef (by decide)).trans ((frame_leaveChannel h).parts .undef (by decide))⟩

/-- A read of the panel records holds a channel behind the engine's six, whose PARAM is 0. -/
def readingBeyond : State :=
  { (State.reset.wr F.SCN_I2C.BUSY 1).wr (F.CHK_CH_CFG.PARAM 6) 0 with
    chk.chans := [none, none, none, none, none, none, some .eeprom] }

/-- Refutes O14: the end of that read changes the configuration of the seventh channel. -/
theorem not_panelRecords : ¬ Obligations.PanelRecords := by
  unfold Obligations.PanelRecords
  intro h
  obtain ⟨-, -, -, ends⟩ := h readingBeyond rfl
  obtain ⟨t, ht, -, -, -, -, -, -, frame⟩ := ends [none, none, none, none] (by decide) (by decide) rfl rfl (by simp)
  obtain ⟨param, undef⟩ := afterRead_held (s := readingBeyond.wr F.SCN_I2C.BUSY 0) (c := 6) (by decide) [none, none, none, none]
    ((List.range 4).map readingBeyond.glassValid)
  rw [exec_eepromReadDone _ (by decide) (by decide)] at ht
  generalize ((readingBeyond.wr F.SCN_I2C.BUSY 0).leaveChannel .eeprom).afterRead [none, none, none, none]
    ((List.range 4).map readingBeyond.glassValid) = u at param undef ht
  obtain rfl : u.settle = t := Host.Outcome.next.inj ht
  have before : readingBeyond.rd (F.CHK_CH_CFG.PARAM 6) = 0 := by decide
  have kept : u.settle.rd (F.CHK_CH_CFG.PARAM 6) = 0 := (frame.rd (by decide) (by decide) (by decide)).trans before
  rw [rd_settle undef (by decide) (by decide), param] at kept
  cases kept

end Sys2Proof.Machine

/-! # Rows, places and the choice of the arbiter

What a request moves in the rows of the DRAM, the places that requests take, and the request that the arbiter chooses (R195 to R204). -/

namespace Sys2Proof.Machine

/-! ### The rows of the DRAM -/

/-- The controller as it was but for rows, neighbour refreshes and the instants of the last requests. -/
def FmcState.RowsMoved (f g : FmcState) : Prop :=
  ∃ openRow pnr pnrRows lastReq, g = { f with openRow := openRow, pnr := pnr, pnrRows := pnrRows, lastReq := lastReq }

theorem FmcState.RowsMoved.refl (f : FmcState) : f.RowsMoved f := ⟨f.openRow, f.pnr, f.pnrRows, f.lastReq, rfl⟩

theorem FmcState.RowsMoved.trans {f g h : FmcState} : f.RowsMoved g → g.RowsMoved h → f.RowsMoved h := by
  rintro ⟨_, _, _, _, rfl⟩ ⟨_, _, _, _, rfl⟩
  exact ⟨_, _, _, _, rfl⟩

theorem FmcState.RowsMoved.queue {f g : FmcState} (h : f.RowsMoved g) : g.queue = f.queue := by
  obtain ⟨_, _, _, _, rfl⟩ := h
  rfl

theorem FmcState.RowsMoved.held {f g : FmcState} (h : f.RowsMoved g) : g.held = f.held := by
  obtain ⟨_, _, _, _, rfl⟩ := h
  rfl

theorem FmcState.RowsMoved.corrNow {f g : FmcState} (h : f.RowsMoved g) : g.corrNow = f.corrNow := by
  obtain ⟨_, _, _, _, rfl⟩ := h
  rfl

section
variable (s : State)

theorem rowsMoved_wakeRank (r : Nat) : s.fmc.RowsMoved (s.wakeRank r).fmc := by
  unfold State.wakeRank
  dsimp only
  split <;> exact ⟨_, _, _, _, rfl⟩

theorem rowsMoved_activate (bank row : Nat) : s.fmc.RowsMoved (s.activate bank row).fmc := by
  unfold State.activate State.draw
  dsimp only
  split
  · exact ⟨_, _, _, _, rfl⟩
  · split
    · exact ⟨_, _, _, _, rfl⟩
    · split <;> exact ⟨_, _, _, _, rfl⟩

theorem rowsMoved_touchDram (a : Nat) : s.fmc.RowsMoved (s.touchDram a).fmc := by
  unfold State.touchDram
  dsimp only
  split
  · exact rowsMoved_wakeRank s _
  · exact (rowsMoved_wakeRank s _).trans (rowsMoved_activate _ _ _)

theorem neighbourFirst_full {e : Nat × Nat} {rest : List (Nat × Nat)} (h : s.fmc.pnr = e :: rest) (full : 16 ≤ s.fmc.pnr.length) :
    s.neighbourFirst = ({ s with fmc.pnr := rest } : State).runNeighbour e := by
  unfold State.neighbourFirst
  rw [h] at full ⊢
  exact if_pos full

theorem neighbourFirst_room (h : s.fmc.pnr.length < 16) : s.neighbourFirst = s := by
  unfold State.neighbourFirst
  split
  · exact if_neg (by omega)
  · rfl

theorem neighbourFirst_cases : s.neighbourFirst = s ∨ ∃ e rest, s.neighbourFirst = ({ s with fmc.pnr := rest } : State).runNeighbour e := by
  by_cases full : 16 ≤ s.fmc.pnr.length
  · cases h : s.fmc.pnr with
    | nil => simp [h] at full
    | cons e rest => exact .inr ⟨e, rest, neighbourFirst_full s h full⟩
  · exact .inl (neighbourFirst_room s (by omega))

theorem frame_neighbourFirst : s.Frame s.neighbourFirst dramRegs dramParts := by
  rcases neighbourFirst_cases s with e | ⟨e, rest, h⟩
  · rw [e]
    exact .refl _ _ _
  · rw [h]
    exact State.Frame.trans ((State.Frame.refl s _ _).setFmc (by decide)) (frame_runNeighbour _ e)

theorem rowsMoved_neighbourFirst : s.fmc.RowsMoved s.neighbourFirst.fmc := by
  rcases neighbourFirst_cases s with e | ⟨e, rest, h⟩
  · rw [e]
    exact .refl _
  · rw [h]
    exact ⟨_, _, _, _, rfl⟩
end

/-! ### Places -/

/-- The places of R195 are not exceeded. -/
def withinPlaces (q : List MemReq) : Prop := q.countP realTime ≤ 16 ∧ q.countP (fun r => !realTime r) ≤ 48

theorem withinPlaces_append {q : List MemReq} {r : MemReq} (h : withinPlaces q) (free : hasPlace q r = true) : withinPlaces (q ++ [r]) := by
  obtain ⟨own, shared⟩ := h
  unfold withinPlaces
  simp only [hasPlace] at free
  rw [List.countP_append, List.countP_append, List.countP_singleton, List.countP_singleton]
  cases rt : realTime r with
  | true =>
    simp only [rt, if_true, Nat.blt_eq] at free
    simpa using ⟨by omega, shared⟩
  | false =>
    simp only [rt, Bool.false_eq_true, if_false, Bool.and_eq_true, Nat.blt_eq] at free
    simpa using ⟨own, by omega⟩

theorem withinPlaces_takePlaces (l q held : List MemReq) (h : withinPlaces q) : withinPlaces (takePlaces l q held).1 := by
  induction l generalizing q held with
  | nil => exact h
  | cons r rest ih =>
    rw [takePlaces]
    split
    next free => exact ih _ _ (withinPlaces_append h (Bool.and_eq_true_iff.mp free).1)
    next => exact ih _ _ h

theorem withinPlaces_erase {q : List MemReq} (r : MemReq) (h : withinPlaces q) : withinPlaces (q.erase r) :=
  ⟨(List.erase_sublist.countP_le).trans h.1, (List.erase_sublist.countP_le).trans h.2⟩

section
variable (s : State) (l : List MemReq)

theorem frame_enqueue : s.Frame (s.enqueue l) [] [.fmc] := (State.Frame.refl s _ _).setFmc (by decide)

theorem withinPlaces_enqueue (h : withinPlaces s.fmc.queue) : withinPlaces (s.enqueue l).fmc.queue := withinPlaces_takePlaces _ _ _ h

theorem enqueue_nil (h : s.fmc.held = []) : (s.enqueue []).fmc = s.fmc := by
  unfold State.enqueue
  rw [h, List.append_nil]
  simp only [takePlaces]
  rw [← h]

/-- With nothing outstanding a request takes its place at once. -/
theorem enqueue_first (r : MemReq) (hq : s.fmc.queue = []) (hh : s.fmc.held = []) :
    (s.enqueue [r]).fmc.queue = [r] ∧ (s.enqueue [r]).fmc.held = [] := by
  have free : hasPlace [] r = true := by
    have limit : 0 < portLimit (reqClass r) := by
      unfold portLimit
      split
      · decide
      · split <;> decide
    simp [hasPlace, limit]
  have placed : takePlaces [r] [] [] = ([r], []) := by simp [takePlaces, free]
  unfold State.enqueue
  rw [hq, hh, List.nil_append, placed]
  exact ⟨rfl, rfl⟩
end

/-! ### The choice -/

/-- What may be served stands in the queue, with nothing for its burst before it. -/
theorem servable_oldest {q seen : List MemReq} {r : MemReq} (h : r ∈ servable q seen) :
    (∀ x ∈ seen, reqBurst x ≠ reqBurst r) ∧ ∃ a b, q = a ++ r :: b ∧ ∀ x ∈ a, reqBurst x ≠ reqBurst r := by
  induction q generalizing seen with
  | nil => exact absurd h List.not_mem_nil
  | cons y rest ih =>
    rw [servable] at h
    split at h
    next old =>
      obtain ⟨before, a, b, rfl, first⟩ := ih h
      obtain ⟨x, hx, same⟩ := List.any_eq_true.mp old
      exact ⟨before, y :: a, b, rfl, List.forall_mem_cons.mpr ⟨beq_iff_eq.mp same ▸ before x hx, first⟩⟩
    next new =>
      rcases List.mem_cons.mp h with rfl | later
      · refine ⟨fun x hx e => new (List.any_eq_true.mpr ⟨x, hx, beq_iff_eq.mpr e⟩), [], rest, rfl, nofun⟩
      · obtain ⟨before, a, b, rfl, first⟩ := ih later
        obtain ⟨own, before⟩ := List.forall_mem_cons.mp before
        exact ⟨before, y :: a, b, rfl, List.forall_mem_cons.mpr ⟨own, first⟩⟩

theorem mem_of_servable {q : List MemReq} {r : MemReq} (h : r ∈ servable q []) : r ∈ q := by
  obtain ⟨-, a, b, rfl, -⟩ := servable_oldest h
  simp

theorem servable_ne_nil {q : List MemReq} (h : q ≠ []) : servable q [] ≠ [] := by
  cases q with
  | nil => exact absurd rfl h
  | cons r rest => simp [servable]

theorem pickOf_some {s : State} {c : Nat} {l : List MemReq} {r : MemReq} (h : s.pickOf c l = some r) : r ∈ l ∧ reqClass r = c := by
  have mine : r ∈ l.filter (fun r => reqClass r == c) := by
    unfold State.pickOf at h
    dsimp only at h
    split at h
    next x found =>
      obtain rfl := Option.some.inj h
      exact List.mem_of_mem_filter (List.mem_of_find?_eq_some found)
    next => exact List.mem_of_mem_head? h
  obtain ⟨hl, hc⟩ := List.mem_filter.mp mine
  exact ⟨hl, beq_iff_eq.mp hc⟩

theorem pickOf_isSome {s : State} {c : Nat} {l : List MemReq} (h : l.any (fun r => reqClass r == c) = true) : (s.pickOf c l).isSome := by
  obtain ⟨r, hr, hc⟩ := List.any_eq_true.mp h
  have mine : l.filter (fun r => reqClass r == c) ≠ [] := List.ne_nil_of_mem (List.mem_filter.mpr ⟨hr, hc⟩)
  unfold State.pickOf
  dsimp only
  split
  · rfl
  · exact List.isSome_head?.mpr mine

theorem any_reqClass {l : List MemReq} {x : MemReq} {c : Nat} (hx : x ∈ l) (hc : reqClass x = c) :
    l.any (fun r => reqClass r == c) = true := List.any_eq_true.mpr ⟨x, hx, beq_iff_eq.mpr hc⟩

theorem reqClass_lt (r : MemReq) : reqClass r < 6 := by
  unfold reqClass portClass
  split <;> decide

/-- The port that is served under urgency asks for it, and is SCAN or COMP. -/
theorem urgentPort_some {s : State} {l : List MemReq} {c : Nat} (h : s.urgentPort l = some c) :
    l.any (fun r => reqClass r == c) = true ∧ c < 2 := by
  unfold State.urgentPort at h
  dsimp only at h
  split at h
  next both =>
    obtain ⟨scan, comp⟩ := Bool.and_eq_true_iff.mp both
    obtain rfl := Option.some.inj h
    split
    · exact ⟨scan, by decide⟩
    · exact ⟨comp, by decide⟩
  next =>
    split at h
    next scan =>
      obtain rfl := Option.some.inj h
      exact ⟨scan, by decide⟩
    next =>
      split at h
      next comp =>
        obtain rfl := Option.some.inj h
        exact ⟨comp, by decide⟩
      next => cases h

theorem urgentPort_isSome {s : State} {l : List MemReq} (h : ∃ x ∈ l, realTime x = true) : (s.urgentPort l).isSome := by
  obtain ⟨x, hx, rt⟩ := h
  have real : reqClass x = 0 ∨ reqClass x = 1 := by
    have : reqClass x < 2 := Nat.blt_eq.mp rt
    omega
  unfold State.urgentPort
  dsimp only
  split
  · rfl
  · split
    · rfl
    · split
      · rfl
      next both scan comp =>
        rcases real with c | c
        · exact absurd (any_reqClass hx c) scan
        · exact absurd (any_reqClass hx c) comp

theorem nextPort_some {s : State} {l : List MemReq} {p : Nat × Nat} (h : s.nextPort l = some p) :
    l.any (fun r => reqClass r == p.1) = true := by
  unfold State.nextPort at h
  split at h
  next own =>
    obtain rfl := Option.some.inj h
    exact own.2
  next =>
    obtain ⟨c, found, rfl⟩ := Option.map_eq_some_iff.mp h
    exact List.find?_some (p := fun c => l.any (fun r => reqClass r == c)) found

/-- Among the six ports the next in turn that asks is found, whichever was served last. -/
theorem nextPort_isSome {s : State} {l : List MemReq} (h : l ≠ []) : (s.nextPort l).isSome := by
  obtain ⟨x, hx⟩ := List.exists_mem_of_ne_nil l h
  have turn : reqClass x ∈ [1, 2, 3, 4, 5, 6].map (fun i => (s.fmc.turn + i) % 6) := by
    have := reqClass_lt x
    simp only [List.map_cons, List.map_nil, List.mem_cons, List.not_mem_nil, or_false]
    omega
  unfold State.nextPort
  split
  · rfl
  · rw [Option.isSome_map, List.find?_isSome]
    exact ⟨_, turn, any_reqClass hx rfl⟩

/-- The controller as it was but for whose turn it is. -/
def FmcState.TurnMoved (f g : FmcState) : Prop := ∃ turn left compLast, g = { f with turn := turn, left := left, compLast := compLast }

/-- A choice is of a request that may be served, under urgency of a real-time one where there is one, and moves the turn. -/
theorem arbitrate_some {s t : State} {r : MemReq} (h : s.arbitrate = some (r, t)) :
    r ∈ servable s.fmc.queue [] ∧ (s.anyUrgent = true → (∃ x ∈ servable s.fmc.queue [], realTime x = true) → realTime r = true) ∧
      s.Frame t [] [.fmc] ∧ s.fmc.TurnMoved t.fmc := by
  unfold State.arbitrate at h
  dsimp only at h
  split at h
  next c urgent =>
    obtain ⟨x, picked, e⟩ := Option.map_eq_some_iff.mp h
    obtain ⟨rfl, rfl⟩ := Prod.mk.inj e
    obtain ⟨mem, cls⟩ := pickOf_some picked
    have real : c < 2 := by
      split at urgent
      · exact (urgentPort_some urgent).2
      · cases urgent
    exact ⟨mem, fun _ _ => by simpa [realTime, cls] using real, (State.Frame.refl s _ _).setFmc (by decide), ⟨_, _, _, rfl⟩⟩
  next calm =>
    split at h
    next c left turn =>
      obtain ⟨x, picked, e⟩ := Option.map_eq_some_iff.mp h
      obtain ⟨rfl, rfl⟩ := Prod.mk.inj e
      refine ⟨(pickOf_some picked).1, fun urgent real => ?_, (State.Frame.refl s _ _).setFmc (by decide), ⟨_, _, _, rfl⟩⟩
      rw [if_pos urgent] at calm
      exact absurd (urgentPort_isSome (s := s) real) (by simp [calm])
    next => cases h

theorem arbitrate_none {s : State} (h : s.arbitrate = none) : s.fmc.queue = [] := by
  by_contra waiting
  have some := servable_ne_nil waiting
  unfold State.arbitrate at h
  dsimp only at h
  split at h
  next c urgent =>
    have asks : (servable s.fmc.queue []).any (fun r => reqClass r == c) = true := by
      split at urgent
      · exact (urgentPort_some urgent).1
      · cases urgent
    exact absurd (pickOf_isSome (s := s) asks) (by simp [Option.map_eq_none_iff.mp h])
  next =>
    split at h
    next c left turn => exact absurd (pickOf_isSome (s := s) (nextPort_some turn)) (by simp [Option.map_eq_none_iff.mp h])
    next turn => exact absurd (nextPort_isSome (s := s) some) (by simp [turn])

end Sys2Proof.Machine

/-! # Urgency of the line buffers

What judging the urgency of a quadrant anew shows and leaves (R135). -/

namespace Sys2Proof.Machine

/-- Quadrant q judges its urgency anew, and the episodes are counted. -/
def State.reviewUrgency (s : State) (q : Quad) : State := (s.judgeUrgency q).countUrgency

def urgencyRegs (q : Quad) : List Nat := [A.SCN_LBUF q.val, A.FMC_URG]

section
variable (s : State) (q : Quad)

theorem frame_judgeUrgency : s.Frame (s.judgeUrgency q) (urgencyRegs q) [.fmc] :=
  ((State.Frame.refl s _ _).thenWr (F.SCN_LBUF.LEVEL q.val) _ List.mem_cons_self).thenWrB (F.SCN_LBUF.URGENT q.val) _ List.mem_cons_self

theorem countUrgency_cases : s.countUrgency = s ∨ ∃ f v since, f ∈ [F.FMC_URG.EPISODES, F.FMC_URG.MAX_NS] ∧
    s.countUrgency = { s.wr f v with fmc.urgentSince := since } := by
  unfold State.countUrgency
  split
  · exact .inr ⟨F.FMC_URG.EPISODES, _, _, by simp, rfl⟩
  · exact .inr ⟨F.FMC_URG.MAX_NS, _, _, by simp, rfl⟩
  · exact .inl rfl

theorem frame_countUrgency : s.Frame s.countUrgency [A.FMC_URG] [.fmc] := by
  rcases countUrgency_cases s with e | ⟨f, v, since, hf, e⟩
  · rw [e]
    exact .refl _ _ _
  · have addr : f.addr = A.FMC_URG := (by decide : ∀ f ∈ [F.FMC_URG.EPISODES, F.FMC_URG.MAX_NS], f.addr = A.FMC_URG) f hf
    rw [e]
    exact ((State.Frame.refl s _ _).thenWr f v (by rw [addr]; exact List.mem_cons_self)).setFmc (by decide)

theorem frame_reviewUrgency : s.Frame (s.reviewUrgency q) (urgencyRegs q) [.fmc] :=
  (frame_judgeUrgency s q).trans ((frame_countUrgency _).mono (List.subset_cons_self _ _) (List.Subset.refl _))

theorem fmc_reviewUrgency : ∃ since, (s.reviewUrgency q).fmc = { s.fmc with urgentSince := since } := by
  unfold State.reviewUrgency
  rcases countUrgency_cases (s.judgeUrgency q) with e | ⟨f, v, since, -, e⟩
  · rw [e]
    exact ⟨_, rfl⟩
  · rw [e]
    exact ⟨_, rfl⟩

theorem bufLevel_congr {s t : State} (h : t.scn = s.scn) (q : Quad) : t.bufLevel q = s.bufLevel q := by
  cases s
  cases t
  cases h
  rfl

theorem bufLevel_le : s.bufLevel q ≤ 5 := (List.length_filter_le _ _).trans (by simp)

theorem lbuf_unwired (q : Quad) : A.SCN_LBUF q.val ≠ A.SAF_STAT ∧ A.SCN_LBUF q.val ≠ A.SYS_START := by
  revert q
  decide

/-- SCN_LBUF.LEVEL shows the level of the state it is judged in. -/
theorem level_reviewUrgency : (s.reviewUrgency q).rd (F.SCN_LBUF.LEVEL q.val) = s.bufLevel q := by
  have counted : (s.reviewUrgency q).rd (F.SCN_LBUF.LEVEL q.val) = (s.judgeUrgency q).rd (F.SCN_LBUF.LEVEL q.val) :=
    (frame_countUrgency _).rd (by revert q; decide) (lbuf_unwired q).1 (lbuf_unwired q).2
  have apart : (s.judgeUrgency q).rd (F.SCN_LBUF.LEVEL q.val) = (s.wr (F.SCN_LBUF.LEVEL q.val) (s.bufLevel q)).rd (F.SCN_LBUF.LEVEL q.val) :=
    rd_wr_other _ _ (.inr (.inl (Nat.le_of_ble_eq_true rfl)))
  have fits : s.bufLevel q < 2 ^ (F.SCN_LBUF.LEVEL q.val).len := lt_of_le_of_lt (bufLevel_le s q) (by decide : 5 < 2 ^ 4)
  rw [counted, apart, rd_wr_fits s (Nat.le_of_ble_eq_true rfl) fits]
end

theorem State.Frame.anyUrgent {s t : State} {l : List Nat} {ps : List Part} (h : s.Frame t l ps) (hl : ∀ q : Quad, A.SCN_LBUF q.val ∉ l) :
    t.anyUrgent = s.anyUrgent := by
  have same (q : Quad) : t.urgent q = s.urgent q :=
    on_of_rd (h.rd (f := F.SCN_LBUF.URGENT q.val) (hl q) (lbuf_unwired q).1 (lbuf_unwired q).2)
  simp only [State.anyUrgent, same]

end Sys2Proof.Machine

/-! # Reads of the DRAM (settles O22)

A choice moves the turn and falls on a request that may be served; serving it opens its row and lets requests in; the read that comes
back is counted and delivered. A MEM_READ counts its bursts one by one. -/

namespace Sys2Proof.Machine

/-! ### Requests are served -/

/-- Between `s` and `t` requests were served: rows opened and closed, and no more places are taken than there are. -/
structure State.Serves (s t : State) : Prop where
  frame : s.Frame t dramRegs dramParts
  corrNow : t.fmc.corrNow = s.fmc.corrNow
  places : withinPlaces s.fmc.queue → withinPlaces t.fmc.queue

theorem State.Serves.trans {s t u : State} (h : s.Serves t) (k : t.Serves u) : s.Serves u :=
  ⟨h.frame.trans k.frame, k.corrNow.trans h.corrNow, k.places ∘ h.places⟩

section
variable (s : State) (r : MemReq)

/-- A request leaves the queue, and its row is opened. -/
def State.openFor (s : State) (r : MemReq) : State := ({ s with fmc.queue := s.fmc.queue.erase r } : State).touchDram (r.addr % 2 ^ 31)

theorem frame_openFor : s.Frame (s.openFor r) dramRegs dramParts :=
  State.Frame.trans ((State.Frame.refl s _ _).setFmc (by decide)) (frame_touchDram _ _)

theorem rowsMoved_openFor : FmcState.RowsMoved { s.fmc with queue := s.fmc.queue.erase r } (s.openFor r).fmc := rowsMoved_touchDram _ _

theorem serves_serve : s.Serves (s.serve r) where
  frame := (frame_openFor s r).trans ((frame_enqueue _ []).mono (List.nil_subset _) (by decide))
  corrNow := (rowsMoved_openFor s r).corrNow
  places := fun h => withinPlaces_enqueue _ _ ((rowsMoved_openFor s r).queue ▸ withinPlaces_erase r h)

/-- With no request held back, one that is served frees its place for none. -/
theorem fmc_serve (h : s.fmc.held = []) : (s.serve r).fmc = (s.openFor r).fmc :=
  enqueue_nil _ ((rowsMoved_openFor s r).held.trans h)

theorem serves_neighbourFirst : s.Serves s.neighbourFirst :=
  ⟨frame_neighbourFirst s, (rowsMoved_neighbourFirst s).corrNow, fun h => (rowsMoved_neighbourFirst s).queue ▸ h⟩

theorem serves_arbitrate {s t : State} {r : MemReq} (h : s.arbitrate = some (r, t)) : s.Serves t := by
  obtain ⟨-, -, frame, _, _, _, e⟩ := arbitrate_some h
  refine ⟨frame.mono (List.nil_subset _) (by decide), ?_, fun h => ?_⟩
  · rw [e]
  · rw [e]
    exact h
end

section
variable {s u : State} {r : MemReq}

theorem serveReads_idle {n : Nat} (h : s.neighbourFirst.arbitrate = none) : State.serveReads (n + 1) s = (none, s.neighbourFirst) := by
  rw [State.serveReads, h]

theorem serveReads_write {n : Nat} {t : State} (h : s.neighbourFirst.arbitrate = some (r, t)) (w : r.write = true) :
    State.serveReads (n + 1) s = State.serveReads n (t.serve r) := by
  rw [State.serveReads, h]
  exact if_pos w

theorem serveReads_read {n : Nat} {t : State} (h : s.neighbourFirst.arbitrate = some (r, t)) (w : r.write = false) :
    State.serveReads (n + 1) s = (some r, t.serve r) := by
  rw [State.serveReads, h]
  exact if_neg (by simp [w])

/-- What a choice after the neighbour refreshes chooses from is the queue of `s`. -/
theorem chosen {t : State} (h : s.neighbourFirst.arbitrate = some (r, t)) :
    r ∈ servable s.fmc.queue [] ∧ (s.anyUrgent = true → (∃ x ∈ servable s.fmc.queue [], realTime x = true) → realTime r = true) ∧
      s.Serves t ∧ t.fmc.queue = s.fmc.queue ∧ t.fmc.held = s.fmc.held := by
  obtain ⟨mem, urgent, -, _, _, _, e⟩ := arbitrate_some h
  have moved := rowsMoved_neighbourFirst s
  rw [(frame_neighbourFirst s).anyUrgent (by decide)] at urgent
  rw [moved.queue] at mem urgent
  refine ⟨mem, urgent, (serves_neighbourFirst s).trans (serves_arbitrate h), ?_, ?_⟩
  · rw [e, ← moved.queue]
  · rw [e, ← moved.held]

theorem serves_serveReads (n : Nat) (s : State) : s.Serves (State.serveReads n s).2 := by
  induction n generalizing s with
  | zero => exact ⟨.refl _ _ _, rfl, id⟩
  | succ n ih =>
    cases h : s.neighbourFirst.arbitrate with
    | none =>
      rw [serveReads_idle h]
      exact serves_neighbourFirst s
    | some p =>
      obtain ⟨-, -, turn, -, -⟩ := chosen h
      have served := turn.trans (serves_serve p.2 p.1)
      cases w : p.1.write with
      | true =>
        rw [serveReads_write h w]
        exact served.trans (ih _)
      | false =>
        rw [serveReads_read h w]
        exact served

theorem read_serveReads {n : Nat} (h : State.serveReads n s = (some r, u)) : r.write = false := by
  induction n generalizing s with
  | zero => cases h
  | succ n ih =>
    cases e : s.neighbourFirst.arbitrate with
    | none =>
      rw [serveReads_idle e] at h
      cases h
    | some p =>
      cases w : p.1.write with
      | true =>
        rw [serveReads_write e w] at h
        exact ih h
      | false =>
        rw [serveReads_read e w] at h
        obtain rfl : p.1 = r := Option.some.inj (congrArg Prod.fst h)
        exact w

/-- Where no read returns and none is held back, the queue held writes only. -/
theorem writes_serveReads {n : Nat} (h : State.serveReads n s = (none, u)) (held : s.fmc.held = []) (all : s.fmc.queue.length ≤ n) :
    ∀ x ∈ s.fmc.queue, x.write = true := by
  induction n generalizing s with
  | zero => simp [List.length_eq_zero_iff.mp (Nat.le_zero.mp all)]
  | succ n ih =>
    cases e : s.neighbourFirst.arbitrate with
    | none =>
      have empty := arbitrate_none e
      rw [(rowsMoved_neighbourFirst s).queue] at empty
      simp [empty]
    | some p =>
      obtain ⟨mem, -, -, queue, hold⟩ := chosen e
      have member := mem_of_servable mem
      cases w : p.1.write with
      | false =>
        rw [serveReads_read e w] at h
        cases h
      | true =>
        rw [serveReads_write e w] at h
        have left : (p.2.serve p.1).fmc.queue = s.fmc.queue.erase p.1 := by
          rw [fmc_serve _ _ (hold.trans held), (rowsMoved_openFor _ _).queue, queue]
        have rest := ih h (by rw [fmc_serve _ _ (hold.trans held), (rowsMoved_openFor _ _).held, hold, held])
          (by rw [left, List.length_erase_of_mem member]; omega)
        intro x hx
        rcases eq_or_ne x p.1 with rfl | other
        · exact w
        · exact rest x (left ▸ (List.mem_erase_of_ne other).mpr hx)

/-- A read that the first choice falls on is the one that returns. -/
theorem first_serveReads {n : Nat} (h : State.serveReads n s = (some r, u)) : ∃ x t, s.neighbourFirst.arbitrate = some (x, t) ∧
    (x.write = false → x = r) := by
  cases n with
  | zero => cases h
  | succ n =>
    cases e : s.neighbourFirst.arbitrate with
    | none =>
      rw [serveReads_idle e] at h
      cases h
    | some p =>
      refine ⟨p.1, p.2, rfl, fun w => ?_⟩
      rw [serveReads_read e w] at h
      exact Option.some.inj (congrArg Prod.fst h)

theorem oldest_serveReads {n : Nat} (h : State.serveReads n s = (some r, u)) (reads : ∀ x ∈ s.fmc.queue, x.write = false) :
    ∃ a b, s.fmc.queue = a ++ r :: b ∧ ∀ x ∈ a, reqBurst x ≠ reqBurst r := by
  obtain ⟨x, t, e, same⟩ := first_serveReads h
  obtain ⟨mem, -⟩ := chosen e
  obtain rfl := same (reads x (mem_of_servable mem))
  exact (servable_oldest mem).2

theorem urgent_serveReads {n : Nat} (h : State.serveReads n s = (some r, u)) (reads : ∀ x ∈ s.fmc.queue, realTime x = true → x.write = false)
    (urgent : s.anyUrgent = true) (real : ∃ x ∈ servable s.fmc.queue [], realTime x = true) : realTime r = true := by
  obtain ⟨x, t, e, same⟩ := first_serveReads h
  obtain ⟨mem, first, -⟩ := chosen e
  have rt := first urgent real
  obtain rfl := same (reads x (mem_of_servable mem) rt)
  exact rt
end

/-! ### A read comes back -/

section
variable (s : State) (a : Nat) (res : ReadResult)

theorem corr_readCame : (s.readCame a res).rd F.FMC_CNT_ERR.CORR = min 0xFFFF (s.rd F.FMC_CNT_ERR.CORR + if res = .corrected then 1 else 0) := by
  have full : s.rd F.FMC_CNT_ERR.CORR < 65536 := rd_lt s F.FMC_CNT_ERR.CORR
  cases res with
  | good =>
    change s.rd F.FMC_CNT_ERR.CORR = _
    simp
    omega
  | corrected => exact rd_bump_same s (f := F.FMC_CNT_ERR.CORR) (by decide)
  | failed =>
    have kept : (s.readCame a .failed).rd F.FMC_CNT_ERR.CORR = s.rd F.FMC_CNT_ERR.CORR :=
      (rd_wr_other (f := F.FMC_ERR_ADDR.ADDR) _ _ (by decide)).trans (rd_bump_other s (f := F.FMC_CNT_ERR.UNCORR) (by decide))
    rw [kept]
    simp
    omega

theorem uncorr_readCame : (s.readCame a res).rd F.FMC_CNT_ERR.UNCORR = min 0xFFFF (s.rd F.FMC_CNT_ERR.UNCORR + if res = .failed then 1 else 0) := by
  have full : s.rd F.FMC_CNT_ERR.UNCORR < 65536 := rd_lt s F.FMC_CNT_ERR.UNCORR
  cases res with
  | good =>
    change s.rd F.FMC_CNT_ERR.UNCORR = _
    simp
    omega
  | corrected =>
    have kept : (s.readCame a .corrected).rd F.FMC_CNT_ERR.UNCORR = s.rd F.FMC_CNT_ERR.UNCORR :=
      rd_bump_other s (f := F.FMC_CNT_ERR.CORR) (by decide)
    rw [kept]
    simp
    omega
  | failed =>
    exact (rd_wr_other (f := F.FMC_ERR_ADDR.ADDR) _ _ (by decide)).trans (rd_bump_same s (f := F.FMC_CNT_ERR.UNCORR) (by decide))

theorem addr_readCame : (s.readCame a .failed).rd F.FMC_ERR_ADDR.ADDR = a / 64 * 64 % 2 ^ 32 :=
  rd_wr_same (s.bump F.FMC_CNT_ERR.UNCORR) (f := F.FMC_ERR_ADDR.ADDR) (a / 64 * 64) (by decide)

theorem addr_readCame_kept (h : res ≠ .failed) : (s.readCame a res).rd F.FMC_ERR_ADDR.ADDR = s.rd F.FMC_ERR_ADDR.ADDR := by
  cases res with
  | good => rfl
  | corrected => exact rd_bump_other s (f := F.FMC_CNT_ERR.CORR) (by decide)
  | failed => exact absurd rfl h

theorem flt_readCame (h : res ≠ .failed) : (s.readCame a res).flt = s.flt := by
  cases res with
  | good => rfl
  | corrected => rfl
  | failed => exact absurd rfl h

theorem fmc_readCame : (s.readCame a res).fmc = { s.fmc with corrNow := s.fmc.corrNow + if res = .corrected then 1 else 0 } := by
  cases res <;> rfl
end

/-! ### A read is delivered -/

section
variable {s t : State} {l : List Nat} {ps : List Part} (h : s.Frame t l ps) (hp : ∀ p ∈ .pix :: timingParts, p ∉ ps)
include h hp

theorem State.Frame.nextStart : t.nextStart = s.nextStart := by
  have pix : t.pix = s.pix := h.parts .pix (hp _ (by decide))
  rw [State.nextStart, State.nextStart, pix, h.scheduled fun p m => hp p (List.mem_cons_of_mem _ m)]
  split
  · rw [State.buf, State.buf, pix]
  · rfl

theorem State.Frame.fetchLead : t.fetchLead = s.fetchLead := by
  have timing : ∀ p ∈ timingParts, p ∉ ps := fun p m => hp p (List.mem_cons_of_mem _ m)
  have scn : t.scn = s.scn := h.parts .scn (hp _ (by decide))
  rw [State.fetchLead, State.fetchLead, State.reached, State.reached, State.comingLine, State.comingLine, scn, h.nextStart hp,
    h.lt timing, h.frameAhead timing]
end

/-- The lines up to which reads have returned, once one of line `n` of quadrant q has. -/
def fetchedTo (upTo : List Nat) (q : Quad) (n : Nat) (last : Bool) : List Nat :=
  if last then upTo.set q.val (max (upTo.getD q.val 0) (n % 512 + 1)) else upTo

/-- The line that a failed read marks bad. -/
def badLine (q : Quad) (n : Nat) (res : ReadResult) : List Nat := if res = .failed then [q.val * 512 + n % 512] else []

section
variable (s : State) (q : Quad) (n : Nat) (last : Bool) (res : ReadResult)

theorem frame_lineRead (failed : Bool) : s.Frame (s.lineRead q n last failed) [] [.scn] :=
  .ite ((State.Frame.refl s _ _).setScn (by decide)) ((State.Frame.refl s _ _).setScn (by decide))

theorem lineRead_present (h : s.fetchLead = false) : (s.lineRead q n last (res == .failed)).scn =
    { s.scn with lineBad := s.scn.lineBad ++ badLine q n res, fetched := fetchedTo s.scn.fetched q n last } := by
  unfold State.lineRead badLine
  rw [if_neg (by simp [h])]
  simp only [beq_iff_eq]
  rfl

theorem lineRead_lead (h : s.fetchLead = true) : (s.lineRead q n last (res == .failed)).scn =
    { s.scn with aheadBad := s.scn.aheadBad ++ badLine q n res, ahead := fetchedTo s.scn.ahead q n last } := by
  unfold State.lineRead badLine
  rw [if_pos h]
  simp only [beq_iff_eq]
  rfl
end

def lineBufferRegs : List Nat := A.FMC_URG :: [0, 1, 2, 3].map A.SCN_LBUF

section
variable (s : State) (r : MemReq) (res : ReadResult)

/-- The read of request `r` has come back and is counted. -/
def State.counted (s : State) (r : MemReq) (res : ReadResult) : State := s.readCame (r.addr % 2 ^ 31) res

theorem frame_counted : s.Frame (s.counted r res) burstRegs burstParts := frame_readCame _ _ _

theorem deliver_other (h : portLine r.port = none) : s.deliver r res = s.counted r res := by
  unfold State.deliver
  dsimp only
  rw [h]
  rfl

theorem deliver_line {q : Quad} {n : Nat} {last : Bool} (h : portLine r.port = some (q, n, last)) :
    s.deliver r res = ((s.counted r res).lineRead q n last (res == .failed)).reviewUrgency q := by
  unfold State.deliver
  dsimp only
  rw [h]
  rfl

theorem frame_delivered : (s.counted r res).Frame (s.deliver r res) lineBufferRegs [.fmc, .scn] := by
  cases h : portLine r.port with
  | none =>
    rw [deliver_other s r res h]
    exact .refl _ _ _
  | some p =>
    have regs : urgencyRegs p.1 ⊆ lineBufferRegs := by
      generalize p.1 = q
      revert q
      decide
    rw [deliver_line s r res h]
    exact ((frame_lineRead _ _ _ _ _).mono (List.nil_subset _) (by decide)).trans ((frame_reviewUrgency _ p.1).mono regs (by decide))

theorem fmc_delivered : ∃ since, (s.deliver r res).fmc = { (s.counted r res).fmc with urgentSince := since } := by
  cases h : portLine r.port with
  | none =>
    rw [deliver_other s r res h]
    exact ⟨_, rfl⟩
  | some p =>
    rw [deliver_line s r res h]
    obtain ⟨since, e⟩ := fmc_reviewUrgency ((s.counted r res).lineRead p.1 p.2.1 p.2.2 (res == .failed)) p.1
    have kept : ((s.counted r res).lineRead p.1 p.2.1 p.2.2 (res == .failed)).fmc = (s.counted r res).fmc :=
      (frame_lineRead _ _ _ _ _).parts .fmc (by decide)
    exact ⟨since, by rw [e, kept]⟩
end

/-- The registers and parts of a read that returns to its requester. -/
def deliverRegs : List Nat := burstRegs ++ lineBufferRegs
def deliverParts : List Part := [.fmc, .flt, .scn]

theorem frame_deliver (s : State) (r : MemReq) (res : ReadResult) : s.Frame (s.deliver r res) deliverRegs deliverParts :=
  ((frame_counted s r res).mono (by decide) (by decide)).trans ((frame_delivered s r res).mono (by decide) (by decide))

/-! ### The command -/

section
variable {s : State} {n : Nat} {arrive : List MemReq} {first again : ReadResult}

/-- The requests of `arrive` have come in. -/
def State.arrived (s : State) (n : Nat) (arrive : List MemReq) : State := (s.advance n).enqueue arrive

theorem frame_arrived : (s.advance n).Frame (s.arrived n arrive) [] [.fmc] := frame_enqueue _ _

theorem exec_dramReadReturn_off (h : s.memClk = false) : exec (.dramReadReturn n arrive first again) s = done (s.arrived n arrive) :=
  if_pos (by rw [Bool.not_eq_true']; exact h)

theorem exec_dramReadReturn_on (h : s.memClk = true) : exec (.dramReadReturn n arrive first again) s =
    match State.serveReads (s.arrived n arrive).fmc.queue.length (s.arrived n arrive) with
    | (none, u) => done u
    | (some r, u) => done (u.deliver r (retried first again)) :=
  if_neg (by rw [Bool.not_eq_true']; exact Bool.not_eq_false _ ▸ h)

theorem exec_dramReadReturn_none {u : State} (clock : s.memClk = true)
    (h : State.serveReads (s.arrived n arrive).fmc.queue.length (s.arrived n arrive) = (none, u)) :
    exec (.dramReadReturn n arrive first again) s = .next u.settle := by
  rw [exec_dramReadReturn_on clock, h]
  rfl

theorem exec_dramReadReturn_read {u : State} {r : MemReq} (clock : s.memClk = true)
    (h : State.serveReads (s.arrived n arrive).fmc.queue.length (s.arrived n arrive) = (some r, u)) :
    exec (.dramReadReturn n arrive first again) s = .next (u.deliver r (retried first again)).settle := by
  rw [exec_dramReadReturn_on clock, h]
  rfl
end

/-- What the return of the read `r` is to show (R135, R197, R206), between the state `v` in which its requests have arrived and `t`. -/
structure State.Returns (v t : State) (r : MemReq) (res : ReadResult) : Prop where
  corr : t.rd F.FMC_CNT_ERR.CORR = min 0xFFFF (v.rd F.FMC_CNT_ERR.CORR + if res = .corrected then 1 else 0)
  uncorr : t.rd F.FMC_CNT_ERR.UNCORR = min 0xFFFF (v.rd F.FMC_CNT_ERR.UNCORR + if res = .failed then 1 else 0)
  corrNow : t.fmc.corrNow = v.fmc.corrNow + if res = .corrected then 1 else 0
  flt : res ≠ .failed → t.flt = v.flt
  failed : res = .failed → t.rd F.FMC_ERR_ADDR.ADDR = r.addr % 2 ^ 31 / 64 * 64 ∧
    t.flt.inbox = v.flt.inbox ++ [⟨0x79, 2, 0, r.addr % 2 ^ 31 / 64 * 64 % 2 ^ 24, false, v.now⟩]
  other : portLine r.port = none → t.scn = v.scn
  level : ∀ q l last, portLine r.port = some (q, l, last) → t.rd (F.SCN_LBUF.LEVEL q.val) = t.bufLevel q
  present : ∀ q l last, portLine r.port = some (q, l, last) → v.fetchLead = false → t.scn =
    { v.scn with lineBad := v.scn.lineBad ++ badLine q l res, fetched := fetchedTo v.scn.fetched q l last }
  lead : ∀ q l last, portLine r.port = some (q, l, last) → v.fetchLead = true → t.scn =
    { v.scn with aheadBad := v.scn.aheadBad ++ badLine q l res, ahead := fetchedTo v.scn.ahead q l last }

theorem returns_deliver (s : State) (r : MemReq) (res : ReadResult) : s.Returns (s.deliver r res) r res := by
  have after := frame_delivered s r res
  have before := frame_counted s r res
  have scn : (s.counted r res).scn = s.scn := before.parts .scn (by decide)
  have lead : (s.counted r res).fetchLead = s.fetchLead := before.fetchLead (by decide)
  have flt : (s.deliver r res).flt = (s.counted r res).flt := after.parts .flt (by decide)
  have shown {q : Quad} {l : Nat} {last : Bool} (h : portLine r.port = some (q, l, last)) :
      (s.deliver r res).scn = ((s.counted r res).lineRead q l last (res == .failed)).scn := by
    rw [deliver_line s r res h]
    exact (frame_reviewUrgency _ q).parts .scn (by decide)
  constructor
  case corr => exact (after.rd (by decide) (by decide) (by decide)).trans (corr_readCame s _ res)
  case uncorr => exact (after.rd (by decide) (by decide) (by decide)).trans (uncorr_readCame s _ res)
  case corrNow =>
    obtain ⟨since, e⟩ := fmc_delivered s r res
    rw [e]
    exact congrArg FmcState.corrNow (fmc_readCame s _ res)
  case flt => exact fun h => flt.trans (flt_readCame s _ res h)
  case failed =>
    rintro rfl
    refine ⟨((after.rd (by decide) (by decide) (by decide)).trans (addr_readCame s _)).trans (Nat.mod_eq_of_lt ?_), congrArg FltState.inbox flt⟩
    omega
  case other =>
    intro h
    rw [deliver_other s r res h]
    exact scn
  case level =>
    intro q l last h
    rw [bufLevel_congr (shown h), deliver_line s r res h]
    exact level_reviewUrgency _ q
  case present =>
    intro q l last h present
    rw [shown h, lineRead_present _ q l last res (lead.trans present), scn]
  case lead =>
    intro q l last h coming
    rw [shown h, lineRead_lead _ q l last res (lead.trans coming), scn]

/-- What the return shows is the same after the requests before it have been served and the wires have acted. -/
theorem State.Returns.served {v u t : State} {r : MemReq} {res : ReadResult} (h : u.Returns t r res) (served : v.Serves u) (hu : t.undef = false) :
    v.Returns t.settle r res := by
  have frame := served.frame
  have scn : u.scn = v.scn := frame.parts .scn (by decide)
  have flt : u.flt = v.flt := frame.parts .flt (by decide)
  have now : u.now = v.now := frame.parts .now (by decide)
  have lead : u.fetchLead = v.fetchLead := frame.fetchLead (by decide)
  have corr : u.rd F.FMC_CNT_ERR.CORR = v.rd F.FMC_CNT_ERR.CORR := frame.rd (by decide) (by decide) (by decide)
  have uncorr : u.rd F.FMC_CNT_ERR.UNCORR = v.rd F.FMC_CNT_ERR.UNCORR := frame.rd (by decide) (by decide) (by decide)
  have settled {f : Fld} (h1 : f.addr ≠ A.SAF_STAT) (h2 : f.addr ≠ A.SYS_START) : t.settle.rd f = t.rd f := rd_settle hu h1 h2
  constructor
  case corr => rw [settled (by decide) (by decide), h.corr, corr]
  case uncorr => rw [settled (by decide) (by decide), h.uncorr, uncorr]
  case corrNow => rw [settle_fmc hu, h.corrNow, served.corrNow]
  case flt => exact fun good => by rw [settle_flt hu, h.flt good, flt]
  case failed =>
    intro bad
    obtain ⟨addr, raised⟩ := h.failed bad
    exact ⟨(settled (by decide) (by decide)).trans addr, by rw [settle_flt hu, raised, flt, now]⟩
  case other => exact fun port => by rw [settle_scn hu, h.other port, scn]
  case level =>
    intro q l last port
    rw [settled (lbuf_unwired q).1 (lbuf_unwired q).2, h.level q l last port, bufLevel_congr (settle_scn hu)]
  case present => exact fun q l last port now => by rw [settle_scn hu, h.present q l last port (lead.trans now), scn]
  case lead => exact fun q l last port now => by rw [settle_scn hu, h.lead q l last port (lead.trans now), scn]

/-! ### A read alone -/

section
variable (s : State)

theorem dramPlace_lt (order a : Nat) : (dramPlace order a).1 < 32 := by
  have rank : bitsAt a 30 1 < 2 := bitsAt_lt _ _ _
  have low : bitsAt a 12 1 < 2 := bitsAt_lt _ _ _
  have bank : bitsAt a 12 4 < 16 := bitsAt_lt _ _ _
  have mixed {x y : Nat} (hx : x < 16) (hy : y < 16) : Nat.xor x y < 16 := Nat.xor_lt_two_pow (n := 4) hx hy
  unfold dramPlace
  split
  · dsimp only
    omega
  · split
    · have := mixed (bitsAt_lt a 13 4) (bitsAt_lt a 17 4)
      dsimp only
      omega
    · have := mixed bank (bitsAt_lt a 16 4)
      dsimp only
      omega

/-- A rank that a request reaches is out of power-down. -/
theorem awake_wakeRank (r : Nat) : bitsAt ((s.wakeRank r).rd F.FMC_PD.IN_PD) r 1 = 0 := by
  unfold State.wakeRank
  dsimp only
  split
  next out => exact out
  next =>
    have shown : (({ s with fmc.lastReq := s.fmc.lastReq.set r s.now } : State).wr F.FMC_PD.IN_PD (insertBits (s.rd F.FMC_PD.IN_PD) r 1 0)).rd
        F.FMC_PD.IN_PD = insertBits (s.rd F.FMC_PD.IN_PD) r 1 0 % 2 ^ 2 := rd_wr_same _ (f := F.FMC_PD.IN_PD) _ (by decide)
    refine (congrArg (fun w => bitsAt w r 1) shown).trans (Nat.eq_of_testBit_eq fun i => ?_)
    rw [bitsAt_testBit, Nat.testBit_mod_two_pow, insertBits_testBit, Nat.zero_testBit]
    cases i with
    | zero => simp
    | succ i => simp

/-- With room in the queue of neighbour refreshes the row that is activated stays open. -/
theorem open_activate {bank row : Nat} (hb : bank < s.fmc.openRow.length) (room : s.fmc.pnr.length < 16) :
    nth (s.activate bank row).fmc.openRow bank = some row := by
  have opened : nth (s.fmc.openRow.set bank (some row)) bank = some row := by
    simp [nth, hb]
  unfold State.activate State.draw
  dsimp only
  split
  · exact opened
  · split
    · exact opened
    · split
      next full => exact absurd (of_decide_eq_true full) (by omega)
      next => exact opened

theorem pd_activate (bank row : Nat) : (s.activate bank row).rd F.FMC_PD.IN_PD = s.rd F.FMC_PD.IN_PD := by
  unfold State.activate State.draw
  dsimp only
  split
  · rfl
  · split
    · rfl
    · split
      · exact rd_bump_other _ (f := F.FMC_CNT_PNR.RUNS) (by decide)
      · rfl

/-- A request brings its rank out of power-down and opens its row. -/
theorem open_touchDram {a : Nat} (banks : s.fmc.openRow.length = 32) (room : s.fmc.pnr.length < 16) :
    nth (s.touchDram a).fmc.openRow (dramPlace s.dramOrder a).1 = some (dramPlace s.dramOrder a).2 ∧
      bitsAt ((s.touchDram a).rd F.FMC_PD.IN_PD) ((dramPlace s.dramOrder a).1 / 16) 1 = 0 := by
  have bank := dramPlace_lt s.dramOrder a
  have out := awake_wakeRank s ((dramPlace s.dramOrder a).1 / 16)
  have rows : (s.wakeRank ((dramPlace s.dramOrder a).1 / 16)).fmc.openRow = s.fmc.openRow ∧
      (s.wakeRank ((dramPlace s.dramOrder a).1 / 16)).fmc.pnr = s.fmc.pnr := by
    unfold State.wakeRank
    dsimp only
    split <;> exact ⟨rfl, rfl⟩
  unfold State.touchDram
  dsimp only
  split
  next isOpen => exact ⟨isOpen, out⟩
  next => exact ⟨open_activate _ (by rw [rows.1, banks]; exact bank) (by rw [rows.2]; exact room), by rw [pd_activate]; exact out⟩
end

/-! ### Bursts of a command -/

theorem burstsCame_cons (s : State) (a : Nat) (e : Nat × ReadResult) (l : BurstReads) :
    s.burstsCame a (e :: l) = (s.readCame ((a / 64 + e.1) * 64) e.2).burstsCame a l := rfl

theorem corr_burstsCame (s : State) (a : Nat) (l : BurstReads) : (s.burstsCame a l).rd F.FMC_CNT_ERR.CORR =
    min 0xFFFF (s.rd F.FMC_CNT_ERR.CORR + l.countP (fun e => e.2 == .corrected)) := by
  induction l generalizing s with
  | nil =>
    have full : s.rd F.FMC_CNT_ERR.CORR < 65536 := rd_lt s F.FMC_CNT_ERR.CORR
    change s.rd F.FMC_CNT_ERR.CORR = _
    simp
    omega
  | cons e l ih =>
    rw [burstsCame_cons, ih, corr_readCame, List.countP_cons]
    simp only [beq_iff_eq]
    omega

theorem uncorr_burstsCame (s : State) (a : Nat) (l : BurstReads) : (s.burstsCame a l).rd F.FMC_CNT_ERR.UNCORR =
    min 0xFFFF (s.rd F.FMC_CNT_ERR.UNCORR + l.countP (fun e => e.2 == .failed)) := by
  induction l generalizing s with
  | nil =>
    have full : s.rd F.FMC_CNT_ERR.UNCORR < 65536 := rd_lt s F.FMC_CNT_ERR.UNCORR
    change s.rd F.FMC_CNT_ERR.UNCORR = _
    simp
    omega
  | cons e l ih =>
    rw [burstsCame_cons, ih, uncorr_readCame, List.countP_cons]
    simp only [beq_iff_eq]
    omega

/-- FMC_ERR_ADDR keeps the address of the last burst that failed. -/
theorem addr_burstsCame (s : State) (a : Nat) {l : BurstReads} {i : Nat} (h : (l.filter (fun e => e.2 == .failed)).getLast? = some (i, .failed)) :
    (s.burstsCame a l).rd F.FMC_ERR_ADDR.ADDR = (a / 64 + i) * 64 % 2 ^ 32 := by
  induction l using List.reverseRecOn with
  | nil => cases h
  | append_singleton l e ih =>
    have last : s.burstsCame a (l ++ [e]) = (s.burstsCame a l).readCame ((a / 64 + e.1) * 64) e.2 := List.foldl_append
    rw [last]
    by_cases bad : e.2 = .failed
    · have own : e = (i, .failed) := by simpa [bad] using h
      rw [own, addr_readCame, Nat.mul_div_cancel _ (by decide)]
    · rw [addr_readCame_kept _ _ _ bad]
      exact ih (by simpa [bad] using h)

/-! ### MEM_READ -/

/-- The registers and parts of a MEM_READ that runs. -/
def memReadRegs : List Nat := takenRegs ++ burstRegs ++ dramRegs
def memReadParts : List Part := [.cmd, .flt] ++ dramParts

section
variable (s : State) (r : Request) (res : BurstReads)

theorem exec_memRead : exec (.memRead r res) s = done (command 0x11 r (memReadBody r res) s) := rfl

/-- The bytes of a MEM_READ, and the state after they have been read. -/
def State.readSpan (s : State) (r : Request) : List Byte × State := (s.touchSpan r.arg.toNat (pWord r 0)).readOut r.arg.toNat (pWord r 0)

/-- The bursts of a MEM_READ. -/
def spanBursts (r : Request) (res : BurstReads) : BurstReads := burstsOf r.arg.toNat (pWord r 0) res

/-- The bursts of a MEM_READ have come back. -/
def State.spanRead (s : State) (r : Request) (res : BurstReads) : State := (s.readSpan r).2.burstsCame r.arg.toNat (spanBursts r res)

theorem memReadBody_range {d : Nat} (h : memReadRange r = some d) : memReadBody r res s = answer (.range d) s := by
  rw [memReadBody, h]
  rfl

theorem memReadBody_off (h : memReadRange r = none) (hm : s.memClk = false) : memReadBody r res s = answer (.notReady 0xFFFF) s := by
  rw [memReadBody, h, memTest, memReady, hm]
  rfl

theorem memReadBody_run (h : memReadRange r = none) (hm : s.memClk = true) : memReadBody r res s =
    answer (if anyFailed (spanBursts r res) then .checkFail 2 else .ok (s.readSpan r).1) (s.spanRead r res) := by
  rw [memReadBody, h, memTest, memReady, hm]
  rfl

theorem frame_readSpan : s.Frame (s.readSpan r).2 dramRegs dramParts :=
  (frame_touchSpan s _ _).trans ((frame_readOut _ _ _).mono (List.nil_subset _) (by decide))

theorem frame_spanRead : s.Frame (s.spanRead r res) (burstRegs ++ dramRegs) (.flt :: dramParts) :=
  ((frame_readSpan s r).mono (by decide) (by decide)).trans ((frame_burstsCame _ _ _).mono (by decide) (by decide))

theorem length_readBytes (a n : Nat) : (s.readBytes a n).length = n := by
  induction n generalizing a with
  | zero => rfl
  | succ n ih => rw [State.readBytes, List.length_cons, ih]

theorem nth_readBytes (a : Nat) {n i : Nat} (h : i < n) : nth (s.readBytes a n) i = s.readByte (a + i) := by
  induction n generalizing a i with
  | zero => omega
  | succ n ih =>
    cases i with
    | zero => rfl
    | succ i =>
      have rest := ih (a + 1) (Nat.lt_of_succ_lt_succ h)
      rw [Nat.add_right_comm] at rest
      exact rest

theorem length_readOut (a n : Nat) : (s.readOut a n).1.length = n := by
  unfold State.readOut
  split
  · simp [State.draw, State.seenBytes]
  · exact length_readBytes _ _ _

/-- What is not firmware working memory is read as it stands. -/
theorem nth_readOut {a n i : Nat} (h : i < n) (plain : firmwareByte (a + i) = false) : nth (s.readOut a n).1 i = s.readByte (a + i) := by
  unfold State.readOut
  split
  · simp only [State.draw, State.seenBytes, nth, List.getD_eq_getElem?_getD, List.getElem?_map, List.getElem?_range h, Option.map_some,
      Option.getD_some, plain, Bool.false_eq_true, if_false]
    rfl
  · exact nth_readBytes _ _ h

theorem length_readSpan : (s.readSpan r).1.length = pWord r 0 := length_readOut _ _ _

theorem nth_readSpan {i : Nat} (h : i < pWord r 0) (plain : firmwareByte (r.arg.toNat + i) = false) :
    nth (s.readSpan r).1 i = s.readByte (r.arg.toNat + i) :=
  (nth_readOut _ h plain).trans ((frame_touchSpan s _ _).parts .mem (by decide) _)

theorem inOneRegion_le {a n : Nat} (h : inOneRegion a n = true) : a + n ≤ 0x80000000 := by
  obtain ⟨x, hx, hs⟩ := List.any_eq_true.mp h
  have top : ∀ x ∈ dramRegions, x.2.1 + 1 ≤ 0x80000000 := by decide
  simp only [Bool.and_eq_true, Nat.ble_eq] at hs
  exact hs.2.trans (top x hx)

/-- A span that may be read ends below 2 GiB. -/
theorem memReadRange_le {r : Request} (h : memReadRange r = none) : r.arg.toNat + pWord r 0 ≤ 0x80000000 := by
  unfold memReadRange memRange at h
  split at h
  · cases h
  · split at h
    · cases h
    · split at h
      · cases h
      · split at h
        · cases h
        next inside => exact inOneRegion_le (by simpa using inside)

theorem spanBursts_lt {r : Request} {res : BurstReads} (h : memReadRange r = none) {i : Nat} {x : ReadResult}
    (he : (i, x) ∈ spanBursts r res) : (r.arg.toNat / 64 + i) * 64 < 2 ^ 32 := by
  have top := memReadRange_le h
  have inside : i < (r.arg.toNat + pWord r 0 + 63) / 64 - r.arg.toNat / 64 := Nat.blt_eq.mp (List.mem_filter.mp he).2
  omega
end

/-! ### The command leaves the rest -/

section
variable {s : State} {n : Nat} {arrive : List MemReq} {first again : ReadResult}

def returnRegs : List Nat := [A.FMC_CNT_ERR, A.FMC_ERR_ADDR, A.FMC_URG] ++ dramRegs ++ [0, 1, 2, 3].map A.SCN_LBUF
def returnParts : List Part := [.flt, .scn] ++ dramParts

/-- What serving leaves, and a read that it returns, stays within the places and what the command may change. -/
theorem return_kept {u t : State} (served : (s.arrived n arrive).Serves u) (frame : u.Frame t deliverRegs deliverParts)
    (queue : t.fmc.queue = u.fmc.queue) (hu : s.undef = false) :
    t.undef = false ∧ (s.advance n).Frame t.settle returnRegs returnParts ∧ (withinPlaces s.fmc.queue → withinPlaces t.settle.fmc.queue) := by
  have arrived := frame_arrived (s := s) (n := n) (arrive := arrive)
  have whole : (s.advance n).Frame t returnRegs returnParts :=
    ((arrived.mono (List.nil_subset _) (by decide)).trans (served.frame.mono (by decide) (by decide))).trans (frame.mono (by decide) (by decide))
  have du := whole.undef hu
  refine ⟨du, whole.settled du, fun within => ?_⟩
  rw [settle_fmc du, queue]
  exact served.places (withinPlaces_enqueue _ _ within)

section
variable (s : State) (r : MemReq) (res : ReadResult)

theorem fmc_counted : (s.counted r res).fmc = { s.fmc with corrNow := s.fmc.corrNow + if res = .corrected then 1 else 0 } := fmc_readCame s _ res

theorem queue_deliver : (s.deliver r res).fmc.queue = s.fmc.queue := by
  obtain ⟨since, e⟩ := fmc_delivered s r res
  rw [e, fmc_counted]

theorem openRow_deliver : (s.deliver r res).fmc.openRow = s.fmc.openRow := by
  obtain ⟨since, e⟩ := fmc_delivered s r res
  rw [e, fmc_counted]
end

/-- The row of request `r` is open, and its rank out of power-down, by the address order of `s`. -/
def State.Opened (s t : State) (r : MemReq) : Prop :=
  nth t.fmc.openRow (dramPlace s.dramOrder (r.addr % 2 ^ 31)).1 = some (dramPlace s.dramOrder (r.addr % 2 ^ 31)).2 ∧
    bitsAt (t.rd F.FMC_PD.IN_PD) ((dramPlace s.dramOrder (r.addr % 2 ^ 31)).1 / 16) 1 = 0

theorem opened_openFor (s : State) (r : MemReq) (banks : s.fmc.openRow.length = 32) (room : s.fmc.pnr.length < 16) : s.Opened (s.openFor r) r :=
  open_touchDram { s with fmc.queue := s.fmc.queue.erase r } banks room

/-- A read that arrives alone is the one that returns, and opens its row. -/
theorem serveReads_alone {s : State} {r : MemReq} (queue : s.fmc.queue = [r]) (held : s.fmc.held = []) (read : r.write = false)
    (banks : s.fmc.openRow.length = 32) (room : s.fmc.pnr.length < 16) :
    ∃ u, State.serveReads 1 s = (some r, u) ∧ u.fmc.queue = [] ∧ s.Opened u r := by
  cases h : s.arbitrate with
  | none =>
    have empty := arbitrate_none h
    rw [queue] at empty
    cases empty
  | some p =>
    obtain ⟨x, t⟩ := p
    obtain ⟨mem, -, frame, _, _, _, turn⟩ := arbitrate_some h
    have only := mem_of_servable mem
    rw [queue, List.mem_singleton] at only
    subst only
    have order : t.dramOrder = s.dramOrder := frame.rd (by decide) (by decide) (by decide)
    obtain ⟨row, out⟩ := opened_openFor t x (by rw [turn]; exact banks) (by rw [turn]; exact room)
    rw [order] at row out
    have fmc : (t.serve x).fmc = (t.openFor x).fmc := fmc_serve t x (by rw [turn]; exact held)
    have pd : (t.serve x).rd F.FMC_PD.IN_PD = (t.openFor x).rd F.FMC_PD.IN_PD := (frame_enqueue _ []).rd (by decide) (by decide) (by decide)
    refine ⟨_, serveReads_read ((congrArg State.arbitrate (neighbourFirst_room s room)).trans h) read, ?_, ?_, ?_⟩
    · rw [fmc, (rowsMoved_openFor t x).queue, turn]
      simp [queue]
    · rw [fmc]
      exact row
    · rw [pd]
      exact out

theorem read_alone {r : MemReq} (hu : s.undef = false) (clock : s.memClk = true) (idle : s.fmc.queue = []) (free : s.fmc.held = [])
    (read : r.write = false) (banks : s.fmc.openRow.length = 32) (room : s.fmc.pnr.length < 16) :
    ∃ t, exec (.dramReadReturn n [r] first again) s = .next t ∧ t.fmc.queue = [] ∧ s.Opened t r := by
  obtain ⟨queue, held⟩ := enqueue_first (s.advance n) r idle free
  obtain ⟨u, returns, left, row, out⟩ := serveReads_alone (s := s.arrived n [r]) queue held read banks room
  have all : State.serveReads (s.arrived n [r]).fmc.queue.length (s.arrived n [r]) = (some r, u) := by
    rw [show (s.arrived n [r]).fmc.queue = [r] from queue]
    exact returns
  have served : (s.arrived n [r]).Serves u := by
    have := serves_serveReads 1 (s.arrived n [r])
    rwa [returns] at this
  have delivered := frame_deliver u r (retried first again)
  obtain ⟨du, -, -⟩ := return_kept served delivered (queue_deliver _ _ _) hu
  refine ⟨_, exec_dramReadReturn_read clock all, ?_, ?_, ?_⟩
  · rw [settle_fmc du, queue_deliver, left]
  · rw [settle_fmc du, openRow_deliver]
    exact row
  · rw [rd_settle du (by decide) (by decide), delivered.rd (by decide) (by decide) (by decide)]
    exact out
end

/-- The read that the choice falls on shows its return, within the places and what the command may change. -/
theorem read_returns {s u : State} {n : Nat} {arrive : List MemReq} {first again : ReadResult} {r : MemReq} (hu : s.undef = false)
    (h : State.serveReads (s.arrived n arrive).fmc.queue.length (s.arrived n arrive) = (some r, u)) :
    (s.arrived n arrive).Returns (u.deliver r (retried first again)).settle r (retried first again) ∧
      (s.advance n).Frame (u.deliver r (retried first again)).settle returnRegs returnParts ∧
      (withinPlaces s.fmc.queue → withinPlaces (u.deliver r (retried first again)).settle.fmc.queue) := by
  have served : (s.arrived n arrive).Serves u := by
    have := serves_serveReads (s.arrived n arrive).fmc.queue.length (s.arrived n arrive)
    rwa [h] at this
  obtain ⟨du, frame, places⟩ := return_kept served (frame_deliver u r (retried first again)) (queue_deliver _ _ _) hu
  exact ⟨(returns_deliver u r _).served served du, frame, places⟩

section
variable {s : State} {n : Nat} {arrive : List MemReq} {first again : ReadResult}

theorem reads_unclocked (hu : s.undef = false) (clock : s.memClk = false) :
    ∃ t, exec (.dramReadReturn n arrive first again) s = .next t ∧ t.fmc = (s.arrived n arrive).fmc ∧ (s.advance n).Frame t [] [.fmc] := by
  have frame : (s.advance n).Frame (s.arrived n arrive) [] [.fmc] := frame_arrived
  have du := frame.undef hu
  exact ⟨_, exec_dramReadReturn_off clock, settle_fmc du, frame.settled du⟩

theorem neighbourFirst_runs {e : Nat × Nat} {rest : List (Nat × Nat)} (h : s.fmc.pnr = e :: rest) (full : 16 ≤ s.fmc.pnr.length) :
    s.neighbourFirst.fmc.pnr = rest ∧ s.neighbourFirst.fmc.openRow = s.fmc.openRow.set e.1 none ∧ s.neighbourFirst.fmc.queue = s.fmc.queue ∧
      s.neighbourFirst.rd F.FMC_CNT_PNR.RUNS = min (2 ^ F.FMC_CNT_PNR.RUNS.len - 1) (s.rd F.FMC_CNT_PNR.RUNS + 1) := by
  rw [neighbourFirst_full s h full]
  exact ⟨rfl, rfl, rfl, rd_bump_same _ (f := F.FMC_CNT_PNR.RUNS) (by decide)⟩

/-- With no read to return, the requests have come in and the writes before have been served. -/
theorem reads_none {u : State} (hu : s.undef = false)
    (h : State.serveReads (s.arrived n arrive).fmc.queue.length (s.arrived n arrive) = (none, u)) :
    (s.advance n).Frame u.settle dramRegs dramParts ∧ (withinPlaces s.fmc.queue → withinPlaces u.settle.fmc.queue) := by
  have served : (s.arrived n arrive).Serves u := by
    have := serves_serveReads (s.arrived n arrive).fmc.queue.length (s.arrived n arrive)
    rwa [h] at this
  have frame : (s.advance n).Frame u dramRegs dramParts := (frame_arrived.mono (List.nil_subset _) (by decide)).trans served.frame
  have du := frame.undef hu
  refine ⟨frame.settled du, fun within => ?_⟩
  rw [settle_fmc du]
  exact served.places (withinPlaces_enqueue _ _ within)
end

section
variable {v t : State} {r : MemReq} {res : ReadResult} (h : v.Returns t r res)
include h

theorem State.Returns.good (good : res = .good) : t.rd F.FMC_CNT_ERR.CORR = v.rd F.FMC_CNT_ERR.CORR ∧
    t.rd F.FMC_CNT_ERR.UNCORR = v.rd F.FMC_CNT_ERR.UNCORR ∧ t.flt = v.flt := by
  subst good
  have corrFull : v.rd F.FMC_CNT_ERR.CORR < 65536 := rd_lt v F.FMC_CNT_ERR.CORR
  have uncorrFull : v.rd F.FMC_CNT_ERR.UNCORR < 65536 := rd_lt v F.FMC_CNT_ERR.UNCORR
  exact ⟨h.corr.trans (Nat.min_eq_right (Nat.le_of_lt_succ corrFull)), h.uncorr.trans (Nat.min_eq_right (Nat.le_of_lt_succ uncorrFull)),
    h.flt nofun⟩

theorem State.Returns.corrected (corrected : res = .corrected) :
    t.rd F.FMC_CNT_ERR.CORR = min 0xFFFF (v.rd F.FMC_CNT_ERR.CORR + 1) ∧ t.fmc.corrNow = v.fmc.corrNow + 1 ∧ t.flt = v.flt := by
  subst corrected
  exact ⟨h.corr, h.corrNow, h.flt nofun⟩

theorem State.Returns.bad (bad : res = .failed) :
    t.rd F.FMC_CNT_ERR.UNCORR = min 0xFFFF (v.rd F.FMC_CNT_ERR.UNCORR + 1) ∧ t.rd F.FMC_ERR_ADDR.ADDR = r.addr % 2 ^ 31 / 64 * 64 ∧
      t.flt.inbox = v.flt.inbox ++ [⟨0x79, 2, 0, r.addr % 2 ^ 31 / 64 * 64 % 2 ^ 24, false, v.now⟩] := by
  subst bad
  exact ⟨h.uncorr, h.failed rfl⟩
end

/-! ### MEM_READ answers -/

theorem anyFailed_iff {l : BurstReads} : anyFailed l = true ↔ ∃ e ∈ l, e.2 = .failed := by
  simp [anyFailed, List.any_eq_true]

section
variable {s : State} {r : Request} {res : BurstReads}

theorem memRead_run (hu : s.undef = false) (h : s.gate 0x11 r = .run) (fits : memReadRange r = none) (clock : s.memClk = true) :
    s.Answered (command 0x11 r (memReadBody r res) s).settle 0x11 r
        (if anyFailed (spanBursts r res) then .checkFail 2 else .ok ((s.taken r).readSpan r).1) ∧
      s.Frame (command 0x11 r (memReadBody r res) s).settle memReadRegs memReadParts ∧
      ((s.taken r).spanRead r res).Frame (command 0x11 r (memReadBody r res) s).settle [] [.cmd] :=
  command_answered hu h (memReadBody_run _ r res fits ((memClk_taken s r).trans clock))
    ((frame_spanRead _ r res).mono (by decide) (by decide)) ((frame_spanRead _ r res).parts .cmd (by decide))

/-- A MEM_READ that runs counts its bursts that were corrected and that failed. -/
theorem memRead_counts {t : State} (after : ((s.taken r).spanRead r res).Frame t [] [.cmd]) :
    t.rd F.FMC_CNT_ERR.CORR = min 0xFFFF (s.rd F.FMC_CNT_ERR.CORR + (spanBursts r res).countP (fun e => e.2 == .corrected)) ∧
      t.rd F.FMC_CNT_ERR.UNCORR = min 0xFFFF (s.rd F.FMC_CNT_ERR.UNCORR + (spanBursts r res).countP (fun e => e.2 == .failed)) := by
  have before : s.Frame ((s.taken r).readSpan r).2 (takenRegs ++ dramRegs) memReadParts :=
    ((frame_taken s r).mono (by decide) (by decide)).trans ((frame_readSpan _ r).mono (by decide) (by decide))
  constructor
  · rw [after.rd (by decide) (by decide) (by decide), ← before.rd (f := F.FMC_CNT_ERR.CORR) (by decide) (by decide) (by decide)]
    exact corr_burstsCame _ _ _
  · rw [after.rd (by decide) (by decide) (by decide), ← before.rd (f := F.FMC_CNT_ERR.UNCORR) (by decide) (by decide) (by decide)]
    exact uncorr_burstsCame _ _ _

theorem memRead_errAddr {t : State} (after : ((s.taken r).spanRead r res).Frame t [] [.cmd]) (fits : memReadRange r = none) {i : Nat}
    (last : ((spanBursts r res).filter (fun e => e.2 == .failed)).getLast? = some (i, .failed)) :
    t.rd F.FMC_ERR_ADDR.ADDR = (r.arg.toNat / 64 + i) * 64 := by
  have shown : t.rd F.FMC_ERR_ADDR.ADDR = ((s.taken r).spanRead r res).rd F.FMC_ERR_ADDR.ADDR := after.rd (by decide) (by decide) (by decide)
  have low := spanBursts_lt fits (List.mem_of_mem_filter (List.mem_of_mem_getLast? last))
  rw [shown, State.spanRead, addr_burstsCame _ _ last, Nat.mod_eq_of_lt low]
end

/-! ### The obligation -/

/-- Settles O22: a choice moves the turn and falls on a request that may be served, serving opens its row and lets requests in,
and what the read shows on its return depends on neither; a MEM_READ counts its bursts one by one. -/
theorem dramReads : Obligations.DramReads := by
  unfold Obligations.DramReads
  intro s hu
  refine ⟨fun n arrive first again clock => reads_unclocked hu clock, fun e rest h full => neighbourFirst_runs h full, ?_,
    fun n r first again clock idle free read banks room => read_alone hu clock idle free read banks room, ?_⟩
  · rintro n arrive first again res v clock rfl rfl
    cases h : State.serveReads (s.arrived n arrive).fmc.queue.length (s.arrived n arrive) with
    | mk o u =>
      cases o with
      | none =>
        obtain ⟨frame, places⟩ := reads_none hu h
        refine ⟨_, exec_dramReadReturn_none clock h, frame.mono (by decide) (by decide), fun own shared => places ⟨own, shared⟩, ?_, ?_⟩
        · exact fun _ _ => ⟨frame, fun held => writes_serveReads h held le_rfl⟩
        · intro r w other
          exact absurd (h.symm.trans other) (by simp)
      | some r =>
        obtain ⟨shows, frame, places⟩ := read_returns (first := first) (again := again) hu h
        refine ⟨_, exec_dramReadReturn_read clock h, frame, fun own shared => places ⟨own, shared⟩, ?_, ?_⟩
        · intro w other
          exact absurd (h.symm.trans other) (by simp)
        · intro r' u' same
          obtain ⟨rfl, rfl⟩ : r = r' ∧ u = u' := by simpa using h.symm.trans same
          refine ⟨read_serveReads h, oldest_serveReads h, urgent_serveReads h, ?_, ?_, ?_, shows.other, ?_⟩
          · exact shows.good
          · exact shows.corrected
          · exact shows.bad
          · intro q l last port
            exact ⟨shows.level q l last port, shows.present q l last port, shows.lead q l last port⟩
  · intro r res runs
    refine ⟨_, exec_memRead s r res, fun d range => command_refused hu runs (memReadBody_range _ r res range), fun fits clock =>
      command_refused hu runs (memReadBody_off _ r res fits ((memClk_taken s r).trans clock)), ?_⟩
    rintro l fits clock rfl
    obtain ⟨answered, frame, after⟩ := memRead_run (res := res) hu runs fits clock
    obtain ⟨corr, uncorr⟩ := memRead_counts after
    refine ⟨frame.mono (by decide) (by decide), corr, uncorr, fun well => ?_, fun i last => ?_⟩
    · have good : ¬ anyFailed (spanBursts r res) := fun bad => by
        obtain ⟨e, he, failed⟩ := anyFailed_iff.mp bad
        exact well e he failed
      rw [if_neg good] at answered
      refine ⟨_, length_readSpan _ r, answered, fun i inside plain => ?_⟩
      rw [nth_readSpan _ r inside plain]
      exact (frame_taken s r).parts .mem (by decide) _
    · have bad : anyFailed (spanBursts r res) := anyFailed_iff.mpr ⟨_, List.mem_of_mem_filter (List.mem_of_mem_getLast? last), rfl⟩
      rw [if_pos bad] at answered
      exact ⟨answered, memRead_errAddr after fits last⟩

end Sys2Proof.Machine

/-! # The governor's turn and the latches of line 0

What the governor's turn and the latches of line 0 change: the governor's registers and state, the checkpoint, and the words that the
tails have latched (R73, R180 to R182, R368). -/

namespace Sys2Proof.Machine

/-! ### Line 0: the governor and the latches -/

/-- The parts that the governor's turn at line 0 may change. -/
def governParts : List Part := [.gov, .flt, .upd]

section
variable (s : State)

theorem frame_writeCeil (cs causes : List Nat) (mds : List QuadModel) : s.Frame (writeCeil cs causes mds s) govShown [] := by
  refine .foldl (fun u q hq => ?_) s
  have ceil : A.GOV_CEIL q ∈ govShown := List.mem_append_left _ (List.mem_append_right _ (List.mem_map_of_mem hq))
  have pred : A.GOV_IPRED q ∈ govShown := List.mem_append_right _ (List.mem_map_of_mem hq)
  exact (((State.Frame.refl u _ _).thenWr (F.GOV_CEIL.CEIL q) _ ceil).thenWr (F.GOV_CEIL.CAUSE q) _ ceil).thenWr (F.GOV_IPRED.IPRED q) _ pred

theorem frame_setJob (j : Nat) (x : Job) : s.Frame (s.setJob j x) [] [.gov] := (State.Frame.refl s _ _).setGov (by decide)

theorem frame_standingJobs : s.Frame s.standingJobs [] [.gov] :=
  .foldl (fun u j _ => .ite (.refl _ _ _) (frame_setJob u j _)) s

theorem frame_decideJobs (m : Int) (l : List Nat) (head : Option Int) (p : Nat) : s.Frame (State.decideJobs m l head p s).2 [] [.gov] := by
  induction l generalizing head p s with
  | nil => exact .refl _ _ _
  | cons j rest ih =>
    rw [State.decideJobs]
    split
    · exact ih _ _ _
    · split
      · exact (frame_setJob s j _).trans (ih _ _ _)
      · split
        · exact (frame_setJob s j _).trans (ih _ _ _)
        · split
          · exact (frame_setJob s j _).trans (ih _ _ _)
          · exact ih _ _ _

/-- The ceilings are written, and the jobs decided with `head` left. -/
def State.ceilingsDecided (s : State) (mds : List QuadModel) (cs causes : List Nat) (head : Option Int) : State :=
  (State.decideJobs (writeCeil cs causes mds s).heatMargin [0, 1, 2, 3, 4, 5] head 0 (writeCeil cs causes mds s).standingJobs).2

theorem applyCeilings_eq (mds : List QuadModel) (cs causes : List Nat) : ∃ head pframe gov upd, s.applyCeilings mds cs causes =
    { ((s.ceilingsDecided mds cs causes head).wr F.GOV_STAT.PFRAME pframe).wr F.GOV_FLAGS.STALLED 0 with gov := gov, upd := upd } := by
  unfold State.applyCeilings State.ceilingsDecided
  dsimp only
  exact ⟨_, _, _, _, rfl⟩

theorem frame_ceilingsDecided (mds : List QuadModel) (cs causes : List Nat) (head : Option Int) :
    s.Frame (s.ceilingsDecided mds cs causes head) govShown [.gov] :=
  ((frame_writeCeil s cs causes mds).mono (List.Subset.refl _) (List.nil_subset _)).trans
    (((frame_standingJobs _).trans (frame_decideJobs _ _ _ _ _)).mono (List.nil_subset _) (List.Subset.refl _))

theorem frame_applyCeilings (mds : List QuadModel) (cs causes : List Nat) : s.Frame (s.applyCeilings mds cs causes) govShown governParts := by
  obtain ⟨head, pframe, gov, upd, e⟩ := applyCeilings_eq s mds cs causes
  rw [e]
  exact ((((frame_ceilingsDecided s mds cs causes head).mono (List.Subset.refl _) (by decide)).thenWr F.GOV_STAT.PFRAME pframe (by decide)).thenWr
    F.GOV_FLAGS.STALLED 0 (by decide)).thenUpd rfl
      fun p hp => by cases p <;> simp_all [governParts, State.Same, State.readByte, State.appliedWord, State.unlisted]

theorem frame_evaluate (x : Scene) : s.Frame (s.evaluate x) govShown governParts := by
  have bound (b : Nat) : s.Frame (if b < 0xFFFF then s.bump F.GOV_CNT.BOUND else s) govShown governParts :=
    .ite ((State.Frame.refl s _ _).thenBump F.GOV_CNT.BOUND (by decide)) (.refl _ _ _)
  exact ((bound _).trans (frame_applyCeilings _ _ _ _)).thenWr F.GOV_FLAGS.LATE_LAST 0 (by decide)

theorem frame_lateCeilings : s.Frame s.lateCeilings govShown governParts :=
  (((frame_applyCeilings s _ _ _).thenWr F.GOV_FLAGS.LATE_LAST 1 (by decide)).thenBump F.GOV_CNT.LATE (by decide)).thenFault 0x70 0 (by decide)

theorem frame_takeCheckpoint : s.Frame s.takeCheckpoint [] [.upd] := by
  have kept (x : UpdState) : s.Frame { s with upd := x } [] [.upd] := .of_regs rfl fun p hp => by
    cases p <;> simp_all [State.Same, State.readByte, State.appliedWord, State.unlisted]
  exact .ite (kept _) (.refl _ _ _)

theorem frame_keepTaken (t : State) : t.Frame (s.keepTaken t) [] [.gov] := .ite ((State.Frame.refl t _ _).setGov (by decide)) (.refl _ _ _)

theorem frame_evaluateApart {f : State → State} (hf : ∀ u : State, u.Frame (f u) govShown governParts) :
    s.Frame (s.evaluateApart f) govShown governParts :=
  ((((frame_beginEvaluation s).mono (by decide) (by decide)).trans (hf _)).trans
    ((frame_keepTaken s _).mono (List.nil_subset _) (by decide))).trans ((frame_takeCheckpoint _).mono (List.nil_subset _) (by decide))

/-- At line 0 of the first quadrant only the governor's registers and state move, the checkpoint, and fault 0x70 of a late frame. -/
theorem frame_governFrame (governor : Bool) : s.Frame (s.governFrame governor) govShown governParts := by
  have evaluated : s.Frame (if s.ceilingsStand then s
      else if !(governor && s.governing) then { s with gov.missed := s.gov.missed + 1 }
      else if s.pix.fallback || s.pix.holding then s.evaluateApart (fun s => s.evaluate s.presentScene)
      else s.evaluateApart State.lateCeilings) govShown governParts :=
    .ite (.refl _ _ _) (.ite ((State.Frame.refl s _ _).setGov (by decide)) (.ite (frame_evaluateApart s fun u => frame_evaluate u _)
      (frame_evaluateApart s frame_lateCeilings)))
  exact (evaluated.setGov (by decide)).trans ((frame_startEvaluation _).mono (by decide) (by decide))

theorem frame_judgeCap (q : Quad) (missing : Bool) (latched inForce : Nat) : s.Frame (s.judgeCap q missing latched inForce) [] [.saf, .flt] := by
  have counted : s.Frame { s with saf.capBad := s.saf.capBad.set q.val (if missing || latched != inForce then nth s.saf.capBad q.val + 1 else 0) }
      [] [.saf, .flt] := (State.Frame.refl s _ _).setSaf (by decide)
  exact .ite ((counted.setSaf (by decide)).thenFaultQ 0x95 3 q (by decide)) counted
end

/-! ### Line 0 is opened -/

/-- The governor's turn, at line 0 of the first quadrant. -/
def State.governed (s : State) (n : Nat) (governor : Bool) : State := if n = 0 ∧ s.firstLine = true then s.governFrame governor else s

/-- The latches of line 0. -/
def State.lineLatched (s : State) (q : Quad) (n : Nat) (capLost : Bool) : State := if n = 0 then s.latchLine q capLost else s

section
variable (s : State) (q : Quad) (n : Nat)

theorem frame_governed (governor : Bool) : s.Frame (s.governed n governor) govShown governParts := .ite (frame_governFrame s _) (.refl _ _ _)

theorem frame_latchLine (capLost : Bool) : s.Frame (s.latchLine q capLost) [] [.scn, .saf, .flt] :=
  State.Frame.trans ((State.Frame.refl s _ _).setScn (by decide)) ((frame_judgeCap _ q _ _ _).mono (List.nil_subset _) (by decide))

theorem scn_latchLine (capLost : Bool) : (s.latchLine q capLost).scn = { s.scn with
    latched := s.scn.latched.set q.val (s.rd (F.GOV_CEIL.CEIL q.val)), latchedCap := s.scn.latchedCap.set q.val (s.tailCap q) } :=
  (frame_judgeCap _ q _ _ _).parts .scn (by decide)

theorem frame_lineLatched (capLost : Bool) : s.Frame (s.lineLatched q n capLost) [] [.scn, .saf, .flt] :=
  .ite (frame_latchLine s q capLost) (.refl _ _ _)

theorem scn_lineLatched (capLost : Bool) : (s.lineLatched q n capLost).scn = { s.scn with
    latched := if n = 0 then s.scn.latched.set q.val (s.rd (F.GOV_CEIL.CEIL q.val)) else s.scn.latched
    latchedCap := if n = 0 then s.scn.latchedCap.set q.val (s.tailCap q) else s.scn.latchedCap } := by
  unfold State.lineLatched
  split
  · exact scn_latchLine s q capLost
  · rfl
end

end Sys2Proof.Machine

/-! # The checks of a scan line

Read-backs, pad checks, ramps and ADCs leave what is latched, shown and withheld, and lose no report (R141, R142, R169, R414). -/

namespace Sys2Proof.Machine

/-! ### What a scan line leaves in its later checks -/

/-- The line of each quadrant, what its tails have latched, what its glass shows and which writes are withheld. -/
def ScnState.lineShown (x : ScnState) : List Nat × List Nat × List Nat × List (Nat × RowCodes) × List Bool :=
  (x.line, x.latched, x.latchedCap, x.glass, x.withheld)

/-- What is latched, shown and withheld stays, and no report is lost. -/
structure State.LineKept (s t : State) : Prop where
  shown : t.scn.lineShown = s.scn.lineShown
  reports : s.flt.inbox ⊆ t.flt.inbox

section
variable {s t u : State} (h : s.LineKept t)
include h

theorem State.LineKept.trans (k : t.LineKept u) : s.LineKept u := ⟨k.shown.trans h.shown, List.Subset.trans h.reports k.reports⟩

theorem State.LineKept.line : t.scn.line = s.scn.line := congrArg (·.1) h.shown
theorem State.LineKept.latched : t.scn.latched = s.scn.latched := congrArg (·.2.1) h.shown
theorem State.LineKept.latchedCap : t.scn.latchedCap = s.scn.latchedCap := congrArg (·.2.2.1) h.shown
theorem State.LineKept.glass : t.scn.glass = s.scn.glass := congrArg (·.2.2.2.1) h.shown
theorem State.LineKept.withheld : t.scn.withheld = s.scn.withheld := congrArg (·.2.2.2.2) h.shown
end

theorem State.LineKept.of_parts {s t : State} (scn : t.scn = s.scn) (flt : t.flt = s.flt) : s.LineKept t :=
  ⟨congrArg ScnState.lineShown scn, by rw [flt]; exact List.Subset.refl _⟩

/-- The registers and parts of the checks of a scan line of quadrant q. -/
def checkRegs (q : Nat) : List Nat := [A.SCN_RB_STAT q, A.SNS_ADC_FAIL_LO q, A.SNS_ADC_FAIL_HI q] ++ (List.range 48).map (A.TUN_ADC q) ++ requestRegs
def checkParts : List Part := [.scn, .flt, .tun] ++ settledParts

/-- From `s` to `t` checks of a scan line of quadrant q have been made. -/
structure State.Checks (q : Quad) (s t : State) : Prop where
  frame : s.Frame t (checkRegs q.val) checkParts
  kept : s.LineKept t

section
variable {q : Quad} {s t u : State}

theorem State.Checks.refl : s.Checks q s := ⟨.refl _ _ _, .of_parts rfl rfl⟩

theorem State.Checks.trans (h : s.Checks q t) (k : t.Checks q u) : s.Checks q u := ⟨h.frame.trans k.frame, h.kept.trans k.kept⟩

/-- What touches neither scan-out nor fault collection keeps what a line has left. -/
theorem State.Checks.of_frame {l : List Nat} {ps : List Part} (h : s.Frame t l ps) (hl : l ⊆ checkRegs q.val) (hp : ps ⊆ checkParts)
    (scn : Part.scn ∉ ps := by decide) (flt : Part.flt ∉ ps := by decide) : s.Checks q t :=
  ⟨h.mono hl hp, .of_parts (h.parts .scn scn) (h.parts .flt flt)⟩

theorem State.Checks.ite {c : Prop} [Decidable c] (h : s.Checks q t) (k : s.Checks q u) : s.Checks q (if c then t else u) := by
  split <;> assumption

theorem State.Checks.foldl {α : Type} {f : State → α → State} (hf : ∀ (u : State) (x : α), u.Checks q (f u x)) (xs : List α) (s : State) :
    s.Checks q (xs.foldl f s) := by
  induction xs generalizing s with
  | nil => exact .refl
  | cons x xs ih => exact (hf s x).trans (ih _)

theorem State.Checks.wr (f : Fld) (v : Nat) (hf : f.addr ∈ checkRegs q.val) : s.Checks q (s.wr f v) :=
  .of_frame (.wr s f v) (by simpa using hf) (List.nil_subset _)

theorem State.Checks.setScn {x : ScnState} (h : x.lineShown = s.scn.lineShown) : s.Checks q { s with scn := x } :=
  ⟨(State.Frame.refl s _ _).setScn (by decide), ⟨h, List.Subset.refl _⟩⟩

theorem State.Checks.report (src cls quad data : Nat) : s.Checks q (s.report src cls quad data) :=
  ⟨(State.Frame.refl s _ _).thenReport src cls quad data (by decide), ⟨rfl, List.subset_append_left _ _⟩⟩

end

theorem rb_checkRegs (q : Quad) : A.SCN_RB_STAT q.val ∈ checkRegs q.val := List.mem_cons_self
theorem adcLo_checkRegs (q : Quad) : A.SNS_ADC_FAIL_LO q.val ∈ checkRegs q.val := List.mem_cons_of_mem _ List.mem_cons_self
theorem adcHi_checkRegs (q : Quad) : A.SNS_ADC_FAIL_HI q.val ∈ checkRegs q.val :=
  List.mem_cons_of_mem _ (List.mem_cons_of_mem _ List.mem_cons_self)
theorem requestRegs_checkRegs (q : Quad) : requestRegs ⊆ checkRegs q.val := List.subset_append_right _ _

section
variable (s : State) (q : Quad)

/-! ### Read-back -/

theorem checks_sourceFail (o : Nat) : s.Checks q (s.sourceFail q o) := by
  refine .ite .refl ?_
  have recorded : s.Checks q { s with scn.srcFailed := s.scn.srcFailed ++ [q.val * 1536 + o] } := .setScn rfl
  have named (u : State) : u.Checks q (if u.on (F.SCN_RB_STAT.SRC_FAIL q.val) then u else u.wr (F.SCN_RB_STAT.FAILED_OUT q.val) o) :=
    .ite .refl (.wr _ _ (rb_checkRegs q))
  exact (((recorded.trans (named _)).trans (.wr (F.SCN_RB_STAT.SRC_FAIL q.val) 1 (rb_checkRegs q))).trans
    (.wr (F.SCN_RB_STAT.FAILED_COUNT q.val) _ (rb_checkRegs q))).trans (.report _ _ _ _)

/-- The failures in a row of source outputs. -/
theorem checks_srcFails (x : List (Nat × Nat)) : s.Checks q { s with scn.srcFails := x } := .setScn rfl

theorem checks_checkSource (n phase g raw : Nat) : s.Checks q (s.checkSource q n phase g raw) :=
  .ite ((checks_srcFails s q _).trans (checks_sourceFail _ q _)) (checks_srcFails s q _)

theorem checks_readBack (n : Nat) (l : List SourceRead) (phase g : Nat) : s.Checks q (State.readBack q n l phase s g) := by
  unfold State.readBack
  split
  · exact checks_checkSource s q _ _ _ _
  · exact checks_srcFails s q _
  · exact .refl

theorem checks_readBacks (n : Nat) (l : List SourceRead) : s.Checks q (s.readBacks q n l) :=
  (State.Checks.foldl (fun u g => checks_readBack u q n l 0 g) _ s).trans (.foldl (fun u g => checks_readBack u q n l 1 g) _ _)

/-! ### Pads and ramps -/

theorem checks_signalFails (x : List (Nat × Nat)) : s.Checks q { s with scn.sigFails := x } := .setScn rfl

theorem checks_signalFailed (x : List Bool) : s.Checks q { s with scn.sigFailed := x } := .setScn rfl

theorem checks_checkSignal (i : Nat) (ok : Bool) : s.Checks q (s.checkSignal q i ok) := by
  have failed (u : State) (x : List Bool) : u.Checks q ({ (u.wr (F.SCN_RB_STAT.GATE_FAIL q.val) 1).wr (F.SCN_RB_STAT.SIGNAL q.val) i with
      scn.sigFailed := x }.report 0x5D 3 (2 ^ q.val) 0).settleRequests :=
    ((((State.Checks.wr (F.SCN_RB_STAT.GATE_FAIL q.val) 1 (rb_checkRegs q)).trans (.wr (F.SCN_RB_STAT.SIGNAL q.val) i (rb_checkRegs q))).trans
      (checks_signalFailed _ q x)).trans (.report _ _ _ _)).trans
        (.of_frame (frame_settleRequests _) (requestRegs_checkRegs q) (List.subset_append_right _ _))
  exact (checks_signalFails s q _).trans (.ite .refl (failed _ _))

theorem checks_checkPad (n : Nat) (m : PadRead) : s.Checks q (State.checkPad q n s m) := checks_checkSignal s q _ _

theorem checks_checkRamp (m : RampRead) : s.Checks q (State.checkRamp q s m) := .ite (checks_checkSignal s q _ _) .refl

/-! ### The ADCs -/

theorem checks_failAdc (g : Nat) : s.Checks q (State.failAdc q s g) :=
  .ite .refl ((State.Checks.ite (.wr _ _ (adcLo_checkRegs q)) (.wr _ _ (adcHi_checkRegs q))).trans (.report _ _ _ _))

theorem checks_checkTaps (taps : List (Fin 48 × BitVec 12)) : s.Checks q (s.checkTaps q taps) := by
  have missed (x : SnsQuad) : s.Checks q (s.setSq q.val x) :=
    .of_frame ((State.Frame.refl s [] [.sns]).setSns (by decide) rfl) (List.nil_subset _) (by decide)
  exact (missed _).trans (.foldl (fun u g => checks_failAdc u q g) _ _)

theorem adc_checkRegs {i : Nat} (h : i < 192) (own : converterQuad i = q) : A.TUN_ADC (i / 48) (i % 48) ∈ checkRegs q.val := by
  have quad : i / 48 = q.val := by
    rw [← own, converterQuad, if_pos h]
    exact (Nat.mod_eq_of_lt (by omega)).symm
  rw [quad]
  exact List.mem_append_left _ (List.mem_append_right _ (List.mem_map_of_mem (List.mem_range.mpr (Nat.mod_lt _ (by decide)))))

theorem checks_setAdc {e : Nat × Correction} (h : e.1 < 192) (own : converterQuad e.1 = q) : s.Checks q (s.setCorrection e.1 e.2) := by
  rw [State.setCorrection, if_pos h]
  exact .of_frame (ps := []) ((State.Frame.refl s [A.TUN_ADC (e.1 / 48) (e.1 % 48)] []).thenSetReg _ _ List.mem_cons_self)
    (by simpa using adc_checkRegs q h own) (List.nil_subset _)

theorem checks_setAdcs (l : Corrections) (own : ∀ e ∈ l, e.1 < 192 ∧ converterQuad e.1 = q) : s.Checks q (s.setCorrections l) := by
  induction l generalizing s with
  | nil => exact .refl
  | cons e l ih =>
    obtain ⟨first, rest⟩ := List.forall_mem_cons.mp own
    exact (checks_setAdc s q first.1 first.2).trans (ih _ rest)

theorem checks_adcSlide : s.Checks q (s.adcSlide q) := by
  have taken : s.Checks q (s.setCorrections (s.tun.adcNext.filter (fun e => Nat.blt e.1 192 && converterQuad e.1 == q))) :=
    checks_setAdcs s q _ fun e he => by simpa using (List.mem_filter.mp he).2
  have left (u : State) (x : Corrections) : u.Checks q { u with tun.adcNext := x } :=
    .of_frame ((State.Frame.refl u [] [.tun]).setTun (by decide)) (List.nil_subset _) (by decide)
  exact (taken.trans (left _ _)).trans (.ite (.of_frame (frame_tuneSlideEnd _) (List.nil_subset _) (by decide)) .refl)
end

end Sys2Proof.Machine

/-! # A scan line (settles O13)

The row of an active line is withheld or written, and the checks that follow keep what it leaves. -/

namespace Sys2Proof.Machine

/-! ### The row of an active line -/

theorem shownRow_congr {s t : State} (h : t.scn.glass = s.scn.glass) (q : Quad) (y : Nat) : t.shownRow q y = s.shownRow q y := by
  unfold State.shownRow
  rw [h]

theorem find_eq_get (m : List (Nat × RowCodes)) (k : Nat) :
    ((m.find? (fun e => e.1 == k)).map (fun e => e.2)).getD [] = Sparse.get (fun _ => []) m k := by
  induction m with
  | nil => rfl
  | cons e m ih =>
    rw [Sparse.get, List.find?_cons]
    by_cases own : k = e.1
    · simp [own]
    · have other : (e.1 == k) = false := beq_eq_false_iff_ne.mpr (Ne.symm own)
      rw [other, if_neg own]
      exact ih

theorem shownRow_eq (s : State) (q : Quad) (y : Nat) : s.shownRow q y = Sparse.get (fun _ => []) s.scn.glass (q.val * 512 + y) := find_eq_get _ _

/-- What a line reads of the state when it opens: whether rows are written, lines ready, and which row it is. -/
theorem linesReady_congr {s t : State} (fetched : t.scn.fetched = s.scn.fetched) (bad : t.scn.lineBad = s.scn.lineBad) (q : Quad) (n : Nat) :
    t.linesReady q n = s.linesReady q n := by
  simp only [State.linesReady, State.lineComplete, fetched, bad]

theorem qcfg_unwired (q : Quad) : A.SCN_QCFG q.val ≠ A.SAF_STAT ∧ A.SCN_QCFG q.val ≠ A.SYS_START := by
  revert q
  decide

section
variable {s t : State} {l : List Nat} {ps : List Part} (h : s.Frame t l ps)
include h

theorem State.Frame.writesRows (pwr : Part.pwr ∉ ps) (thm : Part.thm ∉ ps) (q : Quad) : t.writesRows q = s.writesRows q := by
  have kept : t.pwr = { s.pwr with light := t.pwr.light, closedAt := t.pwr.closedAt } := h.parts .pwr pwr
  have rows : t.pwr.rows = s.pwr.rows := (congrArg PwrState.rows kept).trans rfl
  have trips : t.thm = s.thm := h.parts .thm thm
  rw [State.writesRows, State.writesRows, rows, trips]

theorem State.Frame.rowOf (q : Quad) (reg : A.SCN_QCFG q.val ∉ l) (n : Nat) : t.rowOf q n = s.rowOf q n := by
  have dir : t.on (F.SCN_QCFG.SCAN_DIR q.val) = s.on (F.SCN_QCFG.SCAN_DIR q.val) :=
    on_of_rd (h.rd (f := F.SCN_QCFG.SCAN_DIR q.val) reg (qcfg_unwired q).1 (qcfg_unwired q).2)
  rw [State.rowOf, State.rowOf, dir]

theorem State.Frame.tailCap (saf : Part.saf ∉ ps) (q : Quad) : t.tailCap q = s.tailCap q := by
  have kept : t.saf = { s.saf with
      firstClear := t.saf.firstClear, fbWait := t.saf.fbWait, outOn := t.saf.outOn, outSince := t.saf.outSince, fbWindow := t.saf.fbWindow } :=
    h.parts .saf saf
  have cap : t.saf.tailCap = s.saf.tailCap := (congrArg SafState.tailCap kept).trans rfl
  have valid : t.saf.tailValid = s.saf.tailValid := (congrArg SafState.tailValid kept).trans rfl
  rw [State.tailCap, State.tailCap, cap, valid]
end

/-- The registers and parts of an active line's row. -/
def rowRegs (q : Nat) : List Nat := [A.SCN_UNDERRUN q, A.HYB_ECC]
def rowParts : List Part := [.scn, .cmp, .gov, .hyb, .flt]

section
variable (s : State) (q : Quad) (n : Nat)

theorem frame_noteCurrent (r : RowCodes) : s.Frame (s.noteCurrent q n r) [] [.gov] := (State.Frame.refl s _ _).setGov (by decide)

/-! ### A row that is withheld -/

theorem frame_underrun : s.Frame (s.underrun q n) (rowRegs q.val) rowParts := by
  have counted := ((State.Frame.refl s (rowRegs q.val) rowParts).thenBump (F.SCN_UNDERRUN.COUNT q.val) List.mem_cons_self).thenWr
    (F.SCN_UNDERRUN.LAST_LINE q.val) n List.mem_cons_self
  exact ((counted.setScn (by decide)).trans ((frame_noteCurrent _ q n _).mono (List.nil_subset _) (by decide))).thenFaultQ 0x5A 1 q (by decide)

theorem scn_underrun : (s.underrun q n).scn = { s.scn with withheld := s.scn.withheld.set q.val true } := rfl

theorem fault_underrun : ⟨0x5A, 1, 2 ^ q.val, 0, false, s.now⟩ ∈ (s.underrun q n).flt.inbox := List.mem_append_right _ List.mem_cons_self

theorem lastLine_underrun (h : n < 512) : (s.underrun q n).rd (F.SCN_UNDERRUN.LAST_LINE q.val) = n :=
  rd_wr_fits _ (f := F.SCN_UNDERRUN.LAST_LINE q.val) (Nat.le_of_ble_eq_true rfl) h

theorem count_underrun : (s.underrun q n).rd (F.SCN_UNDERRUN.COUNT q.val) = min 0xFFFF (s.rd (F.SCN_UNDERRUN.COUNT q.val) + 1) :=
  (rd_wr_other (f := F.SCN_UNDERRUN.LAST_LINE q.val) (g := F.SCN_UNDERRUN.COUNT q.val) _ _ (.inr (.inl (Nat.le_of_ble_eq_true rfl)))).trans
    (rd_bump_same s (f := F.SCN_UNDERRUN.COUNT q.val) (Nat.le_of_ble_eq_true rfl))

/-! ### A row that is written -/

theorem frame_ladderCorr : s.Frame (s.ladderCorr q) [A.HYB_ECC] [.hyb, .flt] :=
  (((State.Frame.refl s [A.HYB_ECC] [.hyb, .flt]).thenBump F.HYB_ECC.CORR (by decide)).setHyb (by decide)).thenFaultQ 0x58 1 q (by decide)

theorem frame_ladderErr : s.Frame (s.ladderErr q) [A.HYB_ECC] [.hyb, .flt] :=
  (((State.Frame.refl s [A.HYB_ECC] [.hyb, .flt]).thenBump F.HYB_ECC.UNCORR (by decide)).setHyb (by decide)).thenFaultQ 0x59 2 q (by decide)

theorem frame_ladderReads (corr uncorr : Nat) : s.Frame (s.ladderReads q corr uncorr) [A.HYB_ECC] [.hyb, .flt] :=
  (State.Frame.foldl (fun u _ _ => frame_ladderCorr u q) s).trans (.foldl (fun u _ _ => frame_ladderErr u q) _)

/-- An uncorrectable ladder read raises fault 0x59. -/
theorem fault_ladderReads (corr : Nat) {uncorr : Nat} (h : 0 < uncorr) :
    ⟨0x59, 2, 2 ^ q.val, 0, false, s.now⟩ ∈ (s.ladderReads q corr uncorr).flt.inbox := by
  obtain ⟨k, rfl⟩ := Nat.exists_eq_succ_of_ne_zero h.ne'
  have last : s.ladderReads q corr (k + 1) = (s.ladderReads q corr k).ladderErr q := by
    rw [State.ladderReads, State.ladderReads, List.range_succ, List.foldl_append]
    rfl
  have now : (s.ladderReads q corr k).now = s.now := (frame_ladderReads s q corr k).parts .now (by decide)
  rw [last, ← now]
  exact List.mem_append_right _ List.mem_cons_self

/-- The codes a written row puts on the glass. -/
def State.rowShown (s : State) (q : Quad) (n uncorr : Nat) : RowCodes :=
  if 0 < uncorr then s.shownRow q (s.rowOf q n) else s.makeUpRow q n (s.encodeRow q (s.rowOf q n))

theorem writeRow_eq (corr uncorr : Nat) : ∃ r sent limited, s.writeRow q n corr uncorr =
    { ((s.noteCurrent q n r).ladderReads q corr uncorr).setRow q (s.rowOf q n) (s.rowShown q n uncorr) with
      scn.withheld := ((s.noteCurrent q n r).ladderReads q corr uncorr).scn.withheld.set q.val false
      scn.sent := sent, cmp.limited := limited } := by
  unfold State.rowShown State.writeRow State.codesFor
  by_cases bad : 0 < uncorr
  · simp only [bad, decide_true, if_true]
    exact ⟨_, _, _, rfl⟩
  · simp only [bad, decide_false, Bool.false_eq_true, if_false]
    exact ⟨_, _, _, rfl⟩

theorem frame_writeRow (corr uncorr : Nat) : s.Frame (s.writeRow q n corr uncorr) (rowRegs q.val) rowParts := by
  obtain ⟨r, sent, limited, e⟩ := writeRow_eq s q n corr uncorr
  have reads : s.Frame ((s.noteCurrent q n r).ladderReads q corr uncorr) (rowRegs q.val) rowParts :=
    ((frame_noteCurrent s q n r).mono (List.nil_subset _) (by decide)).trans
      ((frame_ladderReads _ q corr uncorr).mono (List.subset_cons_self _ _) (by decide))
  rw [e]
  exact reads.thenUpd rfl fun p hp => by
    cases p <;> simp_all [rowParts, State.setRow, State.Same, State.readByte, State.appliedWord, State.unlisted]

/-- The row is on the glass, and everything else that a line leaves is as it was. -/
theorem scn_writeRow (corr uncorr : Nat) : ∃ sent, (s.writeRow q n corr uncorr).scn = { s.scn with
    glass := Sparse.put (fun _ => []) s.scn.glass (q.val * 512 + s.rowOf q n) (s.rowShown q n uncorr)
    withheld := s.scn.withheld.set q.val false, sent := sent } := by
  obtain ⟨r, sent, limited, e⟩ := writeRow_eq s q n corr uncorr
  have scn : ((s.noteCurrent q n r).ladderReads q corr uncorr).scn = s.scn := (frame_ladderReads _ q corr uncorr).parts .scn (by decide)
  refine ⟨sent, ?_⟩
  rw [e, State.setRow, scn]

theorem shownRow_writeRow (corr uncorr : Nat) : (s.writeRow q n corr uncorr).shownRow q (s.rowOf q n) = s.rowShown q n uncorr := by
  obtain ⟨sent, e⟩ := scn_writeRow s q n corr uncorr
  rw [shownRow_eq, e]
  exact Sparse.get_put_same _ _ _ _

theorem fault_writeRow (corr : Nat) {uncorr : Nat} (h : 0 < uncorr) :
    ⟨0x59, 2, 2 ^ q.val, 0, false, s.now⟩ ∈ (s.writeRow q n corr uncorr).flt.inbox := by
  obtain ⟨r, sent, limited, e⟩ := writeRow_eq s q n corr uncorr
  rw [e]
  exact fault_ladderReads (s.noteCurrent q n r) q corr h

/-! ### An active line -/

variable (inp : LineInput)

theorem activeLine_idle (h : s.writesRows q = false) : s.activeLine q n inp = s := if_pos (by rw [h]; rfl)

theorem activeLine_late (h : s.writesRows q = true) (missing : s.linesReady q n = false) : s.activeLine q n inp = s.underrun q n :=
  (if_neg (by rw [h]; decide)).trans (if_pos (by rw [missing]; rfl))

theorem checks_activeLine (h : s.writesRows q = true) (ready : s.linesReady q n = true) :
    (s.writeRow q n inp.corr inp.uncorr).Checks q (s.activeLine q n inp) := by
  have written : s.activeLine q n inp =
      if (s.writeRow q n inp.corr inp.uncorr).on (F.SCN_RB_CFG.EN q.val) && (s.writeRow q n inp.corr inp.uncorr).glassValid q.val then
        (s.writeRow q n inp.corr inp.uncorr).readBacks q n inp.sources
      else s.writeRow q n inp.corr inp.uncorr := (if_neg (by rw [h]; decide)).trans (if_neg (by rw [ready]; decide))
  rw [written]
  exact .ite (checks_readBacks _ q n _) .refl

/-- The latches hold through an active line. -/
theorem latches_activeLine : (s.activeLine q n inp).scn.line = s.scn.line ∧ (s.activeLine q n inp).scn.latched = s.scn.latched ∧
    (s.activeLine q n inp).scn.latchedCap = s.scn.latchedCap := by
  cases rows : s.writesRows q with
  | false => rw [activeLine_idle s q n inp rows]; exact ⟨rfl, rfl, rfl⟩
  | true =>
    cases ready : s.linesReady q n with
    | false => rw [activeLine_late s q n inp rows ready]; exact ⟨rfl, rfl, rfl⟩
    | true =>
      obtain ⟨sent, e⟩ := scn_writeRow s q n inp.corr inp.uncorr
      have kept := (checks_activeLine s q n inp rows ready).kept
      rw [kept.line, kept.latched, kept.latchedCap, e]
      exact ⟨rfl, rfl, rfl⟩

theorem frame_activeLine : s.Frame (s.activeLine q n inp) (rowRegs q.val ++ checkRegs q.val) (rowParts ++ checkParts) := by
  have row {u : State} (h : s.Frame u (rowRegs q.val) rowParts) : s.Frame u (rowRegs q.val ++ checkRegs q.val) (rowParts ++ checkParts) :=
    h.mono (List.subset_append_left _ _) (List.subset_append_left _ _)
  cases rows : s.writesRows q with
  | false => rw [activeLine_idle s q n inp rows]; exact .refl _ _ _
  | true =>
    cases ready : s.linesReady q n with
    | false => rw [activeLine_late s q n inp rows ready]; exact row (frame_underrun s q n)
    | true =>
      exact (row (frame_writeRow s q n _ _)).trans
        ((checks_activeLine s q n inp rows ready).frame.mono (List.subset_append_right _ _) (List.subset_append_right _ _))
end

/-! ### The command -/

/-- A quadrant's line: the governor's turn and the latches of line 0, and the line's number. -/
def State.lineOpened (s : State) (q : Quad) (n : Nat) (inp : LineInput) : State :=
  let v := (s.governed n inp.governor).lineLatched q n inp.capLost
  { v with scn.line := v.scn.line.set q.val n }

/-- The row of an active line. -/
def State.lineWritten (s : State) (q : Quad) (n : Nat) (inp : LineInput) : State := if n < 512 then s.activeLine q n inp else s

/-- The ADC corrections, pads, ramps and taps of a line. -/
def State.lineChecked (s : State) (q : Quad) (n : Nat) (inp : LineInput) : State :=
  let s := if n = 512 then s.adcSlide q else s
  let s := inp.ramps.foldl (State.checkRamp q) (inp.signals.foldl (State.checkPad q n) s)
  if n = 512 then s.checkTaps q inp.taps else s

/-- What the line of a quadrant leads to, before the wires act. -/
def State.lineRun (s : State) (q : Quad) (n : Nat) (inp : LineInput) : State :=
  (((s.lineOpened q n inp).lineWritten q n inp).lineChecked q n inp).reviewUrgency q

section
variable (s : State) (q : Quad) (n : Nat) (inp : LineInput)

theorem exec_scanLineStart_other (t : Nat) (l : Fin 768) (h : (s.advance t).lineNext q l.val = false) :
    exec (.scanLineStart t q l inp) s = done (s.advance t) := if_pos (by rw [h]; rfl)

theorem exec_scanLineStart_next (t : Nat) (l : Fin 768) (h : (s.advance t).lineNext q l.val = true) :
    exec (.scanLineStart t q l inp) s = .next ((s.advance t).lineRun q l.val inp).settle :=
  (if_neg (by rw [h]; decide)).trans rfl

def openParts : List Part := [.scn, .gov, .flt, .saf, .upd]

theorem frame_lineOpened : s.Frame (s.lineOpened q n inp) govShown openParts :=
  (((frame_governed s n inp.governor).mono (List.Subset.refl _) (by decide)).trans
    ((frame_lineLatched _ q n inp.capLost).mono (List.nil_subset _) (by decide))).setScn (by decide)

theorem scn_lineOpened : (s.lineOpened q n inp).scn = { s.scn with
    line := s.scn.line.set q.val n
    latched := if n = 0 then s.scn.latched.set q.val ((s.governed n inp.governor).rd (F.GOV_CEIL.CEIL q.val)) else s.scn.latched
    latchedCap := if n = 0 then s.scn.latchedCap.set q.val (s.tailCap q) else s.scn.latchedCap } := by
  have governed := frame_governed s n inp.governor
  have scn : (s.governed n inp.governor).scn = s.scn := governed.parts .scn (by decide)
  have cap : (s.governed n inp.governor).tailCap q = s.tailCap q := governed.tailCap (by decide) q
  rw [State.lineOpened]
  simp only [scn_lineLatched, scn, cap]

theorem frame_lineWritten : s.Frame (s.lineWritten q n inp) (rowRegs q.val ++ checkRegs q.val) (rowParts ++ checkParts) :=
  .ite (frame_activeLine s q n inp) (.refl _ _ _)

theorem checks_lineChecked : s.Checks q (s.lineChecked q n inp) := by
  have slid : s.Checks q (if n = 512 then s.adcSlide q else s) := .ite (checks_adcSlide s q) .refl
  have pads (u : State) : u.Checks q (inp.ramps.foldl (State.checkRamp q) (inp.signals.foldl (State.checkPad q n) u)) :=
    (State.Checks.foldl (fun u m => checks_checkPad u q n m) _ u).trans (.foldl (fun u m => checks_checkRamp u q m) _ _)
  exact (slid.trans (pads _)).trans (.ite (checks_checkTaps _ q _) .refl)

theorem urgency_lineKept : s.LineKept (s.reviewUrgency q) :=
  .of_parts ((frame_reviewUrgency s q).parts .scn (by decide)) ((frame_reviewUrgency s q).parts .flt (by decide))

/-- After the row has been written the line leaves what it shows. -/
theorem lineRun_kept : ((s.lineOpened q n inp).lineWritten q n inp).LineKept (s.lineRun q n inp) :=
  (checks_lineChecked _ q n inp).kept.trans (urgency_lineKept _ q)

def lineParts : List Part := [.scn, .cmp, .gov, .hyb, .sns, .flt, .mem, .tun, .saf, .upd] ++ dramParts

theorem row_lineRegs : rowRegs q.val ++ checkRegs q.val ⊆ lineRegs q.val := by
  revert q
  decide

theorem frame_lineRun : s.Frame (s.lineRun q n inp) (lineRegs q.val) lineParts := by
  have gov : govShown ⊆ lineRegs q.val := by revert q; decide
  have urgency : urgencyRegs q ⊆ lineRegs q.val := by revert q; decide
  have checks : checkRegs q.val ⊆ lineRegs q.val := List.Subset.trans (List.subset_append_right _ _) (row_lineRegs q)
  exact ((((frame_lineOpened s q n inp).mono gov (by decide)).trans ((frame_lineWritten _ q n inp).mono (row_lineRegs q) (by decide))).trans
    ((checks_lineChecked _ q n inp).frame.mono checks (by decide))).trans ((frame_reviewUrgency _ q).mono urgency (by decide))
end

section
variable (s : State) (q : Quad) (n : Nat) (inp : LineInput)

/-! ### What the row of a line finds -/

theorem writesRows_lineOpened : (s.lineOpened q n inp).writesRows q = s.writesRows q :=
  (frame_lineOpened s q n inp).writesRows (by decide) (by decide) q

theorem linesReady_lineOpened : (s.lineOpened q n inp).linesReady q n = s.linesReady q n := by
  apply linesReady_congr <;> rw [scn_lineOpened]

theorem rowOf_lineOpened : (s.lineOpened q n inp).rowOf q n = s.rowOf q n := (frame_lineOpened s q n inp).rowOf q (by revert q; decide) n

theorem now_lineOpened : (s.lineOpened q n inp).now = s.now := (frame_lineOpened s q n inp).parts .now (by decide)

/-! ### What the row of a line leaves -/

theorem latches_lineWritten : (s.lineWritten q n inp).scn.line = s.scn.line ∧ (s.lineWritten q n inp).scn.latched = s.scn.latched ∧
    (s.lineWritten q n inp).scn.latchedCap = s.scn.latchedCap := by
  unfold State.lineWritten
  split
  · exact latches_activeLine s q n inp
  · exact ⟨rfl, rfl, rfl⟩

theorem lineWritten_idle (h : 512 ≤ n ∨ s.writesRows q = false) : s.lineWritten q n inp = s := by
  unfold State.lineWritten
  split
  next active => exact activeLine_idle s q n inp (h.resolve_left (by omega))
  next => rfl

theorem lineWritten_late (active : n < 512) (rows : s.writesRows q = true) (missing : s.linesReady q n = false) :
    s.lineWritten q n inp = s.underrun q n := (if_pos active).trans (activeLine_late s q n inp rows missing)

theorem lineWritten_row (active : n < 512) (rows : s.writesRows q = true) (ready : s.linesReady q n = true) :
    (s.writeRow q n inp.corr inp.uncorr).LineKept (s.lineWritten q n inp) := by
  rw [State.lineWritten, if_pos active]
  exact (checks_activeLine s q n inp rows ready).kept

/-! ### What the line leaves -/

/-- `t` is the state after the line of quadrant q that leads from `s`. -/
structure State.LineDone (s t : State) (q : Quad) (n : Nat) (inp : LineInput) : Prop where
  frame : s.Frame t (lineRegs q.val) lineParts
  kept : ((s.lineOpened q n inp).lineWritten q n inp).LineKept t
  underrun : ∀ f : Fld, f.addr = A.SCN_UNDERRUN q.val → t.rd f = ((s.lineOpened q n inp).lineWritten q n inp).rd f

theorem underrun_apart : A.SCN_UNDERRUN q.val ∉ checkRegs q.val ∧ A.SCN_UNDERRUN q.val ∉ urgencyRegs q ∧ A.SCN_UNDERRUN q.val ∉ govShown ∧
    A.SCN_UNDERRUN q.val ≠ A.SAF_STAT ∧ A.SCN_UNDERRUN q.val ≠ A.SYS_START := by
  revert q
  decide

theorem lineDone_lineRun (hu : s.undef = false) : s.LineDone (s.lineRun q n inp).settle q n inp := by
  have frame := frame_lineRun s q n inp
  have du := frame.undef hu
  obtain ⟨checked, urgency, -, stat, start⟩ := underrun_apart q
  refine ⟨frame.settled du, (lineRun_kept s q n inp).trans (.of_parts (settle_scn du) (settle_flt du)), ?_⟩
  rintro f own
  have reviewed : (s.lineRun q n inp).rd f = (((s.lineOpened q n inp).lineWritten q n inp).lineChecked q n inp).rd f :=
    (frame_reviewUrgency _ q).rd (own ▸ urgency) (own ▸ stat) (own ▸ start)
  rw [rd_settle du (own ▸ stat) (own ▸ start), reviewed]
  exact (checks_lineChecked _ q n inp).frame.rd (own ▸ checked) (own ▸ stat) (own ▸ start)
end

section
variable {s t : State} {q : Quad} {n : Nat} {inp : LineInput} (h : s.LineDone t q n inp)
include h

theorem State.LineDone.line : t.scn.line = s.scn.line.set q.val n := by
  rw [h.kept.line, (latches_lineWritten _ q n inp).1, scn_lineOpened]

theorem State.LineDone.latched : t.scn.latched =
    if n = 0 then s.scn.latched.set q.val ((s.governed n inp.governor).rd (F.GOV_CEIL.CEIL q.val)) else s.scn.latched := by
  rw [h.kept.latched, (latches_lineWritten _ q n inp).2.1, scn_lineOpened]

theorem State.LineDone.latchedCap : t.scn.latchedCap = if n = 0 then s.scn.latchedCap.set q.val (s.tailCap q) else s.scn.latchedCap := by
  rw [h.kept.latchedCap, (latches_lineWritten _ q n inp).2.2, scn_lineOpened]

theorem State.LineDone.idle (no : 512 ≤ n ∨ s.writesRows q = false) : t.scn.glass = s.scn.glass := by
  rw [← writesRows_lineOpened s q n inp] at no
  rw [h.kept.glass, lineWritten_idle _ q n inp no, scn_lineOpened]

section
variable (active : n < 512) (rows : s.writesRows q = true)
include active rows

theorem State.LineDone.late (missing : s.linesReady q n = false) : t.scn.glass = s.scn.glass ∧ t.rd (F.SCN_UNDERRUN.LAST_LINE q.val) = n ∧
    t.rd (F.SCN_UNDERRUN.COUNT q.val) = min 0xFFFF (s.rd (F.SCN_UNDERRUN.COUNT q.val) + 1) ∧
    t.scn.withheld = s.scn.withheld.set q.val true ∧ ⟨0x5A, 1, 2 ^ q.val, 0, false, s.now⟩ ∈ t.flt.inbox := by
  have written := lineWritten_late (s.lineOpened q n inp) q n inp active ((writesRows_lineOpened s q n inp).trans rows)
    ((linesReady_lineOpened s q n inp).trans missing)
  obtain ⟨-, kept, under⟩ := h
  rw [written] at kept under
  obtain ⟨-, -, ceil, stat, start⟩ := underrun_apart q
  have count : (s.lineOpened q n inp).rd (F.SCN_UNDERRUN.COUNT q.val) = s.rd (F.SCN_UNDERRUN.COUNT q.val) :=
    (frame_lineOpened s q n inp).rd ceil stat start
  refine ⟨?_, (under _ rfl).trans (lastLine_underrun _ q n active), ?_, ?_, kept.reports ?_⟩
  · rw [kept.glass, scn_underrun, scn_lineOpened]
  · rw [under _ rfl, count_underrun, count]
  · rw [kept.withheld, scn_underrun, scn_lineOpened]
  · rw [← now_lineOpened s q n inp]
    exact fault_underrun _ q n

/-- A row whose lines are there is on the glass as it was to be. -/
theorem State.LineDone.row (ready : s.linesReady q n = true) :
    t.shownRow q (s.rowOf q n) = (s.lineOpened q n inp).rowShown q n inp.uncorr ∧ t.scn.withheld = s.scn.withheld.set q.val false ∧
      (0 < inp.uncorr → ⟨0x59, 2, 2 ^ q.val, 0, false, s.now⟩ ∈ t.flt.inbox) := by
  have kept := (lineWritten_row (s.lineOpened q n inp) q n inp active ((writesRows_lineOpened s q n inp).trans rows)
    ((linesReady_lineOpened s q n inp).trans ready)).trans h.kept
  obtain ⟨sent, scn⟩ := scn_writeRow (s.lineOpened q n inp) q n inp.corr inp.uncorr
  refine ⟨?_, ?_, fun bad => kept.reports ?_⟩
  · rw [shownRow_congr kept.glass, ← rowOf_lineOpened s q n inp]
    exact shownRow_writeRow _ q n _ _
  · rw [kept.withheld, scn, scn_lineOpened]
  · rw [← now_lineOpened s q n inp]
    exact fault_writeRow _ q n _ bad
end
end

/-- The codes of a row written without a ladder error are those of the line's latches, its number apart. -/
theorem rowShown_good (s : State) (q : Quad) (n : Nat) (inp : LineInput) (good : inp.uncorr = 0) : (s.lineOpened q n inp).rowShown q n inp.uncorr =
    ((s.governed n inp.governor).lineLatched q n inp.capLost).makeUpRow q n
      (((s.governed n inp.governor).lineLatched q n inp.capLost).encodeRow q (s.rowOf q n)) := by
  rw [State.rowShown, if_neg (by omega), rowOf_lineOpened]
  rfl

theorem rowShown_bad (s : State) (q : Quad) (n : Nat) (inp : LineInput) (bad : 0 < inp.uncorr) :
    (s.lineOpened q n inp).rowShown q n inp.uncorr = s.shownRow q (s.rowOf q n) := by
  rw [State.rowShown, if_pos bad, rowOf_lineOpened]
  exact shownRow_congr (by rw [scn_lineOpened]) _ _

/-! ### The obligation -/

/-- Settles O13: the governor's turn and the latches leave the glass, the row is withheld or written, and the checks that follow
keep what is latched and shown and lose no report. -/
theorem scanLines : Obligations.ScanLines := by
  unfold Obligations.ScanLines
  intro s u v n q l inp hu
  constructor
  · intro other
    exact ⟨_, exec_scanLineStart_other s q inp n l other, frame_settle hu⟩
  · rintro next rfl rfl
    have run : (s.advance n).LineDone _ q l.val inp := lineDone_lineRun (s.advance n) q l.val inp hu
    refine ⟨_, exec_scanLineStart_next s q inp n l next, run.line, fun later => ⟨?_, ?_⟩, fun first => ⟨?_, ?_⟩, run.late,
      fun active rows ready good => ?_, fun active rows ready bad => ?_, run.idle, run.frame⟩
    · exact run.latched.trans (if_neg later)
    · exact run.latchedCap.trans (if_neg later)
    · exact run.latched.trans (if_pos first)
    · exact run.latchedCap.trans (if_pos first)
    · obtain ⟨shown, written, -⟩ := run.row active rows ready
      exact ⟨shown.trans (rowShown_good _ q _ inp good), written⟩
    · obtain ⟨shown, -, fault⟩ := run.row active rows ready
      exact ⟨shown.trans (rowShown_bad _ q _ inp bad), fault bad⟩

end Sys2Proof.Machine

/-! # The sensing engines

What sensing reads of the state, and where its own updates leave that alone (06_subpixel_sensing.md R145 to R152). -/

namespace Sys2Proof.Machine

theorem nth_map_range {α : Type} [Inhabited α] (f : Nat → α) {n i : Nat} (h : i < n) : nth ((List.range n).map f) i = f i := by
  simp [nth, h]

/-! ### The engine of a quadrant -/

theorem sq_setSq (s : State) (i j : Nat) (x : SnsQuad) :
    (s.setSq i x).sq j = if j = i ∧ i < s.sns.quads.length then x else s.sq j := by
  simp only [State.sq, State.setSq, nth, List.getD_eq_getElem?_getD, List.getElem?_set]
  by_cases h : i = j
  · subst h
    by_cases hl : i < s.sns.quads.length
    · simp [hl]
    · simp [hl]
  · simp [h, Ne.symm h]

theorem sq_setSq_same (s : State) {i : Nat} (x : SnsQuad) (h : i < s.sns.quads.length) : (s.setSq i x).sq i = x := by
  rw [sq_setSq, if_pos ⟨rfl, h⟩]

/-- Time that passes changes no engine but for the running time of its sweep. -/
theorem sq_advance (s : State) (n q : Nat) : (s.advance n).sq q = { s.sq q with sweepRun := ((s.advance n).sq q).sweepRun } := by
  simp only [State.sq, State.advance, nth, List.getD_eq_getElem?_getD]
  split
  · rw [List.getElem?_map]
    cases s.sns.quads[q]? <;> rfl
  · rfl

theorem plan_advance (s : State) (n q : Nat) : ((s.advance n).sq q).plan = (s.sq q).plan := by
  rw [sq_advance]

theorem length_quads_advance (s : State) (n : Nat) : (s.advance n).sns.quads.length = s.sns.quads.length := by
  simp only [State.advance]
  split
  · exact List.length_map ..
  · rfl

theorem sq_settle {s : State} (hu : s.undef = false) (i : Nat) : s.settle.sq i = s.sq i := by
  rw [State.sq, settle_sns hu]
  rfl

theorem frame_setSq (s : State) (i : Nat) (x : SnsQuad) : s.Frame (s.setSq i x) [] [.sns] :=
  (State.Frame.refl s [] [.sns]).setSns (by decide) rfl

end Sys2Proof.Machine

/-! # Sense slots and the supply current (settles O15) -/

namespace Sys2Proof.Machine

/-! ### A unit is measured -/

section
variable (s : State) (q : Quad) (slot : Slot) (raw1 raw2 : List (BitVec 12))

/-- The subpixels that a slot measures, by ADC. -/
def State.unitSubpixels : List Nat := (List.range 48).map (fun g => (s.measured q slot.line slot.mux g).1)

/-- The reads of the arrays for the precharge levels have reached the DRAM. -/
def State.precharged : State := if slot.zero then s else (s.unitSubpixels q slot).foldl State.touchReading s

/-- What a slot measures. -/
def State.unitResult : SlotResult := ⟨q.val, slot, 0, (s.unitSubpixels q slot).map (s.precharge slot.zero), s.sample q.val raw1, s.sample q.val raw2⟩

/-- A measured unit is on its way. -/
def State.sendResult (r : SlotResult) : State := { s with sns.inflight := s.sns.inflight ++ [r] }

theorem frame_touchReading (k : Nat) : s.Frame (s.touchReading k) dramRegs dramParts :=
  .ite (frame_touchDram s _) ((frame_touchDram s _).trans (frame_touchDram _ _))

theorem frame_precharged : s.Frame (s.precharged q slot) dramRegs dramParts :=
  .ite (.refl _ _ _) (.foldl (fun u k _ => frame_touchReading u k) s)

/-- The ADCs' corrections are those of before. -/
theorem sample_precharged (raw : List (BitVec 12)) : (s.precharged q slot).sample q.val raw = s.sample q.val raw := by
  unfold State.sample
  refine List.map_congr_left fun g hg => ?_
  have apart : ∀ (q : Quad) (g : Fin 48), A.TUN_ADC q.val g.val ∉ dramRegs ∧ A.TUN_ADC q.val g.val ≠ A.SAF_STAT ∧
      A.TUN_ADC q.val g.val ≠ A.SYS_START := by decide
  obtain ⟨dram, saf, start⟩ := apart q ⟨g, List.mem_range.mp hg⟩
  rw [State.adcCorrection, State.adcCorrection, (frame_precharged s q slot).reg dram saf start]

theorem measure_eq : s.measure q slot raw1 raw2 =
    if isSweep slot then ((s.precharged q slot).sendResult (s.unitResult q slot raw1 raw2)).sweepStep q
    else (s.precharged q slot).sendResult (s.unitResult q slot raw1 raw2) := by
  unfold State.unitResult
  rw [← sample_precharged s q slot raw1, ← sample_precharged s q slot raw2]
  rfl

theorem frame_sendResult (r : SlotResult) : s.Frame (s.sendResult r) [] [.sns] := (State.Frame.refl s [] [.sns]).setSns (by decide) rfl

theorem frame_sent (r : SlotResult) : s.Frame ((s.precharged q slot).sendResult r) dramRegs (.sns :: dramParts) :=
  ((frame_precharged s q slot).mono (List.Subset.refl _) (by decide)).trans ((frame_sendResult _ r).mono (List.nil_subset _) (by decide))

theorem sns_sent (r : SlotResult) : ((s.precharged q slot).sendResult r).sns = { s.sns with inflight := s.sns.inflight ++ [r] } := by
  rw [State.sendResult, (frame_precharged s q slot).parts .sns (by decide)]

theorem measure_other (h : slot.use ≠ .sweep) :
    s.measure q slot raw1 raw2 = (s.precharged q slot).sendResult (s.unitResult q slot raw1 raw2) := by
  rw [measure_eq, isSweep, decide_eq_false h]
  rfl

theorem measure_sweep (h : slot.use = .sweep) :
    s.measure q slot raw1 raw2 = ((s.precharged q slot).sendResult (s.unitResult q slot raw1 raw2)).sweepStep q := by
  rw [measure_eq, isSweep, decide_eq_true h]
  rfl
end

/-! ### The regular sweep -/

section
variable (s : State) (q : Quad)

theorem sweepStep_next (h : s.rd (F.SNS_QSTAT.SWEEP_POS q.val) + 1 < 16384) :
    s.sweepStep q = s.wr (F.SNS_QSTAT.SWEEP_POS q.val) (s.rd (F.SNS_QSTAT.SWEEP_POS q.val) + 1) := if_neg (by omega)

theorem sweepStep_last (h : 16384 ≤ s.rd (F.SNS_QSTAT.SWEEP_POS q.val) + 1) : s.sweepStep q = s.sweepEnd q := if_pos h

/-- SNS_QSTAT lies beside the registers of the DRAM, of the sweep's times and of the wires. -/
theorem qstat_apart (q : Quad) : A.SNS_QSTAT q.val ∉ dramRegs ∧ A.SNS_QSTAT q.val ≠ A.SAF_STAT ∧ A.SNS_QSTAT q.val ≠ A.SYS_START ∧
    A.SNS_QSTAT q.val ≠ A.SNS_SWEEP := by
  revert q
  decide

theorem rd_sweepPos_wr {n : Nat} (h : n < 16384) :
    (s.wr (F.SNS_QSTAT.SWEEP_POS q.val) n).rd (F.SNS_QSTAT.SWEEP_POS q.val) = n :=
  rd_wr_fits s (f := F.SNS_QSTAT.SWEEP_POS q.val) (Nat.le_of_ble_eq_true rfl) h

/-- The registers of quadrant q's sweep. -/
def sweepRegs (q : Nat) : List Nat := [A.SNS_QSTAT q, A.SNS_SWEEP]

/-- The time of the sweep that ends, in 10 ms. -/
def State.sweepTens : Nat := min 0xFFFF ((s.sq q.val).sweepRun / ms 10)

/-- The next sweep begins, with `tail` results of this one still to come. -/
def State.sweepRestart (tail : Nat) : State :=
  s.setSq q.val { s.sq q.val with sweepRun := 0, sweepNext := 0, overdue := false, sweepTail := tail }

theorem sweepEnd_eq : ∃ tail, tail = (s.sns.inflight.filter (fun r => r.quad == q.val && isSweep r.slot)).length ∧
    s.sweepEnd q = (((s.sweepRestart q tail).wr (F.SNS_QSTAT.SWEEP_POS q.val) 0).wr F.SNS_SWEEP.LAST (s.sweepTens q)).wr F.SNS_SWEEP.MAX
      (max (s.rd F.SNS_SWEEP.MAX) (s.sweepTens q)) := ⟨_, rfl, rfl⟩

theorem frame_sweepEnd : s.Frame (s.sweepEnd q) (sweepRegs q.val) [.sns] := by
  obtain ⟨tail, -, e⟩ := sweepEnd_eq s q
  rw [e]
  have begun : s.Frame (s.sweepRestart q tail) (sweepRegs q.val) [.sns] := (frame_setSq s q.val _).mono (List.nil_subset _) (List.Subset.refl _)
  exact ((begun.thenWr _ _ List.mem_cons_self).thenWr _ _ (List.mem_cons_of_mem _ List.mem_cons_self)).thenWr _ _
    (List.mem_cons_of_mem _ List.mem_cons_self)

theorem frame_sweepStep : s.Frame (s.sweepStep q) (sweepRegs q.val) [.sns] :=
  .ite (frame_sweepEnd s q) ((State.Frame.refl s _ _).thenWr _ _ List.mem_cons_self)

/-- What the registers of the sweep show at its end. -/
theorem rd_sweepEnd : (s.sweepEnd q).rd (F.SNS_QSTAT.SWEEP_POS q.val) = 0 ∧ (s.sweepEnd q).rd F.SNS_SWEEP.LAST = s.sweepTens q ∧
    (s.sweepEnd q).rd F.SNS_SWEEP.MAX = max (s.rd F.SNS_SWEEP.MAX) (s.sweepTens q) := by
  obtain ⟨tail, -, e⟩ := sweepEnd_eq s q
  have tens : s.sweepTens q ≤ 65535 := min_le_left _ _
  have most : s.rd F.SNS_SWEEP.MAX < 65536 := rd_lt s F.SNS_SWEEP.MAX
  have apart : (F.SNS_QSTAT.SWEEP_POS q.val).addr ≠ A.SNS_SWEEP := (qstat_apart q).2.2.2
  rw [e]
  refine ⟨?_, ?_, rd_wr_fits _ (by decide) ?_⟩
  · rw [rd_wr_other _ _ (.inl apart), rd_wr_other _ _ (.inl apart), rd_sweepPos_wr _ q (by decide)]
  · rw [rd_wr_other _ _ (.inr (.inl (by decide))), rd_wr_fits _ (by decide)]
    exact Nat.lt_succ_of_le tens
  · exact max_lt most (Nat.lt_succ_of_le tens)

theorem inflight_sweepStep : (s.sweepStep q).sns.inflight = s.sns.inflight := by
  unfold State.sweepStep
  dsimp only
  split <;> rfl
end

/-! ### The command SENSE_SLOT -/

theorem exec_senseSlot_idle {s : State} {q : Quad} (n : Nat) (raw1 raw2 : List (BitVec 12))
    (h : s.sensing q = false ∨ (s.sq q.val).plan = []) : exec (.senseSlot n q raw1 raw2) s = done (s.advance n) := by
  rw [← plan_advance s n] at h
  simp only [exec, execSenseSlot]
  split
  next slot rest on plan =>
    rcases h with off | none
    · cases on.symm.trans off
    · cases plan.symm.trans none
  next => rfl

theorem exec_senseSlot {s : State} {q : Quad} {n : Nat} {slot : Slot} {rest : List Slot} (raw1 raw2 : List (BitVec 12))
    (on : s.sensing q = true) (plan : ((s.advance n).sq q.val).plan = slot :: rest) : exec (.senseSlot n q raw1 raw2) s =
      done (if slot.use = .tuning then ((s.advance n).setSq q.val { (s.advance n).sq q.val with plan := rest }).tuneSlot q
        else ((s.advance n).setSq q.val { (s.advance n).sq q.val with plan := rest }).measure q slot raw1 raw2) := by
  have on' : (s.advance n).sensing q = true := on
  simp only [exec, execSenseSlot, on', plan]

theorem frame_tuneSlot (s : State) (q : Quad) : s.Frame (s.tuneSlot q) [] [.tun] := (State.Frame.refl s [] [.tun]).setTun (by decide)

theorem frame_measure (s : State) (q : Quad) (slot : Slot) (raw1 raw2 : List (BitVec 12)) : s.Frame (s.measure q slot raw1 raw2)
    ((if slot.use = .sweep then sweepRegs q.val else []) ++ dramRegs) (.sns :: dramParts) := by
  have sent := frame_sent s q slot (s.unitResult q slot raw1 raw2)
  by_cases h : slot.use = .sweep
  · rw [measure_sweep s q slot raw1 raw2 h, if_pos h]
    exact (sent.mono (List.subset_append_right _ _) (List.Subset.refl _)).trans
      ((frame_sweepStep _ q).mono (List.subset_append_left _ _) (by decide))
  · rw [measure_other s q slot raw1 raw2 h, if_neg h]
    exact sent

theorem inflight_measure (s : State) (q : Quad) (slot : Slot) (raw1 raw2 : List (BitVec 12)) :
    (s.measure q slot raw1 raw2).sns.inflight = s.sns.inflight ++ [s.unitResult q slot raw1 raw2] := by
  have sent := congrArg SnsState.inflight (sns_sent s q slot (s.unitResult q slot raw1 raw2))
  by_cases h : slot.use = .sweep
  · rw [measure_sweep s q slot raw1 raw2 h, inflight_sweepStep, sent]
  · rw [measure_other s q slot raw1 raw2 h, sent]

/-- The levels and samples of a measured unit. -/
theorem unitResult_levels (s : State) (q : Quad) (slot : Slot) (raw1 raw2 : List (BitVec 12)) {g : Nat} (hg : g < 48) :
    nth (s.unitResult q slot raw1 raw2).pre g = s.precharge slot.zero (s.measured q slot.line slot.mux g).1 ∧
    nth (s.unitResult q slot raw1 raw2).v1 g = corrected (s.adcCorrection q.val g) (nth raw1 g).toNat ∧
    nth (s.unitResult q slot raw1 raw2).v2 g = corrected (s.adcCorrection q.val g) (nth raw2 g).toNat := by
  refine ⟨?_, nth_map_range _ hg, nth_map_range _ hg⟩
  rw [State.unitResult, State.unitSubpixels, List.map_map, nth_map_range _ hg]
  rfl

section
variable {s : State} {q : Quad} {slot : Slot} (raw1 raw2 : List (BitVec 12)) (h : slot.use = .sweep)
include h

/-- A unit of the regular sweep that is not its last. -/
theorem measure_sweep_next (more : s.rd (F.SNS_QSTAT.SWEEP_POS q.val) + 1 < 16384) :
    (s.measure q slot raw1 raw2).sns.quads = s.sns.quads ∧ (s.measure q slot raw1 raw2).rd F.SNS_SWEEP.LAST = s.rd F.SNS_SWEEP.LAST ∧
    (s.measure q slot raw1 raw2).rd (F.SNS_QSTAT.SWEEP_POS q.val) = s.rd (F.SNS_QSTAT.SWEEP_POS q.val) + 1 := by
  have sent := frame_sent s q slot (s.unitResult q slot raw1 raw2)
  have quads : ((s.precharged q slot).sendResult (s.unitResult q slot raw1 raw2)).sns.quads = s.sns.quads := by rw [sns_sent]
  obtain ⟨dram, saf, start, own⟩ := qstat_apart q
  have pos := sent.rd (f := F.SNS_QSTAT.SWEEP_POS q.val) dram saf start
  have last := sent.rd (f := F.SNS_SWEEP.LAST) (by decide) (by decide) (by decide)
  rw [measure_sweep s q slot raw1 raw2 h]
  generalize (s.precharged q slot).sendResult (s.unitResult q slot raw1 raw2) = v at quads pos last ⊢
  rw [← pos] at more ⊢
  rw [sweepStep_next v q more]
  refine ⟨quads, ?_, rd_sweepPos_wr v q more⟩
  rw [rd_wr_other v _ (.inl own.symm), last]

/-- The last unit of the regular sweep. -/
theorem measure_sweep_last (last : 16384 ≤ s.rd (F.SNS_QSTAT.SWEEP_POS q.val) + 1) (hq : q.val < s.sns.quads.length) :
    (s.measure q slot raw1 raw2).rd (F.SNS_QSTAT.SWEEP_POS q.val) = 0 ∧
    (s.measure q slot raw1 raw2).rd F.SNS_SWEEP.LAST = s.sweepTens q ∧
    (s.measure q slot raw1 raw2).rd F.SNS_SWEEP.MAX = max (s.rd F.SNS_SWEEP.MAX) (s.sweepTens q) ∧
    (s.measure q slot raw1 raw2).sq q.val = { s.sq q.val with
      sweepRun := 0, sweepNext := 0, overdue := false
      sweepTail := ((s.measure q slot raw1 raw2).sns.inflight.filter (fun x => x.quad == q.val && isSweep x.slot)).length } := by
  have sent := frame_sent s q slot (s.unitResult q slot raw1 raw2)
  have quads : ((s.precharged q slot).sendResult (s.unitResult q slot raw1 raw2)).sns.quads = s.sns.quads := by rw [sns_sent]
  obtain ⟨dram, saf, start, -⟩ := qstat_apart q
  have pos := sent.rd (f := F.SNS_QSTAT.SWEEP_POS q.val) dram saf start
  have most := sent.rd (f := F.SNS_SWEEP.MAX) (by decide) (by decide) (by decide)
  rw [measure_sweep s q slot raw1 raw2 h]
  generalize (s.precharged q slot).sendResult (s.unitResult q slot raw1 raw2) = v at quads pos most ⊢
  have sq : v.sq q.val = s.sq q.val := congrArg (nth · q.val) quads
  have tens : v.sweepTens q = s.sweepTens q := by rw [State.sweepTens, sq]; rfl
  rw [← pos] at last
  rw [sweepStep_last v q last, ← tens, ← most, ← sq]
  obtain ⟨shown, shownLast, shownMax⟩ := rd_sweepEnd v q
  refine ⟨shown, shownLast, shownMax, ?_⟩
  obtain ⟨tail, ht, e⟩ := sweepEnd_eq v q
  have flight : (v.sweepEnd q).sns.inflight = v.sns.inflight := rfl
  rw [flight, ← ht, e]
  exact sq_setSq_same v _ (by rw [quads]; exact hq)
end

/-! ### The deadline of a sweep -/

theorem sweepDeadline_ticks : sec 60 = 15360000000000 := by decide

theorem exec_sweepDeadline_over {s : State} {q : Quad} (on : s.sensing q = true) (new : (s.sq q.val).overdue = false)
    (late : 15360000000000 ≤ s.sweepAge q) :
    exec (.sweepDeadline q) s = done ((s.setSq q.val { s.sq q.val with overdue := true }).faultQ 0x61 3 q) := by
  have late : Nat.ble (sec 60) (s.sweepAge q) = true := Nat.ble_eq.mpr (by rw [sweepDeadline_ticks]; exact late)
  simp only [exec, execSweepDeadline, on, new, late, Bool.not_false, Bool.and_self, if_true]

theorem exec_sweepDeadline_none {s : State} {q : Quad} (h : s.sensing q = false ∨ (s.sq q.val).overdue = true ∨ s.sweepAge q < 15360000000000) :
    exec (.sweepDeadline q) s = done s := by
  have no : (s.sensing q && !(s.sq q.val).overdue && Nat.ble (sec 60) (s.sweepAge q)) = false := by
    rcases h with h | h | h
    · simp [h]
    · simp [h]
    · rw [sweepDeadline_ticks, show Nat.ble 15360000000000 (s.sweepAge q) = false from Bool.eq_false_iff.mpr fun le => absurd (Nat.ble_eq.mp le) (Nat.not_le.mpr h), Bool.and_false]
  simp only [exec, execSweepDeadline, no, Bool.false_eq_true, if_false]

/-! ### The supply current -/

theorem signed_unsigned_clamp (z : Int) : signed 16 (unsigned 16 (clampInt (-32768) 32767 z)) = clampInt (-32768) 32767 z := by
  have lo : -32768 ≤ clampInt (-32768) 32767 z := le_max_left _ _
  have hi : clampInt (-32768) 32767 z ≤ 32767 := max_le (by decide) (min_le_left _ _)
  generalize clampInt (-32768) 32767 z = c at lo hi
  simp only [signed, unsigned]
  norm_num
  split <;> omega

/-- What a comparison shows: the shunt current and the residual. -/
def State.supplyShown (s : State) (q : Quad) (meas : Nat) (resid : Int) : State :=
  (s.wr (F.SNS_ISNS_Q.RESID q.val) (unsigned 16 (clampInt (-32768) 32767 resid))).wr (F.SNS_ISNS_Q.MEAS q.val) meas

section
variable (s : State) (q : Quad)

theorem frame_supplyShown (meas : Nat) (resid : Int) : s.Frame (s.supplyShown q meas resid) [A.SNS_ISNS_Q q.val] [] :=
  ((State.Frame.refl s _ _).thenWr _ _ List.mem_cons_self).thenWr _ _ List.mem_cons_self

theorem meas_supplyShown {meas : Nat} (resid : Int) (h : meas ≤ 0xFFFF) :
    (s.supplyShown q meas resid).rd (F.SNS_ISNS_Q.MEAS q.val) = meas :=
  rd_wr_fits _ (f := F.SNS_ISNS_Q.MEAS q.val) (Nat.le_of_ble_eq_true rfl) (Nat.lt_succ_of_le h)

theorem resid_supplyShown (meas : Nat) (resid : Int) :
    signed 16 ((s.supplyShown q meas resid).rd (F.SNS_ISNS_Q.RESID q.val)) = clampInt (-32768) 32767 resid := by
  have behind : (s.supplyShown q meas resid).rd (F.SNS_ISNS_Q.RESID q.val) = unsigned 16 (clampInt (-32768) 32767 resid) % 2 ^ 16 :=
    (rd_wr_other _ (f := F.SNS_ISNS_Q.MEAS q.val) (g := F.SNS_ISNS_Q.RESID q.val) meas (.inr (.inr (Nat.le_of_ble_eq_true rfl)))).trans
      (rd_wr_same s (f := F.SNS_ISNS_Q.RESID q.val) _ (Nat.le_of_ble_eq_true rfl))
  rw [behind, signed, Nat.mod_mod]
  exact signed_unsigned_clamp resid

theorem isnsQ_apart : A.SNS_ISNS_Q q.val ≠ A.SAF_STAT ∧ A.SNS_ISNS_Q q.val ≠ A.SYS_START := by
  revert q
  decide

/-- The registers of the comparison lie beside those it reads. -/
theorem isnsCfg_apart : A.SNS_ISNS_CFG ≠ A.SNS_ISNS_Q q.val := by
  revert q
  decide

theorem rd_isnsCfg_supplyShown {f : Fld} (h : f.addr = A.SNS_ISNS_CFG) (meas : Nat) (resid : Int) :
    (s.supplyShown q meas resid).rd f = s.rd f := by
  have apart : f.addr ≠ A.SNS_ISNS_Q q.val := h ▸ isnsCfg_apart q
  exact (rd_wr_other _ _ (.inl apart)).trans (rd_wr_other _ _ (.inl apart))

/-- The engine of a quadrant behind a frame without the trigger condition. -/
def State.quietFrame (persist : Nat) : SnsQuad :=
  { s.sq q.val with
    trigRun := 0, clearRun := (s.sq q.val).clearRun + 1
    blocked := (s.sq q.val).blocked && decide ((s.sq q.val).clearRun + 1 < persist)
    unproductive := (s.sq q.val).unproductive && decide ((s.sq q.val).clearRun + 1 < persist) }

/-- Behind one with it. -/
def State.triggerFrame (blocked : Bool) (burst : Option Burst) : SnsQuad :=
  { s.sq q.val with trigRun := (s.sq q.val).trigRun + 1, clearRun := 0, blocked := blocked, burst := burst }

/-- No burst may start any more: bursts were blocked, or the one before was unproductive and the triggers have persisted. -/
def State.burstsBlocked (persist : Nat) : Bool :=
  (s.sq q.val).blocked || ((s.sq q.val).unproductive && decide (persist ≤ (s.sq q.val).trigRun + 1))

/-- The burst that runs behind a trigger. -/
def State.triggeredBurst (blocked missing : Bool) : Option Burst :=
  if (s.sq q.val).burst = none ∧ blocked = false then some ⟨s.burstBands q.val missing, 0, false⟩ else (s.sq q.val).burst

theorem judgeSupply_quiet (missing : Bool) :
    s.judgeSupply q false missing = s.setSq q.val (s.quietFrame q (max 1 (s.rd F.SNS_ISNS_CFG.PERSIST))) := by
  unfold State.judgeSupply State.quietFrame
  generalize max 1 (s.rd F.SNS_ISNS_CFG.PERSIST) = persist
  dsimp only
  rw [if_neg Bool.false_ne_true]
  by_cases h : persist ≤ (s.sq q.val).clearRun + 1
  · rw [if_pos h, decide_eq_false (Nat.not_lt.mpr h), Bool.and_false, Bool.and_false]
  · rw [if_neg h, decide_eq_true (Nat.lt_of_not_le h), Bool.and_true, Bool.and_true]

/-- What a trigger leaves before the fault of the block. -/
def State.triggered (blocked missing : Bool) : State :=
  (s.faultQ 0x62 0 q).setSq q.val (s.triggerFrame q blocked (s.triggeredBurst q blocked missing))

theorem judgeSupply_trigger (missing : Bool) {b : Bool} (hb : b = s.burstsBlocked q (max 1 (s.rd F.SNS_ISNS_CFG.PERSIST))) :
    s.judgeSupply q true missing = if b && !(s.sq q.val).blocked then (s.triggered q b missing).faultQ 0x63 2 q else s.triggered q b missing := by
  subst hb
  unfold State.judgeSupply State.triggered State.triggerFrame State.triggeredBurst State.burstsBlocked
  generalize max 1 (s.rd F.SNS_ISNS_CFG.PERSIST) = persist
  have bands : (s.faultQ 0x62 0 q).burstBands q.val missing = s.burstBands q.val missing := rfl
  dsimp only
  rw [if_pos rfl, bands]
  generalize s.sq q.val = x
  generalize (x.unproductive && decide (persist ≤ x.trigRun + 1)) = p
  have fails : ((x.blocked || p) && !x.blocked) = (p && !x.blocked) := by cases x.blocked <;> cases p <;> rfl
  have blocks : (x.blocked || p && !x.blocked) = (x.blocked || p) := by cases x.blocked <;> cases p <;> rfl
  rw [fails, blocks]
  generalize (x.blocked || p) = b
  have starts : (x.burst.isNone && !b) = true ↔ x.burst = none ∧ b = false := by simp
  by_cases h : x.burst = none ∧ b = false
  · rw [if_pos (starts.mpr h), if_pos h]
  · rw [if_neg (mt starts.mp h), if_neg h]
end

/-! ### The command ISNS_COMPARE_DONE -/

/-- Both thresholds are reached (R164). -/
def State.supplyHit (s : State) (q : Quad) (shunt k : Nat) (e : Int) : Prop :=
  s.rd F.SNS_ISNS_CFG.ABS * shunt * k ≤ e.natAbs ∧ s.rd F.SNS_ISNS_CFG.REL * s.ipredFrame q.val * shunt ≤ 1000 * e.natAbs

section
variable {s : State} {q : Quad} (nV : Nat) (sat : Bool)

theorem exec_isnsCompareDone_off (h : s.on F.SNS_ISNS_CFG.EN = false ∨ s.scn.running = false) :
    exec (.isnsCompareDone q nV sat) s = done s := by
  have no : (s.on F.SNS_ISNS_CFG.EN && s.scn.running) = false := by rcases h with h | h <;> simp [h]
  simp only [exec, execIsnsCompareDone, no, Bool.not_false, if_true]

/-- The comparison of a frame is shown and judged. -/
def State.compared (s : State) (q : Quad) (meas : Nat) (resid : Int) (hit missing : Bool) : State :=
  (s.supplyShown q meas resid).judgeSupply q hit missing

/-- The shunt current shown for a mean of `nV` nanovolts. -/
def shuntCurrent (nV shunt : Nat) (sat : Bool) : Nat := if sat then 0xFFFF else min 0xFFFF (nV / (10 * shunt))

theorem shuntCurrent_le (nV shunt : Nat) (sat : Bool) : shuntCurrent nV shunt sat ≤ 0xFFFF := by
  unfold shuntCurrent
  split
  · exact le_rfl
  · exact min_le_left _ _

theorem exec_isnsCompareDone {shunt k : Nat} {e : Int} (on : s.on F.SNS_ISNS_CFG.EN = true) (run : s.scn.running = true)
    (hs : shunt = max 1 (s.rd F.SNS_ISNS_SHUNT.SHUNT)) (hk : k = (512 + s.scn.prevBlank) * 10 ^ 4 * 65536 * 65536)
    (he : e = ((nV * k : Nat) : Int) - (s.ipredFrame q.val * shunt : Nat)) :
    ∃ hit : Bool, (hit = true ↔ s.supplyHit q shunt k e) ∧ exec (.isnsCompareDone q nV sat) s =
      done (s.compared q (shuntCurrent nV shunt sat) (roundDivInt e (shunt * k)) hit (decide (e < 0))) := by
  have both : (s.on F.SNS_ISNS_CFG.EN && s.scn.running) = true := by rw [on, run]; rfl
  have abs := rd_isnsCfg_supplyShown s q (f := F.SNS_ISNS_CFG.ABS) rfl (shuntCurrent nV shunt sat) (roundDivInt e (shunt * k))
  have rel := rd_isnsCfg_supplyShown s q (f := F.SNS_ISNS_CFG.REL) rfl (shuntCurrent nV shunt sat) (roundDivInt e (shunt * k))
  rw [Nat.cast_mul, Nat.cast_mul] at he
  unfold State.supplyHit
  rw [← abs, ← rel]
  refine ⟨decide _, decide_eq_true_iff, ?_⟩
  simp only [exec, execIsnsCompareDone, both, Bool.not_true, Bool.false_eq_true, if_false]
  rw [← hk, ← hs, ← he]
  rfl
end

section
variable (s : State) (q : Quad) (meas : Nat) (resid : Int) (missing : Bool)

theorem compared_quiet : s.compared q meas resid false missing =
    (s.supplyShown q meas resid).setSq q.val (s.quietFrame q (max 1 (s.rd F.SNS_ISNS_CFG.PERSIST))) := by
  rw [State.compared, judgeSupply_quiet, rd_isnsCfg_supplyShown s q (f := F.SNS_ISNS_CFG.PERSIST) rfl]
  rfl

theorem compared_trigger {b : Bool} (hb : b = s.burstsBlocked q (max 1 (s.rd F.SNS_ISNS_CFG.PERSIST))) :
    s.compared q meas resid true missing = if b && !(s.sq q.val).blocked then ((s.supplyShown q meas resid).triggered q b missing).faultQ 0x63 2 q
      else (s.supplyShown q meas resid).triggered q b missing := by
  refine judgeSupply_trigger _ q missing ?_
  rw [rd_isnsCfg_supplyShown s q (f := F.SNS_ISNS_CFG.PERSIST) rfl]
  exact hb

theorem frame_compared (hit : Bool) : s.Frame (s.compared q meas resid hit missing) [A.SNS_ISNS_Q q.val] [.sns, .flt] := by
  have shown := (frame_supplyShown s q meas resid).mono (List.Subset.refl _) (List.nil_subset [.sns, .flt])
  cases hit with
  | false =>
    rw [compared_quiet]
    exact shown.trans ((frame_setSq _ _ _).mono (List.nil_subset _) (by decide))
  | true =>
    have hit : s.Frame ((s.supplyShown q meas resid).triggered q (s.burstsBlocked q (max 1 (s.rd F.SNS_ISNS_CFG.PERSIST))) missing)
        [A.SNS_ISNS_Q q.val] [.sns, .flt] :=
      (shown.thenFaultQ _ _ _ (by decide)).trans ((frame_setSq _ _ _).mono (List.nil_subset _) (by decide))
    rw [compared_trigger s q meas resid missing rfl]
    exact .ite (hit.thenFaultQ _ _ _ (by decide)) hit

theorem rd_compared (hit : Bool) (f : Fld) :
    (s.compared q meas resid hit missing).rd f = (s.supplyShown q meas resid).rd f := by
  cases hit with
  | false => rw [compared_quiet]; rfl
  | true =>
    rw [compared_trigger s q meas resid missing rfl]
    split <;> rfl

/-- The engine and the reports behind a trigger. -/
theorem compared_trigger_sns {b : Bool} (hb : b = s.burstsBlocked q (max 1 (s.rd F.SNS_ISNS_CFG.PERSIST))) :
    (s.compared q meas resid true missing).sns =
      { s.sns with quads := s.sns.quads.set q.val (s.triggerFrame q b (s.triggeredBurst q b missing)) } ∧
    (s.compared q meas resid true missing).flt.inbox = s.flt.inbox ++ [⟨0x62, 0, 2 ^ q.val, 0, false, s.now⟩] ++
      (if b && !(s.sq q.val).blocked then [⟨0x63, 2, 2 ^ q.val, 0, false, s.now⟩] else []) := by
  rw [compared_trigger s q meas resid missing hb]
  split
  · exact ⟨rfl, rfl⟩
  · exact ⟨rfl, (List.append_nil _).symm⟩
end

/-! ### The obligation -/

/-- A slot given to tuning. -/
theorem senseSlot_tuning {s u : State} {q : Quad} {n : Nat} {slot : Slot} {rest : List Slot} (raw1 raw2 : List (BitVec 12))
    (hu : s.undef = false) (eu : u = s.advance n) (on : s.sensing q = true) (plan : (u.sq q.val).plan = slot :: rest)
    (tuning : slot.use = .tuning) : ∃ t, exec (.senseSlot n q raw1 raw2) s = .next t ∧ u.Frame t [] [.sns, .tun] ∧
      t.sns = { u.sns with quads := u.sns.quads.set q.val { u.sq q.val with plan := rest } } ∧
      t.tun = { s.tun with run := s.tun.run.map (fun r => { r with slots := modAt r.slots q.val (· + 1) }) } := by
  subst eu
  have taken := frame_setSq (s.advance n) q.val { (s.advance n).sq q.val with plan := rest }
  have frame : (s.advance n).Frame _ [] [.sns, .tun] := (taken.mono (List.Subset.refl _) (by decide)).trans
    ((frame_tuneSlot _ q).mono (List.Subset.refl _) (by decide))
  have du := frame.undef hu
  refine ⟨_, (exec_senseSlot raw1 raw2 on plan).trans (congrArg done (if_pos tuning)), frame.settled du, ?_, ?_⟩
  · rw [settle_sns du]; rfl
  · rw [settle_tun du]; rfl

/-- A slot that measures, before the wires act. -/
def State.slotMeasured (s : State) (q : Quad) (slot : Slot) (rest : List Slot) (raw1 raw2 : List (BitVec 12)) : State :=
  (s.setSq q.val { s.sq q.val with plan := rest }).measure q slot raw1 raw2

section
variable (s : State) (q : Quad) (slot : Slot) (rest : List Slot) (raw1 raw2 : List (BitVec 12))

theorem frame_slotMeasured : s.Frame (s.slotMeasured q slot rest raw1 raw2)
    ((if slot.use = .sweep then [A.SNS_QSTAT q.val, A.SNS_SWEEP] else []) ++ dramRegs) (.sns :: dramParts) :=
  ((frame_setSq s q.val _).mono (List.nil_subset _) (by decide)).trans (frame_measure _ q slot raw1 raw2)

/-- The unit measured: its levels and samples are those of the state before. -/
theorem inflight_slotMeasured : ∃ r, (s.slotMeasured q slot rest raw1 raw2).sns.inflight = s.sns.inflight ++ [r] ∧
    r.quad = q.val ∧ r.slot = slot ∧ r.age = 0 ∧
    (∀ g < 48, nth r.pre g = s.precharge slot.zero (s.measured q slot.line slot.mux g).1) ∧
    ∀ g < 48, nth r.v1 g = corrected (s.adcCorrection q.val g) (nth raw1 g).toNat ∧
      nth r.v2 g = corrected (s.adcCorrection q.val g) (nth raw2 g).toNat := by
  have levels {g : Nat} (hg : g < 48) := unitResult_levels (s.setSq q.val { s.sq q.val with plan := rest }) q slot raw1 raw2 hg
  exact ⟨_, inflight_measure _ q slot raw1 raw2, rfl, rfl, rfl, fun g hg => (levels hg).1, fun g hg => (levels hg).2⟩

theorem quads_slotMeasured_other (h : slot.use ≠ .sweep) :
    (s.slotMeasured q slot rest raw1 raw2).sns.quads = s.sns.quads.set q.val { s.sq q.val with plan := rest } := by
  rw [State.slotMeasured, measure_other _ q slot raw1 raw2 h, sns_sent]
  rfl

variable {slot}

theorem slotMeasured_next (h : slot.use = .sweep) (more : s.rd (F.SNS_QSTAT.SWEEP_POS q.val) + 1 < 16384) :
    (s.slotMeasured q slot rest raw1 raw2).sns.quads = s.sns.quads.set q.val { s.sq q.val with plan := rest } ∧
    (s.slotMeasured q slot rest raw1 raw2).rd F.SNS_SWEEP.LAST = s.rd F.SNS_SWEEP.LAST ∧
    (s.slotMeasured q slot rest raw1 raw2).rd (F.SNS_QSTAT.SWEEP_POS q.val) = s.rd (F.SNS_QSTAT.SWEEP_POS q.val) + 1 :=
  measure_sweep_next raw1 raw2 h more

theorem slotMeasured_last (h : slot.use = .sweep) (last : 16384 ≤ s.rd (F.SNS_QSTAT.SWEEP_POS q.val) + 1) (hq : q.val < s.sns.quads.length) :
    (s.slotMeasured q slot rest raw1 raw2).rd (F.SNS_QSTAT.SWEEP_POS q.val) = 0 ∧
    (s.slotMeasured q slot rest raw1 raw2).rd F.SNS_SWEEP.LAST = s.sweepTens q ∧
    (s.slotMeasured q slot rest raw1 raw2).rd F.SNS_SWEEP.MAX = max (s.rd F.SNS_SWEEP.MAX) (s.sweepTens q) ∧
    (s.slotMeasured q slot rest raw1 raw2).sq q.val = { s.sq q.val with
      plan := rest, sweepRun := 0, sweepNext := 0, overdue := false
      sweepTail := ((s.slotMeasured q slot rest raw1 raw2).sns.inflight.filter (fun x => x.quad == q.val && isSweep x.slot)).length } := by
  have engine := sq_setSq_same s { s.sq q.val with plan := rest } hq
  have hq' : q.val < (s.setSq q.val { s.sq q.val with plan := rest }).sns.quads.length := (List.length_set ..).symm ▸ hq
  have tens : (s.setSq q.val { s.sq q.val with plan := rest }).sweepTens q = s.sweepTens q := by rw [State.sweepTens, engine]; rfl
  obtain ⟨pos, shown, most, sq⟩ := measure_sweep_last (s := s.setSq q.val { s.sq q.val with plan := rest }) raw1 raw2 h last hq'
  rw [tens] at shown most
  rw [engine] at sq
  exact ⟨pos, shown, most, sq⟩
end

/-- Settles O15, command by command: a slot given to tuning, one that measures, the deadline of a sweep, and a comparison with and
without the trigger condition. -/
theorem senseSlotsAndSupply : Obligations.SenseSlotsAndSupply := by
  unfold Obligations.SenseSlotsAndSupply
  intro s hu
  refine ⟨fun n q raw1 raw2 idle => ⟨_, exec_senseSlot_idle n raw1 raw2 idle, frame_settle hu⟩,
    fun n q raw1 raw2 slot rest u eu on plan => ⟨fun tuning => senseSlot_tuning raw1 raw2 hu eu on plan tuning, fun measures => ?_⟩,
    fun q on new late => ?_, fun q none => ⟨_, exec_sweepDeadline_none none, frame_settle hu⟩,
    fun q nV sat off => ⟨_, exec_isnsCompareDone_off nV sat off, frame_settle hu⟩,
    fun q nV sat shunt persist k e on run hs hp hk he => ?_⟩
  · subst eu
    have frame := frame_slotMeasured (s.advance n) q slot rest raw1 raw2
    have run : exec (.senseSlot n q raw1 raw2) s = done ((s.advance n).slotMeasured q slot rest raw1 raw2) :=
      (exec_senseSlot raw1 raw2 on plan).trans (congrArg done (if_neg measures))
    obtain ⟨r, sent, quad, unit, age, pre, samples⟩ := inflight_slotMeasured (s.advance n) q slot rest raw1 raw2
    have other := quads_slotMeasured_other (s.advance n) q slot rest raw1 raw2
    have next := slotMeasured_next (s.advance n) q rest raw1 raw2 (slot := slot)
    have last := slotMeasured_last (s.advance n) q rest raw1 raw2 (slot := slot)
    obtain ⟨-, saf, start, -⟩ := qstat_apart q
    generalize (s.advance n).slotMeasured q slot rest raw1 raw2 = w at run frame sent other next last
    have du : w.undef = false := (frame.parts .undef (by simp [dramParts])).trans hu
    have sweepLast := rd_settle du (f := F.SNS_SWEEP.LAST) (by decide) (by decide)
    have sweepMax := rd_settle du (f := F.SNS_SWEEP.MAX) (by decide) (by decide)
    have sweepPos := rd_settle du (f := F.SNS_QSTAT.SWEEP_POS q.val) saf start
    refine ⟨_, r, run, ?_, quad, unit, age, pre, samples, frame.settled du, fun h => ?_, fun h more => ?_, fun h ends hq => ?_⟩
    · rw [settle_sns du]
      exact sent
    · rw [settle_sns du]
      exact other h
    · rw [settle_sns du, sweepLast, sweepPos]
      exact next h more
    · have hq' : q.val < (s.advance n).sns.quads.length := (length_quads_advance s n).symm ▸ hq
      obtain ⟨pos, shown, most, engine⟩ := last h ends hq'
      rw [sweepPos, sweepLast, sweepMax, sq_settle du, engine, settle_sns du]
      exact ⟨pos, shown, most, rfl, rfl, rfl, rfl, rfl⟩
  · have frame : s.Frame ((s.setSq q.val { s.sq q.val with overdue := true }).faultQ 0x61 3 q) [] [.sns, .flt] :=
      ((frame_setSq s q.val _).mono (List.Subset.refl _) (by decide)).thenFaultQ _ _ _ (by decide)
    have du := frame.undef hu
    refine ⟨_, exec_sweepDeadline_over on new late, ?_, ?_, frame.settled du⟩
    · rw [settle_sns du]; rfl
    · rw [settle_flt du]; rfl
  · obtain ⟨hit, iff, run⟩ := exec_isnsCompareDone nV sat on run hs hk he
    obtain ⟨saf, start⟩ := isnsQ_apart q
    subst hp
    have frame := frame_compared s q (shuntCurrent nV shunt sat) (roundDivInt e (shunt * k)) (decide (e < 0)) hit
    have du := frame.undef hu
    refine ⟨_, run, frame.settled du, ?_, ?_, fun quiet => ?_, fun abs rel => ?_⟩
    · rw [rd_settle du saf start, rd_compared, meas_supplyShown s q _ (shuntCurrent_le nV shunt sat)]
      rfl
    · rw [rd_settle du saf start, rd_compared, resid_supplyShown]
    · obtain rfl : hit = false := Bool.eq_false_iff.mpr (mt iff.mp quiet)
      rw [settle_flt du, settle_sns du, compared_quiet]
      exact ⟨rfl, rfl⟩
    · obtain rfl : hit = true := iff.mpr ⟨abs, rel⟩
      obtain ⟨sns, reports⟩ := compared_trigger_sns s q (shuntCurrent nV shunt sat) (roundDivInt e (shunt * k)) (decide (e < 0)) rfl
      rw [settle_flt du, settle_sns du]
      exact ⟨_, _, sns, rfl, rfl, reports⟩

end Sys2Proof.Machine

/-! # Readings of the sense slots

What a reading, the end of a sweep or of a burst, and the requests that settle behind it leave alone, and where a reading stores its
value (06_subpixel_sensing.md R145 to R167). -/

namespace Sys2Proof.Machine

/-! ### Where a unit measures -/

section
variable (s : State) (q : Quad)

theorem rowOf_lt {n : Nat} (h : n < 512) : s.rowOf q n < 512 := by
  unfold State.rowOf
  split <;> omega

theorem outputDrives_lt {o : Nat} (h : o < 1536) : (s.outputDrives q o).1 < 512 := by
  unfold State.outputDrives
  dsimp only
  split <;> omega

/-- Two outputs of a quadrant drive no subpixel in common. -/
theorem outputDrives_inj {o o' : Nat} (ho : o < 1536) (ho' : o' < 1536) (column : (s.outputDrives q o).1 = (s.outputDrives q o').1)
    (colour : (s.outputDrives q o).2 = (s.outputDrives q o').2) : o = o' := by
  have colour := congrArg Fin.val colour
  unfold State.outputDrives at column colour
  dsimp only at column colour
  have columns : o / 3 = o' / 3 := by split at column <;> omega
  have colours : o % 3 = o' % 3 := by split at colour <;> omega
  omega

variable {line mux g : Nat} (hl : line < 512) (hm : mux < 32) (hg : g < 48)
include hl hm hg

theorem measured_range : q.val * 786432 ≤ (s.measured q line mux g).1 ∧ (s.measured q line mux g).1 < q.val * 786432 + 786432 := by
  have row := rowOf_lt s q hl
  have column := outputDrives_lt s q (o := 32 * g + mux) (by omega)
  have colour := (s.outputDrives q (32 * g + mux)).2.isLt
  unfold State.measured subK
  dsimp only
  omega

theorem measured_lt : (s.measured q line mux g).1 < 3145728 := by
  have range := measured_range s q hl hm hg
  omega

theorem subQuad_measured : subQuad (s.measured q line mux g).1 = q := by
  have range := measured_range s q hl hm hg
  apply Fin.ext
  show (s.measured q line mux g).1 / 786432 % 4 = q.val
  omega

/-- The ADCs of a quadrant measure different subpixels. -/
theorem measured_inj {g' : Nat} (hg' : g' < 48) (h : (s.measured q line mux g).1 = (s.measured q line mux g').1) : g = g' := by
  have row := rowOf_lt s q hl
  have column := outputDrives_lt s q (o := 32 * g + mux) (by omega)
  have column' := outputDrives_lt s q (o := 32 * g' + mux) (by omega)
  have colour := (s.outputDrives q (32 * g + mux)).2.isLt
  have colour' := (s.outputDrives q (32 * g' + mux)).2.isLt
  have inj := outputDrives_inj s q (o := 32 * g + mux) (o' := 32 * g' + mux) (by omega) (by omega)
  unfold State.measured subK at h
  dsimp only at h
  have := inj (by omega) (Fin.ext (by omega))
  omega
end

/-! ### The result and baseline arrays -/

/-- Byte `a` lies in the result array. -/
def inResults (a : Nat) : Prop := 0x0E000000 ≤ a ∧ a < 0x0E600000

/-- Byte `a` lies in the baseline array. -/
def inBaselines (a : Nat) : Prop := 0x0E800000 ≤ a ∧ a < 0x0EE00000

theorem resultAddr_inResults {k i : Nat} (hk : k < 3145728) (hi : i < 2) : inResults (resultAddr k + i) := by
  unfold inResults resultAddr
  omega

theorem baseAddr_inBaselines {k i : Nat} (hk : k < 3145728) (hi : i < 2) : inBaselines (baseAddr k + i) := by
  unfold inBaselines baseAddr
  omega

theorem inTables_inResults {a : Nat} (h : inResults a) : inTables a = false := by
  unfold inResults at h
  exact inTables_false (by omega)

theorem inTables_inBaselines {a : Nat} (h : inBaselines a) : inTables a = false := by
  unfold inBaselines at h
  exact inTables_false (by omega)

/-! ### What an arriving unit may change -/

/-- The measured units, the requests, and the readings kept for a BASELINE. -/
def SnsState.queues (x : SnsState) : List SlotResult × List SenseReq × List (Nat × Nat) := (x.inflight, x.requests, x.baseNew)

/-- The registers and parts that a result of quadrant q may change (R145 to R167). -/
def unitRegs (q : Nat) : List Nat := [A.SNS_CNT, A.CMP_DEF_STAT, A.SNS_QSTAT q] ++ (List.range 3).map (A.CMP_AGE q) ++ requestRegs
def unitParts : List Part := [.cmp, .flt] ++ requestParts

/-- From `s` to `t` a result of quadrant q was taken: it stored bytes in `M` only, and the queues are those of before. -/
structure State.Takes (q : Quad) (M : Nat → Prop) (s t : State) : Prop where
  within : s.FrameIn M t (unitRegs q.val) unitParts
  queues : t.sns.queues = s.sns.queues

theorem dramRegs_unitRegs (q : Nat) : dramRegs ⊆ unitRegs q :=
  fun _ h => List.mem_append_right _ ((by decide : dramRegs ⊆ requestRegs) h)

theorem sensed_unitRegs (q : Nat) : [A.SNS_CNT, A.CMP_DEF_STAT, A.SNS_QSTAT q] ⊆ unitRegs q := by
  intro a h
  exact List.mem_append_left _ (List.mem_append_left _ h)

theorem kappa_unitRegs (q : Nat) (c : Colour) : A.CMP_AGE q c.val ∈ unitRegs q :=
  List.mem_append_left _ (List.mem_append_right _ (List.mem_map_of_mem (List.mem_range.mpr c.isLt)))

section
variable {q : Quad} {M : Nat → Prop} {s t u : State}

theorem State.Takes.refl : s.Takes q M s := ⟨.refl _ _ _ _, rfl⟩

theorem State.Takes.trans (h : s.Takes q M t) (k : t.Takes q M u) : s.Takes q M u := ⟨h.within.trans k.within, k.queues.trans h.queues⟩

theorem State.Takes.ite {c : Prop} [Decidable c] (h : s.Takes q M t) (k : s.Takes q M u) : s.Takes q M (if c then t else u) := by
  split <;> assumption

theorem State.Takes.foldl {α : Type} {f : State → α → State} {xs : List α} (hf : ∀ (u : State), ∀ x ∈ xs, u.Takes q M (f u x)) (s : State) :
    s.Takes q M (xs.foldl f s) := by
  induction xs generalizing s with
  | nil => exact .refl
  | cons x xs ih => exact (hf s x List.mem_cons_self).trans (ih (fun u y hy => hf u y (List.mem_cons_of_mem _ hy)) _)

/-- An update that stores nothing in DRAM. -/
theorem State.Takes.of_frame {l : List Nat} {ps : List Part} (h : s.Frame t l ps) (queues : t.sns.queues = s.sns.queues)
    (hl : l ⊆ unitRegs q.val) (hp : ps ⊆ unitParts := by decide) (hm : Part.mem ∉ ps := by decide) : s.Takes q M t :=
  ⟨h.inside hm |>.mono hl hp, queues⟩

/-- One that leaves the sensing engines alone. -/
theorem State.Takes.of_others {l : List Nat} {ps : List Part} (h : s.Frame t l ps) (hl : l ⊆ unitRegs q.val)
    (hp : ps ⊆ unitParts := by decide) (hm : Part.mem ∉ ps := by decide) (hs : Part.sns ∉ ps := by decide) : s.Takes q M t :=
  .of_frame h (congrArg SnsState.queues (h.parts .sns hs)) hl hp hm

theorem State.Takes.setSns {x : SnsState} (filled : x.filled = s.sns.filled) (queues : x.queues = s.sns.queues) :
    s.Takes q M { s with sns := x } :=
  .of_frame ((State.Frame.refl s [] [.sns]).setSns (by decide) filled) queues (List.nil_subset _)

theorem State.Takes.setSq (i : Nat) (x : SnsQuad) : s.Takes q M (s.setSq i x) := .setSns rfl rfl

theorem State.Takes.wr (f : Fld) (v : Nat) (hf : f.addr ∈ unitRegs q.val) : s.Takes q M (s.wr f v) :=
  .of_others (.wr s f v) (by simpa using hf) (List.nil_subset _)

theorem State.Takes.bumpCnt (f : Fld) (hf : f.addr = A.SNS_CNT) : s.Takes q M (s.bump f) :=
  .wr f _ (hf ▸ List.mem_append_left _ (List.mem_append_left _ List.mem_cons_self))

theorem State.Takes.faultQ (src cls : Nat) (i : Quad) : s.Takes q M (s.faultQ src cls i) :=
  .of_others ((State.Frame.refl s [] [.flt]).thenFaultQ src cls i (by decide)) (List.nil_subset _)

theorem State.Takes.mono {B : Nat → Prop} (h : s.Takes q M t) (hM : ∀ a, M a → B a) : s.Takes q B t :=
  ⟨⟨h.within.frame, fun a hb => h.within.bytes a (fun ha => hb (hM a ha))⟩, h.queues⟩
end

/-! ### Judging a reading -/

section
variable {q : Quad} {M : Nat → Prop} (s : State)

theorem takes_addCandidate (k kind wait : Nat) : s.Takes q M (s.addCandidate k kind wait) :=
  .ite .refl (.ite (.bumpCnt _ rfl) (.setSq _ _))

theorem takes_dropCandidate (k : Nat) : s.Takes q M (s.dropCandidate k) := .setSq _ _

/-- A confirmation is counted and reported, and a burst that runs has not been in vain. -/
def State.countConfirmed (s : State) (k : Nat) : State :=
  ((s.dropCandidate k).bump F.SNS_CNT.CONFIRMED).faultQ 0x60 0 (subQuad k)

def State.burstConfirmed (s : State) (k : Nat) : State :=
  s.setSq (subQuad k).val { s.sq (subQuad k).val with
    burst := (s.sq (subQuad k).val).burst.map (fun (b : Burst) => { b with confirmed := true }) }

/-- A candidate is dropped and counted. -/
def State.countDropped (s : State) (k : Nat) : State := (s.dropCandidate k).bump F.SNS_CNT.DROPPED

theorem confirmKind_eq (k kind : Nat) : s.confirmKind k kind =
    if ((s.countConfirmed k).burstConfirmed k).on F.CMP_DEF_CFG.AUTO then ((s.countConfirmed k).burstConfirmed k).autoEntry k kind
      (actionFor ((s.countConfirmed k).burstConfirmed k) kind) 1
    else (s.countConfirmed k).burstConfirmed k := rfl

theorem takes_countConfirmed (k : Nat) : s.Takes q M (s.countConfirmed k) :=
  ((takes_dropCandidate s k).trans (.bumpCnt _ rfl)).trans (.faultQ _ _ _)

theorem takes_countDropped (k : Nat) : s.Takes q M (s.countDropped k) := (takes_dropCandidate s k).trans (.bumpCnt _ rfl)

theorem takes_confirmKind (k kind : Nat) : s.Takes q M (s.confirmKind k kind) := by
  have confirmed : s.Takes q M ((s.countConfirmed k).burstConfirmed k) := (takes_countConfirmed s k).trans (.setSq _ _)
  rw [confirmKind_eq]
  exact .ite (confirmed.trans (.of_others (autoEntry_changes _ k kind _ 1).1 fun a h => sensed_unitRegs _ (by simp_all))) confirmed

theorem takes_judgeRepeat (k was kind wait : Nat) : s.Takes q M (s.judgeRepeat k was kind wait) :=
  .ite (takes_confirmKind s k was) (.ite (takes_countDropped s k) ((takes_countDropped s k).trans (takes_addCandidate _ _ _ _)))

theorem takes_judgeReading (use : SlotUse) (wait k v1 v2 : Nat) (v2t ref : Int) : s.Takes q M (s.judgeReading use wait k v1 v2 v2t ref) := by
  unfold State.judgeReading
  dsimp only
  generalize s.classify k v1 v2 v2t ref = kind
  have kinds : s.Takes q M { s with sns.kinds := Sparse.put (fun _ => 6) s.sns.kinds k kind } := .setSns rfl rfl
  generalize ({ s with sns.kinds := Sparse.put (fun _ => 6) s.sns.kinds k kind } : State) = u at kinds ⊢
  have plain : s.Takes q M (if kind = 6 then u else u.addCandidate k kind wait) := .ite kinds (kinds.trans (takes_addCandidate u k kind wait))
  split
  · exact .ite (kinds.trans (takes_judgeRepeat u k _ kind wait)) plain
  · exact plain

theorem takes_judgeWaiting (i : Nat) : s.Takes q M (s.judgeWaiting i) := by
  refine State.Takes.trans (.setSq _ _) (.foldl (fun u x _ => ?_) _)
  split
  · exact takes_judgeReading u _ _ _ _ _ _ _
  · exact .refl
end

/-! ### One ADC's reading -/

section
variable (r : SlotResult) (s : State) (g : Nat)

/-- The subpixel that ADC g measured. -/
def State.readAt : Nat := (s.measured (quadOf r.quad) r.slot.line r.slot.mux g).1

/-- Its value is in the result array. -/
def State.storeReading : State :=
  ((s.touchDram (resultAddr (s.readAt r g))).writeLE (resultAddr (s.readAt r g)) 2 (min 0xFFFE (nth r.v2 g))).touchDram
    (baseAddr (s.readAt r g))

/-- Behind it a reading of the regular sweep is noted. -/
def State.noteReading (k : Nat) (tq : Int) : State :=
  if isSweep r.slot then
    s.setSq (quadOf r.quad).val { s.sq (quadOf r.quad).val with sweepV := (k, nth r.v2 g, tq) :: (s.sq (quadOf r.quad).val).sweepV }
  else s

/-- A reading without a reference waits for one. -/
def State.awaitReference (k : Nat) (tq : Int) : State :=
  s.setSq (quadOf r.quad).val { s.sq (quadOf r.quad).val with
    unjudged := (s.sq (quadOf r.quad).val).unjudged ++ [⟨k, nth r.v1 g, nth r.v2 g, tq, r.age⟩] }

/-- The reading is stored and noted. -/
def State.readingNoted : State := (s.storeReading r g).noteReading r g (s.readAt r g) (s.glassTemp (quadOf r.quad))

variable {r s g}

theorem takeReading_failed (h : s.adcFailed (quadOf r.quad).val g = true) : State.takeReading r s g = s := if_pos h

/-- A reading of subpixel k at the glass temperature `tq` is judged, or waits for a reference. -/
def State.judgeOrWait (s : State) (r : SlotResult) (g k : Nat) (tq : Int) : State :=
  match s.refOf k with
  | some ref => s.judgeReading r.slot.use (1 - r.age) k (nth r.v1 g) (nth r.v2 g) (s.tempCorrected k (nth r.v2 g) tq) ref
  | none => s.awaitReference r g k tq

theorem judgeOrWait_judged {k : Nat} {tq ref : Int} (known : s.refOf k = some ref) : s.judgeOrWait r g k tq =
    s.judgeReading r.slot.use (1 - r.age) k (nth r.v1 g) (nth r.v2 g) (s.tempCorrected k (nth r.v2 g) tq) ref := by
  rw [State.judgeOrWait, known]

theorem judgeOrWait_waits {k : Nat} {tq : Int} (unknown : s.refOf k = none) : s.judgeOrWait r g k tq = s.awaitReference r g k tq := by
  rw [State.judgeOrWait, unknown]

theorem takeReading_good (h : s.adcFailed (quadOf r.quad).val g = false) :
    State.takeReading r s g = (s.readingNoted r g).judgeOrWait r g (s.readAt r g) (s.glassTemp (quadOf r.quad)) :=
  if_neg (by simp [h])
end

theorem takes_judgeOrWait {q : Quad} {M : Nat → Prop} (s : State) (r : SlotResult) (g k : Nat) (tq : Int) :
    s.Takes q M (s.judgeOrWait r g k tq) := by
  unfold State.judgeOrWait
  split
  · exact takes_judgeReading _ _ _ _ _ _ _ _
  · exact .setSq _ _

/-- What follows the store writes nothing in DRAM. -/
theorem takes_readingStored {q : Quad} {M : Nat → Prop} {r : SlotResult} {s : State} {g : Nat}
    (h : s.adcFailed (quadOf r.quad).val g = false) : (s.storeReading r g).Takes q M (State.takeReading r s g) := by
  have noted : (s.storeReading r g).Takes q M (s.readingNoted r g) := .ite (.setSq _ _) .refl
  rw [takeReading_good h]
  exact noted.trans (takes_judgeOrWait _ _ _ _ _)

/-- The byte lies in the result of subpixel k. -/
def inResult (k a : Nat) : Prop := resultAddr k ≤ a ∧ a < resultAddr k + 2

theorem inResult.inResults {k a : Nat} (hk : k < 3145728) (h : inResult k a) : inResults a := by
  unfold inResult resultAddr at h
  unfold Machine.inResults
  omega

theorem inResult_unique {k k' a : Nat} (h : inResult k a) (h' : inResult k' a) : k = k' := by
  unfold inResult resultAddr at h h'
  omega

section
variable (r : SlotResult) (s : State) {g : Nat} (hl : r.slot.line < 512) (hm : r.slot.mux < 32) (hg : g < 48)

include hl hm hg

theorem readAt_lt : s.readAt r g < 3145728 := measured_lt s _ hl hm hg

/-- A reading stored changes its two bytes and what its accesses touch. -/
theorem frameIn_storeReading : s.FrameIn (inResult (s.readAt r g)) (s.storeReading r g) dramRegs (.mem :: dramParts) := by
  have hk := readAt_lt r s hl hm hg
  have stored := frameIn_writeLE (s.touchDram (resultAddr (s.readAt r g))) (A := inResult (s.readAt r g)) (a := resultAddr (s.readAt r g))
    (n := 2) (min 0xFFFE (nth r.v2 g)) (fun i hi => inTables_inResults (resultAddr_inResults hk hi))
    (fun i hi => ⟨by omega, by omega⟩)
  exact (((frame_touchDram s _).inside.mono (List.Subset.refl _) (by decide)).trans (stored.mono (List.nil_subset _) (by decide))).trans
    ((frame_touchDram _ _).inside.mono (List.Subset.refl _) (by decide))

theorem readLE_storeReading : (s.storeReading r g).readLE (resultAddr (s.readAt r g)) 2 = min 0xFFFE (nth r.v2 g) := by
  have hk := readAt_lt r s hl hm hg
  unfold State.storeReading
  rw [readLE_congr fun i _ => (frame_touchDram _ _).parts .mem (by decide) _,
    readLE_writeLE _ _ fun i hi => inTables_inResults (resultAddr_inResults hk hi)]
  omega

theorem takes_storeReading {q : Quad} : s.Takes q (inResult (s.readAt r g)) (s.storeReading r g) := by
  refine ⟨(frameIn_storeReading r s hl hm hg).mono (dramRegs_unitRegs _) (by decide), congrArg SnsState.queues ?_⟩
  exact (frameIn_storeReading r s hl hm hg).frame.parts .sns (by decide)

/-- A reading changes no bytes but those of its subpixel's result. -/
theorem takes_takeReading {q : Quad} : s.Takes q (inResult (s.readAt r g)) (State.takeReading r s g) := by
  cases h : s.adcFailed (quadOf r.quad).val g with
  | true =>
    rw [takeReading_failed h]
    exact .refl
  | false => exact (takes_storeReading r s hl hm hg).trans (takes_readingStored h)

theorem readLE_takeReading (h : s.adcFailed (quadOf r.quad).val g = false) :
    (State.takeReading r s g).readLE (resultAddr (s.readAt r g)) 2 = min 0xFFFE (nth r.v2 g) := by
  have after : (s.storeReading r g).Takes (quadOf r.quad) (fun _ => False) (State.takeReading r s g) := takes_readingStored h
  rw [readLE_congr fun i _ => after.within.bytes _ id, readLE_storeReading r s hl hm hg]
end

/-! ### All readings of a unit -/

/-- What holds before the first step of a loop and is kept by each holds behind it, and what a step gives on its own is kept by those
that follow. -/
theorem foldl_range_from {f : State → Nat → State} {Q : Nat → State → Prop} {P : Nat → State → Prop} {n : Nat} {s : State} (start : Q 0 s)
    (step : ∀ i u, i < n → Q i u → Q (i + 1) (f u i)) (own : ∀ i u, i < n → Q i u → P i (f u i))
    (keep : ∀ i j u, i < j → j < n → Q j u → P i u → P i (f u j)) :
    Q n ((List.range n).foldl f s) ∧ ∀ i, i < n → P i ((List.range n).foldl f s) := by
  induction n with
  | zero => exact ⟨start, fun i hi => absurd hi (Nat.not_lt_zero i)⟩
  | succ n ih =>
    obtain ⟨before, each⟩ := ih (fun i u hi => step i u (by omega)) (fun i u hi => own i u (by omega)) (fun i j u hij hj => keep i j u hij (by omega))
    rw [List.range_succ, List.foldl_append]
    refine ⟨step n _ (Nat.lt_succ_self n) before, fun i hi => ?_⟩
    rcases Nat.lt_succ_iff_lt_or_eq.mp hi with lt | rfl
    · exact keep i n _ lt (Nat.lt_succ_self n) before (each i lt)
    · exact own i _ hi before

/-- The readings of a unit at the test current are taken. -/
def State.readUnit (s : State) (r : SlotResult) : State := (List.range 48).foldl (State.takeReading r) s

/-- Registers that no result changes. -/
theorem State.Takes.reg {q : Quad} {M : Nat → Prop} {s t : State} (h : s.Takes q M t) {a : Nat} (ha : a ∉ unitRegs q.val)
    (saf : a ≠ A.SAF_STAT) (start : a ≠ A.SYS_START) : t.reg a = s.reg a := h.within.frame.reg ha saf start

/-- The registers that say where a unit measures, and which ADCs have failed. -/
def placeRegs (q : Nat) : List Nat := [A.SCN_QCFG q, A.SNS_ADC_FAIL_LO q, A.SNS_ADC_FAIL_HI q]

theorem placeRegs_apart (q q' : Quad) : ∀ a ∈ placeRegs q'.val, a ∉ unitRegs q.val ∧ a ≠ A.SAF_STAT ∧ a ≠ A.SYS_START := by
  revert q q'
  decide

section
variable {q q' : Quad} {s t : State} (h : ∀ a ∈ placeRegs q'.val, t.reg a = s.reg a)
include h

theorem measured_congr (line mux g : Nat) : t.measured q' line mux g = s.measured q' line mux g := by
  have mirror := on_of_rd (rd_of_reg (f := F.SCN_QCFG.COL_MIRROR q'.val) (h _ List.mem_cons_self))
  have order := on_of_rd (rd_of_reg (f := F.SCN_QCFG.SUBPX_ORDER q'.val) (h _ List.mem_cons_self))
  have dir := on_of_rd (rd_of_reg (f := F.SCN_QCFG.SCAN_DIR q'.val) (h _ List.mem_cons_self))
  simp only [State.measured, State.outputDrives, State.rowOf, mirror, order, dir]

theorem adcFailed_congr (g : Nat) : t.adcFailed q'.val g = s.adcFailed q'.val g := by
  have lo := rd_of_reg (f := F.SNS_ADC_FAIL_LO.FAIL q'.val) (h _ (List.mem_cons_of_mem _ List.mem_cons_self))
  have hi := rd_of_reg (f := F.SNS_ADC_FAIL_HI.FAIL q'.val) (h _ (List.mem_cons_of_mem _ (List.mem_cons_of_mem _ List.mem_cons_self)))
  simp only [State.adcFailed, lo, hi]
end

section
variable {q q' : Quad} {M : Nat → Prop} {s t : State} (h : s.Takes q M t)
include h

theorem State.Takes.places : ∀ a ∈ placeRegs q'.val, t.reg a = s.reg a := fun a ha =>
  have ⟨unit, saf, start⟩ := placeRegs_apart q q' a ha
  h.reg unit saf start

theorem State.Takes.measured (line mux g : Nat) : t.measured q' line mux g = s.measured q' line mux g := measured_congr h.places line mux g
theorem State.Takes.adcFailed (g : Nat) : t.adcFailed q'.val g = s.adcFailed q'.val g := adcFailed_congr h.places g
theorem State.Takes.readAt (r : SlotResult) (g : Nat) : t.readAt r g = s.readAt r g := congrArg Prod.fst (h.measured _ _ _)
end

section
variable {r : SlotResult} (s : State) (hl : r.slot.line < 512) (hm : r.slot.mux < 32)
include hl hm

/-- The results of a unit are those of its ADCs that have not failed. -/
theorem readUnit_results : s.Takes (quadOf r.quad) inResults (s.readUnit r) ∧ ∀ g, g < 48 → s.adcFailed (quadOf r.quad).val g = false →
    (s.readUnit r).readLE (resultAddr (s.readAt r g)) 2 = min 0xFFFE (nth r.v2 g) := by
  have one (u : State) {g : Nat} (hg : g < 48) : u.Takes (quadOf r.quad) (inResult (u.readAt r g)) (State.takeReading r u g) :=
    takes_takeReading r u hl hm hg
  refine foldl_range_from (Q := fun _ u => s.Takes (quadOf r.quad) inResults u)
    (P := fun g u => s.adcFailed (quadOf r.quad).val g = false → u.readLE (resultAddr (s.readAt r g)) 2 = min 0xFFFE (nth r.v2 g))
    .refl (fun g u hg before => ?_) (fun g u hg before good => ?_) (fun g g' u hlt hg' before value good => ?_)
  · exact before.trans ((one u hg).mono fun a => inResult.inResults (readAt_lt r u hl hm hg))
  · rw [← before.readAt r g]
    exact readLE_takeReading r u hl hm hg ((before.adcFailed g).trans good)
  · have apart : s.readAt r g' ≠ s.readAt r g := fun e => by
      have := measured_inj s _ hl hm hg' (by omega : g < 48) e
      omega
    refine (readLE_congr fun i hi => (one u hg').within.bytes _ fun inside => apart ?_).trans (value good)
    rw [before.readAt] at inside
    exact inResult_unique inside ⟨by omega, by omega⟩
end

/-! ### A zero-current confirmation -/

theorem takes_takeZero {q : Quad} {M : Nat → Prop} (s : State) (r : SlotResult) (k : Nat) : s.Takes q M (s.takeZero r k) := by
  unfold State.takeZero
  dsimp only
  refine .ite .refl ?_
  split
  · exact .ite (takes_confirmKind s k 2) (takes_countDropped s k)
  · exact takes_countDropped s k

/-! ### The end of a sweep and of a burst -/

section
variable {M : Nat → Prop} (s : State) (q : Quad)

/-- The correction of a curve is shown, and the failures in a row are counted. -/
def State.showKappa (c : Colour) (k2 : Int) (fails : List Nat) : State :=
  { s.wr (F.CMP_AGE.KAPPA q.val c.val) (unsigned 13 k2) with cmp.chkFails := fails }

theorem takes_showKappa (c : Colour) (k2 : Int) (fails : List Nat) : s.Takes q M (s.showKappa q c k2 fails) :=
  (State.Takes.wr _ _ (kappa_unitRegs _ c)).trans (.of_others ((State.Frame.refl _ [] [.cmp]).setCmp (by decide) rfl rfl) (List.nil_subset _))

theorem takes_crossCheck (c : Colour) : s.Takes q M (s.crossCheck q c) := by
  unfold State.crossCheck
  refine .ite .refl ?_
  split
  · exact .refl
  · exact .ite ((takes_showKappa s q c _ _).trans (.faultQ _ _ _)) (takes_showKappa s q c _ _)

theorem takes_sweepDone : s.Takes q M (s.sweepDone q) := by
  have touched : s.Takes q M (s.touchSpan (baseAddr (786432 * q.val)) 0x180000) := .of_others (frame_touchSpan s _ _) (dramRegs_unitRegs _)
  refine State.Takes.trans ?_ (takes_judgeWaiting _ _)
  exact (State.Takes.ite (touched.trans (.foldl (fun u i _ => takes_crossCheck u q (subColour i)) _)) touched).trans (.setSq _ _)

theorem takes_sweepArrived : s.Takes q M (s.sweepArrived q) :=
  .ite ((State.Takes.setSq _ _).trans (takes_sweepDone _ q)) (.setSq _ _)

/-- A burst ends. -/
def State.burstEnded (b : Burst) : State :=
  (s.setSq q.val { s.sq q.val with
    burst := none, unproductive := !b.confirmed, trigRun := if b.confirmed then (s.sq q.val).trigRun else 0 }).wr (F.SNS_QSTAT.BURST q.val) 0

theorem endBurst_cases : s.endBurst q = s ∨ ∃ b, s.endBurst q = s.burstEnded q b := by
  unfold State.endBurst
  dsimp only
  split
  next b _ =>
    split
    · exact .inr ⟨b, rfl⟩
    · exact .inl rfl
  next => exact .inl rfl

theorem frame_endBurst : s.Frame (s.endBurst q) [A.SNS_QSTAT q.val] [.sns] := by
  rcases endBurst_cases s q with e | ⟨b, e⟩ <;> rw [e]
  · exact .refl _ _ _
  · exact ((frame_setSq s q.val _).mono (List.nil_subset _) (List.Subset.refl _)).thenWr _ _ List.mem_cons_self

theorem queues_endBurst : (s.endBurst q).sns.queues = s.sns.queues := by
  rcases endBurst_cases s q with e | ⟨b, e⟩ <;> rw [e]
  rfl

theorem takes_endBurst : s.Takes q M (s.endBurst q) :=
  .of_frame (frame_endBurst s q) (queues_endBurst s q) fun a h => sensed_unitRegs _ (by simp_all)

/-- The candidates and the kinds of readings stay. -/
theorem cands_endBurst (i : Nat) : ((s.endBurst q).sq i).cands = (s.sq i).cands := by
  rcases endBurst_cases s q with e | ⟨b, e⟩ <;> rw [e]
  show ((s.setSq q.val _).sq i).cands = _
  rw [sq_setSq]
  split
  next h => rw [h.1]
  next => rfl

theorem kinds_endBurst : (s.endBurst q).sns.kinds = s.sns.kinds := by
  rcases endBurst_cases s q with e | ⟨b, e⟩ <;> rw [e]
  rfl
end

/-! ### Readings kept for a BASELINE -/

/-- The readings kept are of subpixels of the glass. -/
def SnsState.onGlass (x : SnsState) : Prop := ∀ e ∈ x.baseNew, e.1 < 3145728

theorem State.Takes.onGlass {q : Quad} {M : Nat → Prop} {s t : State} (h : s.Takes q M t) (glass : s.sns.onGlass) : t.sns.onGlass := by
  have kept : t.sns.baseNew = s.sns.baseNew := congrArg (·.2.2) h.queues
  rw [SnsState.onGlass, kept]
  exact glass

section
variable (s : State) (r : SlotResult)

theorem frame_keepBaseline : s.Frame (s.keepBaseline r) [] [.sns] := by
  unfold State.keepBaseline
  split
  · exact .refl _ _ _
  · split
    · exact (State.Frame.refl s [] [.sns]).setSns (by decide) rfl
    · exact .refl _ _ _

theorem inflight_keepBaseline : (s.keepBaseline r).sns.inflight = s.sns.inflight := by
  unfold State.keepBaseline
  split
  · rfl
  · split <;> rfl

theorem keepBaseline_other (h : requestSeq r.slot = none) : s.keepBaseline r = s := by
  rw [State.keepBaseline, h]

theorem onGlass_keepBaseline (hl : r.slot.line < 512) (hm : r.slot.mux < 32) (glass : s.sns.onGlass) : (s.keepBaseline r).sns.onGlass := by
  unfold State.keepBaseline
  split
  · exact glass
  · split
    · intro e he
      rcases List.mem_append.mp he with new | old
      · obtain ⟨g, hg, rfl⟩ := List.mem_map.mp new
        exact measured_lt s _ hl hm (List.mem_range.mp (List.mem_filter.mp hg).1)
      · exact glass e old
    · exact glass
end

/-! ### The requests settle -/

/-- From `s` to `t` requests settled: bytes of the baseline array alone were stored, the measured units wait as before, and what is
kept for a BASELINE is of the glass. -/
structure State.Settles (s t : State) : Prop where
  frame : s.Frame t requestRegs settledParts
  bytes : s.sns.onGlass → ∀ a, ¬ inBaselines a → t.readByte a = s.readByte a
  inflight : t.sns.inflight = s.sns.inflight
  glass : s.sns.onGlass → t.sns.onGlass

section
variable {s t u : State}

theorem State.Settles.refl : s.Settles s := ⟨.refl _ _ _, fun _ _ _ => rfl, rfl, id⟩

theorem State.Settles.trans (h : s.Settles t) (k : t.Settles u) : s.Settles u :=
  ⟨h.frame.trans k.frame, fun glass a ha => (k.bytes (h.glass glass) a ha).trans (h.bytes glass a ha), k.inflight.trans h.inflight,
    fun glass => k.glass (h.glass glass)⟩

theorem State.Settles.ite {c : Prop} [Decidable c] (h : s.Settles t) (k : s.Settles u) : s.Settles (if c then t else u) := by
  split <;> assumption

/-- What stores nothing, and keeps the measured units and no more readings. -/
theorem State.Settles.of_frame {l : List Nat} {ps : List Part} (h : s.Frame t l ps) (inflight : t.sns.inflight = s.sns.inflight)
    (base : t.sns.baseNew ⊆ s.sns.baseNew) (hl : l ⊆ requestRegs := by decide) (hp : ps ⊆ settledParts := by decide)
    (hm : Part.mem ∉ ps := by decide) : s.Settles t :=
  ⟨h.mono hl hp, fun _ a _ => h.parts .mem hm a, inflight, fun glass e he => glass e (base he)⟩

theorem State.Settles.setSns {x : SnsState} (filled : x.filled = s.sns.filled) (inflight : x.inflight = s.sns.inflight)
    (base : x.baseNew ⊆ s.sns.baseNew) : s.Settles { s with sns := x } :=
  .of_frame ((State.Frame.refl s [] [.sns]).setSns (by decide) filled) inflight base
end

section
variable (s : State)

theorem sns_storeBaselines (l : List (Nat × Nat)) : (s.storeBaselines l).sns = s.sns := (frame_storeBaselines s l).parts .sns (by decide)

theorem bytes_storeBaselines {l : List (Nat × Nat)} (hl : ∀ e ∈ l, e.1 < 3145728) {a : Nat} (ha : ¬ inBaselines a) :
    (s.storeBaselines l).readByte a = s.readByte a := by
  have stored : s.FrameIn inBaselines (s.storeBaselines l) dramRegs (.mem :: dramParts) := by
    refine .foldl (fun u e he => ((frame_touchDram u _).inside.mono (List.Subset.refl _) (by decide)).trans
      ((frameIn_writeLE _ _ (fun i hi => ?_) (fun i hi => ?_)).mono (List.nil_subset _) (by decide))) s
    · exact inTables_inBaselines (baseAddr_inBaselines (hl e he) hi)
    · exact baseAddr_inBaselines (hl e he) hi
  exact stored.bytes a ha

theorem settles_storeBaselines : s.Settles (s.storeBaselines s.sns.baseNew) :=
  ⟨(frame_storeBaselines s _).mono (by decide) (by decide), fun glass _ ha => bytes_storeBaselines s glass ha,
    congrArg SnsState.inflight (sns_storeBaselines s _), fun glass => (sns_storeBaselines s s.sns.baseNew).symm ▸ glass⟩

theorem settles_setBaselines (q : Quad) : s.Settles (s.setBaselines q) := by
  obtain ⟨itest, tref, e⟩ := setBaselines_eq s q
  rw [e]
  generalize hu : (s.storeBaselines s.sns.baseNew).showBaselines q itest tref = u
  have shown : (s.storeBaselines s.sns.baseNew).Settles u := by
    subst hu
    exact .of_frame (frame_showBaselines _ q itest tref) rfl (List.nil_subset _)
  have queued : u.Settles u.queueBaselines := by
    have kept : u.queueBaselines.sns = u.sns := (frame_queueBaselines u).parts .sns (by decide)
    exact .of_frame (frame_queueBaselines u) (by rw [kept]) (by rw [kept]; exact List.Subset.refl _)
  have judged : u.queueBaselines.Settles (u.queueBaselines.judgeWaiting q.val) := by
    have waits : u.queueBaselines.Takes q (fun _ => False) (u.queueBaselines.judgeWaiting q.val) := takes_judgeWaiting _ _
    have kept : (u.queueBaselines.judgeWaiting q.val).sns.baseNew = u.queueBaselines.sns.baseNew := congrArg (·.2.2) waits.queues
    exact .of_frame (frame_judgeWaiting _ _) (congrArg (·.1) waits.queues) (by rw [kept]; exact List.Subset.refl _)
  exact (((settles_storeBaselines s).trans shown).trans queued).trans judged

theorem settles_dropStopped : s.Settles s.dropStopped := by
  refine .of_frame (frame_dropStopped s) ?_ ?_
  · unfold State.dropStopped
    dsimp only
    split <;> rfl
  · unfold State.dropStopped
    dsimp only
    split
    · exact List.nil_subset _
    · exact List.Subset.refl _

theorem settles_finishFirst (r : SenseReq) (rest : List SenseReq) : s.Settles (s.finishFirst r rest) :=
  .of_frame (frame_finishFirst s r rest) rfl (List.Subset.refl _)

theorem settles_finishRequests (n : Nat) : s.Settles (State.finishRequests n s) := by
  induction n generalizing s with
  | zero => exact .refl
  | succ n ih =>
    rw [State.finishRequests]
    split
    next => exact .refl
    next r rest _ =>
      refine .ite ((settles_finishFirst s r rest).trans (ih _)) (.ite .refl (.ite ?_ (.ite ?_ ((settles_finishFirst s r rest).trans (ih _)))))
      · exact .setSns rfl rfl (List.Subset.refl _)
      · exact ((settles_setBaselines s _).trans (settles_finishFirst _ r rest)).trans (ih _)

theorem settles_settleRequests : s.Settles s.settleRequests := (settles_dropStopped s).trans (settles_finishRequests _ _)

/-- Without a request there is nothing to settle. -/
theorem settleRequests_none (h : s.sns.requests = []) : s.settleRequests = s := by
  unfold State.settleRequests
  rw [h]
  show s.dropStopped = s
  unfold State.dropStopped servesAny
  simp only [h, List.filter_nil, List.any_nil, Bool.not_false, List.filter_true, List.map_id', Bool.false_eq_true, if_false, List.map_nil]
  rw [← h]
end

end Sys2Proof.Machine

/-! # Results of the sense slots (settles O16) -/

namespace Sys2Proof.Machine

/-! ### The command SENSE_RESULT -/

/-- The oldest measured unit leaves the queue. -/
def State.dequeue (s : State) (rest : List SlotResult) : State := { s with sns.inflight := rest }

/-- The readings of a unit were taken: a BASELINE keeps those it asked for, and the sweep counts its own. -/
def State.unitTaken (s : State) (r : SlotResult) : State :=
  if isSweep r.slot then (s.keepBaseline r).sweepArrived (quadOf r.quad) else s.keepBaseline r

/-- What the arrival of a unit ends. -/
def State.arrive (s : State) (r : SlotResult) : State := ((s.unitTaken r).endBurst (quadOf r.quad)).settleRequests

section
variable {s : State} {r : SlotResult} {rest : List SlotResult} (n : Nat)

theorem exec_senseResult_none (h : s.sns.inflight = []) : exec (.senseResult n) s = done (s.advance n) := by
  have h' : (s.advance n).sns.inflight = [] := h
  simp only [exec, execSenseResult, h']

theorem exec_senseResult_zero (h : s.sns.inflight = r :: rest) {k was : Nat} (use : r.slot.use = .confirm k was) (zero : r.slot.zero = true) :
    exec (.senseResult n) s = done ((((s.advance n).dequeue rest).takeZero r k).arrive r) := by
  have h' : (s.advance n).sns.inflight = r :: rest := h
  simp only [exec, execSenseResult, h', use, zero]
  rfl

theorem exec_senseResult_read (h : s.sns.inflight = r :: rest) (reads : r.slot.zero = false ∨ isConfirm r.slot = false) :
    exec (.senseResult n) s = done ((((s.advance n).dequeue rest).readUnit r).arrive r) := by
  have h' : (s.advance n).sns.inflight = r :: rest := h
  cases use : r.slot.use with
  | confirm k was =>
    have zero : r.slot.zero = false := reads.resolve_right (by simp [isConfirm, use])
    simp only [exec, execSenseResult, h', use, zero]
    rfl
  | _ =>
    simp only [exec, execSenseResult, h', use]
    rfl

/-- A unit is a zero-current confirmation, or its ADCs read at the test current. -/
theorem zero_or_reads (y : Slot) : (∃ k was, y.use = .confirm k was ∧ y.zero = true) ∨ (y.zero = false ∨ isConfirm y = false) := by
  unfold isConfirm
  cases y.use <;> cases y.zero <;> simp
end

/-! ### What the arrival ends -/

theorem unitRegs_requestRegs (q : Nat) : requestRegs ⊆ unitRegs q := List.subset_append_right _ _

section
variable (s : State) (r : SlotResult)

theorem frame_unitTaken : s.Frame (s.unitTaken r) (unitRegs (quadOf r.quad).val) unitParts := by
  have kept : s.Frame (s.keepBaseline r) (unitRegs (quadOf r.quad).val) unitParts :=
    (frame_keepBaseline s r).mono (List.nil_subset _) (by decide)
  have swept : (s.keepBaseline r).Takes (quadOf r.quad) (fun _ => False) ((s.keepBaseline r).sweepArrived (quadOf r.quad)) :=
    takes_sweepArrived _ _
  exact .ite (kept.trans swept.within.frame) kept

/-- Taking a unit in stores nothing more, and keeps the queue and the readings of the glass. -/
theorem unitTaken_keeps (hl : r.slot.line < 512) (hm : r.slot.mux < 32) (glass : s.sns.onGlass) :
    (∀ a, (s.unitTaken r).readByte a = s.readByte a) ∧ (s.unitTaken r).sns.inflight = s.sns.inflight ∧ (s.unitTaken r).sns.onGlass := by
  have bytes : ∀ a, (s.keepBaseline r).readByte a = s.readByte a := (frame_keepBaseline s r).parts .mem (by decide)
  have inflight := inflight_keepBaseline s r
  have kept := onGlass_keepBaseline s r hl hm glass
  have swept : (s.keepBaseline r).Takes (quadOf r.quad) (fun _ => False) ((s.keepBaseline r).sweepArrived (quadOf r.quad)) :=
    takes_sweepArrived _ _
  unfold State.unitTaken
  split
  · exact ⟨fun a => (swept.within.bytes a id).trans (bytes a), (congrArg (·.1) swept.queues).trans inflight, swept.onGlass kept⟩
  · exact ⟨bytes, inflight, kept⟩

theorem frame_arrive : s.Frame (s.arrive r) (unitRegs (quadOf r.quad).val) unitParts := by
  have ended : (s.unitTaken r).Takes (quadOf r.quad) (fun _ => False) ((s.unitTaken r).endBurst (quadOf r.quad)) := takes_endBurst _ _
  exact ((frame_unitTaken s r).trans ended.within.frame).trans
    ((settles_settleRequests _).frame.mono (unitRegs_requestRegs _) (by decide))

theorem arrive_keeps (hl : r.slot.line < 512) (hm : r.slot.mux < 32) (glass : s.sns.onGlass) :
    (∀ a, ¬ inBaselines a → (s.arrive r).readByte a = s.readByte a) ∧ (s.arrive r).sns.inflight = s.sns.inflight := by
  obtain ⟨bytes, inflight, kept⟩ := unitTaken_keeps s r hl hm glass
  have ended : (s.unitTaken r).Takes (quadOf r.quad) (fun _ => False) ((s.unitTaken r).endBurst (quadOf r.quad)) := takes_endBurst _ _
  have settled := settles_settleRequests ((s.unitTaken r).endBurst (quadOf r.quad))
  exact ⟨fun a ha => (settled.bytes (ended.onGlass kept) a ha).trans ((ended.within.bytes a id).trans (bytes a)),
    settled.inflight.trans ((congrArg (·.1) ended.queues).trans inflight)⟩

/-- Without requests a unit that is not of the sweep ends a burst at most. -/
theorem arrive_quiet (empty : s.sns.requests = []) (sweep : isSweep r.slot = false) (request : requestSeq r.slot = none) :
    s.arrive r = s.endBurst (quadOf r.quad) := by
  have taken : s.unitTaken r = s := by rw [State.unitTaken, sweep, keepBaseline_other s r request]; rfl
  have still : (s.endBurst (quadOf r.quad)).sns.requests = [] := (congrArg (·.2.1) (queues_endBurst s (quadOf r.quad))).trans empty
  rw [State.arrive, taken, settleRequests_none _ still]
end

/-! ### What the class of a reading rests on -/

/-- The registers that a reading of a burst may count in, and those the wires drive. -/
def countRegs : List Nat := [A.SNS_CNT, A.SAF_STAT, A.SYS_START] ++ dramRegs

/-- Two states in which a reading has the same reference and the same class (R156, R157). -/
structure State.SameBasis (s t : State) : Prop where
  reg : ∀ a, a ∉ countRegs → t.reg a = s.reg a
  frameRegs : t.frameRegs = s.frameRegs
  base : t.cmp.base = s.cmp.base
  bytes : ∀ a, ¬ inResults a → t.readByte a = s.readByte a
  median : ∀ i, (t.sq i).median = (s.sq i).median

/-- The registers of R156 and R157 that a quadrant or a colour numbers are none of those. -/
theorem basisRegs_apart : ∀ (q : Quad) (c : Colour), A.SNS_BASE_T q.val ∉ countRegs ∧ A.SNS_TC c.val ∉ countRegs ∧
    A.CMP_AGE q.val c.val ∉ countRegs ∧ A.THM_T (20 + q.val) ∉ countRegs := by decide

section
variable {s t u : State} (h : s.SameBasis t)
include h

theorem State.SameBasis.trans (k : t.SameBasis u) : s.SameBasis u :=
  ⟨fun a ha => (k.reg a ha).trans (h.reg a ha), k.frameRegs.trans h.frameRegs, k.base.trans h.base,
    fun a ha => (k.bytes a ha).trans (h.bytes a ha), fun i => (k.median i).trans (h.median i)⟩

theorem State.SameBasis.rd {f : Fld} (hf : f.addr ∉ countRegs) : t.rd f = s.rd f := rd_of_reg (h.reg _ hf)

theorem State.SameBasis.places (q : Quad) : ∀ a ∈ placeRegs q.val, t.reg a = s.reg a := fun a ha =>
  h.reg a ((by decide : ∀ q : Quad, ∀ a ∈ placeRegs q.val, a ∉ countRegs) q a ha)

theorem State.SameBasis.readAt (r : SlotResult) (g : Nat) : t.readAt r g = s.readAt r g :=
  congrArg Prod.fst (measured_congr (h.places _) _ _ _)

theorem State.SameBasis.adcFailed (q : Quad) (g : Nat) : t.adcFailed q.val g = s.adcFailed q.val g := adcFailed_congr (h.places q) g

theorem State.SameBasis.baseValid (q : Quad) : t.baseValid q = s.baseValid q := by
  have valid := on_of_rd (h.rd (f := F.SNS_BASE_T.VALID q.val) (basisRegs_apart q 0).1)
  have itest := h.rd (f := F.SNS_BASE_T.ITEST q.val) (basisRegs_apart q 0).1
  unfold State.baseValid State.itest State.frame
  rw [valid, itest, h.frameRegs]

theorem State.SameBasis.readLE {a n : Nat} (ha : ∀ i, i < n → ¬ inResults (a + i)) : t.readLE a n = s.readLE a n :=
  readLE_congr fun i hi => h.bytes _ (ha i hi)

theorem State.SameBasis.baseline (k : Nat) : t.baseline k = s.baseline k := by
  have stored : t.readLE (baseAddr k) 2 = s.readLE (baseAddr k) 2 := h.readLE fun i _ => by
    unfold inResults baseAddr
    omega
  simp only [State.baseline, h.baseValid, stored]

theorem State.SameBasis.refOf (k : Nat) : t.refOf k = s.refOf k := by simp only [State.refOf, h.baseline, h.median]

theorem State.SameBasis.predDrift (k : Nat) : t.predDrift k = s.predDrift k := by
  have code : t.readLE (stressAddr k) 2 = s.readLE (stressAddr k) 2 := h.readLE fun i _ => by
    unfold inResults stressAddr
    omega
  have kappa := h.rd (f := F.CMP_AGE.KAPPA (subQuad k).val (subColour k).val) (basisRegs_apart _ _).2.2.1
  simp only [State.predDrift, State.effCode, State.kappa, State.stressCode, code, kappa, h.base]

theorem State.SameBasis.tempCorrected (k v2 : Nat) (tq : Int) : t.tempCorrected k v2 tq = s.tempCorrected k v2 tq := by
  have tref := h.rd (f := F.SNS_BASE_T.TREF (subQuad k).val) (basisRegs_apart _ 0).1
  have tc := h.rd (f := F.SNS_TC.TC (subColour k).val) (basisRegs_apart 0 _).2.1
  simp only [State.tempCorrected, h.baseValid, tref, tc]

theorem State.SameBasis.glassTemp (q : Quad) : t.glassTemp q = s.glassTemp q := by
  have teff := h.rd (f := F.THM_T.TEFF (20 + q.val)) (basisRegs_apart q 0).2.2.2
  simp only [State.glassTemp, State.teff, teff]

theorem State.SameBasis.classify (k v1 v2 : Nat) (v2t ref : Int) : t.classify k v1 v2 v2t ref = s.classify k v1 v2 v2t ref := by
  have openDv := h.rd (f := F.SNS_CFG.OPEN_DV) (by decide)
  have openV := h.rd (f := F.SNS_THR_V.OPEN_V) (by decide)
  have shortV := h.rd (f := F.SNS_THR_V.SHORT_V) (by decide)
  have stuckDv := h.rd (f := F.SNS_THR_D.STUCK_DV) (by decide)
  have dimDv := h.rd (f := F.SNS_THR_D.DIM_DV) (by decide)
  have weakDv := h.rd (f := F.SNS_THR_S.WEAK_DV) (by decide)
  simp only [State.classify, openDv, openV, shortV, stuckDv, dimDv, weakDv, h.baseline, h.predDrift]
end

theorem State.SameBasis.refl (s : State) : s.SameBasis s := ⟨fun _ _ => rfl, rfl, rfl, fun _ _ => rfl, fun _ => rfl⟩

/-- A frame in which sensing may count, store results and change its engines but for the medians. -/
theorem State.SameBasis.of_frame {s t : State} {l : List Nat} {ps : List Part} (h : s.FrameIn inResults t l ps)
    (median : ∀ i, (t.sq i).median = (s.sq i).median) (hl : l ⊆ A.SNS_CNT :: dramRegs := by decide)
    (hc : Part.cmp ∉ ps := by decide) (hf : Part.frameRegs ∉ ps := by decide) : s.SameBasis t := by
  refine ⟨fun a ha => h.frame.reg (fun m => ha ?_) (by rintro rfl; exact ha (by decide)) (by rintro rfl; exact ha (by decide)),
    h.frame.parts .frameRegs hf, congrArg CmpState.base (h.frame.parts .cmp hc), h.bytes, median⟩
  exact (by decide : A.SNS_CNT :: dramRegs ⊆ countRegs) (hl m)

theorem sameBasis_dequeue (s : State) (n : Nat) (rest : List SlotResult) : s.SameBasis ((s.advance n).dequeue rest) :=
  ⟨fun _ _ => rfl, rfl, rfl, fun _ _ => rfl, fun i => (congrArg SnsQuad.median (sq_advance s n i) : _)⟩

/-! ### Readings of a burst -/

/-- The latest kind of subpixel k. -/
def State.kindOf (s : State) (k : Nat) : Nat := Sparse.get (fun _ => 6) s.sns.kinds k

/-- From `s` to `t` readings of a burst were taken: what their class rests on stays, and quadrant q has at most `m` candidates more. -/
structure State.Gathers (q : Quad) (m : Nat) (s t : State) : Prop where
  basis : s.SameBasis t
  quads : t.sns.quads.length = s.sns.quads.length
  cands : (s.sq q.val).cands ⊆ (t.sq q.val).cands
  count : (t.sq q.val).cands.length ≤ (s.sq q.val).cands.length + m

section
variable {q : Quad} {m m' : Nat} {s t u : State}

theorem State.Gathers.refl : s.Gathers q m s := ⟨.refl s, rfl, List.Subset.refl _, Nat.le_add_right _ _⟩

theorem State.Gathers.trans (h : s.Gathers q m t) (k : t.Gathers q m' u) : s.Gathers q (m + m') u :=
  ⟨h.basis.trans k.basis, k.quads.trans h.quads, List.Subset.trans h.cands k.cands, by have := h.count; have := k.count; omega⟩

/-- An update of the engines that touches neither candidates nor medians. -/
theorem State.Gathers.of_engines {l : List Nat} {ps : List Part} (h : s.FrameIn inResults t l ps) (quads : t.sns.quads = s.sns.quads)
    (hl : l ⊆ A.SNS_CNT :: dramRegs := by decide) (hc : Part.cmp ∉ ps := by decide) (hf : Part.frameRegs ∉ ps := by decide) :
    s.Gathers q 0 t := by
  have sq (i : Nat) : t.sq i = s.sq i := congrArg (nth · i) quads
  exact ⟨.of_frame h (fun i => by rw [sq]) hl hc hf, by rw [quads], by rw [sq]; exact List.Subset.refl _, by rw [sq]; exact le_rfl⟩

theorem State.Gathers.setSq {i : Nat} {x : SnsQuad} (median : x.median = (s.sq i).median) (cands : (s.sq i).cands ⊆ x.cands)
    (count : x.cands.length ≤ (s.sq i).cands.length + m) : s.Gathers q m (s.setSq i x) := by
  refine ⟨.of_frame ((frame_setSq s i x).inside) (fun j => ?_) (List.nil_subset _), List.length_set .., ?_, ?_⟩ <;> rw [sq_setSq] <;> split
  next h => rw [median, h.1]
  next => rfl
  next h => rw [h.1]; exact cands
  next => exact List.Subset.refl _
  next h => rw [h.1]; exact count
  next => exact Nat.le_add_right _ _
end

section
variable (s : State) (q : Quad) (k kind wait : Nat)

theorem gathers_addCandidate : s.Gathers q 1 (s.addCandidate k kind wait) := by
  unfold State.addCandidate
  dsimp only
  split
  · exact .refl
  · split
    · have counted : s.Frame (s.bump F.SNS_CNT.DROPPED) [A.SNS_CNT] [] := (State.Frame.refl s _ _).thenBump _ List.mem_cons_self
      exact .trans (m := 0) (.of_engines counted.inside rfl) (.refl (m := 1))
    · exact .setSq rfl (List.subset_append_left _ _) (by simp)

theorem kinds_addCandidate : (s.addCandidate k kind wait).sns.kinds = s.sns.kinds := by
  unfold State.addCandidate
  dsimp only
  split
  · rfl
  · split <;> rfl

variable {s q k}

/-- With room in its quadrant the subpixel is a candidate. -/
theorem mem_addCandidate (hk : subQuad k = q) (hq : q.val < s.sns.quads.length) (room : (s.sq q.val).cands.length < 64) :
    ∃ c ∈ ((s.addCandidate k kind wait).sq q.val).cands, c.k = k := by
  subst hk
  unfold State.addCandidate
  dsimp only
  split
  next known =>
    obtain ⟨c, hc, e⟩ := List.any_eq_true.mp known
    exact ⟨c, hc, by simpa using e⟩
  next =>
    rw [if_neg (by omega), sq_setSq_same s _ hq]
    exact ⟨⟨k, kind, wait⟩, List.mem_append_right _ List.mem_cons_self, rfl⟩
end

/-- The kind of a reading is noted. -/
def State.noteKind (s : State) (k kind : Nat) : State := { s with sns.kinds := Sparse.put (fun _ => 6) s.sns.kinds k kind }

/-- What a reading of a burst leaves, its kind given. -/
def State.judged (s : State) (k kind wait : Nat) : State :=
  if kind = 6 then s.noteKind k kind else (s.noteKind k kind).addCandidate k kind wait

theorem judgeReading_burst (s : State) (wait k v1 v2 : Nat) (v2t ref : Int) :
    s.judgeReading .burst wait k v1 v2 v2t ref = s.judged k (s.classify k v1 v2 v2t ref) wait := rfl

section
variable (s : State) (q : Quad) (k kind wait : Nat)

theorem gathers_judged : s.Gathers q 1 (s.judged k kind wait) := by
  have frame : s.Frame (s.noteKind k kind) [] [.sns] := (State.Frame.refl s _ _).setSns (by decide) rfl
  have noted : s.Gathers q 0 (s.noteKind k kind) := .of_engines frame.inside rfl (List.nil_subset _)
  unfold State.judged
  split
  · exact noted.trans (.refl (m := 1))
  · exact noted.trans (gathers_addCandidate _ q k kind wait)

theorem kinds_judged : (s.judged k kind wait).sns.kinds = Sparse.put (fun _ => 6) s.sns.kinds k kind := by
  unfold State.judged
  split
  · rfl
  · exact kinds_addCandidate _ _ _ _

theorem kindOf_judged : (s.judged k kind wait).kindOf k = kind := by
  rw [State.kindOf, kinds_judged]
  exact Sparse.get_put_same _ _ _ _

theorem kindOf_judged_other {k' : Nat} (h : k' ≠ k) : (s.judged k kind wait).kindOf k' = s.kindOf k' := by
  rw [State.kindOf, kinds_judged]
  exact Sparse.get_put_other _ _ _ h

variable {s q k kind}

theorem mem_judged (hk : subQuad k = q) (hq : q.val < s.sns.quads.length) (room : (s.sq q.val).cands.length < 64) (fails : kind ≠ 6) :
    ∃ c ∈ ((s.judged k kind wait).sq q.val).cands, c.k = k := by
  rw [State.judged, if_neg fails]
  exact mem_addCandidate kind wait hk hq room
end

/-- The class of the reading of ADC g against `ref`. -/
def State.classAt (s : State) (r : SlotResult) (g : Nat) (ref : Int) : Nat :=
  s.classify (s.readAt r g) (nth r.v1 g) (nth r.v2 g) (s.tempCorrected (s.readAt r g) (nth r.v2 g) (s.glassTemp (quadOf r.quad))) ref

theorem State.SameBasis.classAt {s t : State} (h : s.SameBasis t) (r : SlotResult) (g : Nat) (ref : Int) : t.classAt r g ref = s.classAt r g ref := by
  rw [State.classAt, h.readAt, h.glassTemp, h.tempCorrected, h.classify]
  rfl

theorem readingNoted_burst (s : State) {r : SlotResult} (g : Nat) (burst : r.slot.use = .burst) : s.readingNoted r g = s.storeReading r g := by
  have other : isSweep r.slot = false := by rw [isSweep, burst]; rfl
  rw [State.readingNoted, State.noteReading, other]
  rfl

section
variable {r : SlotResult} (s : State) {g : Nat} (hl : r.slot.line < 512) (hm : r.slot.mux < 32) (hg : g < 48)
include hl hm hg

theorem gathers_storeReading : s.Gathers (quadOf r.quad) 0 (s.storeReading r g) := by
  have stored := frameIn_storeReading r s hl hm hg
  refine .of_engines ⟨stored.frame, fun a ha => stored.bytes a fun own => ha (own.inResults (readAt_lt r s hl hm hg))⟩
    (congrArg SnsState.quads (stored.frame.parts .sns (by decide))) (by decide)

/-- A reading of a burst either leaves the kinds alone, where its ADC has failed or it has no reference, or is judged. -/
theorem takeReading_burst (burst : r.slot.use = .burst) : (s.Gathers (quadOf r.quad) 1 (State.takeReading r s g) ∧ (State.takeReading r s g).sns.kinds = s.sns.kinds ∧
      (s.adcFailed (quadOf r.quad).val g = true ∨ s.refOf (s.readAt r g) = none)) ∨
    ∃ ref, s.refOf (s.readAt r g) = some ref ∧
      State.takeReading r s g = (s.storeReading r g).judged (s.readAt r g) (s.classAt r g ref) (1 - r.age) := by
  have stored := gathers_storeReading s hl hm hg
  have kinds : (s.storeReading r g).sns.kinds = s.sns.kinds :=
    congrArg SnsState.kinds ((frameIn_storeReading r s hl hm hg).frame.parts .sns (by decide))
  cases bad : s.adcFailed (quadOf r.quad).val g with
  | true =>
    rw [takeReading_failed bad]
    exact .inl ⟨.refl, rfl, .inl rfl⟩
  | false =>
    rw [takeReading_good bad, readingNoted_burst s g burst]
    have reference := stored.basis.refOf (s.readAt r g)
    cases known : s.refOf (s.readAt r g) with
    | none =>
      rw [judgeOrWait_waits (reference.trans known)]
      have waits : (s.storeReading r g).Gathers (quadOf r.quad) 1 ((s.storeReading r g).awaitReference r g (s.readAt r g) (s.glassTemp (quadOf r.quad))) :=
        .setSq rfl (List.Subset.refl _) (Nat.le_succ _)
      exact .inl ⟨stored.trans waits, kinds, .inr rfl⟩
    | some ref =>
      refine .inr ⟨ref, rfl, ?_⟩
      rw [judgeOrWait_judged (reference.trans known), burst, judgeReading_burst, stored.basis.classify, stored.basis.tempCorrected]
      rfl
end

/-- The reading of ADC g of a burst has its class, and one that is not NORMAL its candidate where the quadrant has room. -/
def State.Classified (s : State) (r : SlotResult) (g : Nat) (t : State) : Prop :=
  ∀ ref, s.adcFailed (quadOf r.quad).val g = false → s.refOf (s.readAt r g) = some ref → t.kindOf (s.readAt r g) = s.classAt r g ref ∧
    (t.kindOf (s.readAt r g) ≠ 6 → (s.sq (quadOf r.quad).val).cands.length ≤ 16 →
      ∃ c ∈ (t.sq (quadOf r.quad).val).cands, c.k = s.readAt r g)

section
variable {r : SlotResult} (s : State) (burst : r.slot.use = .burst) (hl : r.slot.line < 512) (hm : r.slot.mux < 32)
  (hq : (quadOf r.quad).val < s.sns.quads.length)
include burst hl hm hq

/-- The readings of a burst are classified, each of its own subpixel. -/
theorem readUnit_burst : ∀ g, g < 48 → s.Classified r g (s.readUnit r) := by
  refine (foldl_range_from (Q := fun g u => s.Gathers (quadOf r.quad) g u) (P := fun g u => s.Classified r g u) .refl
    (fun g u hg before => ?_) (fun g u hg before ref good known => ?_) (fun g g' u hlt hg' before class' ref good known => ?_)).2
  · rcases takeReading_burst u hl hm hg burst with ⟨gathers, -, -⟩ | ⟨ref, -, e⟩
    · exact before.trans gathers
    · rw [e]
      exact before.trans ((gathers_storeReading u hl hm hg).trans (gathers_judged _ _ _ _ _))
  · have place := before.basis.readAt r g
    rcases takeReading_burst u hl hm hg burst with ⟨-, -, bad | waits⟩ | ⟨ref', known', e⟩
    · cases ((before.basis.adcFailed _ g).trans good).symm.trans bad
    · rw [place, before.basis.refOf, known] at waits
      cases waits
    · rw [place, before.basis.refOf, known] at known'
      obtain rfl : ref = ref' := Option.some.inj known'
      have stored := before.trans (gathers_storeReading u hl hm hg)
      rw [e, place, before.basis.classAt, kindOf_judged]
      refine ⟨rfl, fun fails few => mem_judged _ (subQuad_measured s _ hl hm hg) (by rw [stored.quads]; exact hq) ?_ fails⟩
      have count := stored.count
      omega
  · obtain ⟨kind, candidate⟩ := class' ref good known
    have apart : s.readAt r g ≠ u.readAt r g' := fun same => by
      have := measured_inj s _ hl hm (by omega : g < 48) hg' (same.trans (before.basis.readAt r g'))
      omega
    rcases takeReading_burst u hl hm hg' burst with ⟨gathers, kinds, -⟩ | ⟨ref', -, e⟩
    · have same : (State.takeReading r u g').kindOf (s.readAt r g) = u.kindOf (s.readAt r g) := by rw [State.kindOf, kinds]; rfl
      rw [same]
      refine ⟨kind, fun fails few => ?_⟩
      obtain ⟨c, hc, hk⟩ := candidate fails few
      exact ⟨c, gathers.cands hc, hk⟩
    · have stored := gathers_storeReading u hl hm hg'
      have kinds : (u.storeReading r g').kindOf (s.readAt r g) = u.kindOf (s.readAt r g) :=
        congrArg (fun x : SnsState => Sparse.get (fun _ => 6) x.kinds (s.readAt r g)) ((frameIn_storeReading r u hl hm hg').frame.parts .sns (by decide))
      rw [e, kindOf_judged_other _ _ _ _ apart, kinds]
      refine ⟨kind, fun fails few => ?_⟩
      obtain ⟨c, hc, hk⟩ := candidate fails few
      exact ⟨c, (gathers_judged _ _ _ _ _).cands (stored.cands hc), hk⟩
end

/-! ### Confirmations -/

section
variable (s : State)

theorem reports_stuckFaults (q : Quad) : s.flt.inbox ⊆ (s.stuckFaults q).flt.inbox := by
  unfold State.stuckFaults
  dsimp only
  split
  · exact List.Subset.trans (List.subset_append_left _ _) (List.subset_append_left _ _)
  · exact List.subset_append_left _ _

theorem reports_entryFaults (k kind : Nat) : s.flt.inbox ⊆ (s.entryFaults k kind).flt.inbox := by
  unfold State.entryFaults
  split
  · exact reports_stuckFaults s _
  · exact List.subset_append_left _ _

/-- An automatic entry loses no report. -/
theorem reports_autoEntry (k kind action src : Nat) : s.flt.inbox ⊆ (s.autoEntry k kind action src).flt.inbox := by
  have entered (t : List Nat) : s.flt.inbox ⊆ ((s.setDefects t).entryFaults k kind).flt.inbox := reports_entryFaults (s.setDefects t) k kind
  unfold State.autoEntry
  dsimp only
  split
  · split
    · exact List.Subset.refl _
    · generalize insertEntry _ s.cmp.defects = table
      split
      · exact List.Subset.refl _
      · exact entered table
  · split
    · exact entered _
    · split
      · exact entered _
      · exact List.subset_append_left _ _

variable (k kind : Nat)

/-- No candidate of the subpixel is left. -/
theorem cands_dropCandidate : ∀ c ∈ ((s.dropCandidate k).sq (subQuad k).val).cands, c.k ≠ k := by
  intro c hc
  rw [State.dropCandidate, sq_setSq] at hc
  split at hc
  next => simpa using (List.mem_filter.mp hc).2
  next beyond =>
    have none : s.sq (subQuad k).val = default := List.getD_eq_default _ _ (by simpa using beyond)
    rw [none] at hc
    cases hc

theorem cands_setSq_burst (b : Option Burst) (i j : Nat) : ((s.setSq i { s.sq i with burst := b }).sq j).cands = (s.sq j).cands := by
  rw [sq_setSq]
  split
  next h => rw [h.1]
  next => rfl

theorem confirmKind_cases : s.confirmKind k kind = (s.countConfirmed k).burstConfirmed k ∨ s.on F.CMP_DEF_CFG.AUTO = true ∧
    ∃ action, s.confirmKind k kind = ((s.countConfirmed k).burstConfirmed k).autoEntry k kind action 1 := by
  have auto : ((s.countConfirmed k).burstConfirmed k).on F.CMP_DEF_CFG.AUTO = s.on F.CMP_DEF_CFG.AUTO :=
    on_of_rd (rd_bump_other (s.dropCandidate k) (f := F.SNS_CNT.CONFIRMED) (g := F.CMP_DEF_CFG.AUTO) (.inl (by decide)))
  rw [confirmKind_eq, auto]
  split
  next on => exact .inr ⟨on, _, rfl⟩
  next => exact .inl rfl

theorem cands_confirmKind : ∀ c ∈ ((s.confirmKind k kind).sq (subQuad k).val).cands, c.k ≠ k := by
  have confirmed : (((s.countConfirmed k).burstConfirmed k).sq (subQuad k).val).cands = ((s.dropCandidate k).sq (subQuad k).val).cands :=
    cands_setSq_burst (s.countConfirmed k) _ _ _
  have same : ((s.confirmKind k kind).sq (subQuad k).val).cands = ((s.dropCandidate k).sq (subQuad k).val).cands := by
    rcases confirmKind_cases s k kind with e | ⟨-, action, e⟩ <;> rw [e]
    · exact confirmed
    · exact (congrArg (fun x : SnsState => (nth x.quads (subQuad k).val).cands) ((autoEntry_changes _ k kind action 1).1.parts .sns (by decide))).trans
        confirmed
  rw [same]
  exact cands_dropCandidate s k

/-- A confirmation counts in CONFIRMED only. -/
theorem counts_confirmKind : (s.confirmKind k kind).rd F.SNS_CNT.CONFIRMED = min 0xFFFF (s.rd F.SNS_CNT.CONFIRMED + 1) ∧
    (s.confirmKind k kind).rd F.SNS_CNT.DROPPED = s.rd F.SNS_CNT.DROPPED := by
  have confirmed : ((s.countConfirmed k).burstConfirmed k).rd F.SNS_CNT.CONFIRMED = min 0xFFFF (s.rd F.SNS_CNT.CONFIRMED + 1) :=
    rd_bump_same (s.dropCandidate k) (f := F.SNS_CNT.CONFIRMED) (by decide)
  have dropped : ((s.countConfirmed k).burstConfirmed k).rd F.SNS_CNT.DROPPED = s.rd F.SNS_CNT.DROPPED :=
    rd_bump_other (s.dropCandidate k) (f := F.SNS_CNT.CONFIRMED) (g := F.SNS_CNT.DROPPED) (.inr (.inl (by decide)))
  rcases confirmKind_cases s k kind with e | ⟨-, action, e⟩ <;> rw [e]
  · exact ⟨confirmed, dropped⟩
  · have entered := (autoEntry_changes ((s.countConfirmed k).burstConfirmed k) k kind action 1).1
    exact ⟨(entered.rd (by decide) (by decide) (by decide)).trans confirmed, (entered.rd (by decide) (by decide) (by decide)).trans dropped⟩

theorem reports_confirmKind : ⟨0x60, 0, 2 ^ (subQuad k).val, 0, false, s.now⟩ ∈ (s.confirmKind k kind).flt.inbox := by
  have reported : ⟨0x60, 0, 2 ^ (subQuad k).val, 0, false, s.now⟩ ∈ ((s.countConfirmed k).burstConfirmed k).flt.inbox :=
    List.mem_append_right s.flt.inbox List.mem_cons_self
  rcases confirmKind_cases s k kind with e | ⟨-, action, e⟩ <;> rw [e]
  · exact reported
  · exact reports_autoEntry _ _ _ _ _ reported

theorem cmp_confirmKind (off : s.on F.CMP_DEF_CFG.AUTO = false) : (s.confirmKind k kind).cmp = s.cmp := by
  rcases confirmKind_cases s k kind with e | ⟨on, -⟩
  · rw [e]
    rfl
  · cases off.symm.trans on

/-- A candidate dropped counts in DROPPED only. -/
theorem counts_countDropped : (s.countDropped k).rd F.SNS_CNT.CONFIRMED = s.rd F.SNS_CNT.CONFIRMED ∧
    (s.countDropped k).rd F.SNS_CNT.DROPPED = min 0xFFFF (s.rd F.SNS_CNT.DROPPED + 1) :=
  ⟨rd_bump_other (s.dropCandidate k) (f := F.SNS_CNT.DROPPED) (g := F.SNS_CNT.CONFIRMED) (.inr (.inr (by decide))),
    rd_bump_same (s.dropCandidate k) (f := F.SNS_CNT.DROPPED) (by decide)⟩
end

section
variable {s : State} {r : SlotResult} {k : Nat}

theorem takeZero_gone (h : s.stands k 2 = false) : s.takeZero r k = s := if_pos (by simp [h])

/-- A candidate that stands is judged by the ADC that measures its subpixel. -/
theorem takeZero_read (stands : s.stands k 2 = true) (hl : r.slot.line < 512) (hm : r.slot.mux < 32) {g : Nat} (hg : g < 48)
    (good : s.adcFailed (quadOf r.quad).val g = false) (hk : (s.measured (quadOf r.quad) r.slot.line r.slot.mux g).1 = k) :
    s.takeZero r k = if s.rd F.SNS_THR_S.STUCK_V0 * 10 ≤ nth r.v2 g then s.confirmKind k 2 else s.countDropped k := by
  refine (if_neg (by simp [stands])).trans ?_
  split
  next g' found =>
    have test := List.find?_some found
    have hg' : g' < 48 := List.mem_range.mp (List.mem_of_find?_eq_some found)
    have hk' : (s.measured (quadOf r.quad) r.slot.line r.slot.mux g').1 = k := by simp at test; exact test.2
    obtain rfl : g = g' := measured_inj s _ hl hm hg hg' (hk.trans hk'.symm)
    rfl
  next none =>
    have fails := List.find?_eq_none.mp none g (List.mem_range.mpr hg)
    exact absurd (by simp [good, hk]) fails
end

/-! ### The unit has arrived -/

theorem frame_dequeue (s : State) (rest : List SlotResult) : s.Frame (s.dequeue rest) [] [.sns] :=
  (State.Frame.refl s [] [.sns]).setSns (by decide) rfl

theorem stands_dequeue (s : State) (n : Nat) (rest : List SlotResult) (k kind : Nat) :
    ((s.advance n).dequeue rest).stands k kind = s.stands k kind := by
  have cands : (((s.advance n).dequeue rest).sq (subQuad k).val).cands = (s.sq (subQuad k).val).cands :=
    (congrArg SnsQuad.cands (sq_advance s n (subQuad k).val) : _)
  rw [State.stands, cands]
  rfl

section
variable {s u : State} {n : Nat} {r : SlotResult} {rest : List SlotResult}
  (taken : ((s.advance n).dequeue rest).Takes (quadOf r.quad) inResults u)
include taken

theorem frame_unitArrived : (s.advance n).Frame (u.arrive r) (unitRegs (quadOf r.quad).val) unitParts :=
  (((frame_dequeue (s.advance n) rest).mono (List.nil_subset _) (by decide)).trans taken.within.frame).trans (frame_arrive u r)

theorem unitArrived_keeps (hl : r.slot.line < 512) (hm : r.slot.mux < 32) (glass : s.sns.onGlass) :
    (u.arrive r).sns.inflight = rest ∧
    ∀ a, ¬ inResults a → ¬ inBaselines a → (u.arrive r).readByte a = s.readByte a := by
  have glass' : ((s.advance n).dequeue rest).sns.onGlass := glass
  obtain ⟨bytes, inflight⟩ := arrive_keeps u r hl hm (taken.onGlass glass')
  exact ⟨inflight.trans (congrArg (·.1) taken.queues), fun a results base => (bytes a base).trans (taken.within.bytes a results)⟩

theorem requests_taken (none : s.sns.requests = []) : u.sns.requests = [] := (congrArg (·.2.1) taken.queues : _).trans none
end

/-! ### A zero-current confirmation that arrives -/

theorem cnt_notMem_qstat (q : Quad) : A.SNS_CNT ∉ [A.SNS_QSTAT q.val] := by
  revert q
  decide

section
variable {s : State} {r : SlotResult} {k was : Nat} (use : r.slot.use = .confirm k was) (empty : s.sns.requests = [])
include use empty

/-- It ends a burst at most. -/
theorem arrive_confirm : s.arrive r = s.endBurst (quadOf r.quad) :=
  arrive_quiet s r empty (by rw [isSweep, use]; rfl) (by rw [requestSeq, use])

theorem flt_arrive_confirm : (s.arrive r).flt = s.flt := by
  rw [arrive_confirm use empty]
  exact (frame_endBurst s _).parts .flt (by decide)

theorem cmp_arrive_confirm : (s.arrive r).cmp = s.cmp := by
  rw [arrive_confirm use empty]
  exact (frame_endBurst s _).parts .cmp (by decide)

theorem cnt_arrive_confirm : (s.arrive r).reg A.SNS_CNT = s.reg A.SNS_CNT := by
  rw [arrive_confirm use empty]
  exact (frame_endBurst s _).reg (cnt_notMem_qstat _) (by decide) (by decide)

theorem cands_arrive_confirm (i : Nat) : ((s.arrive r).sq i).cands = (s.sq i).cands := by
  rw [arrive_confirm use empty]
  exact cands_endBurst s _ i
end

/-- What a zero-current reading leaves of its candidate, up to the wires: it is confirmed or dropped, and gone (R158). -/
structure State.ZeroJudged (s : State) (k v2 : Nat) (t : State) : Prop where
  gone : ∀ c ∈ (t.sq (subQuad k).val).cands, c.k ≠ k
  confirmed : s.rd F.SNS_THR_S.STUCK_V0 * 10 ≤ v2 →
    t.rd F.SNS_CNT.CONFIRMED = min 0xFFFF (s.rd F.SNS_CNT.CONFIRMED + 1) ∧ t.rd F.SNS_CNT.DROPPED = s.rd F.SNS_CNT.DROPPED ∧
    ⟨0x60, 0, 2 ^ (subQuad k).val, 0, false, s.now⟩ ∈ t.flt.inbox ∧ (s.on F.CMP_DEF_CFG.AUTO = false → t.cmp = s.cmp)
  dropped : v2 < s.rd F.SNS_THR_S.STUCK_V0 * 10 → t.rd F.SNS_CNT.CONFIRMED = s.rd F.SNS_CNT.CONFIRMED ∧
    t.rd F.SNS_CNT.DROPPED = min 0xFFFF (s.rd F.SNS_CNT.DROPPED + 1) ∧ t.flt = s.flt ∧ t.cmp = s.cmp

/-- What arrives behind it, and the wires, keep all of that. -/
theorem State.ZeroJudged.keep {s t u : State} {k v2 : Nat} (h : s.ZeroJudged k v2 t) (cands : ∀ i, (u.sq i).cands = (t.sq i).cands)
    (cnt : u.reg A.SNS_CNT = t.reg A.SNS_CNT) (flt : u.flt = t.flt) (cmp : u.cmp = t.cmp) : s.ZeroJudged k v2 u := by
  have counted := rd_of_reg (f := F.SNS_CNT.CONFIRMED) cnt
  have dropped := rd_of_reg (f := F.SNS_CNT.DROPPED) cnt
  refine ⟨?_, fun high => ?_, fun low => ?_⟩
  · rw [cands]
    exact h.gone
  · rw [counted, dropped, flt, cmp]
    exact h.confirmed high
  · rw [counted, dropped, flt, cmp]
    exact h.dropped low

theorem zeroJudged_takeZero {s : State} {r : SlotResult} {k : Nat} (stands : s.stands k 2 = true) (hl : r.slot.line < 512)
    (hm : r.slot.mux < 32) {g : Nat} (hg : g < 48) (good : s.adcFailed (quadOf r.quad).val g = false)
    (hk : (s.measured (quadOf r.quad) r.slot.line r.slot.mux g).1 = k) : s.ZeroJudged k (nth r.v2 g) (s.takeZero r k) := by
  rw [takeZero_read stands hl hm hg good hk]
  split
  next high =>
    obtain ⟨confirmed, dropped⟩ := counts_confirmKind s k 2
    exact ⟨cands_confirmKind s k 2, fun _ => ⟨confirmed, dropped, reports_confirmKind s k 2, cmp_confirmKind s k 2⟩,
      fun low => absurd high (Nat.not_le.mpr low)⟩
  next low =>
    obtain ⟨confirmed, dropped⟩ := counts_countDropped s k
    exact ⟨cands_dropCandidate s k, fun high => absurd high low, fun _ => ⟨confirmed, dropped, rfl, rfl⟩⟩

/-! ### The obligation -/

section
variable {s u : State} {n : Nat} {r : SlotResult} {rest : List SlotResult} (hu : s.undef = false)
  (taken : ((s.advance n).dequeue rest).Takes (quadOf r.quad) inResults u)
include hu taken

theorem undef_unitArrived : (u.arrive r).undef = false :=
  (frame_unitArrived taken).undef (s := s.advance n) hu

/-- What every unit leaves, the wires included. -/
theorem unitArrived_settled (hl : r.slot.line < 512) (hm : r.slot.mux < 32) (glass : s.sns.onGlass) :
    (u.arrive r).settle.sns.inflight = rest ∧
    (s.advance n).Frame (u.arrive r).settle (unitRegs (quadOf r.quad).val) unitParts ∧
    ∀ a, a < 0x0E000000 ∨ (0x0E600000 ≤ a ∧ a < 0x0E800000) ∨ (0x0EE00000 ≤ a ∧ inTables a = false) →
      (u.arrive r).settle.readByte a = s.readByte a := by
  have du := undef_unitArrived hu taken
  obtain ⟨inflight, bytes⟩ := unitArrived_keeps taken hl hm glass
  refine ⟨by rw [settle_sns du]; exact inflight, (frame_unitArrived taken).settled du, fun a outside => ?_⟩
  rw [readByte_settle du]
  exact bytes a (by unfold inResults; omega) (by unfold inBaselines; omega)

/-- A result stands behind all that follows its unit. -/
theorem readLE_unitArrived (hl : r.slot.line < 512) (hm : r.slot.mux < 32) (glass : s.sns.onGlass) {k : Nat} (hk : k < 3145728) :
    (u.arrive r).settle.readLE (resultAddr k) 2 = u.readLE (resultAddr k) 2 := by
  have glass' : ((s.advance n).dequeue rest).sns.onGlass := glass
  obtain ⟨bytes, -⟩ := arrive_keeps u r hl hm (taken.onGlass glass')
  refine readLE_congr fun i hi => (readByte_settle (undef_unitArrived hu taken) _).trans (bytes _ ?_)
  unfold inBaselines resultAddr
  omega
end

/-- A reading of a burst is classified behind its unit. -/
theorem unitArrived_burst {s : State} {n : Nat} {r : SlotResult} {rest : List SlotResult} (hl : r.slot.line < 512) (hm : r.slot.mux < 32)
    (burst : r.slot.use = .burst) (empty : s.sns.requests = []) (hq : (quadOf r.quad).val < s.sns.quads.length) {g : Nat} (hg : g < 48) :
    s.Classified r g ((((s.advance n).dequeue rest).readUnit r).arrive r) := by
  intro ref good known
  have basis := sameBasis_dequeue s n rest
  obtain ⟨results, -⟩ := readUnit_results ((s.advance n).dequeue rest) hl hm
  obtain ⟨kind, candidate⟩ := readUnit_burst ((s.advance n).dequeue rest) burst hl hm (hq.trans_eq (length_quads_advance s n).symm) g hg ref good
    ((basis.refOf _).trans known)
  have place : ((s.advance n).dequeue rest).readAt r g = s.readAt r g := rfl
  have few : (((s.advance n).dequeue rest).sq (quadOf r.quad).val).cands = (s.sq (quadOf r.quad).val).cands :=
    (congrArg SnsQuad.cands (sq_advance s n _) : _)
  have quiet := arrive_quiet (((s.advance n).dequeue rest).readUnit r) r (requests_taken results empty) (by rw [isSweep, burst]; rfl)
    (by rw [requestSeq, burst])
  rw [basis.classAt, place] at kind
  rw [place, few] at candidate
  rw [quiet, State.kindOf, kinds_endBurst, cands_endBurst]
  exact ⟨kind, candidate⟩

/-- Settles O16: a unit's readings are taken, or its zero-current confirmation is, and what arrives behind it stores no result. -/
theorem senseReadings : Obligations.SenseReadings := by
  unfold Obligations.SenseReadings
  intro s n hu
  refine ⟨fun none => ⟨_, exec_senseResult_none n none, frame_settle hu⟩, fun r rest q next hq hl hm glass => ?_⟩
  subst hq
  rcases zero_or_reads r.slot with ⟨k, was, use, zero⟩ | reads
  · have same : ((s.advance n).dequeue rest).Takes (quadOf r.quad) (fun _ => False) (((s.advance n).dequeue rest).takeZero r k) := takes_takeZero _ _ _
    have taken := same.mono (fun _ => False.elim : ∀ a, False → inResults a)
    have du := undef_unitArrived hu taken
    obtain ⟨inflight, frame, bytes⟩ := unitArrived_settled hu taken hl hm glass
    refine ⟨_, exec_senseResult_zero n next use zero, inflight, frame, bytes, fun reads => ?_, fun burst => ?_, fun k' was' use' _ => ?_⟩
    · simp [isConfirm, use, zero] at reads
    · cases use.symm.trans burst
    · obtain ⟨rfl, rfl⟩ := SlotUse.confirm.inj (use.symm.trans use')
      refine ⟨fun empty a lo hi => ?_, fun empty none => ?_, fun empty stands g hg good hk => ?_⟩
      · have glass' : ((s.advance n).dequeue rest).sns.onGlass := glass
        obtain ⟨kept, -⟩ := arrive_keeps _ r hl hm (taken.onGlass glass')
        rw [readByte_settle du, kept a (by unfold inBaselines; omega)]
        exact same.within.bytes a id
      · have gone := takeZero_gone (r := r) ((stands_dequeue s n rest k 2).trans none)
        rw [settle_flt du, settle_cmp du, reg_settle du (by decide) (by decide), gone]
        exact ⟨flt_arrive_confirm use empty, cnt_arrive_confirm use empty, cmp_arrive_confirm use empty⟩
      · have judged := zeroJudged_takeZero (s := (s.advance n).dequeue rest) ((stands_dequeue s n rest k 2).trans stands) hl hm hg good hk
        have empty' := requests_taken taken empty
        obtain ⟨gone, confirmed, dropped⟩ := (judged.keep (cands_arrive_confirm use empty') (cnt_arrive_confirm use empty')
          (flt_arrive_confirm use empty') (cmp_arrive_confirm use empty')).keep (fun i => by rw [sq_settle du])
          (reg_settle du (by decide) (by decide)) (settle_flt du) (settle_cmp du)
        exact ⟨gone, confirmed, dropped⟩
  · obtain ⟨taken, results⟩ := readUnit_results ((s.advance n).dequeue rest) hl hm
    have du := undef_unitArrived hu taken
    obtain ⟨inflight, frame, bytes⟩ := unitArrived_settled hu taken hl hm glass
    refine ⟨_, exec_senseResult_read n next reads, inflight, frame, bytes, fun _ g hg good => ?_,
      fun burst empty hq g k ref hg good hk known => ?_, fun k was use zero => ?_⟩
    · exact (readLE_unitArrived hu taken hl hm glass (readAt_lt r s hl hm hg)).trans (results g hg good)
    · subst hk
      obtain ⟨kind, candidate⟩ := unitArrived_burst (n := n) (rest := rest) hl hm burst empty hq hg ref good known
      rw [settle_sns du, sq_settle du]
      exact ⟨kind, candidate⟩
    · simp [isConfirm, use, zero] at reads

end Sys2Proof.Machine

/-! # A BASELINE beyond the glass that a new request finds complete (settles O17)

`SenseRequests` says of every state that an accepted request changes no part but the command interface, the fault collector and what
settling the requests touches. It does not ask, as `SenseReadings` does, that the readings kept for a BASELINE are of subpixels of the
glass. The acceptance of a request settles those before it (06_subpixel_sensing.md R167): a BASELINE that is complete by then stores
its readings (R161), and one of a subpixel far beyond the glass lies in the applied tables (03_compensation_and_concealment.md R77). -/

namespace Sys2Proof.Machine

/-- Device 5 takes commands on port 0, the built tables answer, sensing runs in quadrant 0, and a BASELINE that has measured all its
units keeps the reading of a subpixel whose baseline lies at the start of the applied tables. Without neighbour refreshes the DRAM draws
nothing at random. -/
def baselineBeyond : State :=
  let fields := [(F.SYS_START.STEP, 12), (F.RLN_ID.ID, 5), (F.ZLP_SEL_STAT.STATE, 3), (F.ZLP_SEL_STAT.PORT, 0),
    (F.SYS_ISLAND_STAT.LNK_CLK, 1), (F.LNK_STAT.STATE 0, 5), (F.SYS_ISLAND_STAT.QCLK, 15), (F.SCN_EE_STAT.VALID 0, 1),
    (F.FMC_PNR.EN, 0)]
  { fields.foldl (fun s e => s.wr e.1 e.2) State.reset with
    scn.running := true, cmp.built := true
    sns.requests := [⟨0, 0, 2, 0, 0, 0, 0, false, [], 1, false⟩], sns.baseNew := [(0x2C00000, 1)] }

/-- A SENSE_REQUEST of mode 1 for quadrant 0. -/
def senseAllOfQ0 : Request := replyRequest 9 0 [0, 1, 0, 0, 0, 0, 0, 0, 0, 0, 0, 0] 0x62F74DCE

/-- The first word of the applied tables in the state an outcome gives. -/
def firstApplied : Host.Outcome State Fault Refusal → Option Word
  | .next t => some (t.appliedWord 0 0)
  | _ => none

/-- The word was unity, and has the kept reading in its low half behind the request. -/
theorem firstApplied_baselineBeyond :
    baselineBeyond.appliedWord 0 0 = 0x80000000#32 ∧
    firstApplied (exec (.senseRequest senseAllOfQ0) baselineBeyond) = some 0x80000001#32 := by decide +kernel

/-- Refutes O17: a request accepted behind a BASELINE that is complete leaves another word in the applied tables. -/
theorem not_senseRequests : ¬ Obligations.SenseRequests := by
  unfold Obligations.SenseRequests
  intro h
  obtain ⟨-, passed⟩ := h baselineBeyond senseAllOfQ0 (by decide) (by decide +kernel)
  obtain ⟨-, fields⟩ := passed (by decide)
  obtain ⟨-, accepted⟩ := fields (by decide) (by decide) (by decide) (by decide) (by decide) (by decide) (by decide) (by decide) (by decide)
  obtain ⟨t, ht, -, -, frame, -⟩ := accepted (by decide)
  obtain ⟨before, after⟩ := firstApplied_baselineBeyond
  have changed : firstApplied (.next t) = some 0x80000001#32 := ht ▸ after
  have tables : t.cmp = baselineBeyond.cmp := frame.parts .cmp (by decide)
  have kept : firstApplied (.next t) = some 0x80000000#32 := by
    rw [firstApplied, State.appliedWord, tables]
    exact congrArg some before
  cases changed.symm.trans kept

end Sys2Proof.Machine
